-- ==== Sys2Proof/Word.lean ====
section
/-!
DEFINITION. The plain words of the model: bytes, 64-bit words, and the power of two that bounds a field.

Counts, indices, addresses and times are natural numbers (`Nat`). Bytes of data, of keys and of HBM are `BitVec 8`. A register is held
field by field (Machine/Reg.lean) and read or written as a whole as a 64-bit word. Formats in registers, HBM and host memory are
little-endian, network formats big-endian (R10).
-/

namespace Sys2Proof

abbrev Byte := BitVec 8

abbrev W64 := BitVec 64

/-- A string of bytes: a block of data, a key, a digest, a name. -/
abbrev Bytes := List Byte

end Sys2Proof
end

