-- ==== Sys2Proof/Machine/Tab.lean ====
section
/-!
DEFINITION. Sparse tables as plain data: a list of (key, value) pairs whose keys rise strictly. Registers, contexts, paddocks, volumes,
queues and byte memory are all held so. Byte memory (`memRead`, `memWrite`) lists no byte that equals what an unlisted address reads as.
-/

namespace Sys2Proof.Machine

/-- A sparse table: (key, value) pairs in rising key order. -/
abbrev Tab (α : Type) := List (Nat × α)

/-- The keys of a list rise strictly from above `lo` on (`lo` is one below the least key allowed plus one). -/
def Tab.sortedFrom {α : Type} : Nat → Tab α → Bool
  | _, [] => true
  | lo, (k, _) :: t => decide (lo ≤ k) && Tab.sortedFrom (k + 1) t

/-- The canonical form: keys strictly rising. -/
def Tab.wf {α : Type} (t : Tab α) : Bool := Tab.sortedFrom 0 t

/-- The value at a key. -/
def Tab.get? {α : Type} : Tab α → Nat → Option α
  | [], _ => none
  | (k, v) :: t, x => if k = x then some v else Tab.get? t x

/-- The value at a key, or a default. -/
def Tab.getD {α : Type} (t : Tab α) (x : Nat) (d : α) : α :=
  match t.get? x with
  | some v => v
  | none => d

/-- Is the key listed? -/
def Tab.has {α : Type} (t : Tab α) (x : Nat) : Bool := (t.get? x).isSome

/-- Set the value at a key. -/
def Tab.put {α : Type} : Tab α → Nat → α → Tab α
  | [], x, v => [(x, v)]
  | (k, w) :: t, x, v =>
    if x < k then (x, v) :: (k, w) :: t
    else if x = k then (x, v) :: t
    else (k, w) :: Tab.put t x v

/-- Remove a key. -/
def Tab.del {α : Type} (t : Tab α) (x : Nat) : Tab α := t.filter (fun p => decide (p.1 ≠ x))

/-- Change the value at a key; a key that is not listed stays unlisted. -/
def Tab.upd {α : Type} (t : Tab α) (x : Nat) (f : α → α) : Tab α :=
  match t.get? x with
  | some v => t.put x (f v)
  | none => t

/-- Change the value at a key, from a default where none is listed. -/
def Tab.updD {α : Type} (t : Tab α) (x : Nat) (d : α) (f : α → α) : Tab α := t.put x (f (t.getD x d))

/-- The keys listed. -/
def Tab.keys {α : Type} (t : Tab α) : List Nat := t.map (·.1)

/-- The values listed, in key order. -/
def Tab.vals {α : Type} (t : Tab α) : List α := t.map (·.2)

/-- Keep the entries whose key and value satisfy a test. -/
def Tab.keep {α : Type} (t : Tab α) (p : Nat → α → Bool) : Tab α := t.filter (fun e => p e.1 e.2)

/-- The first entry that satisfies a test. -/
def Tab.first? {α : Type} (t : Tab α) (p : Nat → α → Bool) : Option (Nat × α) := t.find? (fun e => p e.1 e.2)

/-- Apply a function to every value. -/
def Tab.mapVals {α : Type} (t : Tab α) (f : Nat → α → α) : Tab α := t.map (fun e => (e.1, f e.1 e.2))

/-- The least number not among the keys, searching upward from `n`. -/
def Tab.freeFrom {α : Type} (t : Tab α) : Nat → Nat → Nat
  | 0, n => n
  | fuel + 1, n => if t.has n then Tab.freeFrom t fuel (n + 1) else n

/-! ### Byte memory (HBM) -/

/-- What a byte of HBM that nothing has written reads as. DESIGN CHOICE (assumption 3), unsafe: the spec gives no power-on contents. -/
def memDefault : Byte := 0

/-- The canonical form of byte memory: addresses strictly rising, no byte listed that equals the default. -/
def Memory.wf (m : List Host.Cell) : Bool := Tab.wf m && m.all (fun c => decide (c.2 ≠ memDefault))

/-- Read one byte. -/
def memRead (m : List Host.Cell) (a : Nat) : Byte := Tab.getD m a memDefault

/-- Write one byte, keeping the canonical form. -/
def memWrite (m : List Host.Cell) (a : Nat) (b : Byte) : List Host.Cell :=
  if b = memDefault then Tab.del m a else Tab.put m a b

/-- Read `n` bytes from an address up. -/
def memReadN (m : List Host.Cell) (a : Nat) : Nat → Bytes
  | 0 => []
  | n + 1 => memRead m a :: memReadN m (a + 1) n

/-- Write bytes from an address up. -/
def memWriteN (m : List Host.Cell) (a : Nat) : Bytes → List Host.Cell
  | [] => m
  | b :: bs => memWriteN (memWrite m a b) (a + 1) bs

end Sys2Proof.Machine
end

