-- ==== Sys2Proof/Machine/TypesPair.lean ====
section
/-!
DEFINITION. The commands of pair scope (P in R435) with their parameters in R435's order. The management host's command carries one of these,
and so does the partner link (R417). Register images are the register's whole width as a number.
-/

namespace Sys2Proof.Machine

/-- One of the four prefixes of a host entry (R126, R435): address and length. -/
structure HostPrefix where
  address : Nat
  length  : Nat
  deriving DecidableEq, Repr

inductive PairCmd where
  | paddockCreate (paddock : Nat) (nqn : Bytes)
  | paddockDelete (paddock : Nat)
  | paddockArbSet (paddock image : Nat)
  | paddockErase (paddock : Nat) (seed : Option Bytes)
  | volumeCreate (volume paddock nsid fold flock acres : Nat)
  | namespaceCreate (volume paddock nsid fold flock acres lbaf : Nat)
  | volumeDelete (volume : Nat)
  | volumeResize (volume acres : Nat)
  | snapshotCreate (source volume nsid : Nat)
  | cloneCreate (source volume nsid : Nat)
  | volumeArbSet (volume image : Nat)
  | volumeDetach (volume : Nat)
  | volumeRangeOp (volume op lba count : Nat)
  | cacheModeSet (scope volume image : Nat)
  | hostSet (host paddock connLimit prefixes nqnHash : Nat) (pfx : List HostPrefix) (identity : Bytes)
  | hostClear (host : Nat)
  | hostClassSet (host band image : Nat)
  | grantSet (host nsid volume mode : Nat)
  | grantClear (host nsid : Nat)
  | hurdleSet (context cir pir cbs pbs mode : Nat)
  | hurdlePaddockSet (paddock red cir pir cbs pbs : Nat)
  | flockCreate (flock width z n : Nat) (slots : List Nat)
  | flockDelete (flock : Nat)
  | acreGroupSet (flock fold group : Nat)
  | memberFail (flock member : Nat)
  | slotPowerSet (slot on : Nat)
  | slotUnlock (slot : Nat)
  | slotLedSet (slot image : Nat)
  | slotRemove (slot : Nat)
  | slotMiRead (slot kind type controller : Nat)
  | shapeSet (kind index cr pr burst peakBurst : Nat)
  | shapeClear (kind index : Nat)
  | shapeOverheadSet (paddock overhead : Nat)
  | gateSet (slot enable : Nat) (images : List Nat)
  | drivePsSet (slot lowest np idleMs : Nat)
  | paddockKeyImport (paddock hasGcur gCur : Nat) (blob : Bytes)
  | pskImport (blob identity : Bytes)
  | pskClear (keyId : Nat)
  | paddockRekey (paddock : Nat)
  | genLimitSet (image : Nat)
  | foldBellwetherSet (fold chip : Nat)
  | foldMove (fold chip : Nat)
  | foldHoldSet (fold hold : Nat)
  | twinCfgSet (ctl whistle failback : Nat)
  | mapExchangeTest (seconds : Nat)
  deriving DecidableEq, Repr

end Sys2Proof.Machine
end

