-- ==== Sys2Proof/Machine/TypesMgmt.lean ====
section
/-!
DEFINITION. The state of the management side: command packets and replies, sessions, rings, long operations, the MSI-X table, the event log,
the tallies' remainders, and what SPI-NOR and the fuses hold (chapters 13, 14 and 15 of the spec).
-/

namespace Sys2Proof.Machine

/-- Where a command packet came from: a submission ring (R419), a management session (R427), the partner (R417), or the shelf configuration
record applied at a start step (R449). -/
inductive Src where
  | ring (r : Nat)
  | session (i : Nat)
  | partner
  | record
  deriving DecidableEq, Repr

/-- The header of a command packet (R412), with the moment of its fetch and, for a pair-scoped command, the status with which the partner
answers the carried command (R417). -/
structure Hdr where
  src        : Src
  fmt        : Nat
  silent     : Bool
  localOnly  : Bool
  finalReply : Bool
  len64      : Nat
  paddock    : Nat
  tag        : Nat
  deadlineMs : Nat
  expectGen  : Nat
  fetchedAt  : Nat
  partner    : Nat
  deriving DecidableEq, Repr

/-- A status reply (R414) with the data that follows it. -/
structure Reply where
  src    : Src
  opcode : Nat
  fmt    : Nat
  final  : Bool
  status : Nat
  tag    : Nat
  handle : Nat
  detail : Nat
  sqHead : Nat
  cfgGen : Nat
  data   : Bytes
  deriving DecidableEq, Repr

/-- A command packet as fetched or received (R412): the header's fields in full, the reserved bits included, the bytes after the header, and whether every fetch read succeeded. -/
structure Packet where
  opcode     : Nat
  fmt        : Nat
  flags      : Nat
  len64      : Nat
  paddock    : Nat
  tag        : Nat
  deadlineMs : Nat
  expectGen  : Nat
  crc        : Nat
  body       : Bytes
  fetchOk    : Bool
  deriving DecidableEq, Repr

/-- A command fetched or read and not yet started (R416). -/
structure Fetched where
  src    : Src
  opcode : Nat
  fmt    : Nat
  tag    : Nat
  at_ns  : Nat
  deriving DecidableEq, Repr

/-- An entry of the event log (R472). -/
structure LogEntry where
  timebase : Nat
  event    : Nat
  msixSent : Bool
  atStart  : Bool
  count    : Nat
  deriving DecidableEq, Repr

/-- An open management session (R427) with its event subscription (R473). -/
structure MgmtSession where
  psk        : Nat
  role       : Nat
  port       : Nat
  address    : Nat
  openedNs   : Nat
  lastNs     : Nat
  ahead      : Nat
  subMask    : List Nat
  subFmt     : Nat
  subTag     : Nat
  coalMs     : Nat
  lastNotice : Nat
  waiting    : List LogEntry
  lost       : Nat
  deriving DecidableEq, Repr

/-- A management PSK with its role (R427, R428). -/
structure MgmtPsk where
  role     : Nat
  keyId    : Nat
  identity : Bytes
  psk      : Bytes
  deriving DecidableEq, Repr

/-- What the chip keeps of a long operation beside its registers (R429 to R434): the request it answers, the state that a pause left, when it
ended, whether a cancel waits for a fence, its arguments. -/
structure LongOp where
  opcode   : Nat
  handle   : Nat
  src      : Src
  fmt      : Nat
  tag      : Nat
  final    : Bool
  leftState : Nat
  endedNs  : Nat
  cancelling : Bool
  failure  : Nat
  args     : List Nat
  deriving DecidableEq, Repr

/-- One entry of the MSI-X table. -/
structure MsixEntry where
  addr   : Nat
  data   : Nat
  masked : Bool
  deriving DecidableEq, Repr

/-- What a completion ring counts toward its next message (R424). -/
structure CqCoal where
  since   : Nat
  firstNs : Nat
  deriving DecidableEq, Repr

/-- The endpoint, rings, sessions and long operations. -/
structure Mgmt where
  fetched   : List Fetched
  replies   : List Reply
  held      : List (Nat × Reply)
  sessions  : Tab MgmtSession
  psks      : Tab MgmtPsk
  mgmtPort  : Nat
  mgmtEn    : Bool
  idleS     : Nat
  ops       : Tab LongOp
  opUse     : Tab Nat
  msix      : Tab MsixEntry
  pba       : List Nat
  msixEn    : Bool
  msixMask  : Bool
  bme       : Bool
  memEn     : Bool
  d3        : Bool
  barSizing : Tab Nat
  cmdBits   : Nat
  intLine   : Nat
  linkUp    : Bool
  ignored   : Nat
  cqCoal    : Tab CqCoal
  cqUsed    : Tab Nat
  discard   : List (Src × Nat)
  capLastNs : Nat
  capNew    : Bool
  eventLast : Tab Nat
  carried   : List PairCmd
  deriving DecidableEq, Repr

/-- The event log and what waits to enter it (R472). -/
structure EvtState where
  log       : Tab LogEntry
  readTo    : Nat
  waiting   : Tab LogEntry
  lastEntry : Tab Nat
  atStart   : List Nat
  deriving DecidableEq, Repr

/-- Tallies: energy remainders below 1 mJ (R480), whether the bank waits for its seal and since when, the paddocks of the accumulator that are
cleared, and what is held of the partner's bank (R484). -/
structure TallyState where
  energyRem   : Tab Nat
  sealing     : Bool
  cleared     : List Nat
  openMinute  : Nat
  openFlags   : Nat
  firstTick   : Bool
  partnerMinute : Nat
  partnerFlags  : Nat
  partnerHeld   : Bool
  copySeen      : Bool
  partnerCleared : List Nat
  partnerAccFirst : Nat
  partnerAccLast  : Nat
  partnerAccFlags : Nat
  throttledSince : Tab Nat
  waitingReads : List (Hdr × Nat × Nat × Nat)
  deriving DecidableEq, Repr

/-- One entry of the start ledger (R444). -/
structure LedgerEntry where
  startNo : Nat
  step    : Nat
  outcome : Nat
  attempt : Nat
  reason  : Nat
  detail  : Nat
  tMs     : Nat
  release : Nat
  seq     : Nat
  deriving DecidableEq, Repr

/-- What a firmware image slot holds (R447): manifest fields, and whether it verifies under R448 (digests and signature). -/
structure Image where
  valid    : Bool
  release  : Nat
  proto    : Nat
  rollback : Nat
  gradeMask : Nat
  sound    : Bool
  deriving DecidableEq, Repr

/-- The shelf configuration record: two copies, each with its sequence, whether it verifies, and its bytes,
header first (R449). -/
structure ShelfCopy where
  seq   : Nat
  sound : Bool
  raw   : Bytes
  deriving DecidableEq, Repr

/-- The alterations in force (R444). -/
structure RuleRecord where
  ethOff   : Nat
  partOff  : Nat
  stackOff : Nat
  drvOff   : Nat
  holdSlots : Nat
  replayRetry : Bool
  hold     : Bool
  prefMoved : Bool
  deriving DecidableEq, Repr

/-- SPI-NOR: boot directory, ledger ring, rule record, shelf configuration record, images (R444), the failures that earlier starts saw,
from which rules are made (R445), and `trialOpen`: the last start ran a trial image that has not become the preference (R449). -/
structure Flash where
  preferred : Nat
  trial     : Bool
  dirSeq    : Nat
  ledger    : Tab LedgerEntry
  ledgerSeq : Nat
  startNo   : Nat
  attempts  : Tab Nat
  rules     : RuleRecord
  lastFail  : Tab Nat
  shelf     : Tab ShelfCopy
  images    : Tab Image
  trialOpen : Bool
  deriving DecidableEq, Repr

/-- The start logic: what step runs, what this start has seen, the image that runs with its release and partner-link protocol version. `deadPorts` are the ports whose island is held in
reset (ST05 reason 2), `misfit` says that the map does not fit one stack (ST11 reason 1), `missing` are the blocks (volume, block) whose newest dumped version is lost (R461) and which wait for the map. -/
structure StartState where
  running   : Nat
  trialRun  : Bool
  release   : Nat
  proto     : Nat
  warm      : Bool
  porst     : Bool
  st00Ns    : Nat
  inServiceNs : Nat
  failed    : Bool
  configErrs : Nat
  deadPorts : Nat
  misfit    : Bool
  missing   : List (Nat × Nat)
  deriving DecidableEq, Repr

end Sys2Proof.Machine
end

