-- ==== Sys2Proof/Machine/TypesNet.lean ====
section
/-!
DEFINITION. The state of the ports and of the connections: sub-port addresses, PFC, hurdle meters, PTP and ticks (chapter 2 of the spec),
connection contexts of the three transports, their paths, packets, messages, keys and credits (chapters 2 and 3), and NVMe controllers (chapter 5).
-/

namespace Sys2Proof.Machine

/-- What a sub-port knows of an arriving frame (R59 to R62, R78). `proto` is 0 for a transport frame, 1 for a slow-path frame (R61), 2 for anything
else; `fecCorr` and `fecBad` are corrected and uncorrectable codewords met on the way. `ctx` is the connection context that the frame belongs to, when it belongs to one. -/
structure Frame where
  len     : Nat
  fcsOk   : Bool
  tags    : Nat
  qinq    : Bool
  vlan    : Nat
  pcp     : Nat
  fragment : Bool
  sumOk   : Bool
  mac     : Nat
  addr    : Nat
  hasAddr : Bool
  v6      : Bool
  multicast : Bool
  dscp    : Nat
  proto   : Nat
  ctx     : Option Nat
  fecCorr : Nat
  fecBad  : Nat
  raw     : Bytes
  deriving DecidableEq, Repr

/-- Where a transport packet came from: sub-port (port × 4 + sub-port), addresses, CE mark, and the colour its frame took (R79). -/
structure Rx where
  sub     : Nat
  srcAddr : Nat
  srcPort : Nat
  dstAddr : Nat
  ce      : Bool
  colour  : Nat
  dstPort : Nat
  deriving DecidableEq, Repr

/-- What a host's SYN offered for an NVMe/TCP connection (R65, R72): its MSS, its window scale where it scales, SACK, timestamps, ECN. -/
structure TcpSyn where
  mss    : Nat
  wscale : Option Nat
  sackOk : Bool
  tsOk   : Bool
  ecn    : Bool
  deriving DecidableEq, Repr

/-- What the TCP header of an arriving PDU says (R65, R72): the bytes of the chip's stream acknowledged in order, ranges acknowledged beyond (SACK), the window as it
stands in the header, the timestamp to echo, the CE mark of the packet and the ECN-Echo flag. -/
structure TcpSeg where
  ack  : Nat
  sack : List (Nat × Nat)
  wnd  : Nat
  ts   : Nat
  ce   : Bool
  ece  : Bool
  deriving DecidableEq, Repr

/-- The TCP side of an NVMe/TCP connection (R65, R72): whether it is on the discovery port, the options in force, the next byte of the chip's stream, the host's window, the
congestion window and its threshold, the stream position up to which a reduction of it holds, the retransmission time-out in µs, the timestamp to echo, whether ECN-Echo is
set in what the chip sends. -/
structure TcpCtl where
  disc     : Bool := false
  mss      : Nat := 1460
  wscale   : Nat := 0
  sackOk   : Bool := false
  tsOk     : Bool := false
  ecn      : Bool := false
  next     : Nat := 0
  rwnd     : Nat := 65535
  cwnd     : Nat := 14600
  ssthresh : Nat := 2 ^ 30
  recover  : Nat := 0
  rtoUs    : Nat := 1000
  tsEcho   : Nat := 0
  echo     : Bool := false
  sacked   : List (Nat × Nat) := []
  deriving DecidableEq, Repr

/-- What a TCP connection opened with: the port that its SYN came to, and what it offered. -/
structure TcpOpening where
  port : Nat
  syn  : TcpSyn
  deriving DecidableEq, Repr

/-- How a PDU arrived: the header of its segment, and whether its digests hold. -/
structure TcpPdu where
  seg      : TcpSeg
  digestOk : Bool
  deriving DecidableEq, Repr

/-- A RoCE packet: its sequence number and its CE mark. -/
structure RocePkt where
  psn : Nat
  ce  : Bool
  deriving DecidableEq, Repr

/-- What an ACK says of packets received (R110): all up to `cum`, and by a bitmap those after it. -/
structure SackRange where
  cum  : Nat
  sack : Nat
  deriving DecidableEq, Repr

/-- The head of a learning message (R156): its op and the chip that sends it. -/
structure LearningHead where
  op   : Nat
  chip : Nat
  deriving DecidableEq, Repr

/-- A sub-port's link comes up or goes down (R57); `partner` is what the link partner of a CR or KR sub-port advertises, in units of 100 Gb/s. -/
structure LinkChange where
  up      : Bool
  partner : Option (List Nat)
  deriving DecidableEq, Repr

/-- What an announce message tells of a clock, in the order in which the best master clock algorithm compares (R67). -/
structure PtpData where
  prio1 : Nat
  cls   : Nat
  acc   : Nat
  var   : Nat
  prio2 : Nat
  ident : Nat
  steps : Nat
  deriving DecidableEq, Repr

/-- A PTP message to the chip (R67), times in ns of the master's clock: an announce, a sync with the time at which the master sent it, a delay response with
the time at which the master received the request. -/
inductive PtpMsg where
  | announce (data : PtpData)
  | sync (src t1 : Nat)
  | delayResp (src t4 : Nat)
  deriving DecidableEq, Repr

/-- Addresses of a sub-port (R61). -/
structure SubPort where
  mac   : Nat
  ipv4  : List Nat
  ipv6  : List HostPrefix
  vlans : List Nat
  deriving DecidableEq, Repr

/-- A hurdle meter (R76 to R78): rates in units of 10^6 B/s, sizes in bytes, levels in millibytes, the moment of the last refill. -/
structure Meter where
  cir : Nat
  pir : Nat
  cbs : Nat
  pbs : Nat
  tc  : Nat
  tp  : Nat
  lastNs : Nat
  aware  : Bool
  deriving DecidableEq, Repr

/-- The rates programmed for a session or for a paddock's fallback meter (R76). -/
structure Hurdle where
  cir : Nat
  pir : Nat
  cbs : Nat
  pbs : Nat
  aware : Bool
  deriving DecidableEq, Repr

/-- Ports and time. Sub-ports are keyed port × 4 + sub-port, priorities port × 8 + priority, meters port × 2^20 + context. `mode` is the mode in
force (R55), `ingress` the ingress occupancy in bytes. `ptpMaster` is the clock that the best master clock algorithm has chosen, `ptpSync` the last sync from it: when the master sent
it, when it came, when the delay request went out (R67); `ptpHeard` says that announce or sync messages have come since they last stopped (R70). -/
structure Ports where
  mode     : Tab Nat
  subs     : Tab SubPort
  paused   : Tab Nat
  pausedAt : Tab Nat
  ingress  : Tab Nat
  xoff     : List Nat
  slow     : Tab (Nat × Nat)
  fecLast  : Tab Nat
  trainFails : Tab Nat
  hurdles  : Tab Hurdle
  fallback : Tab Hurdle
  redAction : Tab Nat
  meters   : Tab Meter
  fbMeters : Tab Meter
  srcInForce : Nat
  utcInForce : Nat
  steppedFwd : Bool
  steppedBack : Bool
  lastTickClk : Nat
  ptpLastClk : Nat
  ppsLastNs : Nat
  ptpMaster : Option PtpData := none
  ptpSync : Option (Nat × Nat × Nat) := none
  ptpHeard : Bool := false
  deriving DecidableEq, Repr

inductive Transport where
  | drove | tcp | roce
  deriving DecidableEq, Repr

/-- Where a connection stands: ACCEPT sent and CONFIRM awaited, open, or closed and answering with CLOSE (R93, R94). -/
inductive ConnState where
  | opening | opened | closing
  deriving DecidableEq, Repr

/-- The rate control of a path or connection (R66, R116): rates in 100 kb/s, alpha in 2^-16. -/
structure RateCtl where
  rate   : Nat
  target : Nat
  alpha  : Nat
  steps  : Nat
  minSince : Option Nat
  deriving DecidableEq, Repr

/-- A path (R99 to R101). `vtime` is how far the path has been used, each packet weighed by the inverse of the path's rate (R100). -/
structure Path where
  sub     : Nat
  srcAddr : Nat
  srcPort : Nat
  dstAddr : Nat
  live    : Bool
  rtoRun  : Nat
  probeMiss : Nat
  heardNs : Nat
  hitS    : Nat
  vtime   : Nat
  rate    : RateCtl
  deriving DecidableEq, Repr

/-- A sequenced packet of the chip: its psn, message, type, offset, data and key, the path that carried it last, when, how often it was
resent, and its bytes from header byte 4 on, which a resend repeats (R86, R88, R109). -/
structure TxPkt where
  psn     : Nat
  type    : Nat
  msn     : Nat
  offset  : Nat
  msgLen  : Nat
  aux     : Nat
  body    : Bytes
  path    : Nat
  sentNs  : Nat
  resends : Nat
  gen     : Nat
  wire    : Bytes
  deriving DecidableEq, Repr

/-- A submission queue entry (the 64 bytes of a capsule): opcode, command identifier, namespace, command dwords 10 to 15, the Fabrics type, the upper part of the initial reference tag (dwords 2 and 3), and the
data descriptor (R117). -/
structure Sqe where
  opc    : Nat
  cid    : Nat
  nsid   : Nat
  cdw10  : Nat
  cdw11  : Nat
  cdw12  : Nat
  cdw13  : Nat
  cdw14  : Nat
  cdw15  : Nat
  fctype : Nat
  lbtu   : Nat
  key    : Nat
  len    : Nat
  sgl    : Nat
  fuse   : Nat := 0
  psdt   : Nat := 1
  deriving DecidableEq, Repr

/-- One logical block with its application tag (R185). -/
structure Blk where
  data : Bytes
  app  : Nat
  deriving DecidableEq, Repr

/-- An h2c message under way (R89, R103, R104): bitmap of data packets placed, the segments, and its final once it is here. -/
structure RxMsg where
  msgLen : Nat
  units  : Nat
  placed : List Nat
  segs   : Tab Bytes
  final  : Option Sqe
  colour : Nat
  deriving DecidableEq, Repr

/-- A capsule of NVMe/TCP or RoCE v2 that waits for its data (R72, R75). -/
structure Capsule where
  sqe    : Sqe
  segs   : Tab Bytes
  got    : Nat
  colour : Nat
  deriving DecidableEq, Repr

/-- A Drove packet as it arrived (R86), its body apart: the fields of its header, the connection that `cid` names by the chip's identifier; `rsvd` is header bytes 1 to 3, `rest` what its body holds beyond the fields that the row names (the zero bytes of R88).
`cipher` is the body as it came, sealed, when the row gives it: its tag is then checked under the keys of the connection; else `tagOk` is the result of that check. -/
structure DPkt where
  cid    : Nat
  path   : Nat
  fmt    : Nat
  type   : Nat
  flags  : Nat
  gen    : Nat
  psn    : Nat
  msn    : Nat
  offset : Nat
  msgLen : Nat
  aux    : Nat
  tagOk  : Bool
  rsvd   : Nat
  rest   : Bytes
  cipher : Option Bytes
  deriving DecidableEq, Repr

/-- A connection context, of any transport. Fields from `rxCum` on serve Drove; those from `digestH` on the standard transports. `acceptMsg` is the ACCEPT while it is kept (R95);
`timerImg` to `rateImg` are the configuration registers as they stood when the connection was opened (R121). `prio` and `hostCls` are the priority and the
switch class of its last frame (R62), `udpPort` the port it was opened on (R85), `hostMsn` the next message that the host will deliver (R102, R110). `oldSecret` is the secret of the
generation before, while its packets are accepted; `moveDue` says that the chip sends under the next generation once its REKEY_ACK has left (R98); `nextRecv` and `nextData` count
packets heard under the next generation, `oldData` those of types 0x01 and 0x02 under the one before (R97). `closePkt` is the CLOSE that a closing connection answers with (R94). `tcp` serves NVMe/TCP. -/
structure Conn where
  transport : Transport
  state     : ConnState
  version   : Nat
  sub       : Nat
  srcAddr   : Nat
  openedNs  : Nat
  identity  : Option Bytes
  host      : Option Nat
  hostIdent : Nat
  paddock   : Nat
  ctrl      : Nat
  qid       : Nat
  qsize     : Nat
  cls       : Nat
  connected : Bool
  sqHead    : Nat
  hostCid   : Nat
  chipCid   : Nat
  hostNonce : Bytes
  chipNonce : Bytes
  cachedNs  : Option Nat
  secret    : Bytes
  confirm   : Bytes
  segSize   : Nat
  pathsMax  : Nat
  paths     : Tab Path
  rxCum     : Nat
  rxBits    : List Nat
  rxCtrl    : Option Nat
  ackFrom   : Option Nat
  newPkts   : Nat
  ceMask    : Nat
  lastPath  : Nat
  named     : Tab Nat
  reorderOn : Bool
  nextMsn   : Nat
  msgs      : Tab RxMsg
  txNext    : Nat
  txMsn     : Nat
  txCtrl    : Nat
  unacked   : List TxPkt
  txWait    : List TxPkt
  gen       : Nat
  sent      : Nat
  received  : Nat
  hostData  : Nat
  rekeyOpen : Bool
  rekeySent : Bool
  oldGen    : Bool
  stopped   : Bool
  creditLimit : Nat
  consumed  : Nat
  wanted    : Option (Nat × Nat)
  digestH   : Bool
  digestD   : Bool
  tls       : Bool
  maxR2t    : Nat
  retrans   : Nat
  capsules  : Tab Capsule
  recSent   : Nat
  recRecv   : Nat
  keyAsked  : Bool
  failed    : Bool
  expectPsn : Nat
  nextTxPsn : Nat
  retries   : Nat
  rnrRetries : Nat
  cnpNs     : Nat
  rate      : RateCtl
  acceptMsg : Bytes
  timerImg  : Nat
  pathImg   : Nat
  creditImg : Nat
  rateImg   : Nat
  prio      : Nat := 0
  hostCls   : Nat := 3
  udpPort   : Nat := 21876
  hostMsn   : Nat := 0
  oldSecret : Bytes := []
  moveDue   : Bool := false
  nextRecv  : Nat := 0
  nextData  : Nat := 0
  oldData   : Nat := 0
  closePkt  : Option TxPkt := none
  tcp       : TcpCtl := {}
  deriving DecidableEq, Repr

/-- The NVMe controller of an association (R176, R184). `aerHeld` are its outstanding Asynchronous Event Requests by command, `aenWait` the events that
wait for one, `aenSent` those reported whose log page has not been read since, `errors` its failed commands as (queue × 65,536 + command identifier, status), newest first, of `errorNo` in all. -/
structure Ctrl where
  host      : Nat
  hostIdent : Nat
  paddock   : Nat
  kato      : Nat
  kaAt      : Nat
  cc        : Nat
  csts      : Nat
  aerHeld   : List Nat
  aenWait   : List Nat
  aenSent   : List Nat
  aenCfg    : Nat
  resvMask  : Nat
  resvLog   : List (Nat × Nat)
  changedNs : List Nat
  anaChanges : Nat
  aborts    : Nat
  errors    : List (Nat × Nat)
  errorNo   : Nat
  nqnHash   : Nat
  discovery : Bool
  deriving DecidableEq, Repr

end Sys2Proof.Machine
end

