-- ==== Sys2Proof/Machine/TypesData.lean ====
section
/-!
DEFINITION. The state of the data path: paddocks, hosts, grants, volumes, the map, learns (chapter 4 of the spec), host commands (chapter 5),
lines, mirror records (chapter 6), flocks, journal entries, drive commands (chapter 7).
-/

namespace Sys2Proof.Machine

/-! ### Paddocks, hosts, volumes -/

/-- A paddock (R124): its subsystem NQN. Its per-command overhead (R279) stands with the shaping state. -/
structure Paddock where
  nqn : Bytes
  deriving DecidableEq, Repr

/-- A host entry (R126). -/
structure HostEntry where
  paddock   : Nat
  connLimit : Nat
  nqnHash   : Nat
  identity  : Option Bytes
  prefixes  : List HostPrefix
  deriving DecidableEq, Repr

/-- A grant (R127). `serial` tells a grant from a later one of the same pair. -/
structure Grant where
  volume   : Nat
  readOnly : Bool
  serial   : Nat
  deriving DecidableEq, Repr

/-- What a marker in a volume's ordering stage does once the commands below it allow it (R125, R132, R275); the barrier of an erasure lifts with it (R366). -/
inductive MarkWhat where
  | member (volume nsid : Nat) (writable : Bool)
  | remove
  | detach
  | erase
  deriving DecidableEq, Repr

/-- A marker that waits, with its number and the command that it answers. -/
structure Mark where
  seq  : Nat
  what : MarkWhat
  hdr  : Hdr
  deriving DecidableEq, Repr

/-- A volume record (R125), its ordering stage (R168, R236) and its reservation state (R128). `epochs` are the epoch-advance records, newest first:
(epoch after the advance, admission number of the barrier). -/
structure Volume where
  paddock  : Nat
  nsid     : Nat
  fold     : Nat
  flock    : Nat
  acres    : Nat
  lineage  : Nat
  member   : Nat
  epoch    : Nat
  ancestry : List (Nat × Nat)
  filter   : Nat
  writable : Bool
  lbaf     : Nat
  nextSeq  : Nat
  epochs   : List (Nat × Nat)
  marks    : List Mark
  registrants : List (Nat × Nat)
  holder   : Option Nat
  resvType : Nat
  resvGen  : Nat
  ptpl     : Bool
  deriving DecidableEq, Repr

/-! ### The map -/

/-- An extent map entry (R134). -/
structure Entry where
  lineage : Nat
  k       : Nat
  start   : Nat
  zero    : Bool
  pbase   : Nat
  flock   : Nat
  owner   : Nat
  birth   : Nat
  deriving DecidableEq, Repr

/-- An open learn (R142, R143). `record` is its record in the learn queue, `queued` says that the record is still there: firmware takes it out once the acre has its entry or the entry waits for
room. `waiting` are the commands that wait: CMD island × 16,384 + tag. `placing` is its entry while a rehash has to make room for it (R148), `data` the blocks
of its fill by index in the acre, from the moment they are read. -/
structure Learn where
  kind    : Nat
  whole   : Bool
  volume  : Nat
  member  : Nat
  lineage : Nat
  foundK  : Nat
  found   : Option Entry
  acre    : Nat
  epoch   : Nat
  admSeq  : Nat
  half    : Nat
  queued  : Bool
  covered : List (Nat × Nat)
  waiting : List Nat
  placing : Option Entry
  data    : Tab Blk
  record  : Bytes
  deriving DecidableEq, Repr

/-- A rehash under way in a half (R149). -/
structure Rehash where
  k       : Nat
  slot    : Nat
  step    : Nat
  pos     : Nat
  newS    : Nat
  newBase : Nat
  newSeed : Nat
  fence   : Nat
  wait    : List Entry
  deriving DecidableEq, Repr

/-- A path or flow entry of the path table (R152 to R154), by connection × 8 + path. -/
structure PathEntry where
  sub     : Nat
  srcAddr : Nat
  srcPort : Nat
  dstAddr : Nat
  flow    : Bool
  stampS  : Nat
  deriving DecidableEq, Repr

/-- A change of the map state (R508). -/
inductive Delta where
  | insert (e : Entry)
  | remove (e : Entry)
  | acre (flock pa paddock lowGen highGen : Nat)
  | freed (flock pa count : Nat)
  | bits (lineage member : Nat) (region : Option Nat) (set : Bool) (mask : Nat)
  | filterOnly (lineage : Nat) (set : Bool)
  | epoch (volume epoch barrier : Nat)
  | resv (volume ident key action type : Nat)
  deriving DecidableEq, Repr

/-- A map delta as the delta log holds it (R460, R508). -/
structure DeltaRec where
  fold    : Nat
  paddock : Nat
  volume  : Nat
  admSeq  : Nat
  dseq    : Nat
  change  : Delta
  deriving DecidableEq, Repr

/-- The lookup islands' tables: extent map entries of the fall-back memories by half, region mask slots by half × 2^22 + slot as (lineage, region,
mask), the seeds of the region tables, bucket versions by (half × 32 + k) × 4,096 + stripe, filter-only lineages, the path table, the partner's path
entries held during an exchange window, learns, rehashes by half, the free areas by half, delta numbers, the last delta that a vault's log holds, and the last that the checkpoint under way appends (R460). `recent` are the deltas, the partner's among them, that no delta log holds yet, the first `recentLogging` of them being appended; `imageNext` is the map store's image to be written next (R460), `logTop` the highest admission number by volume among those that one holds. The hashed
tables themselves lie in HBM. `learnWait` are the commands, with the half, that wait for a place in a full learn queue (R143); `rehashWant` the tables, by half and k, whose rehash cannot start yet
(R148); `foreignWait` the learning messages that came before one of a lower number, by number as (op, key, entry) (R156); `movedNs` when the write engine of a half last changed a bucket
(R147). -/
structure MapState where
  fallback  : Tab (List Entry)
  regions   : Tab (Nat × Nat × Nat)
  rgnSeed   : Tab Nat
  versions  : Tab Nat
  filterOnly : List Nat
  paths     : Tab PathEntry
  foreign   : Tab PathEntry
  foreignSeq : Option Nat
  sendSeq   : Nat
  learns    : Tab Learn
  learnId   : Nat
  rehash    : Tab Rehash
  freeArea  : Tab (List (Nat × Nat))
  dseq      : Nat
  logged    : Nat
  logging   : Nat
  recent    : List DeltaRec
  recentLogging : Nat
  logTop    : Tab Nat
  imageNext : Nat
  aged      : List Nat := []
  agedNs    : Nat := 0
  learnWait : List (Nat × Nat) := []
  rehashWant : List (Nat × Nat) := []
  foreignWait : Tab (Nat × Nat × PathEntry) := []
  movedNs   : Tab Nat := []
  deriving DecidableEq, Repr

/-! ### Host commands -/

/-- Where a host command stands (R160 to R174). -/
inductive CmdSt where
  | queued | admitted | waitLearn | waitDep | reading | waitRoom | waitHeld | waitFlush | forwarded | event
  deriving DecidableEq, Repr

/-- A command in a CMD island (R160 to R178). `blocks` is the write data by block of the command, `got` the data that a read has gathered. `dep`
are the blocks of a read that wait for an earlier write (R171), `need` the blocks whose data (of a read) or Dirty version (of a write) is still owed, `spots` the flock and physical acre of a read's blocks as of its admission, `pinned` the
versions a read holds as (volume, block, number), `open_` the blocks of a through write whose entry has not retired, `multi` the markers of a Flush of all namespaces as
(volume, number), `fwd` the forwarder's tag when the partner forwarded the command (R386). `dataLen` is the length of the data that came with it, `ident` the
host identifier of its Connect. `cls` is 0 urgent, 1 high, 2 medium, 3 low, 4 admin; `low` says that it is red under red action 0, so that it is arbitrated in the low class and
travels in C3 (R79). `hbm` counts a read's blocks that HBM serves (R186), `noFill` are blocks of a read whose drive data must not become Clean, because a version of the block has
committed meanwhile (R193), `ended` is the completion record of a forwarded command that still lacks read data (R32). -/
structure HostCmd where
  ctx     : Nat
  sqe     : Sqe
  blocks  : Tab Blk
  ranges  : List (Nat × Nat)
  dataLen : Nat
  units   : Nat
  host    : Nat
  ident   : Nat
  paddock : Nat
  volume  : Option Nat
  grant   : Nat
  fold    : Nat
  cls     : Nat
  red     : Bool
  order   : Nat
  st      : CmdSt
  seq     : Nat
  lba     : Nat
  count   : Nat
  learns  : List Nat
  got     : Tab Blk
  dep     : List Nat
  need    : List Nat
  spots   : Tab (Nat × Nat)
  pinned  : List (Nat × Nat × Nat)
  open_   : List Nat
  multi   : List (Nat × Nat)
  fwd     : Option Nat
  bad     : Nat
  lastMseq : Nat
  lastDelta : Nat
  silent  : Bool
  cost    : Nat
  low     : Bool := false
  hbm     : Nat := 0
  noFill  : List Nat := []
  ended   : Option (Nat × Nat) := none
  deriving DecidableEq, Repr

/-- A completion record that has left its CMD island and waits in DROVE for its data to be placed (R32, R174). `close` says that the connection is closed once
it is sent (a Disconnect, R176), `inval` that the command's descriptor asks for remote invalidation of its key (R75). -/
structure Completion where
  ctx    : Nat
  cid    : Nat
  sct    : Nat
  sc     : Nat
  dw0    : Nat
  key    : Nat
  data   : List Bytes
  close  : Bool
  inval  : Bool
  deriving DecidableEq, Repr

/-- Command intake (chapter 5). Commands are keyed island × 16,384 + tag. `held` are commands kept at intake, oldest first, with the message number of their final (Drove). `rr` holds the arbiter's
pointers: who is being served and how often it has been. `forwards` are the commands forwarded to the partner, by this chip's identifier (R387). -/
structure Intake where
  forwards : Tab HostCmd
  fwdNext : Nat
  cmds    : Tab HostCmd
  held    : List (Nat × HostCmd)
  done    : List Completion
  order   : Nat
  rr      : Tab (Nat × Nat)
  urgent  : Tab Nat
  wheelHeld : List Nat
  deriving DecidableEq, Repr

/-! ### Lines -/

inductive LineSt where
  | filling | clean | dirty | committing | evicting | mirror
  deriving DecidableEq, Repr

/-- A line with its tag (R191); `fill` marks a version that a learn fill made (bit 12 of the check field, R231). `newer` is, in a Dirty version that its readers still hold, the number of
the newer version of the block that has committed over it (0: none): it is superseded, and is never written (R193). -/
structure Line where
  volume   : Nat
  lba      : Nat
  st       : LineSt
  seq      : Nat
  paddock  : Nat
  fold     : Nat
  app      : Nat
  poisoned : Bool
  through  : Bool
  pins     : Nat
  data     : Bytes
  bornNs   : Nat
  fill     : Bool
  newer    : Nat := 0
  deriving DecidableEq, Repr

/-- A set: lines by way, and the tree bits (R190, R197). -/
structure CacheSet where
  ways : Tab Line
  plru : Nat
  deriving DecidableEq, Repr

/-- A range operation (R207). `owed` are the blocks whose newest version has still to commit. -/
structure RangeOp where
  volume : Nat
  op     : Nat
  lba    : Nat
  count  : Nat
  mark   : Nat
  stackSet : List Nat
  owed   : List Nat
  slot   : Option Nat
  hdr    : Hdr
  deriving DecidableEq, Repr

/-- The dump (R210 to R217). `phase` is 0 idle, 1 quiescing, 2 writing, 3 closing, 4 done; `test` the slot of the operation of a test; `areaSet` says that the image slots have been
set, `vaults` which vaults still take the image (bit 0 slot 32), `startNs` the timebase at its start, `digests` those of the segments sent; `gated` says that step 4 has gated the islands (R211, R212). -/
structure Dump where
  phase     : Nat
  areaSet   : Bool
  trigger   : Nat
  startNs   : Nat
  vaults    : Nat
  imageSeq  : Nat
  total     : Nat
  quiesceTo : Bool
  single    : Bool
  restarted : Bool
  test      : Option Nat
  noVault   : Bool
  newestTest : Nat
  events    : List Nat
  digests   : List Bytes := []
  gated     : Bool := false
  deriving DecidableEq, Repr

/-- The CACHE islands. Sets are keyed stack × 2^20 + set; the set overflow table of stack s is the set 2^21 + s. Eviction buffers and victim caches by
stack, oldest first; `waiting` are versions and mirror lines without room yet; `streams` gives a volume's next sequential block and the reads of its run;
`ranges` and `drains` the range operations and the volumes (65,536: the chip) being drained; `flushing` says that dirty bytes have passed flush_hi_pct and not yet fallen below flush_lo_pct. -/
structure CacheState where
  sets     : Tab CacheSet
  evict    : Tab (List Line)
  victim   : Tab (List Line)
  waiting  : List Line
  streams  : Tab (Nat × Nat)
  ranges   : List RangeOp
  drains   : List Nat
  flushing : Bool
  dump     : Dump
  deriving DecidableEq, Repr

/-! ### Flocks and the journal -/

/-- An acre that was removed from the map (R271): the number of the next host command and of the next drive command then, and the next admission number of
each volume of the lineage. -/
structure AcreGone where
  order  : Nat
  drvId  : Nat
  seqs   : Tab Nat
  deriving DecidableEq, Repr

/-- A record of an allocated physical acre (R271, R361). -/
structure AcreRec where
  paddock : Nat
  lineage : Nat
  fold    : Nat
  lowGen  : Nat
  highGen : Nat
  removed : Option AcreGone
  deriving DecidableEq, Repr

/-- A flock (R221 to R227): geometry, members, layout rows, relocations keyed row × 32 + position as (target, spare slot), acre groups by fold,
allocated acres; absent and failed members, members that stand wholly at their targets, strips (stripe, position) whose content stands at its target (R226, R244) and those that copy-back has passed (R267),
stale regions by absent member, since when it is absent and label_gen when its marking began (R255, R256, R509), the moments of read errors of the last hour, and the start of the last scrub. -/
structure Flock where
  width   : Nat
  z       : Nat
  n       : Nat
  slots   : List Nat
  rows    : List (List Nat)
  k       : Nat
  s       : Nat
  cycles  : Nat
  uuid    : Bytes
  labelGen : Nat
  relocs  : Tab (Nat × Nat)
  groups  : Tab Nat
  acres   : Tab AcreRec
  absent  : List Nat
  failed  : List Nat
  rebuilt : List Nat
  placed  : List (Nat × Nat)
  home    : List (Nat × Nat)
  stale   : Tab (List Nat)
  sinceNs : Tab Nat
  staleGen : Tab Nat := []
  rdErrs  : Tab (List Nat)
  replayed : Bool
  needScrub : Bool
  scrubNs : Nat
  deriving DecidableEq, Repr

/-- A journal entry (R239, R264) with its staged member blocks (position × 16 + block → bytes), the versions it commits (volume, lba, seq), what it
still has to read (position × 16 + block), and the mirror record and checkpoint that it waits on (`ckpt` 0: not yet journalled). `state` 0 is a repair that waits for its
stripe; `bad` are blocks that could not be read. -/
structure JEntry where
  kind     : Nat
  state    : Nat
  flock    : Nat
  annex    : Bool
  degraded : Bool
  through  : Bool
  replayed : Bool
  lo       : Nat
  hi       : Nat
  fold     : Nat
  stripe   : Nat
  jgen     : Nat
  written  : Nat
  done     : Nat
  absent   : Nat
  unknown  : Nat
  volume   : Nat
  openedNs : Nat
  versions : List (Nat × Nat × Nat)
  staged   : Tab Bytes
  old      : Tab Bytes
  reads    : List Nat
  mseq     : Nat
  ckpt     : Nat
  errs     : Nat
  recs     : Nat
  bad      : List Nat
  args     : List Nat
  deriving DecidableEq, Repr

/-- The purpose of a drive command: a block of a host command (island × 16,384 + tag), a block of a reconstruction (its number and the position), a block
that a journal entry reads (position × 16 + block) or the positions it writes, a block read ahead (R196), a strip that a background operation reads or writes (its number and
the position), an admin command. -/
inductive DrvFor where
  | host (cmd blk : Nat)
  | recon (id pos : Nat)
  | entryRead (entry key : Nat)
  | entryWrite (entry pos : Nat)
  | prefetch (volume lba : Nat)
  | background (op pos : Nat)
  | admin (kind : Nat)
  deriving DecidableEq, Repr

/-- A drive tag (R180, R181): pen state 0 issued, 1 penned with the Abort outstanding, 2 penned and waiting; 3 waits in its lane or for its drive to wake.
`lateSeen` says that its late completion came before the Abort's answer, `data` is what a write carries, `wake` that the drive's power state holds it,
`stale`, of a block read ahead, that a version of the block has committed since (R193), `gated` that a time gate may hold it (R287), `tries` how often it was submitted again after an error. `lane` is 0 urgent, 1 high, 2 medium, 3 low, 4 background; `kind` 0 member read, 1 member write, 2 other. -/
structure DrvCmd where
  slot   : Nat
  cid    : Nat
  kind   : Nat
  lba    : Nat
  count  : Nat
  use    : DrvFor
  issuedNs : Nat
  pen    : Nat
  timedNs : Nat
  lateSeen : Bool
  flock  : Nat
  stripe : Nat
  pos    : Nat
  blk    : Nat
  lane   : Nat
  cls    : Nat
  paddock : Nat
  fold   : Option Nat
  source : Nat
  wake   : Bool
  gated  : Bool
  tries  : Nat
  data   : List Bytes
  stale  : Bool := false
  deriving DecidableEq, Repr

/-- How a drive command ended otherwise than by its completion: a time-out (R180), a submission to be made again (R181, R246), the member gone (R245), a
late completion of a member write with its outcome (0 success, 1 error, 2 Reservation Conflict). -/
inductive DrvEnd where
  | timedOut
  | again
  | gone
  | late (outcome : Nat)
  deriving DecidableEq, Repr

/-- What a reconstruction serves: a block of a host command, or a repair alone. -/
inductive ReconFor where
  | host (cmd blk : Nat)
  | repair
  deriving DecidableEq, Repr

/-- A reconstruction of one block (R229, R234): the stripe and block, the position wanted, the blocks gathered by position, the positions owed, those
that cannot be read, and whether the block is to be rewritten in place. -/
structure Recon where
  purpose : ReconFor
  flock   : Nat
  stripe  : Nat
  blk     : Nat
  target  : Nat
  have_   : Tab Bytes
  owed    : List Nat
  bad     : List Nat
  repair  : Bool
  deriving DecidableEq, Repr

/-- A record of the lost-block list (R263, R273). -/
structure LostRec where
  op     : Nat
  flock  : Nat
  pos    : Nat
  blk    : Nat
  stripe : Nat
  acre   : Nat
  time   : Nat
  deriving DecidableEq, Repr

/-- A write to the record areas that waits for its completion (R509): a stale mark with the journal entry that waits for it, a change of the lost-block list with the reads
(command, block) that are answered after it and its place in the list, the descriptors of the stale maps, a flock record. -/
inductive RecWrite where
  | stale (flock member region entry : Nat)
  | lost (record : LostRec) (add : Bool) (place : Nat) (answers : List (Nat × Nat))
  | maps
  | flock (flock : Nat)
  deriving DecidableEq, Repr

/-- A background operation (R253): its kind (1 rebuild, 2 resync, 3 copy-back, 4 scrub, 5 shearing, 6 detach), what it works on, its place (step, next stripe, or next member strip of a
resync), its slot of long operations, whether the stripe in hand is being read (`phase` 0) or written (1), its fence entry, the stripe in hand with what has been read of it (position × 16 + block), the positions whose strips are still being read, those whose blocks
are read one at a time, the blocks that cannot be read, those penned, the positions being written, the stripes set aside, stripes and ns since the last fence, its mode (of a scrub; for a rebuild 1 once a further failure has reclassed its rows; for shearing the steps chosen), whether it visits again a stripe that was set aside (`again`), its goals (positions that the stripe in hand is to have written), and for shearing and detach the
entries or acres still to examine. -/
structure BgOp where
  kind   : Nat
  flock  : Nat
  member : Nat
  slot   : Nat
  step   : Nat
  pos    : Nat
  phase  : Nat
  queued : Bool
  folds  : Nat
  entry  : Option Nat
  cur    : Option Nat
  have_  : Tab Bytes
  owed   : List Nat
  singles : List Nat
  bad    : List Nat
  penned : List Nat
  writes : List Nat
  aside  : List Nat
  sinceFence : Nat
  fenceNs : Nat
  mode   : Nat
  again  : Bool
  goals  : List Nat
  volume : Nat
  todo   : List Entry
  acres  : List (Nat × Nat)
  deriving DecidableEq, Repr

/-- A mirrored record (R202). -/
inductive MirRec where
  | line (l : Line)
  | retire (volume fold lba count seq : Nat)
  | journal (id : Nat) (e : JEntry)
  | delta (fold paddock volume admSeq dseq : Nat) (d : Delta)
  | discard (volume fold lba count : Nat)
  deriving DecidableEq, Repr

/-- The mirror engine: records sent and not yet acknowledged, the number acknowledged, the number next expected from the partner, records kept back
at the dirty limit, and the partner's open journal entries (R202 to R204); the number at which a resync is done, and the deltas that the partner lacks
(R392). -/
structure Mirror where
  nextSeq : Nat
  unacked : List (Nat × MirRec)
  heldSeq : Nat
  oldestNs : Nat
  rxNext  : Nat
  rxWait  : List (Nat × MirRec)
  journal : Tab JEntry
  ackDue  : Bool
  resyncing : Bool
  resyncTo : Nat
  missed  : List DeltaRec
  deriving DecidableEq, Repr

/-- The STRP islands: journal entries, jgen, drive commands with those that ended without a completion and that the command in hand has still to settle (none between commands), reconstructions, offers waiting for a gate, the lost-block list, writes to the record areas under way, members that failed since the last command was settled, background operations,
and the end of the last shearing. -/
structure Stripes where
  flocks  : Tab Flock
  entries : Tab JEntry
  entryId : Nat
  jgen    : Nat
  annexUsed : Nat
  drv     : Tab DrvCmd
  drvId   : Nat
  fell    : List (DrvCmd × DrvEnd)
  recons  : Tab Recon
  reconId : Nat
  offers  : List (Nat × Nat)
  ckptRun : Bool
  ckptCover : Nat
  ckptDone : Nat
  opened  : Nat
  lost    : List LostRec
  areaSeq : Nat
  listSeq : Nat
  recQ    : List RecWrite
  newFailed : List (Nat × Nat)
  bg      : Tab BgOp
  bgId    : Nat
  paceNs  : Tab Nat
  shearNs : Nat
  deriving DecidableEq, Repr

end Sys2Proof.Machine
end

