-- ==== Sys2Proof/Machine/TypesSwx.lean ====
section
/-!
DEFINITION. The state of the cell switch and of the stiles (chapter 1 of the spec).
-/

namespace Sys2Proof.Machine

/-- A cell with its header (R25). `stamp` is no header field: it is the order of the cell's arrival in the buffer. -/
structure Cell where
  src    : Nat
  dst    : Nat
  cls    : Nat
  first  : Bool
  last   : Bool
  mirror : Bool
  seq    : Nat
  msgId  : Nat
  lenM1  : Nat
  idx    : Nat
  ctx    : Nat
  poison : Bool
  plane  : Nat
  stamp  : Nat
  data   : Bytes
  deriving DecidableEq, Repr

/-- A cell that a message may hold (R24, R25): the fields fit, the payload is as long as len_m1 says, every cell but the last is full, and the first one has index 0. -/
def Cell.legal (x : Cell) : Bool :=
  decide (x.src < 32) && decide (x.dst < 32) && decide (x.cls < 8) && decide (x.idx < 256) && decide (x.msgId < 65536) && decide (x.ctx < 2 ^ 32) &&
    decide (x.data.length = x.lenM1 + 1) && decide (x.lenM1 < 256) && (x.last || decide (x.lenM1 = 255)) && decide (x.first = decide (x.idx = 0)) &&
    (x.last || decide (x.idx < 255))

/-- A message that a source keeps so that it can resend it after a push-out (R43). -/
structure KeptMsg where
  src   : Nat
  msgId : Nat
  cls   : Nat
  dst   : Nat
  cells : List Cell
  pushed : Nat
  deriving DecidableEq, Repr

/-- A copy made by a mirroring tap (R46, R47, R49), with the PTP time at which the frame passed the tap. -/
structure MirrorCopy where
  session : Nat
  egress  : Bool
  port    : Nat
  ctx     : Nat
  origLen : Nat
  bytes   : Bytes
  tapNs   : Nat
  deriving DecidableEq, Repr

/-- What one mirror session keeps beside its registers: copies lost since its last record, and whether a gap precedes the next. -/
structure MirrorRun where
  lostSince : Nat
  gap       : Bool
  deriving DecidableEq, Repr

/-- A message in flight (R26): where it goes, the index of the cell that its source offers next, and whether its last cell has been offered. -/
structure Flight where
  dst  : Nat
  cls  : Nat
  next : Nat
  done : Bool
  deriving DecidableEq, Repr

/-- The two planes, the shared buffer, the resequencers, the replay buffers, the taps' copy stores, the stiles. Queues are keyed
(source × 32 + output) × 8 + class and hold cells oldest first. `held` are cells at inputs in back-pressure, oldest first. `bad` are cells
discarded at arrival for a failing header CRC and not yet replayed. `reorder` are cells held in reorder slots. `kept` are the messages that
sources keep for a resend. `stiles` holds the entries in a stile from an island to an island, keyed sender × 64 + receiver, each the domain it waits for, oldest first; `stileWait` those
that their sender holds because the stile is full (R19). `flight` holds the messages in flight, keyed source × 65,536 + msg_id (R26). `asm` holds the cells that a
destination has of a message, keyed (output × 32 + source) × 65,536 + msg_id (R31). `resend` holds cells that have crossed a plane again and find no reorder slot yet
(R30). `damaged` names the host commands whose message was lost in the switch, until the command in hand has settled them (R36): it is empty between commands. -/
structure Swx where
  queues    : Tab (List Cell)
  held      : List Cell
  seqNext   : Tab Nat
  seqExpect : Tab Nat
  reorder   : List Cell
  replay    : Tab (List Cell)
  failRun   : Tab Nat
  bad       : List Cell
  grantPtr  : Tab Nat
  acceptPtr : Tab Nat
  deficit   : Tab Nat
  kept      : List KeptMsg
  notices   : List (Nat × Nat × Nat × Nat)
  reports   : List (Nat × Nat)
  poisoned  : List (Nat × Nat)
  arrivals  : Nat
  nextId    : Tab Nat
  copies    : Tab MirrorCopy
  copyStore : Tab Nat
  mirror    : Tab MirrorRun
  stiles    : Tab (List Nat)
  stileWait : Tab (List Nat)
  flight    : Tab Flight
  asm       : Tab (List Cell)
  resend    : List Cell
  damaged   : List Nat
  deriving DecidableEq, Repr

end Sys2Proof.Machine
end

