-- ==== Sys2Proof/Machine/TypesOut.lean ====
section
/-!
DEFINITION. What the block puts on its interfaces: messages to the management host, the network, the drives, the partner and the pins.
-/

namespace Sys2Proof.Machine

/-- A forward record (R387): a command with its header, entry and data, read data, a completion, or an Abort of a command. The host identifier goes with a command, for
the reservations of R128 (assumption 8). -/
inductive FwdRec where
  | command (tag fold cls host paddock volume ctx ident : Nat) (red : Bool) (sqe : Sqe) (data : Bytes)
  | data (tag offset : Nat) (bytes : Bytes)
  | completion (tag sct sc dw0 : Nat)
  | abort (tag ctx : Nat) (sqe : Sqe)
  deriving DecidableEq, Repr

/-- One message of the block to the world outside it. A `tcpPdu` goes in segments of `mss` bytes from byte `seq` of the stream on, with the ECN codepoint, the ECN-Echo flag and the
timestamp echoed that they carry. A mirrored record goes as its header and body (R202), with the record that they spell; blocks of a record area stand by their byte offsets, those of a label by their
numbers on the member. -/
inductive Out where
  | msix (vector addr data : Nat)
  | hostRead (addr len : Nat)
  | cqWrite (cq unit : Nat) (phase : Bool) (reply : Reply) (bytes : Bytes)
  | cqPad (cq unit len64 : Nat) (phase : Bool)
  | sessionReply (session : Nat) (reply : Reply) (bytes : Bytes)
  | sessionClosed (session : Nat)
  | tcpReset (port : Nat)
  | hostWrite (addr value : Nat)
  | captureRecord (offset : Nat) (bytes : Bytes)
  | tlpData (bytes : Bytes) (poisoned : Bool)
  | tlpUnsupported
  | aerReport (correctable : Bool)
  | partnerCommand (cmd : PairCmd)
  | partnerReply (opcode status : Nat)
  | crossing (src dst cls : Nat)
  | cellDelivered (cell : Cell) (header : Nat)
  | messageDelivered (dst src msgId cls ctx : Nat) (mirror : Bool) (data : Bytes)
  | pushOutNotice (src msgId cls dst : Nat)
  | firstCellLeft (src msgId : Nat)
  | messagePoisoned (dst src msgId : Nat)
  | mirrorFrame (port : Nat) (bytes : Bytes)
  | tallyCopy (minute flags : Nat) (meters : List (Nat × Nat)) (accFirst accLast accFlags : Nat) (acc : List (Nat × Nat))
  | frameTo (port : Nat) (ctx : Option Nat) (cls colour : Nat)
  | pfc (port prio : Nat) (xoff : Bool)
  | slowReply (sub kind addr : Nat)
  | lldp (sub : Nat)
  | autoNeg (sub speed : Nat)
  | ptpDelayReq (sub form : Nat)
  | droveHello (sub addr port type : Nat) (header body : Bytes) (srcPort ecn : Nat)
  | drove (ctx path type psn gen : Nat) (header body : Bytes) (srcPort dstPort ecn : Nat)
  | tcpPdu (ctx kind cid : Nat) (body : Bytes) (seq mss ecn : Nat) (ece : Bool) (tsEcho : Option Nat)
  | tcpClose (ctx : Nat) (reset : Bool)
  | tlsRecord (ctx kind : Nat)
  | roce (ctx kind psn cid : Nat) (body : Bytes) (ecn : Nat)
  | roceCm (ctx kind : Nat)
  | learning (bytes : Bytes)
  | foreign (conn path : Nat) (r : Rx) (packet : DPkt)
  | mirror (mseq : Nat) (header body : Bytes) (record : MirRec)
  | mirrorAck (held : Nat)
  | keyRecord (seq : Nat)
  | genProposal (paddock gen : Nat)
  | genAck (paddock gen : Nat)
  | genCounts (counts : List (Nat × Nat × Nat)) (kek : Nat)
  | driveCmd (slot cid kind lba count : Nat) (data : List Bytes)
  | driveAbort (slot cid : Nat)
  | driveReset (slot : Nat)
  | driveAdmin (slot kind arg : Nat)
  | whistle (bytes : Bytes)
  | health (bytes : Bytes)
  | pmbusAlertLogged
  | crook (fold : Nat) (asserted : Bool)
  | shared (vols : Tab Volume) (hosts : Tab HostEntry) (grants : Tab Grant) (flocks : List (Nat × Bytes)) (groups : List (Nat × Nat × Nat)) (keys : List (Nat × Nat × Nat × Nat))
  | psRequest (slot state : Nat) (nonOp : Bool)
  | driveActivity (slot : Nat)
  | costSums (sums : List (Nat × Nat)) (busy : List Nat) (pathEnergy : List (Nat × Nat))
  | capExchange (cap share : Nat)
  | demandExchange (demands : List (Nat × Nat))
  | pmbusVout (mv : Nat)
  | thermtrip
  | slotGate (slot drive : Nat)
  | slotPerst (slot : Nat) (asserted : Bool)
  | slotPwarn (slot : Nat) (asserted : Bool)
  | ledChain (bits : Nat)
  | slotAsk (slot kind : Nat)
  | miPoll (slot kind type controller : Nat)
  | label (slot : Nat) (blocks : List (Nat × Bytes))
  | recordArea (write : RecWrite) (blocks : List (Nat × Bytes))
  | lostChange (record : LostRec) (add : Bool)
  | checkpoint (slot : Nat) (header body : Bytes)
  | ana (fold : Nat)
  | forward (record : FwdRec) (bytes : Bytes)
  | deltaLog (records : List Bytes)
  | mapImage (slot lba : Nat) (seeds : List Nat)
  | refetch (volume lba seq : Nat)
  | dumpHeader (vaults : Nat) (bytes : Bytes)
  | dumpSegment (vaults index : Nat) (bytes : Bytes)
  | dumpClose (vaults : Nat) (bytes : Bytes)
  deriving DecidableEq, Repr

end Sys2Proof.Machine
end

