-- ==== Sys2Proof/Machine/TypesCipher.lean ====
section
/-!
DEFINITION. The state of the cipher islands (chapter 11 of the spec): keys, generations, PSKs, lanes, context caches.
-/

namespace Sys2Proof.Machine

/-- What the chip holds of a paddock's key (R357 to R362, R365): identifier, generations, secret[g_lo], blocks encrypted by generation on this chip and
as last reported by the partner, the state of R368, the generation proposed, whether this chip and the partner acknowledged it, whether shearing reported g_lo
unused here and there, whether g_lo is closed, and the moment of the last hard-limit report. -/
structure PadKey where
  keyId   : Nat
  gLo     : Nat
  gCur    : Nat
  secret  : Bytes
  counts  : Tab Nat
  partner : Tab Nat
  state   : Nat
  proposed : Option Nat
  ackHere : Bool
  ackThere : Bool
  unusedHere : Bool
  unusedThere : Bool
  closed  : Bool
  deriving DecidableEq, Repr

/-- A PSK context (R357). -/
structure Psk where
  keyId    : Nat
  paddock  : Nat
  identity : Bytes
  secret   : Bytes
  deriving DecidableEq, Repr

/-- A change that waits until the key record holds it (R365), with the command it answers. -/
inductive KeyChange where
  | kek (id : Nat) (key : Bytes) (hdr : Hdr)
  | padImport (paddock : Nat) (key : PadKey) (hdr : Hdr)
  | advance (paddock gen : Nat)
  | retire (paddock : Nat)
  | erased (paddock : Nat)
  | install (paddock : Nat) (key : PadKey)
  deriving DecidableEq, Repr

/-- An erasure of a paddock (R366): the step in hand, its slot of long operations (on the chip that received the command), the key to be installed, whether the record has been asked
to hold the present change, how many entries there were. -/
structure EraseRun where
  step  : Nat
  slot  : Option Nat
  key   : Option PadKey
  asked : Bool
  total : Nat
  deriving DecidableEq, Repr

/-- Work that needs random values and came while the DRBG was stopped (R349): a rehash that was commanded (half, k, s, its slot of long operations), a FLOCK_CREATE with its operands, and a FUSE_PROGRAM
that draws the root key. -/
inductive DrbgWork where
  | rehash (half k s slot : Nat)
  | flock (h : Hdr) (flock width z n : Nat) (slots : List Nat) (blocks : Nat)
  | fuse (h : Hdr)
  deriving DecidableEq, Repr

/-- The cipher islands. `ctxs` are the cached contexts by island, least recently used first, as kind × 2^20 + index (kind 1 connection, 2 PSK, 3
paddock); `faultNs` the times of each lane's faults; `kek` the KEK with its kek_id; `masks` is, by lane, how often its mask generator was keyed again and the 16-byte blocks since (R347);
`drbgWait` is the work that waits for the DRBG (R349). -/
structure Cipher where
  kek      : Option (Nat × Bytes)
  partnerKek : Option Nat
  pads     : Tab PadKey
  psks     : Tab Psk
  waiting  : List KeyChange
  erases   : Tab EraseRun
  recSeq   : Nat
  ctxs     : Tab (List Nat)
  faultNs  : Tab (List Nat)
  katNext  : Tab Nat
  sourceOk : Bool
  masks    : Tab (Nat × Nat) := []
  drbgWait : List DrbgWork := []
  deriving DecidableEq, Repr

end Sys2Proof.Machine
end

