-- ==== Sys2Proof/Machine/TypesStart.lean ====
section
/-!
DEFINITION. What the start steps find outside the chip, as operands of START_STEP_DONE: on the lanes and in the islands, in the records, the journal copies, the dump images and the map
store of the vaults (R442, R445, R459 to R462).
-/

namespace Sys2Proof.Machine

/-- The newest key record that verifies (R365). -/
structure KeyRecord where
  seq   : Nat
  kekId : Nat
  kek   : Option Bytes
  pads  : Tab PadKey
  deriving DecidableEq, Repr

/-- What ST09 finds on the vaults (R243, R216, R263, R256, R459): the journal copy chosen (none: no copy verifies), the partner's journal with it, the dump image to be replayed with its closing record if it
has one, its lines, the blocks whose newest dumped version no copy holds, the map deltas that no delta log holds, the highest admission number by volume in the delta logs. -/
structure Replay where
  keys     : Option KeyRecord
  journal  : Option (Nat × Tab JEntry)
  partner  : Tab JEntry
  imageSeq : Nat
  newestTest : Nat
  image    : Bool
  closed   : Bool
  events   : List Nat
  lines    : List Line
  missing  : List (Nat × Nat)
  deltas   : List DeltaRec
  logTop   : Tab Nat
  lost     : List LostRec
  stale    : List (Nat × Nat × List Nat)
  deriving DecidableEq, Repr

/-- Table k of a half in a map image: half, k, s, base in units of 64 B, seed. -/
structure TableCfg where
  half : Nat
  k    : Nat
  s    : Nat
  base : Nat
  seed : Nat
  deriving DecidableEq, Repr

/-- The newest map image that verifies, its delta log applied (R460, R462): tables, entries, region masks as (lineage, region, mask) with the seeds of their tables by half, filter-only lineages, free areas by half, the
number of the last delta, the rehashes that were under way, as of their last fence (R149). -/
structure MapImage where
  tables  : List TableCfg
  entries : List Entry
  regions : List (Nat × Nat × Nat)
  rgnSeed : Tab Nat
  filterOnly : List Nat
  freeArea : Tab (List (Nat × Nat))
  dseq    : Nat
  rehash  : Tab Rehash := []
  deriving DecidableEq, Repr

/-- What a start step found. ST05: cipher lanes that fail their tests, ports whose island fails, whether the digest of stage 2 fails. ST06: Ethernet lanes (bit 4p + lane), partner lanes and drive lanes
(bit 2s + lane) that fail. ST08: the records of the shelf. -/
inductive StepFound where
  | nothing
  | units (lanes ports : List Nat) (stage2Bad : Bool)
  | lanes (eth part drv : Nat)
  | records (paddocks : Tab Paddock) (hosts : Tab HostEntry) (grants : Tab Grant) (vols : Tab Volume) (flocks : Tab Flock)
  | replay (r : Replay)
  | map (m : MapImage)
  deriving DecidableEq, Repr

/-- A result of SERDES_TEST (R432): lane, failed, errors, margin in 2 mV units, bits tested. -/
structure LaneResult where
  lane   : Nat
  failed : Bool
  errors : Nat
  margin : Nat
  tested : Nat
  deriving DecidableEq, Repr

end Sys2Proof.Machine
end

