-- ==== Sys2Proof/Syntax.lean ====
section
/-!
DEFINITION. The commands of the block: one constructor for each row of the opcode table, with its operands. A management command (R412, R435) carries its header `h` and its
parameters in R435's order; register images are the register's whole width as a number. An arrival carries what arrived, an expiry names whose timer it was.
-/

namespace Sys2Proof

open Sys2Proof.Machine

inductive Instr where
  | nop (h : Hdr)
  | identify (h : Hdr)
  | statusGet (h : Hdr)
  | pad (r len64 : Nat)
  | paddockCreate (h : Hdr) (paddock : Nat) (nqn : Bytes)
  | paddockDelete (h : Hdr) (paddock : Nat)
  | paddockArbSet (h : Hdr) (paddock image : Nat)
  | paddockErase (h : Hdr) (paddock hasSeed : Nat) (blob : Bytes)
  | paddockGet (h : Hdr) (paddock : Nat)
  | volumeCreate (h : Hdr) (volume paddock nsid fold flock acres : Nat)
  | volumeDelete (h : Hdr) (volume : Nat)
  | volumeResize (h : Hdr) (volume acres : Nat)
  | snapshotCreate (h : Hdr) (source volume nsid : Nat)
  | cloneCreate (h : Hdr) (source volume nsid : Nat)
  | volumeArbSet (h : Hdr) (volume image : Nat)
  | volumeDetach (h : Hdr) (volume : Nat)
  | volumeGet (h : Hdr) (volume : Nat)
  | volumeRangeOp (h : Hdr) (volume op lba count : Nat)
  | cacheModeSet (h : Hdr) (scope volume image : Nat)
  | hostSet (h : Hdr) (host paddock connLimit prefixes nqnHash : Nat) (pfx : List HostPrefix) (identity : Bytes)
  | hostClear (h : Hdr) (host : Nat)
  | hostGet (h : Hdr) (host : Nat)
  | hostClassSet (h : Hdr) (host band image : Nat)
  | grantSet (h : Hdr) (host nsid volume mode : Nat)
  | grantClear (h : Hdr) (host nsid : Nat)
  | grantList (h : Hdr) (host first : Nat)
  | droveCfgSet (h : Hdr) (cfg timer path key credit pool press rate : Nat)
  | stdTransportSet (h : Hdr) (tcp roce rate : Nat)
  | portCfgSet (h : Hdr) (port cfg prio pfc fec : Nat)
  | portAddrSet (h : Hdr) (port sub mac : Nat) (ipv4 : List Nat) (ipv6 : List HostPrefix) (vlans : List Nat)
  | portDscpSet (h : Hdr) (port : Nat) (table : List Nat)
  | timeCfgSet (h : Hdr) (cfg pps : Nat)
  | sessionList (h : Hdr) (first : Nat)
  | sessionClose (h : Hdr) (ctx : Nat)
  | hurdleSet (h : Hdr) (context cir pir cbs pbs mode : Nat)
  | hurdlePaddockSet (h : Hdr) (paddock red cir pir cbs pbs : Nat)
  | mgmtPskSet (h : Hdr) (index role : Nat) (blob identity : Bytes)
  | mgmtPskClear (h : Hdr) (index : Nat)
  | mgmtSessionCfg (h : Hdr) (port enable idleS : Nat)
  | mgmtSessionList (h : Hdr)
  | mapLookup (h : Hdr) (volume lba : Nat)
  | mapReverse (h : Hdr) (flock pa : Nat)
  | mapRehash (h : Hdr) (half k exponent : Nat)
  | mapStatGet (h : Hdr) (half : Nat)
  | flockCreate (h : Hdr) (flock width z n : Nat) (slots qualified : List Nat) (blocks : Nat)
  | flockDelete (h : Hdr) (flock : Nat)
  | flockGet (h : Hdr) (flock : Nat)
  | acreGroupSet (h : Hdr) (flock fold group : Nat)
  | rebuildStart (h : Hdr) (flock : Nat)
  | copybackStart (h : Hdr) (flock member slot : Nat)
  | scrubStart (h : Hdr) (flock mode first : Nat)
  | shearStart (h : Hdr) (steps : Nat)
  | memberFail (h : Hdr) (flock member : Nat)
  | lostListRead (h : Hdr) (first : Nat)
  | longopStatus (h : Hdr) (handle : Nat)
  | longopPause (h : Hdr) (handle : Nat)
  | longopResume (h : Hdr) (handle : Nat)
  | longopCancel (h : Hdr) (handle : Nat)
  | longopList (h : Hdr)
  | longopRelease (h : Hdr) (handle : Nat)
  | longopResultsRead (h : Hdr) (handle index advance : Nat)
  | slotPowerSet (h : Hdr) (slot on : Nat)
  | slotCurveSet (h : Hdr) (slot : Nat) (images : List Nat)
  | slotCfgSet (h : Hdr) (slot cfg lim thCfg thParam : Nat)
  | slotUnlock (h : Hdr) (slot : Nat)
  | slotLedSet (h : Hdr) (slot image : Nat)
  | slotRemove (h : Hdr) (slot : Nat)
  | slotMiRead (h : Hdr) (slot kind type controller : Nat) (response : Option Bytes)
  | slotStatusGet (h : Hdr) (slot : Nat)
  | slotGlbSet (h : Hdr) (image : Nat)
  | driveTmoSet (h : Hdr) (slot tmo : Nat)
  | driveLinkSet (h : Hdr) (slot link cfg : Nat)
  | holdupSet (h : Hdr) (joules watts mbps quiesceMs : Nat)
  | dumpTest (h : Hdr)
  | vaultAreaSet (h : Hdr) (dumpCfg dumpArea ckptArea recArea keyArea : Nat)
  | shapeSet (h : Hdr) (kind index cr pr burst peakBurst : Nat)
  | shapeClear (h : Hdr) (kind index : Nat)
  | shapeOverheadSet (h : Hdr) (paddock overhead : Nat)
  | gateSet (h : Hdr) (slot enable : Nat) (images : List Nat)
  | gateCfgSet (h : Hdr) (image : Nat)
  | govCapSet (h : Hdr) (image : Nat)
  | govClassSet (h : Hdr) (image : Nat)
  | govCostSet (h : Hdr) (slot cls image : Nat)
  | govCtlSet (h : Hdr) (image : Nat)
  | pdSet (h : Hdr) (domain req : Nat)
  | islandPointSet (h : Hdr) (island maxPoint pin : Nat)
  | vfCalibrate (h : Hdr) (island : Nat)
  | vfCfgSet (h : Hdr) (image : Nat)
  | drivePsSet (h : Hdr) (slot lowest np idleMs : Nat)
  | thermalSet (h : Hdr) (warn throttle crit : Nat)
  | kekImport (h : Hdr) (kekId : Nat) (point wrapped : Bytes)
  | deviceKeyGet (h : Hdr)
  | paddockKeyImport (h : Hdr) (paddock hasGcur gCur : Nat) (blob : Bytes)
  | paddockKeyStatus (h : Hdr) (paddock : Nat)
  | pskImport (h : Hdr) (blob identity : Bytes)
  | pskClear (h : Hdr) (keyId : Nat)
  | paddockRekey (h : Hdr) (paddock : Nat)
  | genLimitSet (h : Hdr) (image : Nat)
  | ciphCtlSet (h : Hdr) (image : Nat)
  | laneSet (h : Hdr) (lane action : Nat) (testsPass : Bool)
  | twinStatusGet (h : Hdr)
  | foldBellwetherSet (h : Hdr) (fold chip : Nat)
  | foldMove (h : Hdr) (fold chip : Nat)
  | foldHoldSet (h : Hdr) (fold hold : Nat)
  | twinSoloStart (h : Hdr)
  | healthReportGet (h : Hdr) (which : Nat)
  | twinCfgSet (h : Hdr) (ctl whistle failback : Nat)
  | evtCfgSet (h : Hdr) (first count vector route enable test : Nat)
  | evtRead (h : Hdr) (first max : Nat)
  | evtSubscribe (h : Hdr) (coalMs mask : Nat)
  | pmcSelect (h : Hdr) (first count kind island mode clear : Nat)
  | pmcSampleSet (h : Hdr) (counter reload : Nat)
  | pmcChainSet (h : Hdr) (even enable : Nat)
  | tallyRead (h : Hdr) (minute first chip : Nat)
  | tallyCollected (h : Hdr) (minute chip : Nat)
  | tallyAccumRead (h : Hdr) (first chip clear : Nat)
  | fwImageWrite (h : Hdr) (slot offset length : Nat)
  | fwImageSelect (h : Hdr) (slot trial advance : Nat)
  | fwInfoGet (h : Hdr)
  | ledgerRead (h : Hdr) (first : Nat)
  | ledgerRuleClear (h : Hdr) (mask : Nat)
  | shelfRecordWrite (h : Hdr) (offset length : Nat)
  | shelfRecordRead (h : Hdr) (offset : Nat)
  | chipReset (h : Hdr) (kind island : Nat)
  | fuseProgram (h : Hdr) (field generate slot privilege value : Nat)
  | fuseSeal (h : Hdr) (word : Nat)
  | loopbackSet (h : Hdr) (port loopback : Nat)
  | serdesTest (h : Hdr) (group lane kind durationMs : Nat)
  | mirrorSet (h : Hdr) (session image : Nat)
  | mirrorClear (h : Hdr) (session : Nat)
  | captureRingSet (h : Hdr) (base cfg wb : Nat)
  | mapExchangeTest (h : Hdr) (seconds : Nat)
  | regRead (h : Hdr) (offset count : Nat)
  | regWrite (h : Hdr) (offset mask value : Nat)
  | registerWrite (offset size value : Nat) (byHost : Bool)
  | swxClassCfgWrite (k image : Nat)
  | swxPeakClr
  | swxReseqErrRearm
  | pfcWatchdogClear (port mask : Nat)
  | droveCtxSelWrite (ctx : Nat)
  | learnPeakClr (half : Nat)
  | cmdqTagsPeakClr (isl : Nat)
  | cmdqTmoLastRearm
  | jnlPeakClr
  | stripeGateLastRearm
  | stripeVerifyLastRearm
  | stripeLayoutSelWrite (flock row : Nat)
  | lostOverflowClear
  | govTempPeakClr
  | govShapeSelWrite (kind island index : Nat)
  | slotOffReqWrite (slot : Nat)
  | slotUnlockWrite (slot : Nat)
  | slotFaultRearm (slot : Nat)
  | slotEvtLastRearm
  | ciphPadSelWrite (paddock : Nat)
  | entropyFlagClear (mask : Nat)
  | twinKickWrite (kick : Nat)
  | crookLoopErrClear (mask : Nat)
  | twinHealthSelWrite (value : Nat)
  | sqEnableWrite (r : Nat) (en : Bool) (startHead : Nat)
  | sqClearErr (r : Nat)
  | sqDoorbell (r : Nat)
  | cqEnableWrite (q image : Nat)
  | cqHeadWrite (q head : Nat)
  | captureConsWrite (cons : Nat)
  | winCommitWrite
  | winUrLastRearm
  | longopResConsWrite (index cons : Nat)
  | evtStatusClear (w mask : Nat)
  | evtEnableWrite (w enable : Nat)
  | evtRouteWrite (e image : Nat)
  | pmcSatRearm
  | pmcSmpConsWrite (cons : Nat)
  | cellEnqueue (x : Cell)
  | cellTimeMatch (bad : List Nat) (ecc : Option (Bool × Nat × Nat))
  | hcrcFail (p out : Nat) (again : Bool)
  | pushOutNotice (src msgId : Nat)
  | firstCellLeftReport (src msgId : Nat)
  | reseqTimeout (dst src msgId : Nat)
  | stileWakeTimeout (sender receiver : Nat)
  | outputStallTimeout (o : Nat)
  | islandReset (island : Nat) (long : Bool)
  | islandWatchdogExpiry (island : Nat)
  | frameReceive (sub : Nat) (f : Frame) (occ : Nat)
  | slowPathFrame (sub kind addr : Nat)
  | lldpAdvertiseTimer
  | subportLinkChange (sub : Nat) (x : LinkChange)
  | laneTrainingFail (port lane : Nat)
  | pfcPauseRx (port prio quanta : Nat)
  | pfcPauseExpiry (port prio : Nat)
  | pfcWatchdogExpiry (port prio : Nat)
  | fecRateCheck (port : Nat)
  | ptpMsgRx (sub domain form : Nat) (m : PtpMsg) (utc : Nat)
  | ptpLossTimeout
  | ppsEdge (falling : Bool)
  | ppsEdgeMissing
  | minuteTick
  | tallySealExpiry
  | tallyCopyRx (minute flags : Nat) (meters : List (Nat × Nat)) (accFirst accLast accFlags : Nat) (acc : List (Nat × Nat))
  | tallyCopyTimeout
  | tcpIcreq (r : Rx) (o : TcpOpening) (pfv digests maxR2t : Nat)
  | tcpCapsuleCmd (ctx : Nat) (q : Sqe) (data : Bytes) (pdu : TcpPdu) (wellFormed : Bool) (colour : Nat)
  | tcpH2cData (ctx cid offset : Nat) (data : Bytes) (pdu : TcpPdu)
  | tcpTermReq (ctx : Nat)
  | tcpRtoExpiry (ctx : Nat) (again : Bool)
  | tlsHandshakeMsg (r : Rx) (o : TcpOpening) (kind modes : Nat) (identity : Bytes) (tls13 suite secp384 verified : Bool)
  | tlsKeyupdateRx (ctx : Nat) (asks : Bool)
  | roceCmMsg (r : Rx) (kind ctx qpn psn : Nat) (good : Bool)
  | roceSendRx (ctx psn : Nat) (q : Sqe) (data : Bytes) (ce : Bool) (colour : Nat)
  | roceReadResponseRx (ctx : Nat) (p : RocePkt) (data : Bytes)
  | roceAckRx (ctx : Nat) (p : RocePkt) (kind : Nat)
  | roceRemoteOpRx (ctx psn : Nat)
  | roceCnpRx (ctx : Nat)
  | roceAlphaTimer (ctx path : Nat)
  | roceIncreaseTimer (ctx path : Nat)
  | roceMinRateHold (ctx : Nat)
  | roceAckTimeout (ctx : Nat)
  | connect (r : Rx) (verMin verMax hostCid segMax pathsMax firstPsn : Nat) (nonce identity : Bytes)
  | confirm (cid : Nat) (r : Rx) (proof : Bytes)
  | h2cData (p : DPkt) (r : Rx) (data : Bytes)
  | h2cCmd (p : DPkt) (r : Rx) (q : Sqe)
  | ack (p : DPkt) (r : Rx) (x : SackRange) (reqUnits cePaths nextMsn : Nat)
  | nack (p : DPkt) (r : Rx) (cum : Nat) (ranges : List (Nat × Nat))
  | probe (p : DPkt) (r : Rx) (body : Bytes)
  | probeReply (p : DPkt) (r : Rx)
  | rekey (p : DPkt) (r : Rx) (newGen : Nat)
  | rekeyAck (p : DPkt) (r : Rx) (newGen : Nat)
  | close (p : DPkt) (r : Rx) (reason : Nat)
  | reorderTimerExpiry (ctx : Nat)
  | ackDelayExpiry (ctx : Nat)
  | droveRtoExpiry (ctx psn : Nat)
  | probeTimer (ctx path : Nat)
  | connDeadExpiry (ctx : Nat)
  | rekeyGraceExpiry (ctx : Nat)
  | connectCacheExpiry (ctx : Nat)
  | closeHoldExpiry (ctx : Nat)
  | creditGrant
  | creditWaitExpiry (ctx : Nat)
  | pathAgeSweep (half : Nat)
  | learningMsgRx (x : LearningHead) (seq key : Nat) (e : PathEntry)
  | exchangeWindowEnd
  | commandIntake (ctx : Nat) (q : Sqe) (data : Bytes) (colour : Nat)
  | intakeRelease
  | commandAdmit (isl : Nat)
  | urgentWindowExpiry (isl : Nat)
  | timingWheelSlot (isl : Nat)
  | nvmeRead (isl tag : Nat)
  | nvmeWrite (isl tag : Nat)
  | nvmeFlush (isl tag : Nat)
  | nvmeWriteZeroes (isl tag : Nat)
  | nvmeDsm (isl tag : Nat)
  | nvmeCompare (isl tag : Nat)
  | nvmeVerify (isl tag : Nat)
  | resvRegister (isl tag : Nat)
  | resvAcquire (isl tag : Nat)
  | resvRelease (isl tag : Nat)
  | resvReport (isl tag : Nat)
  | nvmeAbort (tag : Nat)
  | keepAlive (tag : Nat)
  | keepAliveExpiry (cntlid : Nat)
  | fabricsConnect (tag : Nat)
  | fabricsDisconnect (tag : Nat)
  | propertyGet (tag : Nat)
  | propertySet (tag : Nat)
  | identifyCmd (tag : Nat)
  | getLogPage (tag : Nat)
  | setFeatures (tag : Nat)
  | getFeatures (tag : Nat)
  | asyncEventRequest (tag : Nat)
  | namespaceManagement (tag : Nat)
  | namespaceAttachment (tag : Nat)
  | learnComplete (id : Nat) (old : Tab Blk)
  | rehashProgress (half n : Nat)
  | lineFillComplete (volume lba seq : Nat)
  | versionRoomFreed
  | limitRoomFreed
  | dirtyAgeExpiry (volume lba seq : Nat)
  | mirrorLineRx (mseq : Nat) (l : Line)
  | retireRx (mseq volume fold lba count seq : Nat)
  | journalEntryRx (mseq entry : Nat) (e : JEntry)
  | mapDeltaRx (mseq : Nat) (r : DeltaRec)
  | discardRx (mseq volume fold lba count : Nat)
  | mirrorAckRx (held : Nat)
  | mirrorAckSend
  | mirrorAckOverdue
  | hostCompletionSend (ctx : Nat)
  | hbmEccError (place key way : Nat) (uncorrectable : Bool)
  | partnerLineRefetch (volume lba seq : Nat) (copy : Option Blk)
  | drainComplete (scope : Nat)
  | rangeOpComplete
  | dumpPwrFail
  | dumpSag
  | dumpQuiesceEnd
  | dumpSegmentWritten (ok32 ok33 : Bool)
  | dumpCloseDone
  | commitOffer (flock stripe : Nat)
  | journalHeld (entry : Nat)
  | memberWriteComplete (slot cid outcome : Nat)
  | driveReadComplete (slot cid : Nat) (ok : Bool) (blocks : List Bytes)
  | driveCmdTimeout (slot cid : Nat)
  | driveAbortComplete (slot cid : Nat) (aborted : Bool)
  | lateDriveCompletion (slot cid outcome : Nat)
  | penLimitExpiry (slot : Nat)
  | controllerResetDone (slot : Nat) (ok : Bool)
  | driveWakeTimeout (slot : Nat)
  | checkpointTimer
  | checkpointWriteDone (ok32 ok33 : Bool)
  | rbDelayExpiry (flock member : Nat)
  | rebuildStripeDone (slot : Nat)
  | resyncStripeDone (slot : Nat)
  | copybackStripeDone (slot : Nat)
  | scrubStripeDone (slot : Nat)
  | shearProgress (n : Nat)
  | detachProgress (volume n : Nat)
  | fenceTimer (slot : Nat)
  | penResolvedRevisit (slot : Nat)
  | scrubPeriodExpiry (flock : Nat)
  | shearIntervalExpiry
  | acreFree (flock pa : Nat)
  | govCreditInterval
  | laneRelease (slot lane : Nat)
  | telemetrySample (draw : Nat) (railFailed : Bool) (temps : List (Option Int))
  | thermalTrip
  | costLearnInterval (measured theirs : List (Nat × Nat)) (busyThere : List Nat)
  | capExchangeRx (cap share : Nat)
  | shareDivision
  | demandExchange (theirs : List (Nat × Nat))
  | islandPointInterval (acts : List Nat)
  | railSettled (island : Nat) (core : Bool)
  | canaryWarnTrip (island : Nat)
  | canaryFailTrip (island : Nat)
  | recalTimer (island act : Nat) (trips : List (Option Nat))
  | pmbusNoAck
  | gateWindowEdge (slot : Nat)
  | idleNpExpiry (slot : Nat)
  | domainIdle (domain : Nat)
  | domainWakeRequest (domain sender : Nat)
  | shortCircuitTrip (slot amps : Nat)
  | pathSample (slot amps vout vin : Nat)
  | thermalModelStep (slot : Nat) (diode : Option Int)
  | powerGood (slot : Nat)
  | rampTimeout (slot : Nat)
  | retryTimerExpiry (slot : Nat)
  | faultCountClear (slot : Nat)
  | insertDelayExpiry (slot : Nat)
  | presenceChange (slot : Nat) (present : Bool)
  | seatChange (slot : Nat) (seated : Bool)
  | vaultSeatStart (slot : Nat)
  | rampDownDone (slot : Nat)
  | pwarnLeadExpiry (slot : Nat)
  | pwarnFollow (slot : Nat)
  | buttonRelease (slot heldMs : Nat)
  | buttonLongPress (slot : Nat)
  | removalBlinkExpiry (slot : Nat)
  | partnerOffReport (slot : Nat)
  | partnerOffTimeout (slot : Nat)
  | forcedWarningExpiry (slot : Nat)
  | linkTrainTimeout (slot : Nat)
  | driveLinkDown (slot : Nat)
  | linkFailExpiry (slot : Nat)
  | miPollTimer (slot : Nat) (answer : Option (Int × Bool × Bool))
  | laneParityFault (lane : Nat)
  | quarantineExpiry (lane : Nat) (testsPass : Bool)
  | katInterval (isl : Nat) (pass : Bool)
  | entropyHealthFail (test : Nat)
  | drbgReseed (pass : Bool) (requests : Nat)
  | contextFetchDone (isl kind index : Nat) (ok : Bool)
  | genCountExchange (counts : List (Nat × Nat × Nat)) (kek : Option Nat)
  | genAdvanceAck (paddock gen : Nat)
  | genRetire (paddock : Nat) (there : Bool)
  | keyRecordWritten (ok32 ok33 : Bool)
  | whistleSend
  | kickWindowExpiry
  | deadmanExpiry
  | whistleRx (path : Nat) (raw : Bytes)
  | whistleMissInterval (path : Nat)
  | partnerDeclaredFailed (lines : Nat)
  | splitTimeout
  | startWaitExpiry (lines : Nat)
  | crookClaimSettle (fold lines : Nat)
  | crookCompare (lines : Nat)
  | crookLoopbackCheck (own : Nat)
  | takeoverReservationDone (failed : List Nat)
  | takeoverReplayDone (fold : Nat)
  | forwardRecordRx (r : FwdRec)
  | resyncDone
  | failbackTimer
  | handoverDrainDone (fold lines : Nat)
  | handoverDrainTimeout (fold : Nat)
  | healthReportTimer
  | healthReportRx (raw : Bytes)
  | sqPoll (r : Nat)
  | sqEntryFetched (r : Nat) (p : Packet)
  | replyWrite (q : Nat)
  | cqCoalesceExpiry (q : Nat)
  | captureCoalExpiry
  | sessionAccept (port address psk : Nat) (handshakeOk : Bool)
  | sessionPacketRx (session : Nat) (p : Packet)
  | sessionIdleExpiry (session : Nat)
  | eventNoticeCoal (session : Nat) (queueFull : Bool)
  | longopEnd (slot failure : Nat) (results : List LaneResult)
  | flr
  | bmeClear
  | bmeSet
  | d3hotEntry
  | d0Return
  | endpointLinkChange (up : Bool)
  | bar2Tlp (x len : Nat) (data : Option Bytes) (hbmError : Bool)
  | porstAssert
  | porstRelease
  | warmReset
  | startStepDone (reason detail : Nat) (found : StepFound)
  | startStepTimeout (reason detail : Nat)
  | aonRestart
  | trialPromote
  | mapImageTimer
  | eventLogInterval (e : Nat)
  | pmcIncrement (island kind n skid tag state : Nat)
  | driveLinkUp (slot gen width : Nat) (fit : Bool) (cntlid label : Nat)
  | perstReleaseDelay (slot : Nat)
  | driveAdminComplete (slot kind : Nat) (ok : Bool)
  | powerReturn
  | pairCommandRx (cmd : PairCmd) (qualified : List Nat) (blocks : Nat) (response : Option Bytes)
  | removalRequestRx (slot kind : Nat)
  | genAdvanceProposalRx (paddock gen : Nat)
  | lostBlockChangeRx (add : Bool) (r : LostRec)
  | drivePsRequestRx (slot : Nat) (request : Option (Nat × Bool))
  | recordAreaWriteDone (ok32 ok33 : Bool)
  | partnerLinkChange (lanes : Nat)
  | tcpCloseRx (ctx : Nat) (reset : Bool)
  | mgmtSessionCloseRx (session : Nat)
  | msixVectorUnmask (v : Nat)
  | configSpaceWrite (offset value : Nat)
  | refclkOutOfTolerance
  | mgmtCoreWatchdog
  | selfTestRun (kind : Nat) (pass : Bool) (margin : Nat)
  | domainWakeDone (domain : Nat)
  | pmbusAlert
  deriving DecidableEq, Repr

end Sys2Proof
end

