-- ==== Sys2Proof/Config.lean ====
section
/-!
DEFINITION. What an implementation fixes and the spec leaves open. Every constant here is opaque: no proof can see a value of it, so a
statement holds whatever the value is.
-/

namespace Sys2Proof.Config

/-- Fresh numbers of the block: the n-th value that the spec calls for without saying which (random draws, chosen identifiers). The counter is
`Chip.freeN`. -/
opaque free : Nat → Nat

/-- The n-th fresh string of bytes (DRBG output, ephemeral keys). -/
opaque freeBytes : Nat → Bytes

/-- Which of the counter kinds beside those that equal an existing count are defined, the most occurrences of a kind per cycle, and word j of its
name: PMC_KIND shows them as fixed values that the spec does not list (R475). -/
opaque pmcDefined : Nat → Bool
opaque pmcMax : Nat → Nat
opaque pmcName : Nat → Nat → Nat

/-- How many entries a stile holds (R19): the spec gives no depth. -/
opaque stileDepth : Nat

/-- How many of a lookup's bucket reads miss the map cache (R157, R158), and how often its probes are repeated because a write engine has changed a bucket between their two reads of its version
(R147): by lineage, acre and moment. The spec gives neither the replacement of the map cache nor the timing of a lookup against the engine. -/
opaque mapCacheMisses : Nat → Nat → Nat → Nat
opaque probeRepeats : Nat → Nat → Nat → Nat

/-- Where HBM holds the staged blocks of a journal entry and its version list, and the first of its annex blocks, by entry (R239): the spec leaves their places to the chip. -/
opaque stagingAt : Nat → Nat
opaque versionsAt : Nat → Nat
opaque annexAt : Nat → Nat

/-- SHA-384 and the verification of an ECDSA P-384 signature (public key, signature, digest): named by the spec, computed by the chip, opaque here. -/
opaque sha384 : Bytes → Bytes
opaque ecdsaVerify : Bytes → Bytes → Bytes → Bool

/-- HMAC-SHA-384 (key, message), HKDF-SHA-384 extract (salt, input) and expand (key, info, length), AES-256-GCM sealing (key, nonce, additional data,
plaintext; the 16-byte tag last) and opening. -/
opaque hmac384 : Bytes → Bytes → Bytes
opaque hkdfExtract : Bytes → Bytes → Bytes
opaque hkdfExpand : Bytes → Bytes → Nat → Bytes
opaque gcmSeal : Bytes → Bytes → Bytes → Bytes → Bytes
opaque gcmOpen : Bytes → Bytes → Bytes → Bytes → Option Bytes

/-- The key of a lane's mask generator after its n-th re-keying from the DRBG (R347). -/
opaque maskKey : Nat → Nat → Bytes

/-- The frame by which a connection's payload leaves a sub-port (connection, sub-port, payload): the headers of Ethernet, IP, TCP or UDP that their standards put round it; and a TLS record as the
connection seals it (connection, number, plaintext). -/
opaque frameOf : Nat → Nat → Bytes → Bytes
opaque tlsSeal : Nat → Nat → Bytes → Bytes

/-- Does a host's entry permit Namespace Management (R184)? The spec says that an entry may, and gives HOST_SET no parameter for it. -/
opaque hostPermitsNs : Nat → Bool

/-- RFC 5649 key wrap and unwrap (key, bytes), ECDH on P-384 (private scalar, public point), the public point of a scalar, and the fixed test root that
stands in while the debug lock is open (R354). -/
opaque keyWrap : Bytes → Bytes → Bytes
opaque keyUnwrap : Bytes → Bytes → Option Bytes
opaque ecdh : Nat → Bytes → Bytes
opaque p384Pub : Nat → Bytes
opaque testRoot : Bytes

/-- AES-256-XTS (data key, tweak key, tweak, bytes). -/
opaque xtsEncrypt : Bytes → Bytes → Nat → Bytes → Bytes
opaque xtsDecrypt : Bytes → Bytes → Nat → Bytes → Bytes

/-- The Welar layout construction (R224): the number of rows for a geometry (N, w, z) that R224's table does not list, and the members of row r. -/
opaque layoutRows : Nat → Nat → Nat → Nat

opaque layoutRow : Nat → Nat → Nat → Nat → List Nat

/-- What R184 leaves to the NVM Express specifications and to the chip: the bytes of the Identify structures (CNS, index) and of the log pages (page) beside the fields that the
spec fixes, CAP.TO, the arbitration burst, and how many Asynchronous Event Requests a controller may have outstanding. -/
opaque identifyBase : Nat → Nat → Bytes
opaque logBase : Nat → Bytes
opaque capTo : Nat
opaque arbBurst : Nat
opaque aerLimit : Nat

/-- The reason byte of the ledger entry that a thermal trip writes (R311): the spec gives reasons per start step only. -/
opaque tripReason : Nat

end Sys2Proof.Config
end

