-- ==== Sys2Proof/Machine/Bits.lean ====
section
/-!
DEFINITION. Bit fields, byte order, cyclic redundancy checks and window arithmetic: the small calculations that the chapters share.
-/

namespace Sys2Proof.Machine

/-- Bits [hi:lo] of a number (R9). -/
def bits (v hi lo : Nat) : Nat := v / 2 ^ lo % 2 ^ (hi + 1 - lo)

/-- Is bit i set? -/
def bit (v i : Nat) : Bool := decide (v / 2 ^ i % 2 = 1)

def b2n (b : Bool) : Nat := if b then 1 else 0

/-- Set or clear bit i. -/
def setBit (v i : Nat) (b : Bool) : Nat :=
  if bit v i = b then v else if b then v + 2 ^ i else v - 2 ^ i

/-- The number of bits set among the low n. -/
def popCount (v : Nat) : Nat → Nat
  | 0 => 0
  | n + 1 => b2n (bit v n) + popCount v n

/-- The positions of the bits set among the low n, lowest first. -/
def bitList (v n : Nat) : List Nat := (List.range n).filter (fun i => bit v i)

/-- The number whose set bits are those of a list. -/
def maskOf (l : List Nat) : Nat := l.foldl (fun m i => setBit m i true) 0

/-- n bytes of a number, least significant first (registers, HBM, host memory, SPI-NOR: R10). -/
def le : Nat → Nat → Bytes
  | 0, _ => []
  | n + 1, v => BitVec.ofNat 8 (v % 256) :: le n (v / 256)

/-- The number that bytes spell, least significant first. -/
def unle : Bytes → Nat
  | [] => 0
  | b :: bs => b.toNat + 256 * unle bs

/-- n bytes of a number, most significant first (formats on the network: R10). -/
def be (n v : Nat) : Bytes := (le n v).reverse

/-- Pad with zeros to n bytes, or cut. -/
def padTo (n : Nat) (b : Bytes) : Bytes := b.take n ++ List.replicate (n - b.length) 0

def zeros (n : Nat) : Bytes := List.replicate n 0

/-- Keep a number within limits: values outside act as the nearer limit. -/
def clamp (lo hi v : Nat) : Nat := if v < lo then lo else if hi < v then hi else v

/-- 0 acts as 1. -/
def atLeast1 (v : Nat) : Nat := if v = 0 then 1 else v

def ceilDiv (a b : Nat) : Nat := (a + b - 1) / b

/-- Distance of `a` ahead of `b` in window arithmetic of 2^w (R30, R107). -/
def ahead (w a b : Nat) : Nat := (a + 2 ^ w - b % 2 ^ w) % 2 ^ w

/-- One byte into a CRC-16 with polynomial 0x1021, most significant bit first (R25, R454). -/
def crc16Step (crc : Nat) : Nat → Nat
  | 0 => crc
  | n + 1 =>
    let sh := crc * 2 % 65536
    crc16Step (if bit crc 15 then sh ^^^ 0x1021 else sh) n

def crc16From (crc : Nat) : Bytes → Nat
  | [] => crc
  | b :: bs => crc16From (crc16Step (crc ^^^ (b.toNat * 256)) 8) bs

/-- CRC-16, polynomial 0x1021, initial value 0xFFFF (R25, R454). -/
def crc16 (b : Bytes) : Nat := crc16From 0xFFFF b

/-- CRC-32C (Castagnoli): reflected, polynomial 0x82F63B78. The spec names the check; its parameters are the standard's (PRESUMED, assumption 6). -/
def crc32cStep (crc : Nat) : Nat → Nat
  | 0 => crc
  | n + 1 => crc32cStep (if crc % 2 = 1 then (crc / 2) ^^^ 0x82F63B78 else crc / 2) n

def crc32cFrom (crc : Nat) : Bytes → Nat
  | [] => crc
  | b :: bs => crc32cFrom (crc32cStep (crc ^^^ b.toNat) 8) bs

def crc32c (b : Bytes) : Nat := crc32cFrom 0xFFFFFFFF b ^^^ 0xFFFFFFFF

/-- The NVMe CRC-64 (the guard of R191 and R231): reflected, polynomial 0x9A6C9329AC4BC9B5. The spec names the check; its parameters are the
standard's (PRESUMED, assumption 6). -/
def crc64Step (crc : Nat) : Nat → Nat
  | 0 => crc
  | n + 1 => crc64Step (if crc % 2 = 1 then (crc / 2) ^^^ 0x9A6C9329AC4BC9B5 else crc / 2) n

def crc64From (crc : Nat) : Bytes → Nat
  | [] => crc
  | b :: bs => crc64From (crc64Step (crc ^^^ b.toNat) 8) bs

def crc64 (b : Bytes) : Nat := crc64From 0xFFFFFFFFFFFFFFFF b ^^^ 0xFFFFFFFFFFFFFFFF

/-- The value of a signed field of w bits. -/
def signedOf (w v : Nat) : Int := if bit v (w - 1) then (v : Int) - 2 ^ w else v

/-- The bits of a signed value in a field of w bits (two's complement). -/
def ofSigned (w : Nat) (v : Int) : Nat := (v % (2 ^ w : Int)).toNat

/-- Keep a signed value within a signed field of w bits. -/
def clampSigned (w : Nat) (v : Int) : Int :=
  if v < -(2 ^ (w - 1) : Int) then -(2 ^ (w - 1) : Int) else if v > (2 ^ (w - 1) : Int) - 1 then (2 ^ (w - 1) : Int) - 1 else v

/-- Insert into a list kept rising by a key. -/
def insertBy {α : Type} (key : α → Nat) (x : α) : List α → List α
  | [] => [x]
  | y :: ys => if key x < key y then x :: y :: ys else y :: insertBy key x ys

/-- Sort a short list by a key, rising; equal keys keep their order. -/
def sortBy {α : Type} (key : α → Nat) (l : List α) : List α := l.foldl (fun acc x => insertBy key x acc) []

/-- The least of a list, or a default when it is empty. -/
def minOr (d : Nat) : List Nat → Nat
  | [] => d
  | x :: xs => xs.foldl min x

def maxOr (d : Nat) : List Nat → Nat
  | [] => d
  | x :: xs => xs.foldl max x

/-- Add to a list without repeats. -/
def addNew (x : Nat) (l : List Nat) : List Nat := if l.contains x then l else l ++ [x]

end Sys2Proof.Machine
end

