-- ==== Sys2Proof/Machine/Formats.lean ====
section
/-!
DEFINITION. The byte layouts of the records that the chips exchange and that the vaults hold: learning messages (R156), mirror records with journal entries, fences and map deltas (R202, R239, R264, R508), journal
checkpoints (R241), forward records (R387), command packets and their replies (R412, R414), the segments and the closing record of a dump image (R191, R214), the record areas (R509). Little-endian (R10).
-/

namespace Sys2Proof.Machine

/-! ### Command packets and replies (R412, R414) -/

/-- The bytes of a packet with the crc field 0. -/
def Packet.unchecked (p : Packet) : Bytes :=
  le 2 p.opcode ++ le 1 p.fmt ++ le 1 p.flags ++ le 2 p.len64 ++ le 2 p.paddock ++ le 8 p.tag ++ le 4 p.deadlineMs ++ le 8 p.expectGen ++ le 4 0 ++ padTo (64 * p.len64 - 32) p.body

/-- Does the check of a packet hold? Only format 3 has one (R413). -/
def Packet.crcOk (p : Packet) : Bool := p.fmt ≠ 3 || p.crc = crc32c p.unchecked

/-- Units of 64 bytes that a reply takes: header and data, at most 4 KiB. -/
def replyUnits (r : Reply) : Nat := clamp 1 64 (ceilDiv (32 + r.data.length) 64)

/-- The bytes of a reply: the status header, then the data, padded to whole units. -/
def Reply.bytes (r : Reply) (phase : Bool) : Bytes :=
  let sq := match r.src with
    | .ring i => i
    | _ => 0xFF
  padTo (64 * replyUnits r) (le 2 r.opcode ++ le 1 r.fmt ++ le 1 (b2n r.final + 128 * b2n phase) ++ le 2 (replyUnits r) ++ le 2 r.status ++
    (if r.fmt = 1 then le 4 r.tag ++ zeros 4 else le 8 r.tag) ++ le 4 r.handle ++ le 4 r.detail ++ le 1 sq ++ le 1 0 ++ le 2 r.sqHead ++ le 4 r.cfgGen ++ r.data)

/-- A reply as it is written to a unit of a completion ring, and as it goes to a session, which ignores the phase bit. -/
def Reply.toRing (q unit : Nat) (phase : Bool) (r : Reply) : Out := .cqWrite q unit phase r (r.bytes phase)
def Reply.toSession (i : Nat) (r : Reply) : Out := .sessionReply i r (r.bytes false)

/-! ### Learning messages (R156) -/

/-- A message; addresses stand as the 16 bytes of an IPv6 address. -/
def learningBytes (op chip seq conn path : Nat) (e : PathEntry) : Bytes :=
  le 1 op ++ le 1 chip ++ le 2 0 ++ le 4 seq ++ le 4 (conn % 2 ^ 18) ++ le 1 (path % 8) ++ le 1 e.sub ++ le 2 e.srcPort ++ be 16 e.srcAddr ++ be 16 e.dstAddr ++ zeros 16

/-! ### Map entries and deltas (R134, R508) -/

def Entry.words (e : Entry) : Nat × Nat :=
  (e.start + e.k * 2 ^ 40 + e.lineage * 2 ^ 45 + 2 ^ 61 + b2n e.zero * 2 ^ 62, e.pbase + e.flock * 2 ^ 32 + e.owner * 2 ^ 34 + e.birth * 2 ^ 40)

/-- The op of a delta, and its body of 32 bytes. -/
def Delta.op : Delta → Nat
  | .insert _ => 1
  | .remove _ => 2
  | .acre _ _ _ _ _ => 3
  | .freed _ _ _ => 4
  | .bits _ _ _ _ _ => 5
  | .filterOnly _ _ => 6
  | .epoch _ _ _ => 7
  | .resv _ _ _ _ _ => 8

def Delta.body : Delta → Bytes
  | .insert e => le 8 e.words.1 ++ le 8 e.words.2 ++ zeros 16
  | .remove e => le 8 e.words.1 ++ le 8 e.words.2 ++ zeros 16
  | .acre flock pa paddock low high => le 1 flock ++ zeros 3 ++ le 4 pa ++ le 2 paddock ++ zeros 2 ++ le 4 low ++ le 4 high ++ zeros 12
  | .freed flock pa count => le 1 flock ++ zeros 3 ++ le 4 pa ++ le 4 count ++ zeros 20
  | .bits lineage member region on mask =>
    le 2 lineage ++ le 1 (if region.isSome then 0xFF else member) ++ le 1 (b2n on) ++ le 4 mask ++ le 8 (region.getD 0) ++ zeros 16
  | .filterOnly lineage on => le 2 lineage ++ le 1 (b2n on) ++ zeros 29
  | .epoch _ ep barrier => le 4 ep ++ zeros 4 ++ le 8 barrier ++ zeros 16
  | .resv _ ident key action type => le 16 ident ++ le 8 key ++ le 1 action ++ le 1 type ++ zeros 6

/-- The 64-byte record of a delta, its CRC-64 last. -/
def DeltaRec.bytes (r : DeltaRec) : Bytes :=
  let b := le 1 r.change.op ++ le 1 (r.fold % 8) ++ le 2 (r.paddock % 4096) ++ le 2 r.volume ++ zeros 2 ++ le 8 r.admSeq ++ r.change.body ++ le 8 r.dseq
  b ++ le 8 (crc64 b)

/-! ### Journal entries (R239), fences (R264) and checkpoints (R241) -/

/-- The annex blocks that an entry names: what it has staged (R245). -/
def JEntry.annexed (e : JEntry) : List Bytes := if e.annex then (e.staged.vals).map (padTo 4112) else []

/-- The 128 bytes of an entry; the places of its staged blocks, annex and version list are the block's own (R239). A fence, kind 5, holds the place of its operation instead (R264). -/
def JEntry.bytes (id : Nat) (e : JEntry) : Bytes :=
  let at_ := fun (k : Nat) => e.args.getD k 0
  let b :=
    if e.kind = 5 then
      le 1 5 ++ le 1 e.state ++ le 1 (e.flock % 4) ++ le 1 (at_ 0) ++ le 1 (at_ 1) ++ le 1 (at_ 2) ++ le 2 0 ++ le 8 (at_ 3) ++ le 8 e.jgen ++ le 4 (at_ 10) ++ le 4 e.absent ++ le 8 (at_ 5) ++
        le 2 (min (at_ 6) 4095) ++ zeros 6 ++ le 8 (at_ 7) ++ le 4 (at_ 11) ++ le 4 (if at_ 0 = 4 then at_ 8 else 0) ++ zeros 8 ++ le 8 e.openedNs ++ zeros 40
    else
      le 1 e.kind ++ le 1 e.state ++ le 1 (e.flock % 4) ++ le 1 (b2n e.annex + 2 * b2n e.degraded + 4 * b2n e.through + 8 * b2n e.replayed) ++ le 1 e.lo ++ le 1 e.hi ++ le 2 (e.fold % 8) ++
        le 8 (e.stripe % 2 ^ 36) ++ le 8 e.jgen ++ le 4 e.written ++ le 4 e.done ++ le 4 e.absent ++ le 4 e.unknown ++ le 8 (Config.stagingAt id) ++
        le 4 (if e.annex then Config.annexAt id else 0xFFFFFFFF) ++ le 4 e.versions.length ++ le 8 (Config.versionsAt id) ++ le 2 e.volume ++ zeros 6 ++ le 8 e.openedNs ++ zeros 40
  b ++ le 8 (crc64 b)

/-- Entries, then the annex blocks that they name, packed and padded to whole blocks (R240, R241). -/
def journalBody (es : Tab JEntry) : Bytes :=
  let b := es.flatMap (fun e => e.2.bytes e.1) ++ (es.flatMap (fun e => e.2.annexed)).flatten
  padTo (ceilDiv b.length 4096 * 4096) b

/-- The header block of a checkpoint (R241). -/
def checkpointHeader (chip slot jgen time : Nat) (es : Tab JEntry) : Bytes :=
  let h := le 4 0x5356434B ++ le 2 1 ++ le 1 chip ++ le 1 slot ++ le 8 jgen ++ le 8 time ++ le 4 es.length ++ le 4 (es.flatMap (fun e => e.2.annexed)).length ++
    padTo 48 (Config.sha384 (journalBody es))
  padTo 4096 (h ++ padTo 48 (Config.sha384 h))

/-! ### Mirror records (R202) -/

/-- The body of a record. -/
def MirRec.body : MirRec → Bytes
  | .line l => padTo 4096 l.data
  | .journal id e => e.bytes id
  | .delta fold paddock volume admSeq dseq d => DeltaRec.bytes ⟨fold, paddock, volume, admSeq, dseq, d⟩
  | _ => []

/-- The 64-byte header of a record; `paddock` is that of its volume. -/
def MirRec.header (mseq paddock : Nat) (r : MirRec) : Bytes :=
  let head := fun (kind flags volume pad fold lba seq aux app : Nat) =>
    le 1 kind ++ le 1 flags ++ le 2 volume ++ le 2 (pad % 4096) ++ le 1 (fold % 8) ++ le 1 0 ++ le 8 mseq ++ le 8 lba ++ le 8 seq ++ le 8 aux ++ le 4 r.body.length ++ le 2 app ++ zeros 18
  match r with
  | .line l => head 1 (b2n l.through) l.volume l.paddock l.fold l.lba l.seq (crc64 (padTo 4096 l.data)) l.app
  | .retire volume fold lba count seq => head 2 0 volume paddock fold lba seq count 0
  | .journal _ e => head 3 0 0 paddock e.fold 0 0 0 0
  | .delta fold pad _ _ _ _ => head 4 0 0 pad fold 0 0 0 0
  | .discard volume fold lba count => head 5 0 volume paddock fold lba 0 count 0

/-! ### Forward records (R387) -/

/-- The 64 bytes of a submission queue entry (PRESUMED, assumption 9: the NVM Express layout); the descriptor's address stays with the host's connection. -/
def Sqe.bytes (q : Sqe) : Bytes :=
  le 1 q.opc ++ le 1 (q.fuse % 4 + q.psdt % 4 * 64) ++ le 2 q.cid ++ (if q.opc = 0x7F then le 4 q.fctype else le 4 q.nsid) ++ le 8 q.lbtu ++ zeros 16 ++ le 3 q.len ++ le 4 q.key ++ le 1 q.sgl ++
    le 4 q.cdw10 ++ le 4 q.cdw11 ++ le 4 q.cdw12 ++ le 4 q.cdw13 ++ le 4 q.cdw14 ++ le 4 q.cdw15

/-- What the header of a forward record says of the command that it is about. -/
structure FwdHead where
  low     : Bool
  fold    : Nat
  cls     : Nat
  host    : Nat
  paddock : Nat
  volume  : Nat
  ctx     : Nat
  cid     : Nat
  deriving DecidableEq, Repr

/-- The class code of a forward record: 0 admin, 1 urgent to 4 low. -/
def fwdClass (cls : Nat) : Nat := if cls = 4 then 0 else cls + 1

def HostCmd.fwdHead (k : HostCmd) : FwdHead := ⟨k.low, k.fold, fwdClass k.cls, k.host, k.paddock, k.volume.getD 0, k.ctx % 2 ^ 24, k.sqe.cid⟩

/-- The 32-byte header and the body of a record. The queue head and identifier of a completion are those of the host's queue, which the forwarder holds: they are 0 here (DESIGN CHOICE, assumption 8). -/
def FwdRec.bytes (h : FwdHead) (r : FwdRec) : Bytes :=
  let head := fun (kind tag offset : Nat) (body : Bytes) =>
    le 1 kind ++ le 1 (b2n h.low) ++ le 1 (h.fold % 8) ++ le 1 h.cls ++ le 4 tag ++ le 2 h.host ++ le 2 (h.paddock % 4096) ++ le 2 h.volume ++ le 2 0 ++ le 4 offset ++ le 4 body.length ++ le 4 h.ctx ++
      le 4 0 ++ body
  match r with
  | .command tag _ _ _ _ _ _ _ _ q d => head 1 tag 0 (q.bytes ++ d)
  | .data tag offset b => head 2 tag offset b
  | .completion tag sct sc dw0 => head 3 tag 0 (le 8 dw0 ++ le 2 0 ++ le 2 0 ++ le 2 h.cid ++ le 2 ((sc + sct * 256) * 2))
  | .abort tag _ q => head 4 tag 0 q.bytes

/-- Send a forward record about a command. -/
def FwdRec.out (h : FwdHead) (r : FwdRec) : Out := .forward r (r.bytes h)

/-! ### Dump images (R191, R192, R214) -/

def dumpMagic : Nat := 0x5356444D

/-- The image header (R214). -/
def dumpHeaderBytes (chipB : Bool) (seq time trigger : Nat) : Bytes :=
  let head := le 4 dumpMagic ++ le 2 1 ++ le 1 (b2n chipB) ++ le 1 0 ++ le 8 seq ++ le 8 time ++ le 1 trigger ++ zeros 7
  padTo 4096 (head ++ padTo 48 (Config.sha384 head))

/-- The code of a line's state (R192). -/
def lineCode : LineSt → Nat
  | .filling => 1
  | .clean => 2
  | .dirty => 3
  | .committing => 4
  | .evicting => 5
  | .mirror => 6

/-- A line's descriptor (R191); `gen` is 0 outside a dump image. -/
def descriptor (l : Line) (gen : Nat) : Bytes :=
  le 8 (l.lba % 2 ^ 50 + lineCode l.st * 2 ^ 50 + b2n l.poisoned * 2 ^ 54 + b2n l.through * 2 ^ 55 + gen % 256 * 2 ^ 56) ++ le 8 l.seq ++
    le 8 (crc64 (padTo 4096 l.data)) ++ le 2 l.volume ++ le 2 (l.paddock % 4096 + l.fold % 8 * 4096) ++ le 2 (min l.pins 0xFFFF) ++ le 2 l.app

/-- A segment before its trailer: the header block, then the payload padded to whole blocks. -/
def segmentHead (seq index kind items : Nat) (payload : Bytes) : Bytes :=
  let n := ceilDiv payload.length 4096
  padTo 4096 (le 4 dumpMagic ++ le 1 kind ++ zeros 3 ++ le 8 seq ++ le 4 index ++ le 4 (n + 2) ++ le 4 items) ++ padTo (n * 4096) payload

/-- The digest of a segment. -/
def segmentDigest (head : Bytes) : Bytes := padTo 48 (Config.sha384 head)

/-- The trailer block of a segment. -/
def segmentTrailer (seq index : Nat) (head : Bytes) : Bytes := padTo 4096 (segmentDigest head ++ le 8 seq ++ le 4 index)

/-- The closing record. -/
def closingBytes (seq segments flags lines : Nat) (digests : List Bytes) (events : List Nat) : Bytes :=
  padTo 4096 (le 4 dumpMagic ++ le 4 0 ++ le 8 seq ++ le 4 segments ++ le 4 flags ++ le 8 lines ++ padTo 48 (Config.sha384 digests.flatten) ++ padTo 128 (events.flatMap (fun e => le 4 e)))

/-! ### Record areas (R509) -/

/-- A record of the lost-block list (R273). -/
def LostRec.bytes (r : LostRec) : Bytes :=
  le 1 1 ++ le 1 r.op ++ le 1 r.flock ++ le 1 r.pos ++ le 1 r.blk ++ le 1 0 ++ le 2 0 ++ le 8 r.stripe ++ le 4 r.acre ++ le 4 0 ++ le 8 r.time

/-- Byte offset of the stale map of a member. -/
def staleMapAt (flock m : Nat) : Nat := 37 * 1048576 + (flock * 32 + m) * 524288

/-- The 4 KiB block of a stale map that holds a region's bit. -/
def staleBlock (regions : List Nat) (region : Nat) : Bytes :=
  let base := region / 32768 * 32768
  (List.range 4096).flatMap (fun i => le 1 ((List.range 8).map (fun b => b2n (regions.contains (base + i * 8 + b)) * 2 ^ b)).sum)

/-- A stale-map descriptor: the map of a member that is in use, by the flock's label_gen when marking began. -/
def staleDescriptor (f : Flock) (m : Nat) : Bytes :=
  match f.stale.get? m with
  | some l => padTo 16 f.uuid ++ le 1 m ++ le 1 1 ++ zeros 6 ++ le 8 (f.staleGen.getD m 0) ++ le 4 l.length ++ zeros 28
  | none => zeros 64

/-- A copy of the area header, 16 KiB. -/
def areaHeader (chipB : Bool) (seq : Nat) (flocks : Tab Flock) : Bytes :=
  let descs := (List.range 4).flatMap (fun n => (List.range 32).flatMap (fun m => match flocks.get? n with
    | some f => staleDescriptor f m
    | none => zeros 64))
  let b := padTo 16336 (le 4 0x53565241 ++ le 2 1 ++ le 1 (b2n chipB) ++ le 1 0 ++ le 8 seq ++ zeros 48 ++ descs)
  b ++ padTo 48 (Config.sha384 b)

/-- Block k of the lost-block list, 128 records. -/
def lostBlock (l : List LostRec) (k : Nat) : Bytes := padTo 4096 (((l.drop (k * 128)).take 128).flatMap LostRec.bytes)

/-- A header of the lost-block list. -/
def lostHeader (seq count : Nat) : Bytes :=
  let b := le 4 0x53564C42 ++ le 2 1 ++ le 2 0 ++ le 8 seq ++ le 4 count ++ le 4 0
  padTo 4096 (b ++ le 8 (crc64 b))

/-- Bytes in whole blocks of 4 KiB. -/
def wholeBlocks (b : Bytes) : Bytes := padTo (ceilDiv b.length 4096 * 4096) b

/-- The acre-group table of a flock record: the fold of each group, 0xFF for an unassigned one. -/
def groupTable (f : Flock) (acres : Nat) : Bytes := wholeBlocks ((List.range (ceilDiv acres 1024)).flatMap (fun g => le 1 (f.groups.getD g 0xFF)))

end Sys2Proof.Machine
end

