-- ==== Sys2Proof/Machine/Reg.lean ====
section
/-!
DEFINITION. What a BAR0 register is (R10 to R14, R402, R403): its address, its one or two indices, its fields with their bits, types and
reset values, and which indices the SV1816 lacks (R5). The registers themselves are listed in RegMapNet, RegMapStore and RegMapCtl.
-/

namespace Sys2Proof.Machine

/-- What the fuses and the strap fix for good: the grade (R4; `half` is the SV1816), which chip of the shelf this is, and the serial number. -/
structure Ident where
  half   : Bool
  chipB  : Bool
  serial : Nat
  deriving DecidableEq, Repr

/-- Register types (R11). -/
inductive RegType where
  | ro | rw | wo | w1c | w1s | rwl
  deriving DecidableEq, Repr

/-- Which indices of a register the SV1816 lacks (R3, R5, R15, R308). -/
inductive Absence where
  | always | port | slot | cmd | stack | lane | ciphIsl | attach | island | domain | host | paddock | volume
  deriving DecidableEq, Repr

/-- Where a register sits: base address, stride and count of its first and of its second index, and what the SV1816 lacks of it. -/
structure Geo where
  base    : Nat
  stride1 : Nat
  count1  : Nat
  stride2 : Nat
  count2  : Nat
  absence : Absence

/-- A field of a register: low bit, width, type, reset value by grade and indices, whether a warm reset keeps it (R13), and whether the
management host may write it directly (R403: a register that its chapter reserves for firmware ignores host writes). -/
structure Field where
  geo   : Geo
  lo    : Nat
  width : Nat
  ty    : RegType
  rst   : Ident → Nat → Nat → Nat
  kept  : Bool
  host  : Bool

/-- A register: its place, its fields, reserved bits left out (they read as 0, R12), and whether it is 64 bits wide (R14). -/
structure Reg where
  geo    : Geo
  fields : List Field
  wide   : Bool

/-! ### What the SV1816 lacks -/

/-- Attach points of fused-off islands (R15). -/
def attachAbsent (d : Ident) (i : Nat) : Bool :=
  d.half && [4, 5, 6, 7, 10, 11, 14, 15, 17, 20, 21, 24, 27, 28].contains i

/-- Islands marked off (R15). -/
def islandAbsent (d : Ident) (i : Nat) : Bool :=
  d.half && [4, 5, 6, 7, 10, 11, 16, 17, 19, 22, 23, 26, 29, 30].contains i

/-- Power domains absent (R308). -/
def domainAbsent (d : Ident) (i : Nat) : Bool :=
  d.half && [4, 5, 6, 7, 12, 13, 14, 15, 18, 19, 24, 25, 27, 29, 32, 33, 37, 38, 39, 42, 43, 46, 47, 53].contains i

/-- Slots 16 to 31 are fused off on the SV1816 (R3). -/
def slotAbsent (d : Ident) (i : Nat) : Bool := d.half && decide (16 ≤ i) && decide (i < 32)

/-- Ports 4 to 7 are fused off on the SV1816 (R3). -/
def portAbsent (d : Ident) (i : Nat) : Bool := d.half && decide (4 ≤ i)

/-- Is index `i` of this kind absent in the grade? -/
def Absence.absent (a : Absence) (d : Ident) (i : Nat) : Bool :=
  match a with
  | .always => false
  | .port => portAbsent d i
  | .slot => slotAbsent d i
  | .cmd => d.half && decide (2 ≤ i)
  | .stack => d.half && decide (1 ≤ i)
  | .lane => d.half && decide (12 ≤ i)
  | .ciphIsl => d.half && decide (2 ≤ i)
  | .attach => attachAbsent d i
  | .island => islandAbsent d i
  | .domain => domainAbsent d i
  | .host => d.half && decide (4096 ≤ i)
  | .paddock => d.half && decide (2048 ≤ i)
  | .volume => d.half && decide (32768 ≤ i)

/-! ### Reset values given by tables of other rules -/

/-- Reserve, ceiling and weight of class c (R37). -/
def rstClassRsv (c : Nat) : Nat := [2048, 4096, 4096, 4096, 8192, 8192, 2048, 1024].getD c 0
def rstClassCeil (c : Nat) : Nat := [8192, 32768, 65536, 65536, 65536, 65536, 32768, 16384].getD c 0
/-- C0 and C1 are strict and ignore the weight; their field resets to 1 (DESIGN CHOICE, assumption 4). -/
def rstClassWeight (c : Nat) : Nat := [1, 1, 8, 4, 8, 8, 2, 1].getD c 0

/-- Size exponent of map table k (R137); one lower on the SV1816. -/
def rstTableS (d : Ident) (k : Nat) : Nat :=
  (if k = 0 then 25 else if k = 1 then 23 else if k ≤ 3 then 22 else if k ≤ 5 then 21 else 19) - (if d.half then 1 else 0)

/-- Default cost and duration of drive cost class c (R290). -/
def rstCost (c : Nat) : Nat := [40, 70, 150, 450, 1400, 80, 130, 320, 1100, 3500, 500, 200, 50, 0, 0, 0].getD c 0
def rstEst (c : Nat) : Nat := [100, 120, 200, 500, 1500, 30, 40, 80, 250, 900, 2000, 300, 1000, 0, 0, 0].getD c 0

/-- Default time-current curve (R327). -/
def rstCurveI (k : Nat) : Nat := [4000, 5000, 6000, 8000, 10000, 12000, 15000, 18000].getD k 0
def rstCurveT (k : Nat) : Nat := [2000000, 500000, 100000, 20000, 5000, 1000, 200, 50].getD k 0

/-! ### Addresses -/

/-- The BAR0 address of a register at its indices. -/
def Geo.addr (g : Geo) (i j : Nat) : Nat := g.base + i * g.stride1 + j * g.stride2

/-- The key under which the register file holds a field: 64 times the register's address plus the field's low bit. -/
def Field.key (f : Field) (i j : Nat) : Nat := f.geo.addr i j * 64 + f.lo

/-- The indices under which a register answers an address, if it does. -/
def Geo.index? (g : Geo) (a : Nat) : Option (Nat × Nat) :=
  if a < g.base then none
  else
    let off := a - g.base
    let i := if g.stride1 = 0 then 0 else off / g.stride1
    let r := if g.stride1 = 0 then off else off % g.stride1
    let j := if g.stride2 = 0 then 0 else r / g.stride2
    let r' := if g.stride2 = 0 then r else r % g.stride2
    if i < g.count1 ∧ j < g.count2 ∧ r' = 0 then some (i, j) else none

end Sys2Proof.Machine
end

