-- ==== Sys2Proof/Machine/TypesGov.lean ====
section
/-!
DEFINITION. The state of the governor (chapter 9 of the spec, R286 to R311) and of the slots (chapter 10, R314 to R340) beside their registers.
-/

namespace Sys2Proof.Machine

/-- The governor. Costs released since the last credit interval by slot × 8 + lane; charges of this chip and of the partner since the last learning
interval, and idle energy learned, by slot; slots that had a command (here or from the partner) or changed power state in it; the last command of each slot; the borrowing limit
of R296 in µJ; the draw in mW summed over samples, and their number; operational ceilings and non-operational states by slot; Set Features under way by slot as (state, is it the
non-operational one, tries); the faster point that an island moves to; the partner's cap and share; whether the core rail answers and since when it could be lower; whether the chip has tripped; the domains that wake from power-gated. -/
structure GovState where
  released  : Tab Nat
  charged   : Tab Nat
  theirs    : Tab Nat
  busy      : List Nat
  partnerBusy : List Nat
  pathSent : Tab Nat
  psChanged : List Nat
  lastCmd   : Tab Nat
  borrow    : Nat
  drawSum   : Nat
  samples   : Nat
  ceiling   : Tab Nat
  npState   : Tab Nat
  psWait    : Tab (Nat × Bool × Nat)
  moves     : Tab Nat
  partnerCap : Option (Nat × Nat)
  railDead  : Bool
  railSince : Option Nat
  tripped   : Bool
  coldGated : List Nat
  deriving DecidableEq, Repr

/-- A slot's path, link and button beside the registers: the eight curve accumulators in µs (R327), since when VOUT is low (R329), when the retry timer ends, when power
good began, when presence was lost, the two nodes of the junction model in 10^-9 °C (R328), failed trainings at the generation tried (R317), failed sideband polls
in a row (R322); the moments of a pending removal and of a forced one (R338, R339); whether a restart waits for the junction to cool (R330), whether the drive was pulled
since the lock and when (R335), whether the slot was switched off by a removal (R337) and may be enabled again at an insertion (R332), whether the drive is quiesced, the partner
was asked to switch off, the removal is forced, when a removal was refused, since when the link is down, whether the drive has failed. -/
structure SlotRun where
  acc      : List Nat
  lowSince : Option Nat
  retryEnd : Option Nat
  pgSince  : Option Nat
  goneSince : Option Nat
  tj       : Int
  tc       : Int
  trainFails : Nat
  trainGen : Nat
  miFails  : Nat
  removeAt : Option Nat
  forcedAt : Option Nat
  cooling  : Bool
  pulledSinceLock : Bool
  offByRemoval : Bool
  rearm    : Bool
  quiesced : Bool
  offAsked : Bool
  forcedOff : Bool
  refusedAt : Option Nat
  linkDownAt : Option Nat
  failed   : Bool
  energyPj : Nat
  deriving DecidableEq, Repr

end Sys2Proof.Machine
end

