-- ==== Sys2Proof/Machine/TypesShape.lean ====
section
/-!
DEFINITION. The state of shaping (chapter 9 of the spec, R279 to R285).
-/

namespace Sys2Proof.Machine

/-- A contract (R280): rates in 1,000 cost units per second (0: no limit), bursts in cost units. -/
structure Contract where
  cr    : Nat
  pr    : Nat
  burst : Nat
  peak  : Nat
  deriving DecidableEq, Repr

/-- A bucket (R281): its level in 10^-9 of a cost unit, and the moment of its last refill. -/
structure Bucket where
  level  : Int
  lastNs : Nat
  deriving DecidableEq, Repr

/-- The two buckets of a contract in one CMD island; `terms` has its rates in cost units per second. -/
structure Buckets where
  terms  : Contract
  tc     : Bucket
  tp     : Bucket
  deriving DecidableEq, Repr

/-- Contracts by volume and by paddock; the paddock contracts' parts by paddock × 4 + island; the chip's part of each, its rates in cost units per second; demands counted in the running
and in the last 1 ms and 100 ms; the timing wheel: the volume queues held, each with its eligible time and whether it sits on the coarse wheel. -/
structure ShapeState where
  vols     : Tab Buckets
  pads     : Tab Contract
  chipPart : Tab Contract
  parts    : Tab Buckets
  overhead : Tab Nat
  demandMs : Tab Nat
  demand   : Tab Nat
  partner  : Tab Nat
  wheel    : Tab (Nat × Bool)
  throttled : Tab Nat
  deriving DecidableEq, Repr

end Sys2Proof.Machine
end

