-- ==== Sys2Proof/Machine/TypesTwin.lean ====
section
/-!
DEFINITION. The state of the twin logic (chapter 12 of the spec) beside its registers.
-/

namespace Sys2Proof.Machine

/-- The twin logic. `seq` is the number of the last whistle sent, `seen` the last one accepted by path (0 partner link, 1 whistle link), forgotten when the path is lost;
`leaving` and `theirs` the leaving flag and the owned folds of the partner's last whistle. `everPaired` since the cold start; `soloGo` TWIN_SOLO_START was given, `fuseHold` claims are
held by the chip-pair fuse, `waited` start_wait_s has passed, so that claims of the partner's folds follow a hold's release. `claims` are the folds being claimed (0 start, 1 takeover, 2 handover), `reserved` the folds of a takeover
whose reservation step has ended, `moves` the folds to be handed over, with the chip that takes each and the slot of the long operation. `mine` and
`partner` are the last health reports; `faults` the failure bits that tests found since the last report, `margin` the worst lane margin found, `dirtyNs` when a report last
had a failure bit, `reportNo` its number, `myMask` and `theirMask` the last masks, `corr` and `uncorr` the HBM error counts at the last report. `withdrawn` says that the dead-man logic has fired since the last reset (R391): the register's bit is kept over a warm reset, the withdrawal ends with any reset. -/
structure TwinState where
  seq      : Nat
  seen     : Tab Nat
  leaving  : Bool
  theirs   : Nat
  everPaired : Bool
  soloGo   : Bool
  fuseHold : Bool
  waited   : Bool
  claims   : Tab Nat
  reserved : List Nat
  moves    : Tab (Nat × Option Nat)
  mine     : Bytes
  partner  : Bytes
  faults   : Nat
  margin   : Nat
  dirtyNs  : Nat
  reportNo : Nat
  myMask   : Nat
  theirMask : Nat
  corr     : Nat
  uncorr   : Nat
  withdrawn : Bool
  deriving DecidableEq, Repr

end Sys2Proof.Machine
end

