-- ==== Sys2Proof/Machine/Chip.lean ====
section
/-!
DEFINITION. Everything the block holds but its queue of commands. `connects` counts the CONNECT packets of the running second (R95); `lost` lists
the contexts (with controller and queue where it was connected) whose queue pair is lost and whose commands the command in hand has still to settle (R176): it is empty between commands.
-/

namespace Sys2Proof.Machine

structure Chip where
  id     : Ident
  regs   : Tab Nat
  hbm    : List Host.Cell
  now    : Nat
  clk    : Nat
  freeN  : Nat
  out    : List Out
  fuses  : Nat
  mgmt   : Mgmt
  evt    : EvtState
  tally  : TallyState
  flash  : Flash
  start  : StartState
  swx    : Swx
  ports  : Ports
  heldOut : Tab (List Out)
  conns  : Tab Conn
  ctrls  : Tab Ctrl
  paddocks : Tab Paddock
  hosts  : Tab HostEntry
  grants : Tab Grant
  grantNo : Nat
  vols   : Tab Volume
  map    : MapState
  intake : Intake
  shape  : ShapeState
  creditQ : List Nat
  connects : Nat × Nat
  lost   : List (Nat × Option (Nat × Nat))
  cache  : CacheState
  mirror : Mirror
  twin   : TwinState
  stripes : Stripes
  cipher : Cipher
  gov    : GovState
  slots  : Tab SlotRun
  deriving DecidableEq, Repr

end Sys2Proof.Machine
end

