-- ==== Sys2Proof/Machine/Layout.lean ====
section
/-!
DEFINITION. The layout of HBM (R137, R188, R189): sizes from the spec's tables; the order of the parts, which the spec leaves open, is the
tables' own order (DESIGN CHOICE, assumption 5). In the window's address space stack s begins at s × 24 GiB (chapter 13). Addresses in bytes.
-/

namespace Sys2Proof.Machine

def mib (n : Nat) : Nat := n * 1048576

def stackBytes : Nat := mib 24576

/-- Sizes in MiB of the parts of ONE stack, in R188's order: map half, dirty region, receive pool, line tags, firmware and management area,
stripe staging, cipher context store, journal, path table, scratch, read cache. `one` says that one stack holds everything (SV1816, or the
one-stack layout of R189). -/
def partSizes (one : Bool) : List Nat :=
  if one then [4096, 4096, 512, 320, 256, 192, 128, 64, 32, 32, 14848]
  else [4096, 4096, 512, 160, 128, 96, 64, 32, 16, 16, 15360]

/-- Offset in bytes of part k within its stack. -/
def partBase (one : Bool) (k : Nat) : Nat := mib ((partSizes one).take k).sum

def partSize (one : Bool) (k : Nat) : Nat := mib ((partSizes one).getD k 0)

/-- The firmware and management area of stack s. -/
def fwBase (one : Bool) (s : Nat) : Nat := s * stackBytes + partBase one 4

/-- The management exchange area: the first 64 MiB of the firmware area (R410) of stack 0, or of the stack that is left (`home`, R189), as every area below. -/
def xferBase (one : Bool) (home : Nat := 0) : Nat := fwBase one home

def xferSize : Nat := mib 64

/-- Tally banks, accumulator and partner copies (R484): 2,560 KiB. -/
def tallyBase (one : Bool) (home : Nat := 0) : Nat := fwBase one home + mib 64

/-- Sample ring of the counters (R479): 4,096 records of 32 bytes. -/
def smpBase (one : Bool) (home : Nat := 0) : Nat := fwBase one home + mib 67

/-- Result ring of long-operation slot i (R432): 32,768 records of 32 bytes, 1 MiB. -/
def resBase (one : Bool) (i : Nat) (home : Nat := 0) : Nat :=
  (if one then fwBase one home + mib 128 else fwBase one 1 + mib 64) + i * mib 1

/-- The cipher context store of stack s (R363). -/
def cipherBase (one : Bool) (s : Nat) : Nat := s * stackBytes + partBase one 6

/-- The key-engine scratch: the upper half of the scratch part (R410 names it; its place is DESIGN CHOICE, assumption 5). -/
def keyScratchBase (one : Bool) (s : Nat) : Nat := s * stackBytes + partBase one 9 + partSize one 9 / 2

/-- Map table bases of half h: tables one after another from the stack's base (R137). -/
def mapHalfBase (one : Bool) (h : Nat) (home : Nat := 0) : Nat := if one then home * stackBytes + h * mib 2048 else h * stackBytes

/-- Base of table k of half h as the map's creation lays it out: tables in order, each of 2^s buckets of 64 bytes; k = 21 is the region mask table
that follows them (R137). -/
def mapTableBase (d : Ident) (h k : Nat) (home : Nat := 0) : Nat :=
  mapHalfBase d.half h home + ((List.range k).map (fun j => 2 ^ rstTableS d j * 64)).sum

/-- The last code of the kinds that equal an existing count, or none: class ranges of R475. -/
def pmcCountRanges : List (Nat × Nat) :=
  [(0x000, 0x00C), (0x060, 0x06F), (0x0C0, 0x0CF), (0x100, 0x10F), (0x140, 0x14F), (0x180, 0x19F), (0x1E0, 0x1EF), (0x270, 0x27F), (0x2B0, 0x2BF)]

/-- Is a counter kind defined (R475)? Codes that equal an existing count are; 0x2D0 up are reserved; of the rest the spec gives the number, not the
codes, so PMC_KIND's bit is open. -/
def pmcKindDefined (k : Nat) : Bool :=
  pmcCountRanges.any (fun r => decide (r.1 ≤ k) && decide (k ≤ r.2)) || (decide (k < 0x2D0) && Config.pmcDefined k)

end Sys2Proof.Machine
end

