-- ==== Sys2Proof/Machine/RegMapCtl.lean ====
section
/-!
DEFINITION. The registers of the cipher, the twin logic, the endpoint, the rings, the window, the long operations, the ledger, the fuses, the events, the counters and the tallies: R368, R399, R437, R468 and R487.
-/

namespace Sys2Proof.Machine

def gCIPH_CTL : Geo := ⟨0x800000, 0x0, 1, 0x0, 1, .always⟩
def CIPH_CTL_en : Field := ⟨gCIPH_CTL, 0, 1, .rw, fun _ _ _ => 0, false, false⟩
def CIPH_CTL_auto_advance : Field := ⟨gCIPH_CTL, 1, 1, .rw, fun _ _ _ => 1, false, false⟩
def CIPH_CTL_auto_retire : Field := ⟨gCIPH_CTL, 2, 1, .rw, fun _ _ _ => 1, false, false⟩
def CIPH_CTL : Reg := ⟨gCIPH_CTL, [CIPH_CTL_en, CIPH_CTL_auto_advance, CIPH_CTL_auto_retire], false⟩

def gCIPH_STATUS : Geo := ⟨0x800008, 0x0, 1, 0x0, 1, .always⟩
def CIPH_STATUS_kek_loaded : Field := ⟨gCIPH_STATUS, 0, 1, .ro, fun _ _ _ => 0, false, false⟩
def CIPH_STATUS_debug_open : Field := ⟨gCIPH_STATUS, 1, 1, .ro, fun _ _ _ => 0, false, false⟩
def CIPH_STATUS_entropy_ok : Field := ⟨gCIPH_STATUS, 2, 1, .ro, fun _ _ _ => 0, false, false⟩
def CIPH_STATUS_drbg_ready : Field := ⟨gCIPH_STATUS, 3, 1, .ro, fun _ _ _ => 0, false, false⟩
def CIPH_STATUS_lanes_ok : Field := ⟨gCIPH_STATUS, 8, 24, .ro, fun _ _ _ => 0, false, false⟩
def CIPH_STATUS : Reg := ⟨gCIPH_STATUS, [CIPH_STATUS_kek_loaded, CIPH_STATUS_debug_open, CIPH_STATUS_entropy_ok, CIPH_STATUS_drbg_ready, CIPH_STATUS_lanes_ok], true⟩

def gCIPH_KEK_ID : Geo := ⟨0x800010, 0x0, 1, 0x0, 1, .always⟩
def CIPH_KEK_ID_kek_id : Field := ⟨gCIPH_KEK_ID, 0, 64, .ro, fun _ _ _ => 0, false, false⟩
def CIPH_KEK_ID : Reg := ⟨gCIPH_KEK_ID, [CIPH_KEK_ID_kek_id], true⟩

def gCIPH_DEV_FP : Geo := ⟨0x800018, 0x8, 2, 0x0, 1, .always⟩
def CIPH_DEV_FP_fp : Field := ⟨gCIPH_DEV_FP, 0, 64, .ro, fun _ _ _ => 0, false, false⟩
def CIPH_DEV_FP : Reg := ⟨gCIPH_DEV_FP, [CIPH_DEV_FP_fp], true⟩

def gCIPH_GEN_CFG : Geo := ⟨0x800028, 0x0, 1, 0x0, 1, .always⟩
def CIPH_GEN_CFG_soft_log2 : Field := ⟨gCIPH_GEN_CFG, 0, 6, .rw, fun _ _ _ => 40, false, false⟩
def CIPH_GEN_CFG_kat_interval_s : Field := ⟨gCIPH_GEN_CFG, 16, 16, .rw, fun _ _ _ => 60, false, false⟩
def CIPH_GEN_CFG : Reg := ⟨gCIPH_GEN_CFG, [CIPH_GEN_CFG_soft_log2, CIPH_GEN_CFG_kat_interval_s], true⟩

def gCIPH_KEYREC_AREA : Geo := ⟨0x800030, 0x0, 1, 0x0, 1, .always⟩
def CIPH_KEYREC_AREA_base_lba : Field := ⟨gCIPH_KEYREC_AREA, 0, 48, .rw, fun _ _ _ => 0, false, false⟩
def CIPH_KEYREC_AREA : Reg := ⟨gCIPH_KEYREC_AREA, [CIPH_KEYREC_AREA_base_lba], true⟩

def gCIPH_ENTROPY : Geo := ⟨0x800038, 0x0, 1, 0x0, 1, .always⟩
def CIPH_ENTROPY_rct_fail : Field := ⟨gCIPH_ENTROPY, 0, 1, .w1c, fun _ _ _ => 0, false, false⟩
def CIPH_ENTROPY_apt_fail : Field := ⟨gCIPH_ENTROPY, 1, 1, .w1c, fun _ _ _ => 0, false, false⟩
def CIPH_ENTROPY_since_reseed : Field := ⟨gCIPH_ENTROPY, 32, 32, .ro, fun _ _ _ => 0, false, false⟩
def CIPH_ENTROPY : Reg := ⟨gCIPH_ENTROPY, [CIPH_ENTROPY_rct_fail, CIPH_ENTROPY_apt_fail, CIPH_ENTROPY_since_reseed], true⟩

def gCIPH_LANE : Geo := ⟨0x800100, 0x8, 24, 0x0, 1, .lane⟩
def CIPH_LANE_state : Field := ⟨gCIPH_LANE, 0, 2, .ro, fun _ _ _ => 0, false, false⟩
def CIPH_LANE_faults : Field := ⟨gCIPH_LANE, 8, 8, .ro, fun _ _ _ => 0, true, false⟩
def CIPH_LANE_kat_runs : Field := ⟨gCIPH_LANE, 16, 16, .ro, fun _ _ _ => 0, true, false⟩
def CIPH_LANE : Reg := ⟨gCIPH_LANE, [CIPH_LANE_state, CIPH_LANE_faults, CIPH_LANE_kat_runs], true⟩

def gCIPH_CACHE_STAT : Geo := ⟨0x800200, 0x8, 3, 0x0, 1, .ciphIsl⟩
def CIPH_CACHE_STAT_conn_used : Field := ⟨gCIPH_CACHE_STAT, 0, 14, .ro, fun _ _ _ => 0, false, false⟩
def CIPH_CACHE_STAT_psk_used : Field := ⟨gCIPH_CACHE_STAT, 16, 11, .ro, fun _ _ _ => 0, false, false⟩
def CIPH_CACHE_STAT_pad_used : Field := ⟨gCIPH_CACHE_STAT, 32, 11, .ro, fun _ _ _ => 0, false, false⟩
def CIPH_CACHE_STAT : Reg := ⟨gCIPH_CACHE_STAT, [CIPH_CACHE_STAT_conn_used, CIPH_CACHE_STAT_psk_used, CIPH_CACHE_STAT_pad_used], true⟩

def gCIPH_PAD_SEL : Geo := ⟨0x800300, 0x0, 1, 0x0, 1, .always⟩
def CIPH_PAD_SEL_paddock : Field := ⟨gCIPH_PAD_SEL, 0, 12, .rw, fun _ _ _ => 0, false, true⟩
def CIPH_PAD_SEL : Reg := ⟨gCIPH_PAD_SEL, [CIPH_PAD_SEL_paddock], true⟩

def gCIPH_PAD_VIEW0 : Geo := ⟨0x800308, 0x0, 1, 0x0, 1, .always⟩
def CIPH_PAD_VIEW0_key_id : Field := ⟨gCIPH_PAD_VIEW0, 0, 64, .ro, fun _ _ _ => 0, false, false⟩
def CIPH_PAD_VIEW0 : Reg := ⟨gCIPH_PAD_VIEW0, [CIPH_PAD_VIEW0_key_id], true⟩

def gCIPH_PAD_VIEW1 : Geo := ⟨0x800310, 0x0, 1, 0x0, 1, .always⟩
def CIPH_PAD_VIEW1_g_lo : Field := ⟨gCIPH_PAD_VIEW1, 0, 32, .ro, fun _ _ _ => 0, false, false⟩
def CIPH_PAD_VIEW1_g_cur : Field := ⟨gCIPH_PAD_VIEW1, 32, 32, .ro, fun _ _ _ => 0, false, false⟩
def CIPH_PAD_VIEW1 : Reg := ⟨gCIPH_PAD_VIEW1, [CIPH_PAD_VIEW1_g_lo, CIPH_PAD_VIEW1_g_cur], true⟩

def gCIPH_PAD_VIEW2 : Geo := ⟨0x800318, 0x0, 1, 0x0, 1, .always⟩
def CIPH_PAD_VIEW2_count : Field := ⟨gCIPH_PAD_VIEW2, 0, 45, .ro, fun _ _ _ => 0, false, false⟩
def CIPH_PAD_VIEW2_state : Field := ⟨gCIPH_PAD_VIEW2, 45, 2, .ro, fun _ _ _ => 0, false, false⟩
def CIPH_PAD_VIEW2 : Reg := ⟨gCIPH_PAD_VIEW2, [CIPH_PAD_VIEW2_count, CIPH_PAD_VIEW2_state], true⟩

def gCIPH_CNT : Geo := ⟨0x800800, 0x8, 16, 0x0, 1, .always⟩
def CIPH_CNT_count : Field := ⟨gCIPH_CNT, 0, 48, .ro, fun _ _ _ => 0, true, false⟩
def CIPH_CNT_stuck : Field := ⟨gCIPH_CNT, 63, 1, .ro, fun _ _ _ => 0, false, false⟩
def CIPH_CNT : Reg := ⟨gCIPH_CNT, [CIPH_CNT_count, CIPH_CNT_stuck], true⟩

def gTWIN_CTL : Geo := ⟨0x900000, 0x0, 1, 0x0, 1, .always⟩
def TWIN_CTL_en : Field := ⟨gTWIN_CTL, 0, 1, .rw, fun _ _ _ => 0, false, false⟩
def TWIN_CTL_auto_failback : Field := ⟨gTWIN_CTL, 1, 1, .rw, fun _ _ _ => 1, false, false⟩
def TWIN_CTL_claim_absent : Field := ⟨gTWIN_CTL, 2, 1, .rw, fun _ _ _ => 1, false, false⟩
def TWIN_CTL : Reg := ⟨gTWIN_CTL, [TWIN_CTL_en, TWIN_CTL_auto_failback, TWIN_CTL_claim_absent], false⟩

def gTWIN_STATUS : Geo := ⟨0x900008, 0x0, 1, 0x0, 1, .always⟩
def TWIN_STATUS_pair_state : Field := ⟨gTWIN_STATUS, 0, 3, .ro, fun _ _ _ => 0, false, false⟩
def TWIN_STATUS_chip_id : Field := ⟨gTWIN_STATUS, 3, 1, .ro, fun d _ _ => if d.chipB then 1 else 0, false, false⟩
def TWIN_STATUS_pair_fuse : Field := ⟨gTWIN_STATUS, 4, 1, .ro, fun _ _ _ => 0, false, false⟩
def TWIN_STATUS_deadman_fired : Field := ⟨gTWIN_STATUS, 5, 1, .ro, fun _ _ _ => 0, true, false⟩
def TWIN_STATUS_refuse_reason : Field := ⟨gTWIN_STATUS, 8, 8, .ro, fun _ _ _ => 0, false, false⟩
def TWIN_STATUS_proto_run : Field := ⟨gTWIN_STATUS, 32, 16, .ro, fun _ _ _ => 0, false, false⟩
def TWIN_STATUS_partner_proto : Field := ⟨gTWIN_STATUS, 48, 16, .ro, fun _ _ _ => 0, false, false⟩
def TWIN_STATUS : Reg := ⟨gTWIN_STATUS, [TWIN_STATUS_pair_state, TWIN_STATUS_chip_id, TWIN_STATUS_pair_fuse, TWIN_STATUS_deadman_fired, TWIN_STATUS_refuse_reason, TWIN_STATUS_proto_run, TWIN_STATUS_partner_proto], true⟩

def gTWIN_WHISTLE_CFG : Geo := ⟨0x900010, 0x0, 1, 0x0, 1, .always⟩
def TWIN_WHISTLE_CFG_miss_limit : Field := ⟨gTWIN_WHISTLE_CFG, 0, 8, .rw, fun _ _ _ => 20, false, false⟩
def TWIN_WHISTLE_CFG_kick_to_ms : Field := ⟨gTWIN_WHISTLE_CFG, 8, 8, .rw, fun _ _ _ => 20, false, false⟩
def TWIN_WHISTLE_CFG_deadman_ms : Field := ⟨gTWIN_WHISTLE_CFG, 16, 8, .ro, fun _ _ _ => 50, false, false⟩
def TWIN_WHISTLE_CFG_start_wait_s : Field := ⟨gTWIN_WHISTLE_CFG, 32, 16, .rw, fun _ _ _ => 30, false, false⟩
def TWIN_WHISTLE_CFG : Reg := ⟨gTWIN_WHISTLE_CFG, [TWIN_WHISTLE_CFG_miss_limit, TWIN_WHISTLE_CFG_kick_to_ms, TWIN_WHISTLE_CFG_deadman_ms, TWIN_WHISTLE_CFG_start_wait_s], true⟩

def gTWIN_KICK : Geo := ⟨0x900018, 0x0, 1, 0x0, 1, .always⟩
def TWIN_KICK_kick : Field := ⟨gTWIN_KICK, 0, 1, .wo, fun _ _ _ => 0, false, false⟩
def TWIN_KICK : Reg := ⟨gTWIN_KICK, [TWIN_KICK_kick], false⟩

def gTWIN_WHISTLE_STAT : Geo := ⟨0x900020, 0x0, 1, 0x0, 1, .always⟩
def TWIN_WHISTLE_STAT_miss_link : Field := ⟨gTWIN_WHISTLE_STAT, 0, 8, .ro, fun _ _ _ => 0, false, false⟩
def TWIN_WHISTLE_STAT_miss_wire : Field := ⟨gTWIN_WHISTLE_STAT, 8, 8, .ro, fun _ _ _ => 0, false, false⟩
def TWIN_WHISTLE_STAT_link_ok : Field := ⟨gTWIN_WHISTLE_STAT, 16, 1, .ro, fun _ _ _ => 0, false, false⟩
def TWIN_WHISTLE_STAT_wire_ok : Field := ⟨gTWIN_WHISTLE_STAT, 17, 1, .ro, fun _ _ _ => 0, false, false⟩
def TWIN_WHISTLE_STAT_gen_running : Field := ⟨gTWIN_WHISTLE_STAT, 18, 1, .ro, fun _ _ _ => 0, false, false⟩
def TWIN_WHISTLE_STAT_last_seq : Field := ⟨gTWIN_WHISTLE_STAT, 32, 32, .ro, fun _ _ _ => 0, false, false⟩
def TWIN_WHISTLE_STAT : Reg := ⟨gTWIN_WHISTLE_STAT, [TWIN_WHISTLE_STAT_miss_link, TWIN_WHISTLE_STAT_miss_wire, TWIN_WHISTLE_STAT_link_ok, TWIN_WHISTLE_STAT_wire_ok, TWIN_WHISTLE_STAT_gen_running, TWIN_WHISTLE_STAT_last_seq], true⟩

def gTWIN_FAILBACK_CFG : Geo := ⟨0x900028, 0x0, 1, 0x0, 1, .always⟩
def TWIN_FAILBACK_CFG_failback_s : Field := ⟨gTWIN_FAILBACK_CFG, 0, 16, .rw, fun _ _ _ => 60, false, false⟩
def TWIN_FAILBACK_CFG_drain_to_ms : Field := ⟨gTWIN_FAILBACK_CFG, 16, 16, .rw, fun _ _ _ => 5000, false, false⟩
def TWIN_FAILBACK_CFG_split_ms : Field := ⟨gTWIN_FAILBACK_CFG, 32, 16, .rw, fun _ _ _ => 100, false, false⟩
def TWIN_FAILBACK_CFG_patrol_h : Field := ⟨gTWIN_FAILBACK_CFG, 48, 8, .rw, fun _ _ _ => 24, false, false⟩
def TWIN_FAILBACK_CFG_margin_min : Field := ⟨gTWIN_FAILBACK_CFG, 56, 8, .rw, fun _ _ _ => 10, false, false⟩
def TWIN_FAILBACK_CFG : Reg := ⟨gTWIN_FAILBACK_CFG, [TWIN_FAILBACK_CFG_failback_s, TWIN_FAILBACK_CFG_drain_to_ms, TWIN_FAILBACK_CFG_split_ms, TWIN_FAILBACK_CFG_patrol_h, TWIN_FAILBACK_CFG_margin_min], true⟩

def gTWIN_RESYNC : Geo := ⟨0x900030, 0x0, 1, 0x0, 1, .always⟩
def TWIN_RESYNC_state : Field := ⟨gTWIN_RESYNC, 0, 2, .ro, fun _ _ _ => 0, false, false⟩
def TWIN_RESYNC_remaining : Field := ⟨gTWIN_RESYNC, 32, 32, .ro, fun _ _ _ => 0, false, false⟩
def TWIN_RESYNC : Reg := ⟨gTWIN_RESYNC, [TWIN_RESYNC_state, TWIN_RESYNC_remaining], true⟩

def gTWIN_PLINK : Geo := ⟨0x900038, 0x0, 1, 0x0, 1, .always⟩
def TWIN_PLINK_lanes_up : Field := ⟨gTWIN_PLINK, 0, 16, .ro, fun _ _ _ => 0, false, false⟩
def TWIN_PLINK_width : Field := ⟨gTWIN_PLINK, 16, 5, .ro, fun _ _ _ => 0, false, false⟩
def TWIN_PLINK_replays : Field := ⟨gTWIN_PLINK, 32, 32, .ro, fun _ _ _ => 0, true, false⟩
def TWIN_PLINK : Reg := ⟨gTWIN_PLINK, [TWIN_PLINK_lanes_up, TWIN_PLINK_width, TWIN_PLINK_replays], true⟩

def gTWIN_CROOK : Geo := ⟨0x900040, 0x0, 1, 0x0, 1, .always⟩
def TWIN_CROOK_crook_a : Field := ⟨gTWIN_CROOK, 0, 8, .ro, fun _ _ _ => 0, false, false⟩
def TWIN_CROOK_crook_b : Field := ⟨gTWIN_CROOK, 8, 8, .ro, fun _ _ _ => 0, false, false⟩
def TWIN_CROOK_driven : Field := ⟨gTWIN_CROOK, 16, 8, .ro, fun _ _ _ => 0, false, false⟩
def TWIN_CROOK_loop_err : Field := ⟨gTWIN_CROOK, 24, 8, .w1c, fun _ _ _ => 0, false, false⟩
def TWIN_CROOK : Reg := ⟨gTWIN_CROOK, [TWIN_CROOK_crook_a, TWIN_CROOK_crook_b, TWIN_CROOK_driven, TWIN_CROOK_loop_err], false⟩

def gTWIN_FOLD_CFG : Geo := ⟨0x900100, 0x10, 8, 0x0, 1, .always⟩
def TWIN_FOLD_CFG_bellwether : Field := ⟨gTWIN_FOLD_CFG, 0, 1, .rw, fun _ i _ => i % 2, false, false⟩
def TWIN_FOLD_CFG_hold : Field := ⟨gTWIN_FOLD_CFG, 1, 1, .rw, fun _ _ _ => 0, false, false⟩
def TWIN_FOLD_CFG : Reg := ⟨gTWIN_FOLD_CFG, [TWIN_FOLD_CFG_bellwether, TWIN_FOLD_CFG_hold], false⟩

def gTWIN_FOLD_STAT : Geo := ⟨0x900108, 0x10, 8, 0x0, 1, .always⟩
def TWIN_FOLD_STAT_own_line : Field := ⟨gTWIN_FOLD_STAT, 0, 1, .ro, fun _ _ _ => 0, false, false⟩
def TWIN_FOLD_STAT_partner_line : Field := ⟨gTWIN_FOLD_STAT, 1, 1, .ro, fun _ _ _ => 0, false, false⟩
def TWIN_FOLD_STAT_gate_open : Field := ⟨gTWIN_FOLD_STAT, 2, 1, .ro, fun _ _ _ => 0, false, false⟩
def TWIN_FOLD_STAT_phase : Field := ⟨gTWIN_FOLD_STAT, 3, 3, .ro, fun _ _ _ => 0, false, false⟩
def TWIN_FOLD_STAT_held : Field := ⟨gTWIN_FOLD_STAT, 16, 16, .ro, fun _ _ _ => 0, false, false⟩
def TWIN_FOLD_STAT_moves : Field := ⟨gTWIN_FOLD_STAT, 32, 32, .ro, fun _ _ _ => 0, true, false⟩
def TWIN_FOLD_STAT : Reg := ⟨gTWIN_FOLD_STAT, [TWIN_FOLD_STAT_own_line, TWIN_FOLD_STAT_partner_line, TWIN_FOLD_STAT_gate_open, TWIN_FOLD_STAT_phase, TWIN_FOLD_STAT_held, TWIN_FOLD_STAT_moves], true⟩

def gTWIN_HEALTH_SEL : Geo := ⟨0x900200, 0x0, 1, 0x0, 1, .always⟩
def TWIN_HEALTH_SEL_which : Field := ⟨gTWIN_HEALTH_SEL, 0, 1, .rw, fun _ _ _ => 0, false, true⟩
def TWIN_HEALTH_SEL : Reg := ⟨gTWIN_HEALTH_SEL, [TWIN_HEALTH_SEL_which], true⟩

def gTWIN_HEALTH_VIEW : Geo := ⟨0x900208, 0x8, 32, 0x0, 1, .always⟩
def TWIN_HEALTH_VIEW_bytes : Field := ⟨gTWIN_HEALTH_VIEW, 0, 64, .ro, fun _ _ _ => 0, false, false⟩
def TWIN_HEALTH_VIEW : Reg := ⟨gTWIN_HEALTH_VIEW, [TWIN_HEALTH_VIEW_bytes], true⟩

def gTWIN_CNT : Geo := ⟨0x900400, 0x8, 16, 0x0, 1, .always⟩
def TWIN_CNT_count : Field := ⟨gTWIN_CNT, 0, 48, .ro, fun _ _ _ => 0, true, false⟩
def TWIN_CNT_stuck : Field := ⟨gTWIN_CNT, 63, 1, .ro, fun _ _ _ => 0, false, false⟩
def TWIN_CNT : Reg := ⟨gTWIN_CNT, [TWIN_CNT_count, TWIN_CNT_stuck], true⟩

def gGLB_ID : Geo := ⟨0x0, 0x0, 1, 0x0, 1, .always⟩
def GLB_ID_grade : Field := ⟨gGLB_ID, 0, 16, .ro, fun d _ _ => if d.half then 0x1816 else 0x3432, false, false⟩
def GLB_ID_revision : Field := ⟨gGLB_ID, 16, 8, .ro, fun _ _ _ => 176, false, false⟩
def GLB_ID_chip : Field := ⟨gGLB_ID, 24, 1, .ro, fun d _ _ => if d.chipB then 1 else 0, false, false⟩
def GLB_ID_release : Field := ⟨gGLB_ID, 32, 32, .ro, fun _ _ _ => 0, false, false⟩
def GLB_ID : Reg := ⟨gGLB_ID, [GLB_ID_grade, GLB_ID_revision, GLB_ID_chip, GLB_ID_release], true⟩

def gGLB_SERIAL : Geo := ⟨0x8, 0x0, 1, 0x0, 1, .always⟩
def GLB_SERIAL_serial : Field := ⟨gGLB_SERIAL, 0, 64, .ro, fun d _ _ => d.serial, false, false⟩
def GLB_SERIAL : Reg := ⟨gGLB_SERIAL, [GLB_SERIAL_serial], true⟩

def gGLB_CFG_GEN : Geo := ⟨0x10, 0x0, 1, 0x0, 1, .always⟩
def GLB_CFG_GEN_cfg_gen : Field := ⟨gGLB_CFG_GEN, 0, 64, .ro, fun _ _ _ => 0, true, false⟩
def GLB_CFG_GEN : Reg := ⟨gGLB_CFG_GEN, [GLB_CFG_GEN_cfg_gen], true⟩

def gGLB_START : Geo := ⟨0x18, 0x0, 1, 0x0, 1, .always⟩
def GLB_START_step : Field := ⟨gGLB_START, 0, 4, .ro, fun _ _ _ => 0, false, false⟩
def GLB_START_in_service : Field := ⟨gGLB_START, 4, 1, .ro, fun _ _ _ => 0, false, false⟩
def GLB_START : Reg := ⟨gGLB_START, [GLB_START_step, GLB_START_in_service], false⟩

def gGLB_SCRATCH : Geo := ⟨0x100, 0x8, 4, 0x0, 1, .always⟩
def GLB_SCRATCH_scratch : Field := ⟨gGLB_SCRATCH, 0, 64, .rw, fun _ _ _ => 0, true, true⟩
def GLB_SCRATCH : Reg := ⟨gGLB_SCRATCH, [GLB_SCRATCH_scratch], true⟩

def gRING_SQ_BASE : Geo := ⟨0x40000, 0x40, 16, 0x0, 1, .always⟩
def RING_SQ_BASE_base : Field := ⟨gRING_SQ_BASE, 6, 58, .rw, fun _ _ _ => 0, false, true⟩
def RING_SQ_BASE : Reg := ⟨gRING_SQ_BASE, [RING_SQ_BASE_base], true⟩

def gRING_SQ_CFG : Geo := ⟨0x40008, 0x40, 16, 0x0, 1, .always⟩
def RING_SQ_CFG_size_64 : Field := ⟨gRING_SQ_CFG, 0, 17, .rw, fun _ _ _ => 0, false, true⟩
def RING_SQ_CFG_cq : Field := ⟨gRING_SQ_CFG, 20, 4, .rw, fun _ _ _ => 0, false, true⟩
def RING_SQ_CFG_poll_us : Field := ⟨gRING_SQ_CFG, 32, 10, .rw, fun _ _ _ => 100, false, true⟩
def RING_SQ_CFG : Reg := ⟨gRING_SQ_CFG, [RING_SQ_CFG_size_64, RING_SQ_CFG_cq, RING_SQ_CFG_poll_us], true⟩

def gRING_SQ_CTL : Geo := ⟨0x40010, 0x40, 16, 0x0, 1, .always⟩
def RING_SQ_CTL_en : Field := ⟨gRING_SQ_CTL, 0, 1, .rw, fun _ _ _ => 0, false, true⟩
def RING_SQ_CTL_clear_err : Field := ⟨gRING_SQ_CTL, 1, 1, .wo, fun _ _ _ => 0, false, true⟩
def RING_SQ_CTL_start_head : Field := ⟨gRING_SQ_CTL, 16, 16, .rw, fun _ _ _ => 0, false, true⟩
def RING_SQ_CTL : Reg := ⟨gRING_SQ_CTL, [RING_SQ_CTL_en, RING_SQ_CTL_clear_err, RING_SQ_CTL_start_head], false⟩

def gRING_SQ_STAT : Geo := ⟨0x40018, 0x40, 16, 0x0, 1, .always⟩
def RING_SQ_STAT_state : Field := ⟨gRING_SQ_STAT, 0, 3, .ro, fun _ _ _ => 0, false, true⟩
def RING_SQ_STAT_phase : Field := ⟨gRING_SQ_STAT, 3, 1, .ro, fun _ _ _ => 0, false, true⟩
def RING_SQ_STAT_err_reason : Field := ⟨gRING_SQ_STAT, 4, 4, .ro, fun _ _ _ => 0, false, true⟩
def RING_SQ_STAT_head : Field := ⟨gRING_SQ_STAT, 16, 16, .ro, fun _ _ _ => 0, false, true⟩
def RING_SQ_STAT_fetched : Field := ⟨gRING_SQ_STAT, 32, 32, .ro, fun _ _ _ => 0, false, true⟩
def RING_SQ_STAT : Reg := ⟨gRING_SQ_STAT, [RING_SQ_STAT_state, RING_SQ_STAT_phase, RING_SQ_STAT_err_reason, RING_SQ_STAT_head, RING_SQ_STAT_fetched], true⟩

def gRING_SQ_DB : Geo := ⟨0x40020, 0x40, 16, 0x0, 1, .always⟩
def RING_SQ_DB_poll : Field := ⟨gRING_SQ_DB, 0, 1, .wo, fun _ _ _ => 0, false, true⟩
def RING_SQ_DB : Reg := ⟨gRING_SQ_DB, [RING_SQ_DB_poll], false⟩

def gRING_CQ_BASE : Geo := ⟨0x41000, 0x40, 16, 0x0, 1, .always⟩
def RING_CQ_BASE_base : Field := ⟨gRING_CQ_BASE, 6, 58, .rw, fun _ _ _ => 0, false, true⟩
def RING_CQ_BASE : Reg := ⟨gRING_CQ_BASE, [RING_CQ_BASE_base], true⟩

def gRING_CQ_CFG : Geo := ⟨0x41008, 0x40, 16, 0x0, 1, .always⟩
def RING_CQ_CFG_size_64 : Field := ⟨gRING_CQ_CFG, 0, 17, .rw, fun _ _ _ => 0, false, true⟩
def RING_CQ_CFG_vector : Field := ⟨gRING_CQ_CFG, 24, 6, .rw, fun _ _ _ => 0, false, true⟩
def RING_CQ_CFG_irq_en : Field := ⟨gRING_CQ_CFG, 30, 1, .rw, fun _ _ _ => 0, false, true⟩
def RING_CQ_CFG_en : Field := ⟨gRING_CQ_CFG, 31, 1, .rw, fun _ _ _ => 0, false, true⟩
def RING_CQ_CFG_coal_us : Field := ⟨gRING_CQ_CFG, 32, 16, .rw, fun _ _ _ => 0, false, true⟩
def RING_CQ_CFG_coal_cnt : Field := ⟨gRING_CQ_CFG, 48, 8, .rw, fun _ _ _ => 1, false, true⟩
def RING_CQ_CFG : Reg := ⟨gRING_CQ_CFG, [RING_CQ_CFG_size_64, RING_CQ_CFG_vector, RING_CQ_CFG_irq_en, RING_CQ_CFG_en, RING_CQ_CFG_coal_us, RING_CQ_CFG_coal_cnt], true⟩

def gRING_CQ_HEAD : Geo := ⟨0x41010, 0x40, 16, 0x0, 1, .always⟩
def RING_CQ_HEAD_head : Field := ⟨gRING_CQ_HEAD, 0, 16, .rw, fun _ _ _ => 0, false, true⟩
def RING_CQ_HEAD : Reg := ⟨gRING_CQ_HEAD, [RING_CQ_HEAD_head], false⟩

def gRING_CQ_STAT : Geo := ⟨0x41018, 0x40, 16, 0x0, 1, .always⟩
def RING_CQ_STAT_tail : Field := ⟨gRING_CQ_STAT, 0, 16, .ro, fun _ _ _ => 0, false, true⟩
def RING_CQ_STAT_phase : Field := ⟨gRING_CQ_STAT, 16, 1, .ro, fun _ _ _ => 1, false, true⟩
def RING_CQ_STAT_holding : Field := ⟨gRING_CQ_STAT, 17, 1, .ro, fun _ _ _ => 0, false, true⟩
def RING_CQ_STAT_held : Field := ⟨gRING_CQ_STAT, 32, 16, .ro, fun _ _ _ => 0, false, true⟩
def RING_CQ_STAT : Reg := ⟨gRING_CQ_STAT, [RING_CQ_STAT_tail, RING_CQ_STAT_phase, RING_CQ_STAT_holding, RING_CQ_STAT_held], true⟩

def gRING_CAP_BASE : Geo := ⟨0x42000, 0x0, 1, 0x0, 1, .always⟩
def RING_CAP_BASE_base : Field := ⟨gRING_CAP_BASE, 6, 58, .rw, fun _ _ _ => 0, false, true⟩
def RING_CAP_BASE : Reg := ⟨gRING_CAP_BASE, [RING_CAP_BASE_base], true⟩

def gRING_CAP_CFG : Geo := ⟨0x42008, 0x0, 1, 0x0, 1, .always⟩
def RING_CAP_CFG_en : Field := ⟨gRING_CAP_CFG, 0, 1, .rw, fun _ _ _ => 0, false, true⟩
def RING_CAP_CFG_size_log2 : Field := ⟨gRING_CAP_CFG, 1, 5, .rw, fun _ _ _ => 16, false, true⟩
def RING_CAP_CFG_cap_coal_us : Field := ⟨gRING_CAP_CFG, 16, 16, .rw, fun _ _ _ => 100, false, true⟩
def RING_CAP_CFG : Reg := ⟨gRING_CAP_CFG, [RING_CAP_CFG_en, RING_CAP_CFG_size_log2, RING_CAP_CFG_cap_coal_us], false⟩

def gRING_CAP_PROD : Geo := ⟨0x42010, 0x0, 1, 0x0, 1, .always⟩
def RING_CAP_PROD_prod : Field := ⟨gRING_CAP_PROD, 0, 32, .ro, fun _ _ _ => 0, false, true⟩
def RING_CAP_PROD : Reg := ⟨gRING_CAP_PROD, [RING_CAP_PROD_prod], false⟩

def gRING_CAP_CONS : Geo := ⟨0x42018, 0x0, 1, 0x0, 1, .always⟩
def RING_CAP_CONS_cons : Field := ⟨gRING_CAP_CONS, 0, 32, .rw, fun _ _ _ => 0, false, true⟩
def RING_CAP_CONS : Reg := ⟨gRING_CAP_CONS, [RING_CAP_CONS_cons], false⟩

def gRING_CAP_WB : Geo := ⟨0x42020, 0x0, 1, 0x0, 1, .always⟩
def RING_CAP_WB_addr : Field := ⟨gRING_CAP_WB, 0, 64, .rw, fun _ _ _ => 0, false, true⟩
def RING_CAP_WB : Reg := ⟨gRING_CAP_WB, [RING_CAP_WB_addr], true⟩

def gWIN_CTL_SH : Geo := ⟨0xB00000, 0x0, 1, 0x0, 1, .always⟩
def WIN_CTL_SH_en : Field := ⟨gWIN_CTL_SH, 0, 1, .rw, fun _ _ _ => 0, false, true⟩
def WIN_CTL_SH_wr_en : Field := ⟨gWIN_CTL_SH, 1, 1, .rw, fun _ _ _ => 0, false, true⟩
def WIN_CTL_SH : Reg := ⟨gWIN_CTL_SH, [WIN_CTL_SH_en, WIN_CTL_SH_wr_en], false⟩

def gWIN_BASE_SH : Geo := ⟨0xB00008, 0x0, 1, 0x0, 1, .always⟩
def WIN_BASE_SH_base_2m : Field := ⟨gWIN_BASE_SH, 0, 15, .rw, fun _ _ _ => 0, false, true⟩
def WIN_BASE_SH : Reg := ⟨gWIN_BASE_SH, [WIN_BASE_SH_base_2m], false⟩

def gWIN_SIZE_SH : Geo := ⟨0xB00010, 0x0, 1, 0x0, 1, .always⟩
def WIN_SIZE_SH_size_2m : Field := ⟨gWIN_SIZE_SH, 0, 10, .rw, fun _ _ _ => 512, false, true⟩
def WIN_SIZE_SH : Reg := ⟨gWIN_SIZE_SH, [WIN_SIZE_SH_size_2m], false⟩

def gWIN_COMMIT : Geo := ⟨0xB00018, 0x0, 1, 0x0, 1, .always⟩
def WIN_COMMIT_commit : Field := ⟨gWIN_COMMIT, 0, 1, .wo, fun _ _ _ => 0, false, true⟩
def WIN_COMMIT : Reg := ⟨gWIN_COMMIT, [WIN_COMMIT_commit], false⟩

def gWIN_ACTIVE : Geo := ⟨0xB00020, 0x0, 1, 0x0, 1, .always⟩
def WIN_ACTIVE_en : Field := ⟨gWIN_ACTIVE, 0, 1, .ro, fun _ _ _ => 0, false, true⟩
def WIN_ACTIVE_wr_en : Field := ⟨gWIN_ACTIVE, 1, 1, .ro, fun _ _ _ => 0, false, true⟩
def WIN_ACTIVE_base_2m : Field := ⟨gWIN_ACTIVE, 16, 15, .ro, fun _ _ _ => 0, false, true⟩
def WIN_ACTIVE_size_2m : Field := ⟨gWIN_ACTIVE, 32, 10, .ro, fun _ _ _ => 512, false, true⟩
def WIN_ACTIVE : Reg := ⟨gWIN_ACTIVE, [WIN_ACTIVE_en, WIN_ACTIVE_wr_en, WIN_ACTIVE_base_2m, WIN_ACTIVE_size_2m], true⟩

def gWIN_EPOCH : Geo := ⟨0xB00028, 0x0, 1, 0x0, 1, .always⟩
def WIN_EPOCH_epoch : Field := ⟨gWIN_EPOCH, 0, 32, .ro, fun _ _ _ => 0, false, true⟩
def WIN_EPOCH : Reg := ⟨gWIN_EPOCH, [WIN_EPOCH_epoch], false⟩

def gWIN_XFER : Geo := ⟨0xB00030, 0x0, 1, 0x0, 1, .always⟩
def WIN_XFER_base_2m : Field := ⟨gWIN_XFER, 0, 15, .ro, fun d _ _ => xferBase d.half / 2097152, false, true⟩
def WIN_XFER_size_2m : Field := ⟨gWIN_XFER, 16, 16, .ro, fun _ _ _ => 32, false, true⟩
def WIN_XFER : Reg := ⟨gWIN_XFER, [WIN_XFER_base_2m, WIN_XFER_size_2m], false⟩

def gWIN_UR_LAST : Geo := ⟨0xB00038, 0x0, 1, 0x0, 1, .always⟩
def WIN_UR_LAST_offset : Field := ⟨gWIN_UR_LAST, 0, 30, .ro, fun _ _ _ => 0, false, true⟩
def WIN_UR_LAST_write : Field := ⟨gWIN_UR_LAST, 30, 1, .ro, fun _ _ _ => 0, false, true⟩
def WIN_UR_LAST_valid : Field := ⟨gWIN_UR_LAST, 63, 1, .w1c, fun _ _ _ => 0, false, true⟩
def WIN_UR_LAST : Reg := ⟨gWIN_UR_LAST, [WIN_UR_LAST_offset, WIN_UR_LAST_write, WIN_UR_LAST_valid], true⟩

def gLONGOP_STATUS : Geo := ⟨0xD00000, 0x40, 64, 0x0, 1, .always⟩
def LONGOP_STATUS_status : Field := ⟨gLONGOP_STATUS, 0, 64, .ro, fun _ _ _ => 0, true, true⟩
def LONGOP_STATUS : Reg := ⟨gLONGOP_STATUS, [LONGOP_STATUS_status], true⟩

def gLONGOP_TOTAL : Geo := ⟨0xD00008, 0x40, 64, 0x0, 1, .always⟩
def LONGOP_TOTAL_total : Field := ⟨gLONGOP_TOTAL, 0, 40, .ro, fun _ _ _ => 0, true, true⟩
def LONGOP_TOTAL : Reg := ⟨gLONGOP_TOTAL, [LONGOP_TOTAL_total], true⟩

def gLONGOP_RESULT_COUNT : Geo := ⟨0xD00010, 0x40, 64, 0x0, 1, .always⟩
def LONGOP_RESULT_COUNT_count : Field := ⟨gLONGOP_RESULT_COUNT, 0, 32, .ro, fun _ _ _ => 0, true, true⟩
def LONGOP_RESULT_COUNT_overflow : Field := ⟨gLONGOP_RESULT_COUNT, 32, 1, .ro, fun _ _ _ => 0, false, true⟩
def LONGOP_RESULT_COUNT : Reg := ⟨gLONGOP_RESULT_COUNT, [LONGOP_RESULT_COUNT_count, LONGOP_RESULT_COUNT_overflow], true⟩

def gLONGOP_RES_BASE : Geo := ⟨0xD00018, 0x40, 64, 0x0, 1, .always⟩
def LONGOP_RES_BASE_base_64b : Field := ⟨gLONGOP_RES_BASE, 0, 36, .ro, fun d i _ => resBase d.half i / 64, false, true⟩
def LONGOP_RES_BASE : Reg := ⟨gLONGOP_RES_BASE, [LONGOP_RES_BASE_base_64b], true⟩

def gLONGOP_RES_PROD : Geo := ⟨0xD00020, 0x40, 64, 0x0, 1, .always⟩
def LONGOP_RES_PROD_prod : Field := ⟨gLONGOP_RES_PROD, 0, 32, .ro, fun _ _ _ => 0, false, true⟩
def LONGOP_RES_PROD : Reg := ⟨gLONGOP_RES_PROD, [LONGOP_RES_PROD_prod], false⟩

def gLONGOP_RES_CONS : Geo := ⟨0xD00028, 0x40, 64, 0x0, 1, .always⟩
def LONGOP_RES_CONS_cons : Field := ⟨gLONGOP_RES_CONS, 0, 32, .rw, fun _ _ _ => 0, false, true⟩
def LONGOP_RES_CONS : Reg := ⟨gLONGOP_RES_CONS, [LONGOP_RES_CONS_cons], false⟩

def gLONGOP_INFO : Geo := ⟨0xD00030, 0x40, 64, 0x0, 1, .always⟩
def LONGOP_INFO_opcode : Field := ⟨gLONGOP_INFO, 0, 16, .ro, fun _ _ _ => 0, false, true⟩
def LONGOP_INFO_handle : Field := ⟨gLONGOP_INFO, 16, 32, .ro, fun _ _ _ => 0, false, true⟩
def LONGOP_INFO : Reg := ⟨gLONGOP_INFO, [LONGOP_INFO_opcode, LONGOP_INFO_handle], true⟩

def gLONGOP_START : Geo := ⟨0xD00038, 0x40, 64, 0x0, 1, .always⟩
def LONGOP_START_start_ns : Field := ⟨gLONGOP_START, 0, 64, .ro, fun _ _ _ => 0, false, true⟩
def LONGOP_START : Reg := ⟨gLONGOP_START, [LONGOP_START_start_ns], true⟩

def gLEDGER_STAT : Geo := ⟨0x10000, 0x0, 1, 0x0, 1, .always⟩
def LEDGER_STAT_start_no : Field := ⟨gLEDGER_STAT, 0, 32, .ro, fun _ _ _ => 0, false, false⟩
def LEDGER_STAT_last_step : Field := ⟨gLEDGER_STAT, 32, 4, .ro, fun _ _ _ => 0, false, false⟩
def LEDGER_STAT_held : Field := ⟨gLEDGER_STAT, 36, 1, .ro, fun _ _ _ => 0, false, false⟩
def LEDGER_STAT_recovery : Field := ⟨gLEDGER_STAT, 37, 1, .ro, fun _ _ _ => 0, false, false⟩
def LEDGER_STAT_warm : Field := ⟨gLEDGER_STAT, 38, 1, .ro, fun _ _ _ => 0, false, false⟩
def LEDGER_STAT : Reg := ⟨gLEDGER_STAT, [LEDGER_STAT_start_no, LEDGER_STAT_last_step, LEDGER_STAT_held, LEDGER_STAT_recovery, LEDGER_STAT_warm], true⟩

def gLEDGER_RULE : Geo := ⟨0x10008, 0x0, 1, 0x0, 1, .always⟩
def LEDGER_RULE_eth_off : Field := ⟨gLEDGER_RULE, 0, 32, .ro, fun _ _ _ => 0, false, false⟩
def LEDGER_RULE_part_off : Field := ⟨gLEDGER_RULE, 32, 16, .ro, fun _ _ _ => 0, false, false⟩
def LEDGER_RULE_stack_off : Field := ⟨gLEDGER_RULE, 48, 2, .ro, fun _ _ _ => 0, false, false⟩
def LEDGER_RULE_replay_retry : Field := ⟨gLEDGER_RULE, 50, 1, .ro, fun _ _ _ => 0, false, false⟩
def LEDGER_RULE : Reg := ⟨gLEDGER_RULE, [LEDGER_RULE_eth_off, LEDGER_RULE_part_off, LEDGER_RULE_stack_off, LEDGER_RULE_replay_retry], true⟩

def gLEDGER_RULE_DRV : Geo := ⟨0x10010, 0x8, 2, 0x0, 1, .always⟩
def LEDGER_RULE_DRV_drv_off : Field := ⟨gLEDGER_RULE_DRV, 0, 64, .ro, fun _ _ _ => 0, false, false⟩
def LEDGER_RULE_DRV : Reg := ⟨gLEDGER_RULE_DRV, [LEDGER_RULE_DRV_drv_off], true⟩

def gLEDGER_HOLD_SLOTS : Geo := ⟨0x10020, 0x0, 1, 0x0, 1, .always⟩
def LEDGER_HOLD_SLOTS_held : Field := ⟨gLEDGER_HOLD_SLOTS, 0, 34, .ro, fun _ _ _ => 0, false, false⟩
def LEDGER_HOLD_SLOTS : Reg := ⟨gLEDGER_HOLD_SLOTS, [LEDGER_HOLD_SLOTS_held], true⟩

def gLEDGER_IMAGE : Geo := ⟨0x10028, 0x0, 1, 0x0, 1, .always⟩
def LEDGER_IMAGE_running : Field := ⟨gLEDGER_IMAGE, 0, 1, .ro, fun _ _ _ => 0, false, false⟩
def LEDGER_IMAGE_trial : Field := ⟨gLEDGER_IMAGE, 1, 1, .ro, fun _ _ _ => 0, false, false⟩
def LEDGER_IMAGE_preferred : Field := ⟨gLEDGER_IMAGE, 2, 1, .ro, fun _ _ _ => 0, false, false⟩
def LEDGER_IMAGE_valid : Field := ⟨gLEDGER_IMAGE, 3, 2, .ro, fun _ _ _ => 0, false, false⟩
def LEDGER_IMAGE_rollback : Field := ⟨gLEDGER_IMAGE, 8, 7, .ro, fun _ _ _ => 0, false, false⟩
def LEDGER_IMAGE_release : Field := ⟨gLEDGER_IMAGE, 32, 32, .ro, fun _ _ _ => 0, false, false⟩
def LEDGER_IMAGE : Reg := ⟨gLEDGER_IMAGE, [LEDGER_IMAGE_running, LEDGER_IMAGE_trial, LEDGER_IMAGE_preferred, LEDGER_IMAGE_valid, LEDGER_IMAGE_rollback, LEDGER_IMAGE_release], true⟩

def gLEDGER_ENTRY : Geo := ⟨0x11000, 0x20, 64, 0x8, 4, .always⟩
def LEDGER_ENTRY_bytes : Field := ⟨gLEDGER_ENTRY, 0, 64, .ro, fun _ _ _ => 0, false, false⟩
def LEDGER_ENTRY : Reg := ⟨gLEDGER_ENTRY, [LEDGER_ENTRY_bytes], true⟩

def gFUSE_STAT : Geo := ⟨0x20000, 0x0, 1, 0x0, 1, .always⟩
def FUSE_STAT_sealed : Field := ⟨gFUSE_STAT, 0, 1, .ro, fun _ _ _ => 0, false, false⟩
def FUSE_STAT_debug_locked : Field := ⟨gFUSE_STAT, 1, 1, .ro, fun _ _ _ => 0, false, false⟩
def FUSE_STAT_forced : Field := ⟨gFUSE_STAT, 2, 1, .ro, fun _ _ _ => 0, false, false⟩
def FUSE_STAT_isolation : Field := ⟨gFUSE_STAT, 3, 1, .ro, fun _ _ _ => 0, false, false⟩
def FUSE_STAT_pair : Field := ⟨gFUSE_STAT, 4, 1, .ro, fun _ _ _ => 0, false, false⟩
def FUSE_STAT_crc_err : Field := ⟨gFUSE_STAT, 16, 38, .ro, fun _ _ _ => 0, false, false⟩
def FUSE_STAT : Reg := ⟨gFUSE_STAT, [FUSE_STAT_sealed, FUSE_STAT_debug_locked, FUSE_STAT_forced, FUSE_STAT_isolation, FUSE_STAT_pair, FUSE_STAT_crc_err], true⟩

def gFUSE_KEYHASH : Geo := ⟨0x20010, 0x8, 6, 0x0, 1, .always⟩
def FUSE_KEYHASH_hash : Field := ⟨gFUSE_KEYHASH, 0, 64, .ro, fun _ _ _ => 0, false, false⟩
def FUSE_KEYHASH : Reg := ⟨gFUSE_KEYHASH, [FUSE_KEYHASH_hash], true⟩

def gFUSE_RAW : Geo := ⟨0x21000, 0x8, 256, 0x0, 1, .always⟩
def FUSE_RAW_bits : Field := ⟨gFUSE_RAW, 0, 64, .ro, fun _ _ _ => 0, false, false⟩
def FUSE_RAW : Reg := ⟨gFUSE_RAW, [FUSE_RAW_bits], true⟩

def gEVT_STATUS : Geo := ⟨0x80000, 0x8, 32, 0x0, 1, .always⟩
def EVT_STATUS_status : Field := ⟨gEVT_STATUS, 0, 64, .w1c, fun _ _ _ => 0, true, false⟩
def EVT_STATUS : Reg := ⟨gEVT_STATUS, [EVT_STATUS_status], true⟩

def gEVT_ENABLE : Geo := ⟨0x80100, 0x8, 32, 0x0, 1, .always⟩
def EVT_ENABLE_enable : Field := ⟨gEVT_ENABLE, 0, 64, .rw, fun _ _ _ => 0, true, false⟩
def EVT_ENABLE : Reg := ⟨gEVT_ENABLE, [EVT_ENABLE_enable], true⟩

def gEVT_SUMMARY : Geo := ⟨0x80200, 0x0, 1, 0x0, 1, .always⟩
def EVT_SUMMARY_words : Field := ⟨gEVT_SUMMARY, 0, 32, .ro, fun _ _ _ => 0, false, false⟩
def EVT_SUMMARY : Reg := ⟨gEVT_SUMMARY, [EVT_SUMMARY_words], true⟩

def gEVT_LOG_STAT : Geo := ⟨0x80208, 0x0, 1, 0x0, 1, .always⟩
def EVT_LOG_STAT_next : Field := ⟨gEVT_LOG_STAT, 0, 32, .ro, fun _ _ _ => 0, false, false⟩
def EVT_LOG_STAT_lost : Field := ⟨gEVT_LOG_STAT, 32, 32, .ro, fun _ _ _ => 0, true, false⟩
def EVT_LOG_STAT : Reg := ⟨gEVT_LOG_STAT, [EVT_LOG_STAT_next, EVT_LOG_STAT_lost], true⟩

def gEVT_ROUTE : Geo := ⟨0x81000, 0x8, 2048, 0x0, 1, .always⟩
def EVT_ROUTE_vector : Field := ⟨gEVT_ROUTE, 0, 6, .rw, fun _ _ _ => 0, true, false⟩
def EVT_ROUTE_msix : Field := ⟨gEVT_ROUTE, 6, 1, .rw, fun _ _ _ => 0, true, false⟩
def EVT_ROUTE_fw : Field := ⟨gEVT_ROUTE, 7, 1, .rw, fun _ _ _ => 1, true, false⟩
def EVT_ROUTE : Reg := ⟨gEVT_ROUTE, [EVT_ROUTE_vector, EVT_ROUTE_msix, EVT_ROUTE_fw], true⟩

def gEVT_COUNT : Geo := ⟨0x88000, 0x8, 2048, 0x0, 1, .always⟩
def EVT_COUNT_raises : Field := ⟨gEVT_COUNT, 0, 32, .ro, fun _ _ _ => 0, true, false⟩
def EVT_COUNT_last_s : Field := ⟨gEVT_COUNT, 32, 32, .ro, fun _ _ _ => 0, true, false⟩
def EVT_COUNT : Reg := ⟨gEVT_COUNT, [EVT_COUNT_raises, EVT_COUNT_last_s], true⟩

def gPMC_STAT : Geo := ⟨0xC0000, 0x0, 1, 0x0, 1, .always⟩
def PMC_STAT_sat_index : Field := ⟨gPMC_STAT, 0, 10, .ro, fun _ _ _ => 0, false, false⟩
def PMC_STAT_sat_valid : Field := ⟨gPMC_STAT, 10, 1, .w1c, fun _ _ _ => 0, false, false⟩
def PMC_STAT : Reg := ⟨gPMC_STAT, [PMC_STAT_sat_index, PMC_STAT_sat_valid], true⟩

def gPMC_SMP_BASE : Geo := ⟨0xC0010, 0x0, 1, 0x0, 1, .always⟩
def PMC_SMP_BASE_base_64b : Field := ⟨gPMC_SMP_BASE, 0, 36, .ro, fun d _ _ => smpBase d.half / 64, false, false⟩
def PMC_SMP_BASE : Reg := ⟨gPMC_SMP_BASE, [PMC_SMP_BASE_base_64b], true⟩

def gPMC_SMP_PROD : Geo := ⟨0xC0018, 0x0, 1, 0x0, 1, .always⟩
def PMC_SMP_PROD_prod : Field := ⟨gPMC_SMP_PROD, 0, 32, .ro, fun _ _ _ => 0, false, false⟩
def PMC_SMP_PROD : Reg := ⟨gPMC_SMP_PROD, [PMC_SMP_PROD_prod], false⟩

def gPMC_SMP_CONS : Geo := ⟨0xC0020, 0x0, 1, 0x0, 1, .always⟩
def PMC_SMP_CONS_cons : Field := ⟨gPMC_SMP_CONS, 0, 32, .rw, fun _ _ _ => 0, false, true⟩
def PMC_SMP_CONS : Reg := ⟨gPMC_SMP_CONS, [PMC_SMP_CONS_cons], false⟩

def gPMC_SMP_LOST : Geo := ⟨0xC0028, 0x0, 1, 0x0, 1, .always⟩
def PMC_SMP_LOST_lost : Field := ⟨gPMC_SMP_LOST, 0, 32, .ro, fun _ _ _ => 0, true, false⟩
def PMC_SMP_LOST : Reg := ⟨gPMC_SMP_LOST, [PMC_SMP_LOST_lost], false⟩

def gPMC_CHAIN_HI : Geo := ⟨0xC0030, 0x0, 1, 0x0, 1, .always⟩
def PMC_CHAIN_HI_high : Field := ⟨gPMC_CHAIN_HI, 0, 48, .ro, fun _ _ _ => 0, false, false⟩
def PMC_CHAIN_HI : Reg := ⟨gPMC_CHAIN_HI, [PMC_CHAIN_HI_high], true⟩

def gPMC_CFG : Geo := ⟨0xD0000, 0x10, 1024, 0x0, 1, .always⟩
def PMC_CFG_kind : Field := ⟨gPMC_CFG, 0, 10, .rw, fun _ _ _ => 0, false, false⟩
def PMC_CFG_island : Field := ⟨gPMC_CFG, 16, 6, .rw, fun _ _ _ => 0, false, false⟩
def PMC_CFG_mode : Field := ⟨gPMC_CFG, 24, 2, .rw, fun _ _ _ => 0, false, false⟩
def PMC_CFG_chained : Field := ⟨gPMC_CFG, 26, 1, .ro, fun _ _ _ => 0, false, false⟩
def PMC_CFG : Reg := ⟨gPMC_CFG, [PMC_CFG_kind, PMC_CFG_island, PMC_CFG_mode, PMC_CFG_chained], true⟩

def gPMC_CNT : Geo := ⟨0xD0008, 0x10, 1024, 0x0, 1, .always⟩
def PMC_CNT_count : Field := ⟨gPMC_CNT, 0, 48, .ro, fun _ _ _ => 0, true, false⟩
def PMC_CNT_stuck : Field := ⟨gPMC_CNT, 63, 1, .ro, fun _ _ _ => 0, false, false⟩
def PMC_CNT : Reg := ⟨gPMC_CNT, [PMC_CNT_count, PMC_CNT_stuck], true⟩

def gPMC_RELOAD : Geo := ⟨0xE0000, 0x8, 1024, 0x0, 1, .always⟩
def PMC_RELOAD_reload : Field := ⟨gPMC_RELOAD, 0, 48, .rw, fun _ _ _ => 0, false, false⟩
def PMC_RELOAD : Reg := ⟨gPMC_RELOAD, [PMC_RELOAD_reload], true⟩

def gPMC_KIND : Geo := ⟨0xF0000, 0x40, 1024, 0x0, 1, .always⟩
def PMC_KIND_defined : Field := ⟨gPMC_KIND, 0, 1, .ro, fun _ i _ => b2n (pmcKindDefined i), false, false⟩
def PMC_KIND_max_per_cycle : Field := ⟨gPMC_KIND, 8, 8, .ro, fun _ i _ => Config.pmcMax i % 256, false, false⟩
def PMC_KIND : Reg := ⟨gPMC_KIND, [PMC_KIND_defined, PMC_KIND_max_per_cycle], false⟩

def gPMC_KIND_NAME : Geo := ⟨0xF0008, 0x40, 1024, 0x8, 7, .always⟩
def PMC_KIND_NAME_name : Field := ⟨gPMC_KIND_NAME, 0, 64, .ro, fun _ i j => Config.pmcName i j % 2 ^ 64, false, false⟩
def PMC_KIND_NAME : Reg := ⟨gPMC_KIND_NAME, [PMC_KIND_NAME_name], true⟩

def gTALLY_CTL : Geo := ⟨0x100000, 0x0, 1, 0x0, 1, .always⟩
def TALLY_CTL_en : Field := ⟨gTALLY_CTL, 0, 1, .rw, fun _ _ _ => 0, false, false⟩
def TALLY_CTL : Reg := ⟨gTALLY_CTL, [TALLY_CTL_en], false⟩

def gTALLY_BANK : Geo := ⟨0x100008, 0x0, 1, 0x0, 1, .always⟩
def TALLY_BANK_counting : Field := ⟨gTALLY_BANK, 0, 1, .ro, fun _ _ _ => 0, false, false⟩
def TALLY_BANK_sealed : Field := ⟨gTALLY_BANK, 1, 1, .ro, fun _ _ _ => 0, false, false⟩
def TALLY_BANK_collected : Field := ⟨gTALLY_BANK, 2, 1, .ro, fun _ _ _ => 0, false, false⟩
def TALLY_BANK : Reg := ⟨gTALLY_BANK, [TALLY_BANK_counting, TALLY_BANK_sealed, TALLY_BANK_collected], true⟩

def gTALLY_CLOSED : Geo := ⟨0x100010, 0x0, 1, 0x0, 1, .always⟩
def TALLY_CLOSED_minute : Field := ⟨gTALLY_CLOSED, 0, 48, .ro, fun _ _ _ => 0, false, false⟩
def TALLY_CLOSED_flags : Field := ⟨gTALLY_CLOSED, 48, 8, .ro, fun _ _ _ => 0, false, false⟩
def TALLY_CLOSED : Reg := ⟨gTALLY_CLOSED, [TALLY_CLOSED_minute, TALLY_CLOSED_flags], true⟩

def gTALLY_BASE : Geo := ⟨0x100018, 0x0, 1, 0x0, 1, .always⟩
def TALLY_BASE_base_64b : Field := ⟨gTALLY_BASE, 0, 36, .ro, fun d _ _ => tallyBase d.half / 64, false, false⟩
def TALLY_BASE : Reg := ⟨gTALLY_BASE, [TALLY_BASE_base_64b], true⟩

def gTALLY_ACC : Geo := ⟨0x100020, 0x0, 1, 0x0, 1, .always⟩
def TALLY_ACC_valid : Field := ⟨gTALLY_ACC, 0, 1, .ro, fun _ _ _ => 0, false, false⟩
def TALLY_ACC_flags : Field := ⟨gTALLY_ACC, 8, 8, .ro, fun _ _ _ => 0, false, false⟩
def TALLY_ACC : Reg := ⟨gTALLY_ACC, [TALLY_ACC_valid, TALLY_ACC_flags], false⟩

def gTALLY_ACC_FIRST : Geo := ⟨0x100028, 0x0, 1, 0x0, 1, .always⟩
def TALLY_ACC_FIRST_minute : Field := ⟨gTALLY_ACC_FIRST, 0, 48, .ro, fun _ _ _ => 0, false, false⟩
def TALLY_ACC_FIRST : Reg := ⟨gTALLY_ACC_FIRST, [TALLY_ACC_FIRST_minute], true⟩

def gTALLY_ACC_LAST : Geo := ⟨0x100030, 0x0, 1, 0x0, 1, .always⟩
def TALLY_ACC_LAST_minute : Field := ⟨gTALLY_ACC_LAST, 0, 48, .ro, fun _ _ _ => 0, false, false⟩
def TALLY_ACC_LAST : Reg := ⟨gTALLY_ACC_LAST, [TALLY_ACC_LAST_minute], true⟩

def gTALLY_CNT : Geo := ⟨0x100100, 0x8, 8, 0x0, 1, .always⟩
def TALLY_CNT_count : Field := ⟨gTALLY_CNT, 0, 48, .ro, fun _ _ _ => 0, true, false⟩
def TALLY_CNT_stuck : Field := ⟨gTALLY_CNT, 63, 1, .ro, fun _ _ _ => 0, false, false⟩
def TALLY_CNT : Reg := ⟨gTALLY_CNT, [TALLY_CNT_count, TALLY_CNT_stuck], true⟩

end Sys2Proof.Machine
end

