-- ==== Sys2Proof/Machine/RegMapNet.lean ====
section
/-!
DEFINITION. The registers of the cell switch, the ports, Drove, the map and the command queues: addresses, fields, types and reset values as the tables of R52, R81, R121, R158 and R186 give them.
-/

namespace Sys2Proof.Machine

def gSWX_CTL : Geo := ⟨0xA00000, 0x0, 1, 0x0, 1, .always⟩
def SWX_CTL_plane_en : Field := ⟨gSWX_CTL, 0, 2, .rw, fun _ _ _ => 3, false, true⟩
def SWX_CTL_single_plane : Field := ⟨gSWX_CTL, 2, 1, .ro, fun _ _ _ => 0, false, true⟩
def SWX_CTL_evict_mask : Field := ⟨gSWX_CTL, 8, 8, .rw, fun _ _ _ => 192, false, true⟩
def SWX_CTL : Reg := ⟨gSWX_CTL, [SWX_CTL_plane_en, SWX_CTL_single_plane, SWX_CTL_evict_mask], false⟩

def gSWX_BUF_STATUS : Geo := ⟨0xA00008, 0x0, 1, 0x0, 1, .always⟩
def SWX_BUF_STATUS_free_cells : Field := ⟨gSWX_BUF_STATUS, 0, 18, .ro, fun _ _ _ => 131072, false, false⟩
def SWX_BUF_STATUS_shared_free : Field := ⟨gSWX_BUF_STATUS, 32, 18, .ro, fun _ _ _ => 97280, false, false⟩
def SWX_BUF_STATUS : Reg := ⟨gSWX_BUF_STATUS, [SWX_BUF_STATUS_free_cells, SWX_BUF_STATUS_shared_free], true⟩

def gSWX_BUF_HWM : Geo := ⟨0xA00010, 0x0, 1, 0x0, 1, .always⟩
def SWX_BUF_HWM_hwm_cells : Field := ⟨gSWX_BUF_HWM, 0, 18, .rw, fun _ _ _ => 114688, false, true⟩
def SWX_BUF_HWM_peak_cells : Field := ⟨gSWX_BUF_HWM, 32, 18, .ro, fun _ _ _ => 0, true, true⟩
def SWX_BUF_HWM_peak_clr : Field := ⟨gSWX_BUF_HWM, 63, 1, .wo, fun _ _ _ => 0, false, true⟩
def SWX_BUF_HWM : Reg := ⟨gSWX_BUF_HWM, [SWX_BUF_HWM_hwm_cells, SWX_BUF_HWM_peak_cells, SWX_BUF_HWM_peak_clr], true⟩

def gSWX_RESEQ_CFG : Geo := ⟨0xA00018, 0x0, 1, 0x0, 1, .always⟩
def SWX_RESEQ_CFG_reseq_to : Field := ⟨gSWX_RESEQ_CFG, 0, 16, .rw, fun _ _ _ => 4000, false, true⟩
def SWX_RESEQ_CFG : Reg := ⟨gSWX_RESEQ_CFG, [SWX_RESEQ_CFG_reseq_to], false⟩

def gSWX_STILE_CFG : Geo := ⟨0xA00020, 0x0, 1, 0x0, 1, .always⟩
def SWX_STILE_CFG_wake_to : Field := ⟨gSWX_STILE_CFG, 0, 20, .rw, fun _ _ _ => 1000, false, true⟩
def SWX_STILE_CFG : Reg := ⟨gSWX_STILE_CFG, [SWX_STILE_CFG_wake_to], false⟩

def gSWX_REPLAY_CFG : Geo := ⟨0xA00028, 0x0, 1, 0x0, 1, .always⟩
def SWX_REPLAY_CFG_fault_limit : Field := ⟨gSWX_REPLAY_CFG, 0, 4, .rw, fun _ _ _ => 8, false, true⟩
def SWX_REPLAY_CFG : Reg := ⟨gSWX_REPLAY_CFG, [SWX_REPLAY_CFG_fault_limit], false⟩

def gSWX_RESET_DISCARD : Geo := ⟨0xA00030, 0x0, 1, 0x0, 1, .always⟩
def SWX_RESET_DISCARD_discarded : Field := ⟨gSWX_RESET_DISCARD, 0, 48, .ro, fun _ _ _ => 0, true, false⟩
def SWX_RESET_DISCARD_stuck : Field := ⟨gSWX_RESET_DISCARD, 63, 1, .ro, fun _ _ _ => 0, false, false⟩
def SWX_RESET_DISCARD : Reg := ⟨gSWX_RESET_DISCARD, [SWX_RESET_DISCARD_discarded, SWX_RESET_DISCARD_stuck], true⟩

def gSWX_RESEQ_ERR : Geo := ⟨0xA00040, 0x0, 1, 0x0, 1, .always⟩
def SWX_RESEQ_ERR_dst_ap : Field := ⟨gSWX_RESEQ_ERR, 0, 5, .ro, fun _ _ _ => 0, false, false⟩
def SWX_RESEQ_ERR_src_ap : Field := ⟨gSWX_RESEQ_ERR, 8, 5, .ro, fun _ _ _ => 0, false, false⟩
def SWX_RESEQ_ERR_expected_seq : Field := ⟨gSWX_RESEQ_ERR, 16, 16, .ro, fun _ _ _ => 0, false, false⟩
def SWX_RESEQ_ERR_valid : Field := ⟨gSWX_RESEQ_ERR, 63, 1, .w1c, fun _ _ _ => 0, false, false⟩
def SWX_RESEQ_ERR : Reg := ⟨gSWX_RESEQ_ERR, [SWX_RESEQ_ERR_dst_ap, SWX_RESEQ_ERR_src_ap, SWX_RESEQ_ERR_expected_seq, SWX_RESEQ_ERR_valid], true⟩

def gSWX_CLASS_CFG : Geo := ⟨0xA00100, 0x10, 8, 0x0, 1, .always⟩
def SWX_CLASS_CFG_rsv_cells : Field := ⟨gSWX_CLASS_CFG, 0, 18, .rw, fun _ i _ => rstClassRsv i, false, false⟩
def SWX_CLASS_CFG_ceil_cells : Field := ⟨gSWX_CLASS_CFG, 18, 18, .rw, fun _ i _ => rstClassCeil i, false, false⟩
def SWX_CLASS_CFG_weight : Field := ⟨gSWX_CLASS_CFG, 36, 8, .rw, fun _ i _ => rstClassWeight i, false, false⟩
def SWX_CLASS_CFG : Reg := ⟨gSWX_CLASS_CFG, [SWX_CLASS_CFG_rsv_cells, SWX_CLASS_CFG_ceil_cells, SWX_CLASS_CFG_weight], true⟩

def gSWX_CLASS_STAT : Geo := ⟨0xA00108, 0x10, 8, 0x0, 1, .always⟩
def SWX_CLASS_STAT_occ : Field := ⟨gSWX_CLASS_STAT, 0, 18, .ro, fun _ _ _ => 0, false, false⟩
def SWX_CLASS_STAT_peak : Field := ⟨gSWX_CLASS_STAT, 18, 18, .ro, fun _ _ _ => 0, true, false⟩
def SWX_CLASS_STAT : Reg := ⟨gSWX_CLASS_STAT, [SWX_CLASS_STAT_occ, SWX_CLASS_STAT_peak], true⟩

def gSWX_PUSHOUT_CNT : Geo := ⟨0xA00200, 0x8, 8, 0x0, 1, .always⟩
def SWX_PUSHOUT_CNT_pushed : Field := ⟨gSWX_PUSHOUT_CNT, 0, 48, .ro, fun _ _ _ => 0, true, false⟩
def SWX_PUSHOUT_CNT_stuck : Field := ⟨gSWX_PUSHOUT_CNT, 63, 1, .ro, fun _ _ _ => 0, false, false⟩
def SWX_PUSHOUT_CNT : Reg := ⟨gSWX_PUSHOUT_CNT, [SWX_PUSHOUT_CNT_pushed, SWX_PUSHOUT_CNT_stuck], true⟩

def gSWX_OUT_CFG : Geo := ⟨0xA01000, 0x20, 32, 0x0, 1, .attach⟩
def SWX_OUT_CFG_out_ceil : Field := ⟨gSWX_OUT_CFG, 0, 18, .rw, fun _ _ _ => 16384, false, true⟩
def SWX_OUT_CFG_ap_present : Field := ⟨gSWX_OUT_CFG, 24, 1, .ro, fun d i _ => if attachAbsent d i then 0 else 1, false, true⟩
def SWX_OUT_CFG : Reg := ⟨gSWX_OUT_CFG, [SWX_OUT_CFG_out_ceil, SWX_OUT_CFG_ap_present], false⟩

def gSWX_OUT_STAT : Geo := ⟨0xA01008, 0x20, 32, 0x0, 1, .attach⟩
def SWX_OUT_STAT_queued : Field := ⟨gSWX_OUT_STAT, 0, 18, .ro, fun _ _ _ => 0, false, false⟩
def SWX_OUT_STAT_stalled : Field := ⟨gSWX_OUT_STAT, 32, 1, .ro, fun _ _ _ => 0, false, false⟩
def SWX_OUT_STAT_dup_discards : Field := ⟨gSWX_OUT_STAT, 48, 16, .ro, fun _ _ _ => 0, true, false⟩
def SWX_OUT_STAT : Reg := ⟨gSWX_OUT_STAT, [SWX_OUT_STAT_queued, SWX_OUT_STAT_stalled, SWX_OUT_STAT_dup_discards], true⟩

def gSWX_MIR_CTL : Geo := ⟨0xA02000, 0x40, 4, 0x0, 1, .always⟩
def SWX_MIR_CTL_en : Field := ⟨gSWX_MIR_CTL, 0, 1, .rw, fun _ _ _ => 0, false, false⟩
def SWX_MIR_CTL_src_kind : Field := ⟨gSWX_MIR_CTL, 1, 1, .rw, fun _ _ _ => 0, false, false⟩
def SWX_MIR_CTL_dir : Field := ⟨gSWX_MIR_CTL, 2, 2, .rw, fun _ _ _ => 0, false, false⟩
def SWX_MIR_CTL_src_port : Field := ⟨gSWX_MIR_CTL, 4, 5, .rw, fun _ _ _ => 0, false, false⟩
def SWX_MIR_CTL_dst_kind : Field := ⟨gSWX_MIR_CTL, 9, 1, .rw, fun _ _ _ => 0, false, false⟩
def SWX_MIR_CTL_dst_port : Field := ⟨gSWX_MIR_CTL, 10, 5, .rw, fun _ _ _ => 0, false, false⟩
def SWX_MIR_CTL_snap_64 : Field := ⟨gSWX_MIR_CTL, 16, 8, .rw, fun _ _ _ => 0, false, false⟩
def SWX_MIR_CTL_src_ctx : Field := ⟨gSWX_MIR_CTL, 32, 18, .rw, fun _ _ _ => 0, false, false⟩
def SWX_MIR_CTL : Reg := ⟨gSWX_MIR_CTL, [SWX_MIR_CTL_en, SWX_MIR_CTL_src_kind, SWX_MIR_CTL_dir, SWX_MIR_CTL_src_port, SWX_MIR_CTL_dst_kind, SWX_MIR_CTL_dst_port, SWX_MIR_CTL_snap_64, SWX_MIR_CTL_src_ctx], true⟩

def gSWX_MIR_CNT : Geo := ⟨0xA02008, 0x40, 4, 0x0, 1, .always⟩
def SWX_MIR_CNT_count : Field := ⟨gSWX_MIR_CNT, 0, 48, .ro, fun _ _ _ => 0, true, false⟩
def SWX_MIR_CNT_stuck : Field := ⟨gSWX_MIR_CNT, 63, 1, .ro, fun _ _ _ => 0, false, false⟩
def SWX_MIR_CNT : Reg := ⟨gSWX_MIR_CNT, [SWX_MIR_CNT_count, SWX_MIR_CNT_stuck], true⟩

def gSWX_MIR_LOST : Geo := ⟨0xA02010, 0x40, 4, 0x0, 1, .always⟩
def SWX_MIR_LOST_count : Field := ⟨gSWX_MIR_LOST, 0, 48, .ro, fun _ _ _ => 0, true, false⟩
def SWX_MIR_LOST_stuck : Field := ⟨gSWX_MIR_LOST, 63, 1, .ro, fun _ _ _ => 0, false, false⟩
def SWX_MIR_LOST : Reg := ⟨gSWX_MIR_LOST, [SWX_MIR_LOST_count, SWX_MIR_LOST_stuck], true⟩

def gPORT_CFG : Geo := ⟨0x200000, 0x8000, 8, 0x0, 1, .port⟩
def PORT_CFG_mode : Field := ⟨gPORT_CFG, 0, 2, .rw, fun _ _ _ => 0, false, true⟩
def PORT_CFG_sub_en : Field := ⟨gPORT_CFG, 4, 4, .rw, fun _ _ _ => 0, false, true⟩
def PORT_CFG_an_en : Field := ⟨gPORT_CFG, 8, 1, .rw, fun _ _ _ => 1, false, true⟩
def PORT_CFG_loopback : Field := ⟨gPORT_CFG, 9, 2, .rw, fun _ _ _ => 0, false, true⟩
def PORT_CFG_trust : Field := ⟨gPORT_CFG, 11, 1, .rw, fun _ _ _ => 0, false, true⟩
def PORT_CFG_mtu : Field := ⟨gPORT_CFG, 16, 14, .rw, fun _ _ _ => 9216, false, true⟩
def PORT_CFG : Reg := ⟨gPORT_CFG, [PORT_CFG_mode, PORT_CFG_sub_en, PORT_CFG_an_en, PORT_CFG_loopback, PORT_CFG_trust, PORT_CFG_mtu], false⟩

def gPORT_STATUS : Geo := ⟨0x200008, 0x8000, 8, 0x0, 1, .port⟩
def PORT_STATUS_link_up : Field := ⟨gPORT_STATUS, 0, 4, .ro, fun _ _ _ => 0, false, true⟩
def PORT_STATUS_lane_ok : Field := ⟨gPORT_STATUS, 4, 4, .ro, fun _ _ _ => 0, false, true⟩
def PORT_STATUS_lane_disabled : Field := ⟨gPORT_STATUS, 8, 4, .ro, fun _ _ _ => 0, false, true⟩
def PORT_STATUS : Reg := ⟨gPORT_STATUS, [PORT_STATUS_link_up, PORT_STATUS_lane_ok, PORT_STATUS_lane_disabled], false⟩

def gPORT_PRIO_MAP : Geo := ⟨0x200010, 0x8000, 8, 0x0, 1, .port⟩
def PORT_PRIO_MAP_cls_map : Field := ⟨gPORT_PRIO_MAP, 0, 16, .rw, fun _ _ _ => 0, false, true⟩
def PORT_PRIO_MAP_pfc_en : Field := ⟨gPORT_PRIO_MAP, 16, 8, .rw, fun _ _ _ => 0, false, true⟩
def PORT_PRIO_MAP : Reg := ⟨gPORT_PRIO_MAP, [PORT_PRIO_MAP_cls_map, PORT_PRIO_MAP_pfc_en], false⟩

def gPORT_PFC_CFG : Geo := ⟨0x200018, 0x8000, 8, 0x0, 1, .port⟩
def PORT_PFC_CFG_xoff_kib : Field := ⟨gPORT_PFC_CFG, 0, 12, .rw, fun _ _ _ => 512, false, true⟩
def PORT_PFC_CFG_xon_kib : Field := ⟨gPORT_PFC_CFG, 12, 12, .rw, fun _ _ _ => 384, false, true⟩
def PORT_PFC_CFG_watchdog_ms : Field := ⟨gPORT_PFC_CFG, 32, 16, .rw, fun _ _ _ => 100, false, true⟩
def PORT_PFC_CFG_watchdog_tripped : Field := ⟨gPORT_PFC_CFG, 48, 8, .w1c, fun _ _ _ => 0, false, true⟩
def PORT_PFC_CFG : Reg := ⟨gPORT_PFC_CFG, [PORT_PFC_CFG_xoff_kib, PORT_PFC_CFG_xon_kib, PORT_PFC_CFG_watchdog_ms, PORT_PFC_CFG_watchdog_tripped], true⟩

def gPORT_DSCP_MAP : Geo := ⟨0x200100, 0x8000, 8, 0x8, 64, .port⟩
def PORT_DSCP_MAP_prio : Field := ⟨gPORT_DSCP_MAP, 0, 3, .rw, fun _ _ j => j / 8, false, true⟩
def PORT_DSCP_MAP_precolour : Field := ⟨gPORT_DSCP_MAP, 4, 2, .rw, fun _ _ _ => 0, false, true⟩
def PORT_DSCP_MAP : Reg := ⟨gPORT_DSCP_MAP, [PORT_DSCP_MAP_prio, PORT_DSCP_MAP_precolour], false⟩

def gPORT_FEC_CNT : Geo := ⟨0x200400, 0x8000, 8, 0x8, 2, .port⟩
def PORT_FEC_CNT_count : Field := ⟨gPORT_FEC_CNT, 0, 48, .ro, fun _ _ _ => 0, true, false⟩
def PORT_FEC_CNT_stuck : Field := ⟨gPORT_FEC_CNT, 63, 1, .ro, fun _ _ _ => 0, false, false⟩
def PORT_FEC_CNT : Reg := ⟨gPORT_FEC_CNT, [PORT_FEC_CNT_count, PORT_FEC_CNT_stuck], true⟩

def gPORT_DROP_CNT : Geo := ⟨0x200500, 0x8000, 8, 0x8, 8, .port⟩
def PORT_DROP_CNT_count : Field := ⟨gPORT_DROP_CNT, 0, 48, .ro, fun _ _ _ => 0, true, false⟩
def PORT_DROP_CNT_stuck : Field := ⟨gPORT_DROP_CNT, 63, 1, .ro, fun _ _ _ => 0, false, false⟩
def PORT_DROP_CNT : Reg := ⟨gPORT_DROP_CNT, [PORT_DROP_CNT_count, PORT_DROP_CNT_stuck], true⟩

def gPORT_HURDLE_CNT : Geo := ⟨0x200600, 0x8000, 8, 0x8, 3, .port⟩
def PORT_HURDLE_CNT_count : Field := ⟨gPORT_HURDLE_CNT, 0, 48, .ro, fun _ _ _ => 0, true, false⟩
def PORT_HURDLE_CNT_stuck : Field := ⟨gPORT_HURDLE_CNT, 63, 1, .ro, fun _ _ _ => 0, false, false⟩
def PORT_HURDLE_CNT : Reg := ⟨gPORT_HURDLE_CNT, [PORT_HURDLE_CNT_count, PORT_HURDLE_CNT_stuck], true⟩

def gPORT_FEC_THR : Geo := ⟨0x200410, 0x8000, 8, 0x0, 1, .port⟩
def PORT_FEC_THR_uncorr_per_s : Field := ⟨gPORT_FEC_THR, 0, 32, .rw, fun _ _ _ => 16, false, true⟩
def PORT_FEC_THR : Reg := ⟨gPORT_FEC_THR, [PORT_FEC_THR_uncorr_per_s], false⟩

def gPORT_TIME_CFG : Geo := ⟨0x240000, 0x0, 1, 0x0, 1, .always⟩
def PORT_TIME_CFG_tick_src : Field := ⟨gPORT_TIME_CFG, 0, 2, .rw, fun _ _ _ => 2, false, true⟩
def PORT_TIME_CFG_ptp_port : Field := ⟨gPORT_TIME_CFG, 2, 5, .rw, fun _ _ _ => 0, false, true⟩
def PORT_TIME_CFG_pps_edge : Field := ⟨gPORT_TIME_CFG, 7, 1, .rw, fun _ _ _ => 0, false, true⟩
def PORT_TIME_CFG_ptp_domain : Field := ⟨gPORT_TIME_CFG, 8, 8, .rw, fun _ _ _ => 0, false, true⟩
def PORT_TIME_CFG_utc_offset : Field := ⟨gPORT_TIME_CFG, 32, 16, .rw, fun _ _ _ => 37, false, true⟩
def PORT_TIME_CFG : Reg := ⟨gPORT_TIME_CFG, [PORT_TIME_CFG_tick_src, PORT_TIME_CFG_ptp_port, PORT_TIME_CFG_pps_edge, PORT_TIME_CFG_ptp_domain, PORT_TIME_CFG_utc_offset], true⟩

def gPORT_TIME_STATUS : Geo := ⟨0x240008, 0x0, 1, 0x0, 1, .always⟩
def PORT_TIME_STATUS_ptp_locked : Field := ⟨gPORT_TIME_STATUS, 0, 1, .ro, fun _ _ _ => 0, false, false⟩
def PORT_TIME_STATUS_holdover : Field := ⟨gPORT_TIME_STATUS, 1, 1, .ro, fun _ _ _ => 0, false, false⟩
def PORT_TIME_STATUS_pps_seen : Field := ⟨gPORT_TIME_STATUS, 2, 1, .ro, fun _ _ _ => 0, false, false⟩
def PORT_TIME_STATUS_offset_ns : Field := ⟨gPORT_TIME_STATUS, 32, 32, .ro, fun _ _ _ => 0, false, false⟩
def PORT_TIME_STATUS : Reg := ⟨gPORT_TIME_STATUS, [PORT_TIME_STATUS_ptp_locked, PORT_TIME_STATUS_holdover, PORT_TIME_STATUS_pps_seen, PORT_TIME_STATUS_offset_ns], true⟩

def gPORT_TICK_LAST : Geo := ⟨0x240010, 0x0, 1, 0x0, 1, .always⟩
def PORT_TICK_LAST_minute : Field := ⟨gPORT_TICK_LAST, 0, 48, .ro, fun _ _ _ => 0, true, false⟩
def PORT_TICK_LAST_skipped : Field := ⟨gPORT_TICK_LAST, 48, 1, .ro, fun _ _ _ => 0, false, false⟩
def PORT_TICK_LAST_holdover : Field := ⟨gPORT_TICK_LAST, 49, 1, .ro, fun _ _ _ => 0, false, false⟩
def PORT_TICK_LAST_source : Field := ⟨gPORT_TICK_LAST, 50, 2, .ro, fun _ _ _ => 0, false, false⟩
def PORT_TICK_LAST : Reg := ⟨gPORT_TICK_LAST, [PORT_TICK_LAST_minute, PORT_TICK_LAST_skipped, PORT_TICK_LAST_holdover, PORT_TICK_LAST_source], true⟩

def gPORT_PPS_SEC : Geo := ⟨0x240018, 0x0, 1, 0x0, 1, .always⟩
def PORT_PPS_SEC_seconds : Field := ⟨gPORT_PPS_SEC, 0, 48, .rw, fun _ _ _ => 0, false, true⟩
def PORT_PPS_SEC : Reg := ⟨gPORT_PPS_SEC, [PORT_PPS_SEC_seconds], true⟩

def gPORT_SLOWPATH_CFG : Geo := ⟨0x240020, 0x0, 1, 0x0, 1, .always⟩
def PORT_SLOWPATH_CFG_rate : Field := ⟨gPORT_SLOWPATH_CFG, 0, 24, .rw, fun _ _ _ => 10000, false, true⟩
def PORT_SLOWPATH_CFG : Reg := ⟨gPORT_SLOWPATH_CFG, [PORT_SLOWPATH_CFG_rate], false⟩

def gDROVE_TCP_CFG : Geo := ⟨0x30C000, 0x0, 1, 0x0, 1, .always⟩
def DROVE_TCP_CFG_io_port : Field := ⟨gDROVE_TCP_CFG, 0, 16, .rw, fun _ _ _ => 4420, false, true⟩
def DROVE_TCP_CFG_disc_port : Field := ⟨gDROVE_TCP_CFG, 16, 16, .rw, fun _ _ _ => 8009, false, true⟩
def DROVE_TCP_CFG_icd_kib : Field := ⟨gDROVE_TCP_CFG, 32, 4, .rw, fun _ _ _ => 8, false, true⟩
def DROVE_TCP_CFG_digest_req : Field := ⟨gDROVE_TCP_CFG, 36, 1, .rw, fun _ _ _ => 0, false, true⟩
def DROVE_TCP_CFG_tls_req : Field := ⟨gDROVE_TCP_CFG, 37, 1, .rw, fun _ _ _ => 0, false, true⟩
def DROVE_TCP_CFG_rto_min_us : Field := ⟨gDROVE_TCP_CFG, 48, 16, .rw, fun _ _ _ => 1000, false, true⟩
def DROVE_TCP_CFG : Reg := ⟨gDROVE_TCP_CFG, [DROVE_TCP_CFG_io_port, DROVE_TCP_CFG_disc_port, DROVE_TCP_CFG_icd_kib, DROVE_TCP_CFG_digest_req, DROVE_TCP_CFG_tls_req, DROVE_TCP_CFG_rto_min_us], true⟩

def gDROVE_ROCE_CFG : Geo := ⟨0x30C008, 0x0, 1, 0x0, 1, .always⟩
def DROVE_ROCE_CFG_ack_timeout : Field := ⟨gDROVE_ROCE_CFG, 0, 5, .rw, fun _ _ _ => 14, false, true⟩
def DROVE_ROCE_CFG_retry_cnt : Field := ⟨gDROVE_ROCE_CFG, 5, 3, .rw, fun _ _ _ => 7, false, true⟩
def DROVE_ROCE_CFG_rnr_retry : Field := ⟨gDROVE_ROCE_CFG, 8, 3, .rw, fun _ _ _ => 7, false, true⟩
def DROVE_ROCE_CFG_pmtu : Field := ⟨gDROVE_ROCE_CFG, 11, 2, .rw, fun _ _ _ => 2, false, true⟩
def DROVE_ROCE_CFG_rd_atomic : Field := ⟨gDROVE_ROCE_CFG, 13, 5, .rw, fun _ _ _ => 16, false, true⟩
def DROVE_ROCE_CFG_cnp_interval_us : Field := ⟨gDROVE_ROCE_CFG, 18, 8, .rw, fun _ _ _ => 50, false, true⟩
def DROVE_ROCE_CFG : Reg := ⟨gDROVE_ROCE_CFG, [DROVE_ROCE_CFG_ack_timeout, DROVE_ROCE_CFG_retry_cnt, DROVE_ROCE_CFG_rnr_retry, DROVE_ROCE_CFG_pmtu, DROVE_ROCE_CFG_rd_atomic, DROVE_ROCE_CFG_cnp_interval_us], false⟩

def gDROVE_ROCE_RATE : Geo := ⟨0x30C010, 0x0, 1, 0x0, 1, .always⟩
def DROVE_ROCE_RATE_g_shift : Field := ⟨gDROVE_ROCE_RATE, 0, 4, .rw, fun _ _ _ => 8, false, true⟩
def DROVE_ROCE_RATE_alpha_us : Field := ⟨gDROVE_ROCE_RATE, 4, 12, .rw, fun _ _ _ => 55, false, true⟩
def DROVE_ROCE_RATE_increase_us : Field := ⟨gDROVE_ROCE_RATE, 16, 12, .rw, fun _ _ _ => 55, false, true⟩
def DROVE_ROCE_RATE_ai_step : Field := ⟨gDROVE_ROCE_RATE, 28, 12, .rw, fun _ _ _ => 50, false, true⟩
def DROVE_ROCE_RATE_min_rate : Field := ⟨gDROVE_ROCE_RATE, 40, 12, .rw, fun _ _ _ => 1, false, true⟩
def DROVE_ROCE_RATE : Reg := ⟨gDROVE_ROCE_RATE, [DROVE_ROCE_RATE_g_shift, DROVE_ROCE_RATE_alpha_us, DROVE_ROCE_RATE_increase_us, DROVE_ROCE_RATE_ai_step, DROVE_ROCE_RATE_min_rate], true⟩

def gDROVE_DRV_CFG : Geo := ⟨0x300000, 0x0, 1, 0x0, 1, .always⟩
def DROVE_DRV_CFG_udp_port : Field := ⟨gDROVE_DRV_CFG, 0, 16, .rw, fun _ _ _ => 21876, false, false⟩
def DROVE_DRV_CFG_en : Field := ⟨gDROVE_DRV_CFG, 16, 1, .rw, fun _ _ _ => 0, false, false⟩
def DROVE_DRV_CFG_ver_en : Field := ⟨gDROVE_DRV_CFG, 17, 3, .rw, fun _ _ _ => 7, false, false⟩
def DROVE_DRV_CFG_seg_max : Field := ⟨gDROVE_DRV_CFG, 20, 2, .rw, fun _ _ _ => 2, false, false⟩
def DROVE_DRV_CFG_max_paths : Field := ⟨gDROVE_DRV_CFG, 22, 4, .rw, fun _ _ _ => 8, false, false⟩
def DROVE_DRV_CFG_connect_rate : Field := ⟨gDROVE_DRV_CFG, 32, 20, .rw, fun _ _ _ => 100000, false, false⟩
def DROVE_DRV_CFG : Reg := ⟨gDROVE_DRV_CFG, [DROVE_DRV_CFG_udp_port, DROVE_DRV_CFG_en, DROVE_DRV_CFG_ver_en, DROVE_DRV_CFG_seg_max, DROVE_DRV_CFG_max_paths, DROVE_DRV_CFG_connect_rate], true⟩

def gDROVE_DRV_TIMER : Geo := ⟨0x300008, 0x0, 1, 0x0, 1, .always⟩
def DROVE_DRV_TIMER_reorder_to_us : Field := ⟨gDROVE_DRV_TIMER, 0, 14, .rw, fun _ _ _ => 50, false, false⟩
def DROVE_DRV_TIMER_rto_us : Field := ⟨gDROVE_DRV_TIMER, 16, 17, .rw, fun _ _ _ => 1000, false, false⟩
def DROVE_DRV_TIMER_ack_delay_us : Field := ⟨gDROVE_DRV_TIMER, 33, 7, .rw, fun _ _ _ => 8, false, false⟩
def DROVE_DRV_TIMER_ack_every : Field := ⟨gDROVE_DRV_TIMER, 40, 8, .rw, fun _ _ _ => 16, false, false⟩
def DROVE_DRV_TIMER_retry_max : Field := ⟨gDROVE_DRV_TIMER, 48, 4, .rw, fun _ _ _ => 12, false, false⟩
def DROVE_DRV_TIMER : Reg := ⟨gDROVE_DRV_TIMER, [DROVE_DRV_TIMER_reorder_to_us, DROVE_DRV_TIMER_rto_us, DROVE_DRV_TIMER_ack_delay_us, DROVE_DRV_TIMER_ack_every, DROVE_DRV_TIMER_retry_max], true⟩

def gDROVE_DRV_PATH : Geo := ⟨0x300010, 0x0, 1, 0x0, 1, .always⟩
def DROVE_DRV_PATH_probe_ms : Field := ⟨gDROVE_DRV_PATH, 0, 14, .rw, fun _ _ _ => 100, false, false⟩
def DROVE_DRV_PATH_probe_miss : Field := ⟨gDROVE_DRV_PATH, 14, 4, .rw, fun _ _ _ => 3, false, false⟩
def DROVE_DRV_PATH_path_rto_limit : Field := ⟨gDROVE_DRV_PATH, 18, 4, .rw, fun _ _ _ => 3, false, false⟩
def DROVE_DRV_PATH_conn_dead_ms : Field := ⟨gDROVE_DRV_PATH, 32, 16, .rw, fun _ _ _ => 2000, false, false⟩
def DROVE_DRV_PATH : Reg := ⟨gDROVE_DRV_PATH, [DROVE_DRV_PATH_probe_ms, DROVE_DRV_PATH_probe_miss, DROVE_DRV_PATH_path_rto_limit, DROVE_DRV_PATH_conn_dead_ms], true⟩

def gDROVE_DRV_KEY : Geo := ⟨0x300018, 0x0, 1, 0x0, 1, .always⟩
def DROVE_DRV_KEY_rekey_grace_ms : Field := ⟨gDROVE_DRV_KEY, 0, 14, .rw, fun _ _ _ => 100, false, false⟩
def DROVE_DRV_KEY_connect_cache_ms : Field := ⟨gDROVE_DRV_KEY, 16, 14, .rw, fun _ _ _ => 1000, false, false⟩
def DROVE_DRV_KEY_close_hold_ms : Field := ⟨gDROVE_DRV_KEY, 32, 14, .rw, fun _ _ _ => 1000, false, false⟩
def DROVE_DRV_KEY : Reg := ⟨gDROVE_DRV_KEY, [DROVE_DRV_KEY_rekey_grace_ms, DROVE_DRV_KEY_connect_cache_ms, DROVE_DRV_KEY_close_hold_ms], true⟩

def gDROVE_DRV_CREDIT : Geo := ⟨0x300020, 0x0, 1, 0x0, 1, .always⟩
def DROVE_DRV_CREDIT_init_units : Field := ⟨gDROVE_DRV_CREDIT, 0, 16, .rw, fun _ _ _ => 64, false, false⟩
def DROVE_DRV_CREDIT_max_grant : Field := ⟨gDROVE_DRV_CREDIT, 16, 16, .rw, fun _ _ _ => 1024, false, false⟩
def DROVE_DRV_CREDIT : Reg := ⟨gDROVE_DRV_CREDIT, [DROVE_DRV_CREDIT_init_units, DROVE_DRV_CREDIT_max_grant], true⟩

def gDROVE_RXPOOL : Geo := ⟨0x300028, 0x0, 1, 0x0, 1, .always⟩
def DROVE_RXPOOL_size_units : Field := ⟨gDROVE_RXPOOL, 0, 24, .rw, fun d _ _ => if d.half then 131072 else 262144, false, false⟩
def DROVE_RXPOOL_free_units : Field := ⟨gDROVE_RXPOOL, 32, 24, .ro, fun d _ _ => if d.half then 131072 else 262144, false, false⟩
def DROVE_RXPOOL : Reg := ⟨gDROVE_RXPOOL, [DROVE_RXPOOL_size_units, DROVE_RXPOOL_free_units], true⟩

def gDROVE_RXPOOL_PRESS : Geo := ⟨0x300030, 0x0, 1, 0x0, 1, .always⟩
def DROVE_RXPOOL_PRESS_pressure_units : Field := ⟨gDROVE_RXPOOL_PRESS, 0, 24, .rw, fun _ _ _ => 16384, false, false⟩
def DROVE_RXPOOL_PRESS_waiting : Field := ⟨gDROVE_RXPOOL_PRESS, 32, 16, .ro, fun _ _ _ => 0, false, false⟩
def DROVE_RXPOOL_PRESS : Reg := ⟨gDROVE_RXPOOL_PRESS, [DROVE_RXPOOL_PRESS_pressure_units, DROVE_RXPOOL_PRESS_waiting], true⟩

def gDROVE_DRV_RATE : Geo := ⟨0x300038, 0x0, 1, 0x0, 1, .always⟩
def DROVE_DRV_RATE_g_shift : Field := ⟨gDROVE_DRV_RATE, 0, 4, .rw, fun _ _ _ => 8, false, false⟩
def DROVE_DRV_RATE_alpha_us : Field := ⟨gDROVE_DRV_RATE, 4, 12, .rw, fun _ _ _ => 55, false, false⟩
def DROVE_DRV_RATE_increase_us : Field := ⟨gDROVE_DRV_RATE, 16, 12, .rw, fun _ _ _ => 55, false, false⟩
def DROVE_DRV_RATE_ai_step : Field := ⟨gDROVE_DRV_RATE, 28, 12, .rw, fun _ _ _ => 50, false, false⟩
def DROVE_DRV_RATE_min_rate : Field := ⟨gDROVE_DRV_RATE, 40, 12, .rw, fun _ _ _ => 1, false, false⟩
def DROVE_DRV_RATE : Reg := ⟨gDROVE_DRV_RATE, [DROVE_DRV_RATE_g_shift, DROVE_DRV_RATE_alpha_us, DROVE_DRV_RATE_increase_us, DROVE_DRV_RATE_ai_step, DROVE_DRV_RATE_min_rate], true⟩

def gDROVE_DRV_CONNS : Geo := ⟨0x300040, 0x0, 1, 0x0, 1, .always⟩
def DROVE_DRV_CONNS_v10 : Field := ⟨gDROVE_DRV_CONNS, 0, 18, .ro, fun _ _ _ => 0, false, false⟩
def DROVE_DRV_CONNS_v12 : Field := ⟨gDROVE_DRV_CONNS, 18, 18, .ro, fun _ _ _ => 0, false, false⟩
def DROVE_DRV_CONNS_v20 : Field := ⟨gDROVE_DRV_CONNS, 36, 18, .ro, fun _ _ _ => 0, false, false⟩
def DROVE_DRV_CONNS : Reg := ⟨gDROVE_DRV_CONNS, [DROVE_DRV_CONNS_v10, DROVE_DRV_CONNS_v12, DROVE_DRV_CONNS_v20], true⟩

def gDROVE_DRV_CNT : Geo := ⟨0x300100, 0x8, 16, 0x0, 1, .always⟩
def DROVE_DRV_CNT_count : Field := ⟨gDROVE_DRV_CNT, 0, 48, .ro, fun _ _ _ => 0, true, false⟩
def DROVE_DRV_CNT_stuck : Field := ⟨gDROVE_DRV_CNT, 63, 1, .ro, fun _ _ _ => 0, false, false⟩
def DROVE_DRV_CNT : Reg := ⟨gDROVE_DRV_CNT, [DROVE_DRV_CNT_count, DROVE_DRV_CNT_stuck], true⟩

def gDROVE_CTX_SEL : Geo := ⟨0x300400, 0x0, 1, 0x0, 1, .always⟩
def DROVE_CTX_SEL_ctx : Field := ⟨gDROVE_CTX_SEL, 0, 18, .rw, fun _ _ _ => 0, false, true⟩
def DROVE_CTX_SEL : Reg := ⟨gDROVE_CTX_SEL, [DROVE_CTX_SEL_ctx], true⟩

def gDROVE_CTX_VIEW0 : Geo := ⟨0x300408, 0x0, 1, 0x0, 1, .always⟩
def DROVE_CTX_VIEW0_rx_cum : Field := ⟨gDROVE_CTX_VIEW0, 0, 32, .ro, fun _ _ _ => 0, false, false⟩
def DROVE_CTX_VIEW0_tx_next : Field := ⟨gDROVE_CTX_VIEW0, 32, 32, .ro, fun _ _ _ => 0, false, false⟩
def DROVE_CTX_VIEW0 : Reg := ⟨gDROVE_CTX_VIEW0, [DROVE_CTX_VIEW0_rx_cum, DROVE_CTX_VIEW0_tx_next], true⟩

def gDROVE_CTX_VIEW1 : Geo := ⟨0x300410, 0x0, 1, 0x0, 1, .always⟩
def DROVE_CTX_VIEW1_credit_limit : Field := ⟨gDROVE_CTX_VIEW1, 0, 32, .ro, fun _ _ _ => 0, false, false⟩
def DROVE_CTX_VIEW1_consumed : Field := ⟨gDROVE_CTX_VIEW1, 32, 32, .ro, fun _ _ _ => 0, false, false⟩
def DROVE_CTX_VIEW1 : Reg := ⟨gDROVE_CTX_VIEW1, [DROVE_CTX_VIEW1_credit_limit, DROVE_CTX_VIEW1_consumed], true⟩

def gDROVE_CTX_VIEW2 : Geo := ⟨0x300418, 0x0, 1, 0x0, 1, .always⟩
def DROVE_CTX_VIEW2_generation : Field := ⟨gDROVE_CTX_VIEW2, 0, 32, .ro, fun _ _ _ => 0, false, false⟩
def DROVE_CTX_VIEW2_paths_live : Field := ⟨gDROVE_CTX_VIEW2, 32, 8, .ro, fun _ _ _ => 0, false, false⟩
def DROVE_CTX_VIEW2_paths_known : Field := ⟨gDROVE_CTX_VIEW2, 40, 8, .ro, fun _ _ _ => 0, false, false⟩
def DROVE_CTX_VIEW2_version : Field := ⟨gDROVE_CTX_VIEW2, 48, 16, .ro, fun _ _ _ => 0, false, false⟩
def DROVE_CTX_VIEW2 : Reg := ⟨gDROVE_CTX_VIEW2, [DROVE_CTX_VIEW2_generation, DROVE_CTX_VIEW2_paths_live, DROVE_CTX_VIEW2_paths_known, DROVE_CTX_VIEW2_version], true⟩

def gDROVE_CTX_VIEW3 : Geo := ⟨0x300420, 0x0, 1, 0x0, 1, .always⟩
def DROVE_CTX_VIEW3_next_msn : Field := ⟨gDROVE_CTX_VIEW3, 0, 32, .ro, fun _ _ _ => 0, false, false⟩
def DROVE_CTX_VIEW3_open_msgs : Field := ⟨gDROVE_CTX_VIEW3, 32, 16, .ro, fun _ _ _ => 0, false, false⟩
def DROVE_CTX_VIEW3_held_finals : Field := ⟨gDROVE_CTX_VIEW3, 48, 16, .ro, fun _ _ _ => 0, false, false⟩
def DROVE_CTX_VIEW3 : Reg := ⟨gDROVE_CTX_VIEW3, [DROVE_CTX_VIEW3_next_msn, DROVE_CTX_VIEW3_open_msgs, DROVE_CTX_VIEW3_held_finals], true⟩

def gMAP_CTL : Geo := ⟨0x400000, 0x0, 1, 0x0, 1, .always⟩
def MAP_CTL_en : Field := ⟨gMAP_CTL, 0, 1, .rw, fun _ _ _ => 0, false, false⟩
def MAP_CTL_engine_pause : Field := ⟨gMAP_CTL, 1, 1, .rw, fun _ _ _ => 0, false, false⟩
def MAP_CTL_slowpath_en : Field := ⟨gMAP_CTL, 2, 1, .rw, fun _ _ _ => 1, false, false⟩
def MAP_CTL : Reg := ⟨gMAP_CTL, [MAP_CTL_en, MAP_CTL_engine_pause, MAP_CTL_slowpath_en], false⟩

def gMAP_STATUS : Geo := ⟨0x400008, 0x0, 1, 0x0, 1, .always⟩
def MAP_STATUS_rehash_busy : Field := ⟨gMAP_STATUS, 0, 2, .ro, fun _ _ _ => 0, false, false⟩
def MAP_STATUS_exchange_window : Field := ⟨gMAP_STATUS, 2, 1, .ro, fun _ _ _ => 0, false, false⟩
def MAP_STATUS_free_area_mib : Field := ⟨gMAP_STATUS, 32, 32, .ro, fun d _ _ => (if d.half then 128 else 256) * 65537, false, false⟩
def MAP_STATUS : Reg := ⟨gMAP_STATUS, [MAP_STATUS_rehash_busy, MAP_STATUS_exchange_window, MAP_STATUS_free_area_mib], true⟩

def gMAP_LEARN_STAT : Geo := ⟨0x400010, 0x8, 2, 0x0, 1, .always⟩
def MAP_LEARN_STAT_queued : Field := ⟨gMAP_LEARN_STAT, 0, 13, .ro, fun _ _ _ => 0, false, false⟩
def MAP_LEARN_STAT_open : Field := ⟨gMAP_LEARN_STAT, 16, 16, .ro, fun _ _ _ => 0, false, false⟩
def MAP_LEARN_STAT_peak : Field := ⟨gMAP_LEARN_STAT, 32, 16, .ro, fun _ _ _ => 0, true, false⟩
def MAP_LEARN_STAT_peak_clr : Field := ⟨gMAP_LEARN_STAT, 63, 1, .wo, fun _ _ _ => 0, false, false⟩
def MAP_LEARN_STAT : Reg := ⟨gMAP_LEARN_STAT, [MAP_LEARN_STAT_queued, MAP_LEARN_STAT_open, MAP_LEARN_STAT_peak, MAP_LEARN_STAT_peak_clr], true⟩

def gMAP_FB_STAT : Geo := ⟨0x400020, 0x8, 2, 0x0, 1, .always⟩
def MAP_FB_STAT_used : Field := ⟨gMAP_FB_STAT, 0, 15, .ro, fun _ _ _ => 0, false, false⟩
def MAP_FB_STAT : Reg := ⟨gMAP_FB_STAT, [MAP_FB_STAT_used], false⟩

def gMAP_PATH_CFG : Geo := ⟨0x400030, 0x0, 1, 0x0, 1, .always⟩
def MAP_PATH_CFG_age_s : Field := ⟨gMAP_PATH_CFG, 0, 12, .rw, fun _ _ _ => 300, false, true⟩
def MAP_PATH_CFG : Reg := ⟨gMAP_PATH_CFG, [MAP_PATH_CFG_age_s], false⟩

def gMAP_PATH_STAT : Geo := ⟨0x400038, 0x0, 1, 0x0, 1, .always⟩
def MAP_PATH_STAT_entries : Field := ⟨gMAP_PATH_STAT, 0, 21, .ro, fun _ _ _ => 0, false, false⟩
def MAP_PATH_STAT_foreign : Field := ⟨gMAP_PATH_STAT, 32, 21, .ro, fun _ _ _ => 0, false, false⟩
def MAP_PATH_STAT : Reg := ⟨gMAP_PATH_STAT, [MAP_PATH_STAT_entries, MAP_PATH_STAT_foreign], true⟩

def gMAP_RGN_CFG : Geo := ⟨0x400040, 0x8, 2, 0x0, 1, .always⟩
def MAP_RGN_CFG_base_64b : Field := ⟨gMAP_RGN_CFG, 0, 36, .rw, fun d i _ => mapTableBase d i 21 / 64, false, false⟩
def MAP_RGN_CFG_used : Field := ⟨gMAP_RGN_CFG, 36, 27, .ro, fun _ _ _ => 0, false, false⟩
def MAP_RGN_CFG : Reg := ⟨gMAP_RGN_CFG, [MAP_RGN_CFG_base_64b, MAP_RGN_CFG_used], true⟩

def gMAP_CNT : Geo := ⟨0x400200, 0x8, 16, 0x0, 1, .always⟩
def MAP_CNT_count : Field := ⟨gMAP_CNT, 0, 48, .ro, fun _ _ _ => 0, true, false⟩
def MAP_CNT_stuck : Field := ⟨gMAP_CNT, 63, 1, .ro, fun _ _ _ => 0, false, false⟩
def MAP_CNT : Reg := ⟨gMAP_CNT, [MAP_CNT_count, MAP_CNT_stuck], true⟩

def gMAP_TBL_CFG : Geo := ⟨0x401000, 0x800, 2, 0x40, 21, .always⟩
def MAP_TBL_CFG_base_64b : Field := ⟨gMAP_TBL_CFG, 0, 36, .rw, fun d i j => mapTableBase d i j / 64, false, false⟩
def MAP_TBL_CFG_s : Field := ⟨gMAP_TBL_CFG, 36, 5, .rw, fun d _ j => rstTableS d j, false, false⟩
def MAP_TBL_CFG : Reg := ⟨gMAP_TBL_CFG, [MAP_TBL_CFG_base_64b, MAP_TBL_CFG_s], true⟩

def gMAP_TBL_SEED : Geo := ⟨0x401008, 0x800, 2, 0x40, 21, .always⟩
def MAP_TBL_SEED_seed : Field := ⟨gMAP_TBL_SEED, 0, 64, .rw, fun _ _ _ => 0, false, false⟩
def MAP_TBL_SEED : Reg := ⟨gMAP_TBL_SEED, [MAP_TBL_SEED_seed], true⟩

def gMAP_TBL_STAT : Geo := ⟨0x401010, 0x800, 2, 0x40, 21, .always⟩
def MAP_TBL_STAT_entries : Field := ⟨gMAP_TBL_STAT, 0, 29, .ro, fun _ _ _ => 0, false, false⟩
def MAP_TBL_STAT_occ_pct : Field := ⟨gMAP_TBL_STAT, 32, 7, .ro, fun _ _ _ => 0, false, false⟩
def MAP_TBL_STAT : Reg := ⟨gMAP_TBL_STAT, [MAP_TBL_STAT_entries, MAP_TBL_STAT_occ_pct], true⟩

def gMAP_TBL_NEXT : Geo := ⟨0x401018, 0x800, 2, 0x40, 21, .always⟩
def MAP_TBL_NEXT_base_64b : Field := ⟨gMAP_TBL_NEXT, 0, 36, .ro, fun _ _ _ => 0, false, false⟩
def MAP_TBL_NEXT_s : Field := ⟨gMAP_TBL_NEXT, 36, 5, .ro, fun _ _ _ => 0, false, false⟩
def MAP_TBL_NEXT_active : Field := ⟨gMAP_TBL_NEXT, 41, 1, .ro, fun _ _ _ => 0, false, false⟩
def MAP_TBL_NEXT : Reg := ⟨gMAP_TBL_NEXT, [MAP_TBL_NEXT_base_64b, MAP_TBL_NEXT_s, MAP_TBL_NEXT_active], true⟩

def gCMDQ_CTL : Geo := ⟨0x500000, 0x0, 1, 0x0, 1, .always⟩
def CMDQ_CTL_en : Field := ⟨gCMDQ_CTL, 0, 1, .rw, fun _ _ _ => 0, false, false⟩
def CMDQ_CTL_urg_cap_en : Field := ⟨gCMDQ_CTL, 1, 1, .rw, fun _ _ _ => 1, false, false⟩
def CMDQ_CTL : Reg := ⟨gCMDQ_CTL, [CMDQ_CTL_en, CMDQ_CTL_urg_cap_en], false⟩

def gCMDQ_LIMIT : Geo := ⟨0x500008, 0x0, 1, 0x0, 1, .always⟩
def CMDQ_LIMIT_sess_cap : Field := ⟨gCMDQ_LIMIT, 0, 10, .rw, fun _ _ _ => 1023, false, false⟩
def CMDQ_LIMIT_pad_cap : Field := ⟨gCMDQ_LIMIT, 16, 15, .rw, fun _ _ _ => 4096, false, false⟩
def CMDQ_LIMIT_acl : Field := ⟨gCMDQ_LIMIT, 32, 4, .rw, fun _ _ _ => 3, false, false⟩
def CMDQ_LIMIT : Reg := ⟨gCMDQ_LIMIT, [CMDQ_LIMIT_sess_cap, CMDQ_LIMIT_pad_cap, CMDQ_LIMIT_acl], true⟩

def gCMDQ_URG_CFG : Geo := ⟨0x500010, 0x0, 1, 0x0, 1, .always⟩
def CMDQ_URG_CFG_urg_cap : Field := ⟨gCMDQ_URG_CFG, 0, 16, .rw, fun _ _ _ => 80, false, false⟩
def CMDQ_URG_CFG : Reg := ⟨gCMDQ_URG_CFG, [CMDQ_URG_CFG_urg_cap], false⟩

def gCMDQ_DRV_CFG : Geo := ⟨0x500018, 0x0, 1, 0x0, 1, .always⟩
def CMDQ_DRV_CFG_pen_limit_ms : Field := ⟨gCMDQ_DRV_CFG, 0, 16, .rw, fun _ _ _ => 10000, false, false⟩
def CMDQ_DRV_CFG_pen_max : Field := ⟨gCMDQ_DRV_CFG, 16, 11, .rw, fun _ _ _ => 64, false, false⟩
def CMDQ_DRV_CFG_wake_ms : Field := ⟨gCMDQ_DRV_CFG, 32, 16, .rw, fun _ _ _ => 500, false, false⟩
def CMDQ_DRV_CFG : Reg := ⟨gCMDQ_DRV_CFG, [CMDQ_DRV_CFG_pen_limit_ms, CMDQ_DRV_CFG_pen_max, CMDQ_DRV_CFG_wake_ms], true⟩

def gCMDQ_TMO_LAST : Geo := ⟨0x500020, 0x0, 1, 0x0, 1, .always⟩
def CMDQ_TMO_LAST_slot : Field := ⟨gCMDQ_TMO_LAST, 0, 6, .ro, fun _ _ _ => 0, false, false⟩
def CMDQ_TMO_LAST_drive_cid : Field := ⟨gCMDQ_TMO_LAST, 8, 16, .ro, fun _ _ _ => 0, false, false⟩
def CMDQ_TMO_LAST_kind : Field := ⟨gCMDQ_TMO_LAST, 24, 2, .ro, fun _ _ _ => 0, false, false⟩
def CMDQ_TMO_LAST_valid : Field := ⟨gCMDQ_TMO_LAST, 63, 1, .w1c, fun _ _ _ => 0, false, false⟩
def CMDQ_TMO_LAST : Reg := ⟨gCMDQ_TMO_LAST, [CMDQ_TMO_LAST_slot, CMDQ_TMO_LAST_drive_cid, CMDQ_TMO_LAST_kind, CMDQ_TMO_LAST_valid], true⟩

def gCMDQ_ISL_STAT : Geo := ⟨0x500100, 0x10, 4, 0x0, 1, .cmd⟩
def CMDQ_ISL_STAT_inflight : Field := ⟨gCMDQ_ISL_STAT, 0, 15, .ro, fun _ _ _ => 0, false, false⟩
def CMDQ_ISL_STAT_wait_learn : Field := ⟨gCMDQ_ISL_STAT, 16, 15, .ro, fun _ _ _ => 0, false, false⟩
def CMDQ_ISL_STAT_wait_dep : Field := ⟨gCMDQ_ISL_STAT, 32, 15, .ro, fun _ _ _ => 0, false, false⟩
def CMDQ_ISL_STAT_wait_power : Field := ⟨gCMDQ_ISL_STAT, 48, 15, .ro, fun _ _ _ => 0, false, false⟩
def CMDQ_ISL_STAT : Reg := ⟨gCMDQ_ISL_STAT, [CMDQ_ISL_STAT_inflight, CMDQ_ISL_STAT_wait_learn, CMDQ_ISL_STAT_wait_dep, CMDQ_ISL_STAT_wait_power], true⟩

def gCMDQ_ISL_TAGS : Geo := ⟨0x500108, 0x10, 4, 0x0, 1, .cmd⟩
def CMDQ_ISL_TAGS_free_tags : Field := ⟨gCMDQ_ISL_TAGS, 0, 15, .ro, fun _ _ _ => 16384, false, false⟩
def CMDQ_ISL_TAGS_peak_inflight : Field := ⟨gCMDQ_ISL_TAGS, 16, 15, .ro, fun _ _ _ => 0, true, false⟩
def CMDQ_ISL_TAGS_peak_clr : Field := ⟨gCMDQ_ISL_TAGS, 31, 1, .wo, fun _ _ _ => 0, false, false⟩
def CMDQ_ISL_TAGS_intake_held : Field := ⟨gCMDQ_ISL_TAGS, 32, 16, .ro, fun _ _ _ => 0, false, false⟩
def CMDQ_ISL_TAGS : Reg := ⟨gCMDQ_ISL_TAGS, [CMDQ_ISL_TAGS_free_tags, CMDQ_ISL_TAGS_peak_inflight, CMDQ_ISL_TAGS_peak_clr, CMDQ_ISL_TAGS_intake_held], true⟩

def gCMDQ_SEQ_SEL : Geo := ⟨0x500200, 0x0, 1, 0x0, 1, .always⟩
def CMDQ_SEQ_SEL_volume : Field := ⟨gCMDQ_SEQ_SEL, 0, 16, .rw, fun _ _ _ => 0, false, true⟩
def CMDQ_SEQ_SEL : Reg := ⟨gCMDQ_SEQ_SEL, [CMDQ_SEQ_SEL_volume], true⟩

def gCMDQ_SEQ_VIEW : Geo := ⟨0x500208, 0x0, 1, 0x0, 1, .always⟩
def CMDQ_SEQ_VIEW_next_seq : Field := ⟨gCMDQ_SEQ_VIEW, 0, 64, .ro, fun _ _ _ => 0, false, false⟩
def CMDQ_SEQ_VIEW : Reg := ⟨gCMDQ_SEQ_VIEW, [CMDQ_SEQ_VIEW_next_seq], true⟩

def gCMDQ_CNT : Geo := ⟨0x500300, 0x8, 16, 0x0, 1, .always⟩
def CMDQ_CNT_count : Field := ⟨gCMDQ_CNT, 0, 48, .ro, fun _ _ _ => 0, true, false⟩
def CMDQ_CNT_stuck : Field := ⟨gCMDQ_CNT, 63, 1, .ro, fun _ _ _ => 0, false, false⟩
def CMDQ_CNT : Reg := ⟨gCMDQ_CNT, [CMDQ_CNT_count, CMDQ_CNT_stuck], true⟩

def gCMDQ_DRV_TMO : Geo := ⟨0x501000, 0x10, 34, 0x0, 1, .slot⟩
def CMDQ_DRV_TMO_tmo_ms : Field := ⟨gCMDQ_DRV_TMO, 0, 16, .rw, fun _ _ _ => 2000, false, false⟩
def CMDQ_DRV_TMO : Reg := ⟨gCMDQ_DRV_TMO, [CMDQ_DRV_TMO_tmo_ms], true⟩

def gCMDQ_DRV_STAT : Geo := ⟨0x501008, 0x10, 34, 0x0, 1, .slot⟩
def CMDQ_DRV_STAT_inflight : Field := ⟨gCMDQ_DRV_STAT, 0, 11, .ro, fun _ _ _ => 0, false, false⟩
def CMDQ_DRV_STAT_penned : Field := ⟨gCMDQ_DRV_STAT, 16, 11, .ro, fun _ _ _ => 0, false, false⟩
def CMDQ_DRV_STAT_timeouts : Field := ⟨gCMDQ_DRV_STAT, 32, 16, .ro, fun _ _ _ => 0, true, false⟩
def CMDQ_DRV_STAT_late_dropped : Field := ⟨gCMDQ_DRV_STAT, 48, 16, .ro, fun _ _ _ => 0, true, false⟩
def CMDQ_DRV_STAT : Reg := ⟨gCMDQ_DRV_STAT, [CMDQ_DRV_STAT_inflight, CMDQ_DRV_STAT_penned, CMDQ_DRV_STAT_timeouts, CMDQ_DRV_STAT_late_dropped], true⟩

def gCMDQ_HOST_CLASS : Geo := ⟨0x520000, 0x20, 8192, 0x8, 4, .host⟩
def CMDQ_HOST_CLASS_q_lo : Field := ⟨gCMDQ_HOST_CLASS, 0, 8, .rw, fun _ _ _ => 0, false, false⟩
def CMDQ_HOST_CLASS_q_hi : Field := ⟨gCMDQ_HOST_CLASS, 8, 8, .rw, fun _ _ _ => 0, false, false⟩
def CMDQ_HOST_CLASS_cls : Field := ⟨gCMDQ_HOST_CLASS, 16, 2, .rw, fun _ _ _ => 2, false, false⟩
def CMDQ_HOST_CLASS_valid : Field := ⟨gCMDQ_HOST_CLASS, 18, 1, .rw, fun _ _ _ => 0, false, false⟩
def CMDQ_HOST_CLASS : Reg := ⟨gCMDQ_HOST_CLASS, [CMDQ_HOST_CLASS_q_lo, CMDQ_HOST_CLASS_q_hi, CMDQ_HOST_CLASS_cls, CMDQ_HOST_CLASS_valid], false⟩

def gCMDQ_PADDOCK_ARB : Geo := ⟨0x560000, 0x8, 4096, 0x0, 1, .paddock⟩
def CMDQ_PADDOCK_ARB_pw : Field := ⟨gCMDQ_PADDOCK_ARB, 0, 8, .rw, fun _ _ _ => 15, false, false⟩
def CMDQ_PADDOCK_ARB_hpw : Field := ⟨gCMDQ_PADDOCK_ARB, 8, 8, .rw, fun _ _ _ => 15, false, false⟩
def CMDQ_PADDOCK_ARB_mpw : Field := ⟨gCMDQ_PADDOCK_ARB, 16, 8, .rw, fun _ _ _ => 3, false, false⟩
def CMDQ_PADDOCK_ARB_lpw : Field := ⟨gCMDQ_PADDOCK_ARB, 24, 8, .rw, fun _ _ _ => 0, false, false⟩
def CMDQ_PADDOCK_ARB : Reg := ⟨gCMDQ_PADDOCK_ARB, [CMDQ_PADDOCK_ARB_pw, CMDQ_PADDOCK_ARB_hpw, CMDQ_PADDOCK_ARB_mpw, CMDQ_PADDOCK_ARB_lpw], false⟩

def gCMDQ_VOL_ARB : Geo := ⟨0x580000, 0x8, 65536, 0x0, 1, .volume⟩
def CMDQ_VOL_ARB_vw : Field := ⟨gCMDQ_VOL_ARB, 0, 8, .rw, fun _ _ _ => 15, false, false⟩
def CMDQ_VOL_ARB : Reg := ⟨gCMDQ_VOL_ARB, [CMDQ_VOL_ARB_vw], false⟩

end Sys2Proof.Machine
end

