-- ==== Sys2Proof/Machine/RegMapStore.lean ====
section
/-!
DEFINITION. The registers of the cache, the stripes, the governor, the slots and the drive ports: R218, R250, R276, R312, R341 and R342.
-/

namespace Sys2Proof.Machine

def gCACHE_CTL : Geo := ⟨0x600000, 0x0, 1, 0x0, 1, .always⟩
def CACHE_CTL_en : Field := ⟨gCACHE_CTL, 0, 1, .rw, fun _ _ _ => 0, false, false⟩
def CACHE_CTL_through : Field := ⟨gCACHE_CTL, 1, 1, .rw, fun _ _ _ => 0, false, false⟩
def CACHE_CTL_prefetch_en : Field := ⟨gCACHE_CTL, 2, 1, .rw, fun _ _ _ => 1, false, false⟩
def CACHE_CTL_prefetch_kib : Field := ⟨gCACHE_CTL, 8, 12, .rw, fun _ _ _ => 1024, false, false⟩
def CACHE_CTL : Reg := ⟨gCACHE_CTL, [CACHE_CTL_en, CACHE_CTL_through, CACHE_CTL_prefetch_en, CACHE_CTL_prefetch_kib], false⟩

def gCACHE_STATUS : Geo := ⟨0x600008, 0x0, 1, 0x0, 1, .always⟩
def CACHE_STATUS_solo : Field := ⟨gCACHE_STATUS, 0, 1, .ro, fun _ _ _ => 1, false, false⟩
def CACHE_STATUS_draining : Field := ⟨gCACHE_STATUS, 1, 1, .ro, fun _ _ _ => 0, false, false⟩
def CACHE_STATUS_dump_armed : Field := ⟨gCACHE_STATUS, 2, 1, .ro, fun _ _ _ => 0, false, false⟩
def CACHE_STATUS_stacks : Field := ⟨gCACHE_STATUS, 3, 2, .ro, fun d _ _ => if d.half then 1 else 3, false, false⟩
def CACHE_STATUS : Reg := ⟨gCACHE_STATUS, [CACHE_STATUS_solo, CACHE_STATUS_draining, CACHE_STATUS_dump_armed, CACHE_STATUS_stacks], false⟩

def gCACHE_DIRTY_CFG : Geo := ⟨0x600010, 0x0, 1, 0x0, 1, .always⟩
def CACHE_DIRTY_CFG_ceiling_mib : Field := ⟨gCACHE_DIRTY_CFG, 0, 14, .rw, fun d _ _ => if d.half then 4096 else 8192, false, false⟩
def CACHE_DIRTY_CFG_flush_hi_pct : Field := ⟨gCACHE_DIRTY_CFG, 16, 7, .rw, fun _ _ _ => 75, false, false⟩
def CACHE_DIRTY_CFG_flush_lo_pct : Field := ⟨gCACHE_DIRTY_CFG, 24, 7, .rw, fun _ _ _ => 50, false, false⟩
def CACHE_DIRTY_CFG_age_ms : Field := ⟨gCACHE_DIRTY_CFG, 32, 16, .rw, fun _ _ _ => 100, false, false⟩
def CACHE_DIRTY_CFG : Reg := ⟨gCACHE_DIRTY_CFG, [CACHE_DIRTY_CFG_ceiling_mib, CACHE_DIRTY_CFG_flush_hi_pct, CACHE_DIRTY_CFG_flush_lo_pct, CACHE_DIRTY_CFG_age_ms], true⟩

def gCACHE_DIRTY_STAT : Geo := ⟨0x600018, 0x0, 1, 0x0, 1, .always⟩
def CACHE_DIRTY_STAT_own_mib : Field := ⟨gCACHE_DIRTY_STAT, 0, 16, .ro, fun _ _ _ => 0, false, false⟩
def CACHE_DIRTY_STAT_mirror_mib : Field := ⟨gCACHE_DIRTY_STAT, 16, 16, .ro, fun _ _ _ => 0, false, false⟩
def CACHE_DIRTY_STAT_limit_mib : Field := ⟨gCACHE_DIRTY_STAT, 32, 16, .ro, fun _ _ _ => 0, false, false⟩
def CACHE_DIRTY_STAT_waiting : Field := ⟨gCACHE_DIRTY_STAT, 48, 16, .ro, fun _ _ _ => 0, false, false⟩
def CACHE_DIRTY_STAT : Reg := ⟨gCACHE_DIRTY_STAT, [CACHE_DIRTY_STAT_own_mib, CACHE_DIRTY_STAT_mirror_mib, CACHE_DIRTY_STAT_limit_mib, CACHE_DIRTY_STAT_waiting], true⟩

def gCACHE_HOLDUP : Geo := ⟨0x600020, 0x0, 1, 0x0, 1, .always⟩
def CACHE_HOLDUP_holdup_j : Field := ⟨gCACHE_HOLDUP, 0, 16, .rw, fun _ _ _ => 0, false, false⟩
def CACHE_HOLDUP_dump_w : Field := ⟨gCACHE_HOLDUP, 16, 16, .rw, fun _ _ _ => 170, false, false⟩
def CACHE_HOLDUP_vault_mbps : Field := ⟨gCACHE_HOLDUP, 32, 16, .rw, fun _ _ _ => 16000, false, false⟩
def CACHE_HOLDUP_bound_mib : Field := ⟨gCACHE_HOLDUP, 48, 16, .ro, fun _ _ _ => 0, false, false⟩
def CACHE_HOLDUP : Reg := ⟨gCACHE_HOLDUP, [CACHE_HOLDUP_holdup_j, CACHE_HOLDUP_dump_w, CACHE_HOLDUP_vault_mbps, CACHE_HOLDUP_bound_mib], true⟩

def gCACHE_DUMP_CFG : Geo := ⟨0x600028, 0x0, 1, 0x0, 1, .always⟩
def CACHE_DUMP_CFG_dump_en : Field := ⟨gCACHE_DUMP_CFG, 0, 1, .rw, fun _ _ _ => 1, false, false⟩
def CACHE_DUMP_CFG_filter_us : Field := ⟨gCACHE_DUMP_CFG, 8, 8, .rw, fun _ _ _ => 20, false, false⟩
def CACHE_DUMP_CFG_sag_mv : Field := ⟨gCACHE_DUMP_CFG, 16, 16, .rw, fun _ _ _ => 10800, false, false⟩
def CACHE_DUMP_CFG_quiesce_ms : Field := ⟨gCACHE_DUMP_CFG, 32, 7, .rw, fun _ _ _ => 30, false, false⟩
def CACHE_DUMP_CFG : Reg := ⟨gCACHE_DUMP_CFG, [CACHE_DUMP_CFG_dump_en, CACHE_DUMP_CFG_filter_us, CACHE_DUMP_CFG_sag_mv, CACHE_DUMP_CFG_quiesce_ms], true⟩

def gCACHE_DUMP_AREA : Geo := ⟨0x600030, 0x0, 1, 0x0, 1, .always⟩
def CACHE_DUMP_AREA_base_lba : Field := ⟨gCACHE_DUMP_AREA, 0, 48, .rw, fun _ _ _ => 0, false, false⟩
def CACHE_DUMP_AREA_slot_gib : Field := ⟨gCACHE_DUMP_AREA, 48, 8, .rw, fun _ _ _ => 10, false, false⟩
def CACHE_DUMP_AREA : Reg := ⟨gCACHE_DUMP_AREA, [CACHE_DUMP_AREA_base_lba, CACHE_DUMP_AREA_slot_gib], true⟩

def gCACHE_DUMP_STAT : Geo := ⟨0x600038, 0x0, 1, 0x0, 1, .always⟩
def CACHE_DUMP_STAT_state : Field := ⟨gCACHE_DUMP_STAT, 0, 4, .ro, fun _ _ _ => 0, false, false⟩
def CACHE_DUMP_STAT_segments : Field := ⟨gCACHE_DUMP_STAT, 4, 12, .ro, fun _ _ _ => 0, false, false⟩
def CACHE_DUMP_STAT_last_closed : Field := ⟨gCACHE_DUMP_STAT, 16, 1, .ro, fun _ _ _ => 0, true, false⟩
def CACHE_DUMP_STAT_image_seq : Field := ⟨gCACHE_DUMP_STAT, 32, 32, .ro, fun _ _ _ => 0, true, false⟩
def CACHE_DUMP_STAT : Reg := ⟨gCACHE_DUMP_STAT, [CACHE_DUMP_STAT_state, CACHE_DUMP_STAT_segments, CACHE_DUMP_STAT_last_closed, CACHE_DUMP_STAT_image_seq], true⟩

def gCACHE_LINE_STAT : Geo := ⟨0x600040, 0x10, 2, 0x0, 1, .stack⟩
def CACHE_LINE_STAT_clean : Field := ⟨gCACHE_LINE_STAT, 0, 23, .ro, fun _ _ _ => 0, false, false⟩
def CACHE_LINE_STAT_dirty : Field := ⟨gCACHE_LINE_STAT, 32, 23, .ro, fun _ _ _ => 0, false, false⟩
def CACHE_LINE_STAT : Reg := ⟨gCACHE_LINE_STAT, [CACHE_LINE_STAT_clean, CACHE_LINE_STAT_dirty], true⟩

def gCACHE_LINE_STAT2 : Geo := ⟨0x600048, 0x10, 2, 0x0, 1, .stack⟩
def CACHE_LINE_STAT2_mirror : Field := ⟨gCACHE_LINE_STAT2, 0, 23, .ro, fun _ _ _ => 0, false, false⟩
def CACHE_LINE_STAT2_overflow : Field := ⟨gCACHE_LINE_STAT2, 32, 15, .ro, fun _ _ _ => 0, false, false⟩
def CACHE_LINE_STAT2 : Reg := ⟨gCACHE_LINE_STAT2, [CACHE_LINE_STAT2_mirror, CACHE_LINE_STAT2_overflow], true⟩

def gCACHE_RANGE_STAT : Geo := ⟨0x600080, 0x8, 2, 0x0, 1, .stack⟩
def CACHE_RANGE_STAT_busy : Field := ⟨gCACHE_RANGE_STAT, 0, 1, .ro, fun _ _ _ => 0, false, false⟩
def CACHE_RANGE_STAT_queued : Field := ⟨gCACHE_RANGE_STAT, 1, 5, .ro, fun _ _ _ => 0, false, false⟩
def CACHE_RANGE_STAT_volume : Field := ⟨gCACHE_RANGE_STAT, 16, 16, .ro, fun _ _ _ => 0, false, false⟩
def CACHE_RANGE_STAT : Reg := ⟨gCACHE_RANGE_STAT, [CACHE_RANGE_STAT_busy, CACHE_RANGE_STAT_queued, CACHE_RANGE_STAT_volume], true⟩

def gCACHE_CNT : Geo := ⟨0x600200, 0x8, 16, 0x0, 1, .always⟩
def CACHE_CNT_count : Field := ⟨gCACHE_CNT, 0, 48, .ro, fun _ _ _ => 0, true, false⟩
def CACHE_CNT_stuck : Field := ⟨gCACHE_CNT, 63, 1, .ro, fun _ _ _ => 0, false, false⟩
def CACHE_CNT : Reg := ⟨gCACHE_CNT, [CACHE_CNT_count, CACHE_CNT_stuck], true⟩

def gCACHE_VOL_MODE : Geo := ⟨0x610000, 0x8, 65536, 0x0, 1, .volume⟩
def CACHE_VOL_MODE_mode : Field := ⟨gCACHE_VOL_MODE, 0, 1, .rw, fun _ _ _ => 0, false, false⟩
def CACHE_VOL_MODE_read_alloc : Field := ⟨gCACHE_VOL_MODE, 1, 1, .rw, fun _ _ _ => 1, false, false⟩
def CACHE_VOL_MODE_prefetch : Field := ⟨gCACHE_VOL_MODE, 2, 1, .rw, fun _ _ _ => 1, false, false⟩
def CACHE_VOL_MODE_draining : Field := ⟨gCACHE_VOL_MODE, 3, 1, .ro, fun _ _ _ => 0, false, false⟩
def CACHE_VOL_MODE_through_eff : Field := ⟨gCACHE_VOL_MODE, 4, 1, .ro, fun _ _ _ => 0, false, false⟩
def CACHE_VOL_MODE : Reg := ⟨gCACHE_VOL_MODE, [CACHE_VOL_MODE_mode, CACHE_VOL_MODE_read_alloc, CACHE_VOL_MODE_prefetch, CACHE_VOL_MODE_draining, CACHE_VOL_MODE_through_eff], false⟩

def gSTRIPE_CTL : Geo := ⟨0x700000, 0x0, 1, 0x0, 1, .always⟩
def STRIPE_CTL_en : Field := ⟨gSTRIPE_CTL, 0, 1, .rw, fun _ _ _ => 0, false, false⟩
def STRIPE_CTL_repair_en : Field := ⟨gSTRIPE_CTL, 1, 1, .rw, fun _ _ _ => 1, false, false⟩
def STRIPE_CTL : Reg := ⟨gSTRIPE_CTL, [STRIPE_CTL_en, STRIPE_CTL_repair_en], false⟩

def gSTRIPE_JNL_STAT : Geo := ⟨0x700008, 0x0, 1, 0x0, 1, .always⟩
def STRIPE_JNL_STAT_open : Field := ⟨gSTRIPE_JNL_STAT, 0, 15, .ro, fun _ _ _ => 0, false, false⟩
def STRIPE_JNL_STAT_peak : Field := ⟨gSTRIPE_JNL_STAT, 16, 15, .ro, fun _ _ _ => 0, true, false⟩
def STRIPE_JNL_STAT_peak_clr : Field := ⟨gSTRIPE_JNL_STAT, 31, 1, .wo, fun _ _ _ => 0, false, false⟩
def STRIPE_JNL_STAT_jgen_lo : Field := ⟨gSTRIPE_JNL_STAT, 32, 32, .ro, fun _ _ _ => 0, true, false⟩
def STRIPE_JNL_STAT : Reg := ⟨gSTRIPE_JNL_STAT, [STRIPE_JNL_STAT_open, STRIPE_JNL_STAT_peak, STRIPE_JNL_STAT_peak_clr, STRIPE_JNL_STAT_jgen_lo], true⟩

def gSTRIPE_CKPT_CFG : Geo := ⟨0x700010, 0x0, 1, 0x0, 1, .always⟩
def STRIPE_CKPT_CFG_interval_ms : Field := ⟨gSTRIPE_CKPT_CFG, 0, 7, .rw, fun _ _ _ => 10, false, false⟩
def STRIPE_CKPT_CFG_entries : Field := ⟨gSTRIPE_CKPT_CFG, 8, 14, .rw, fun _ _ _ => 1024, false, false⟩
def STRIPE_CKPT_CFG : Reg := ⟨gSTRIPE_CKPT_CFG, [STRIPE_CKPT_CFG_interval_ms, STRIPE_CKPT_CFG_entries], false⟩

def gSTRIPE_CKPT_AREA : Geo := ⟨0x700018, 0x0, 1, 0x0, 1, .always⟩
def STRIPE_CKPT_AREA_base_lba : Field := ⟨gSTRIPE_CKPT_AREA, 0, 48, .rw, fun _ _ _ => 0, false, false⟩
def STRIPE_CKPT_AREA : Reg := ⟨gSTRIPE_CKPT_AREA, [STRIPE_CKPT_AREA_base_lba], true⟩

def gSTRIPE_CKPT_STAT : Geo := ⟨0x700020, 0x0, 1, 0x0, 1, .always⟩
def STRIPE_CKPT_STAT_vault_ok : Field := ⟨gSTRIPE_CKPT_STAT, 0, 2, .ro, fun _ _ _ => 0, false, false⟩
def STRIPE_CKPT_STAT_last_slot : Field := ⟨gSTRIPE_CKPT_STAT, 2, 1, .ro, fun _ _ _ => 0, false, false⟩
def STRIPE_CKPT_STAT_through : Field := ⟨gSTRIPE_CKPT_STAT, 3, 1, .ro, fun _ _ _ => 0, false, false⟩
def STRIPE_CKPT_STAT_written : Field := ⟨gSTRIPE_CKPT_STAT, 32, 32, .ro, fun _ _ _ => 0, true, false⟩
def STRIPE_CKPT_STAT : Reg := ⟨gSTRIPE_CKPT_STAT, [STRIPE_CKPT_STAT_vault_ok, STRIPE_CKPT_STAT_last_slot, STRIPE_CKPT_STAT_through, STRIPE_CKPT_STAT_written], true⟩

def gSTRIPE_ANNEX_STAT : Geo := ⟨0x700028, 0x0, 1, 0x0, 1, .always⟩
def STRIPE_ANNEX_STAT_used : Field := ⟨gSTRIPE_ANNEX_STAT, 0, 14, .ro, fun _ _ _ => 0, false, false⟩
def STRIPE_ANNEX_STAT_capacity : Field := ⟨gSTRIPE_ANNEX_STAT, 16, 14, .ro, fun _ _ _ => 8160, false, false⟩
def STRIPE_ANNEX_STAT_waiting : Field := ⟨gSTRIPE_ANNEX_STAT, 32, 16, .ro, fun _ _ _ => 0, false, false⟩
def STRIPE_ANNEX_STAT : Reg := ⟨gSTRIPE_ANNEX_STAT, [STRIPE_ANNEX_STAT_used, STRIPE_ANNEX_STAT_capacity, STRIPE_ANNEX_STAT_waiting], true⟩

def gSTRIPE_GATE_LAST : Geo := ⟨0x700030, 0x0, 1, 0x0, 1, .always⟩
def STRIPE_GATE_LAST_fold : Field := ⟨gSTRIPE_GATE_LAST, 0, 3, .ro, fun _ _ _ => 0, false, false⟩
def STRIPE_GATE_LAST_slot : Field := ⟨gSTRIPE_GATE_LAST, 8, 6, .ro, fun _ _ _ => 0, false, false⟩
def STRIPE_GATE_LAST_source : Field := ⟨gSTRIPE_GATE_LAST, 16, 2, .ro, fun _ _ _ => 0, false, false⟩
def STRIPE_GATE_LAST_valid : Field := ⟨gSTRIPE_GATE_LAST, 63, 1, .w1c, fun _ _ _ => 0, false, false⟩
def STRIPE_GATE_LAST : Reg := ⟨gSTRIPE_GATE_LAST, [STRIPE_GATE_LAST_fold, STRIPE_GATE_LAST_slot, STRIPE_GATE_LAST_source, STRIPE_GATE_LAST_valid], true⟩

def gSTRIPE_VERIFY_LAST : Geo := ⟨0x700038, 0x0, 1, 0x0, 1, .always⟩
def STRIPE_VERIFY_LAST_point : Field := ⟨gSTRIPE_VERIFY_LAST, 0, 2, .ro, fun _ _ _ => 0, false, false⟩
def STRIPE_VERIFY_LAST_guard : Field := ⟨gSTRIPE_VERIFY_LAST, 2, 1, .ro, fun _ _ _ => 0, false, false⟩
def STRIPE_VERIFY_LAST_ref : Field := ⟨gSTRIPE_VERIFY_LAST, 3, 1, .ro, fun _ _ _ => 0, false, false⟩
def STRIPE_VERIFY_LAST_app : Field := ⟨gSTRIPE_VERIFY_LAST, 4, 1, .ro, fun _ _ _ => 0, false, false⟩
def STRIPE_VERIFY_LAST_slot : Field := ⟨gSTRIPE_VERIFY_LAST, 6, 6, .ro, fun _ _ _ => 0, false, false⟩
def STRIPE_VERIFY_LAST_flock : Field := ⟨gSTRIPE_VERIFY_LAST, 12, 2, .ro, fun _ _ _ => 0, false, false⟩
def STRIPE_VERIFY_LAST_stripe : Field := ⟨gSTRIPE_VERIFY_LAST, 16, 36, .ro, fun _ _ _ => 0, false, false⟩
def STRIPE_VERIFY_LAST_valid : Field := ⟨gSTRIPE_VERIFY_LAST, 63, 1, .w1c, fun _ _ _ => 0, false, false⟩
def STRIPE_VERIFY_LAST : Reg := ⟨gSTRIPE_VERIFY_LAST, [STRIPE_VERIFY_LAST_point, STRIPE_VERIFY_LAST_guard, STRIPE_VERIFY_LAST_ref, STRIPE_VERIFY_LAST_app, STRIPE_VERIFY_LAST_slot, STRIPE_VERIFY_LAST_flock, STRIPE_VERIFY_LAST_stripe, STRIPE_VERIFY_LAST_valid], true⟩

def gSTRIPE_FLOCK_CFG : Geo := ⟨0x700100, 0x20, 4, 0x0, 1, .always⟩
def STRIPE_FLOCK_CFG_width : Field := ⟨gSTRIPE_FLOCK_CFG, 0, 2, .rw, fun _ _ _ => 0, false, false⟩
def STRIPE_FLOCK_CFG_spare : Field := ⟨gSTRIPE_FLOCK_CFG, 2, 1, .rw, fun _ _ _ => 0, false, false⟩
def STRIPE_FLOCK_CFG_members : Field := ⟨gSTRIPE_FLOCK_CFG, 4, 6, .rw, fun _ _ _ => 0, false, false⟩
def STRIPE_FLOCK_CFG_rows_m1 : Field := ⟨gSTRIPE_FLOCK_CFG, 16, 12, .rw, fun _ _ _ => 0, false, false⟩
def STRIPE_FLOCK_CFG_k_occ : Field := ⟨gSTRIPE_FLOCK_CFG, 32, 14, .rw, fun _ _ _ => 0, false, false⟩
def STRIPE_FLOCK_CFG_s_spare : Field := ⟨gSTRIPE_FLOCK_CFG, 48, 12, .rw, fun _ _ _ => 0, false, false⟩
def STRIPE_FLOCK_CFG : Reg := ⟨gSTRIPE_FLOCK_CFG, [STRIPE_FLOCK_CFG_width, STRIPE_FLOCK_CFG_spare, STRIPE_FLOCK_CFG_members, STRIPE_FLOCK_CFG_rows_m1, STRIPE_FLOCK_CFG_k_occ, STRIPE_FLOCK_CFG_s_spare], true⟩

def gSTRIPE_FLOCK_STAT : Geo := ⟨0x700108, 0x20, 4, 0x0, 1, .always⟩
def STRIPE_FLOCK_STAT_state : Field := ⟨gSTRIPE_FLOCK_STAT, 0, 2, .ro, fun _ _ _ => 0, false, false⟩
def STRIPE_FLOCK_STAT_absent : Field := ⟨gSTRIPE_FLOCK_STAT, 8, 6, .ro, fun _ _ _ => 0, false, false⟩
def STRIPE_FLOCK_STAT_cycles : Field := ⟨gSTRIPE_FLOCK_STAT, 32, 32, .ro, fun _ _ _ => 0, false, false⟩
def STRIPE_FLOCK_STAT : Reg := ⟨gSTRIPE_FLOCK_STAT, [STRIPE_FLOCK_STAT_state, STRIPE_FLOCK_STAT_absent, STRIPE_FLOCK_STAT_cycles], true⟩

def gSTRIPE_FLOCK_ACRES : Geo := ⟨0x700110, 0x20, 4, 0x0, 1, .always⟩
def STRIPE_FLOCK_ACRES_acres : Field := ⟨gSTRIPE_FLOCK_ACRES, 0, 32, .ro, fun _ _ _ => 0, false, false⟩
def STRIPE_FLOCK_ACRES_free : Field := ⟨gSTRIPE_FLOCK_ACRES, 32, 32, .ro, fun _ _ _ => 0, false, false⟩
def STRIPE_FLOCK_ACRES : Reg := ⟨gSTRIPE_FLOCK_ACRES, [STRIPE_FLOCK_ACRES_acres, STRIPE_FLOCK_ACRES_free], true⟩

def gSTRIPE_FLOCK_SLOT : Geo := ⟨0x700200, 0x100, 4, 0x8, 32, .always⟩
def STRIPE_FLOCK_SLOT_slot : Field := ⟨gSTRIPE_FLOCK_SLOT, 0, 6, .rw, fun _ _ _ => 0, false, false⟩
def STRIPE_FLOCK_SLOT_absent : Field := ⟨gSTRIPE_FLOCK_SLOT, 6, 1, .ro, fun _ _ _ => 0, false, false⟩
def STRIPE_FLOCK_SLOT_reloc : Field := ⟨gSTRIPE_FLOCK_SLOT, 7, 1, .ro, fun _ _ _ => 0, false, false⟩
def STRIPE_FLOCK_SLOT : Reg := ⟨gSTRIPE_FLOCK_SLOT, [STRIPE_FLOCK_SLOT_slot, STRIPE_FLOCK_SLOT_absent, STRIPE_FLOCK_SLOT_reloc], false⟩

def gSTRIPE_LAYOUT_SEL : Geo := ⟨0x700600, 0x0, 1, 0x0, 1, .always⟩
def STRIPE_LAYOUT_SEL_flock : Field := ⟨gSTRIPE_LAYOUT_SEL, 0, 2, .rw, fun _ _ _ => 0, false, true⟩
def STRIPE_LAYOUT_SEL_row : Field := ⟨gSTRIPE_LAYOUT_SEL, 2, 12, .rw, fun _ _ _ => 0, false, true⟩
def STRIPE_LAYOUT_SEL : Reg := ⟨gSTRIPE_LAYOUT_SEL, [STRIPE_LAYOUT_SEL_flock, STRIPE_LAYOUT_SEL_row], true⟩

def gSTRIPE_LAYOUT_VIEW : Geo := ⟨0x700608, 0x8, 18, 0x0, 1, .always⟩
def STRIPE_LAYOUT_VIEW_member : Field := ⟨gSTRIPE_LAYOUT_VIEW, 0, 5, .ro, fun _ _ _ => 0, false, false⟩
def STRIPE_LAYOUT_VIEW_occ : Field := ⟨gSTRIPE_LAYOUT_VIEW, 5, 14, .ro, fun _ _ _ => 0, false, false⟩
def STRIPE_LAYOUT_VIEW_reloc_valid : Field := ⟨gSTRIPE_LAYOUT_VIEW, 19, 1, .ro, fun _ _ _ => 0, false, false⟩
def STRIPE_LAYOUT_VIEW_reloc_member : Field := ⟨gSTRIPE_LAYOUT_VIEW, 20, 5, .ro, fun _ _ _ => 0, false, false⟩
def STRIPE_LAYOUT_VIEW_reloc_slot : Field := ⟨gSTRIPE_LAYOUT_VIEW, 25, 12, .ro, fun _ _ _ => 0, false, false⟩
def STRIPE_LAYOUT_VIEW : Reg := ⟨gSTRIPE_LAYOUT_VIEW, [STRIPE_LAYOUT_VIEW_member, STRIPE_LAYOUT_VIEW_occ, STRIPE_LAYOUT_VIEW_reloc_valid, STRIPE_LAYOUT_VIEW_reloc_member, STRIPE_LAYOUT_VIEW_reloc_slot], true⟩

def gSTRIPE_ISL_STAT : Geo := ⟨0x700700, 0x8, 4, 0x0, 1, .cmd⟩
def STRIPE_ISL_STAT_open : Field := ⟨gSTRIPE_ISL_STAT, 0, 13, .ro, fun _ _ _ => 0, false, false⟩
def STRIPE_ISL_STAT_wait_stripe : Field := ⟨gSTRIPE_ISL_STAT, 16, 13, .ro, fun _ _ _ => 0, false, false⟩
def STRIPE_ISL_STAT_wait_stage : Field := ⟨gSTRIPE_ISL_STAT, 32, 13, .ro, fun _ _ _ => 0, false, false⟩
def STRIPE_ISL_STAT_wait_held : Field := ⟨gSTRIPE_ISL_STAT, 48, 13, .ro, fun _ _ _ => 0, false, false⟩
def STRIPE_ISL_STAT : Reg := ⟨gSTRIPE_ISL_STAT, [STRIPE_ISL_STAT_open, STRIPE_ISL_STAT_wait_stripe, STRIPE_ISL_STAT_wait_stage, STRIPE_ISL_STAT_wait_held], true⟩

def gSTRIPE_CNT : Geo := ⟨0x700800, 0x8, 16, 0x0, 1, .always⟩
def STRIPE_CNT_count : Field := ⟨gSTRIPE_CNT, 0, 48, .ro, fun _ _ _ => 0, true, false⟩
def STRIPE_CNT_stuck : Field := ⟨gSTRIPE_CNT, 63, 1, .ro, fun _ _ _ => 0, false, false⟩
def STRIPE_CNT : Reg := ⟨gSTRIPE_CNT, [STRIPE_CNT_count, STRIPE_CNT_stuck], true⟩

def gSTRIPE_RB_CFG : Geo := ⟨0x708000, 0x0, 1, 0x0, 1, .always⟩
def STRIPE_RB_CFG_auto_en : Field := ⟨gSTRIPE_RB_CFG, 0, 1, .rw, fun _ _ _ => 1, false, false⟩
def STRIPE_RB_CFG_copyback_auto : Field := ⟨gSTRIPE_RB_CFG, 1, 1, .rw, fun _ _ _ => 1, false, false⟩
def STRIPE_RB_CFG_gate_exempt : Field := ⟨gSTRIPE_RB_CFG, 2, 1, .rw, fun _ _ _ => 0, false, false⟩
def STRIPE_RB_CFG_rb_delay_s : Field := ⟨gSTRIPE_RB_CFG, 8, 12, .rw, fun _ _ _ => 60, false, false⟩
def STRIPE_RB_CFG_rd_err_limit : Field := ⟨gSTRIPE_RB_CFG, 20, 12, .rw, fun _ _ _ => 64, false, false⟩
def STRIPE_RB_CFG : Reg := ⟨gSTRIPE_RB_CFG, [STRIPE_RB_CFG_auto_en, STRIPE_RB_CFG_copyback_auto, STRIPE_RB_CFG_gate_exempt, STRIPE_RB_CFG_rb_delay_s, STRIPE_RB_CFG_rd_err_limit], true⟩

def gSTRIPE_BG_RATE : Geo := ⟨0x708008, 0x0, 1, 0x0, 1, .always⟩
def STRIPE_BG_RATE_rb_mbps : Field := ⟨gSTRIPE_BG_RATE, 0, 16, .rw, fun _ _ _ => 4000, false, false⟩
def STRIPE_BG_RATE_rb2_mbps : Field := ⟨gSTRIPE_BG_RATE, 16, 16, .rw, fun _ _ _ => 16000, false, false⟩
def STRIPE_BG_RATE_scrub_mbps : Field := ⟨gSTRIPE_BG_RATE, 32, 16, .rw, fun _ _ _ => 2000, false, false⟩
def STRIPE_BG_RATE_reenc_mbps : Field := ⟨gSTRIPE_BG_RATE, 48, 16, .rw, fun _ _ _ => 2000, false, false⟩
def STRIPE_BG_RATE : Reg := ⟨gSTRIPE_BG_RATE, [STRIPE_BG_RATE_rb_mbps, STRIPE_BG_RATE_rb2_mbps, STRIPE_BG_RATE_scrub_mbps, STRIPE_BG_RATE_reenc_mbps], true⟩

def gSTRIPE_SCRUB_CFG : Geo := ⟨0x708010, 0x0, 1, 0x0, 1, .always⟩
def STRIPE_SCRUB_CFG_mode : Field := ⟨gSTRIPE_SCRUB_CFG, 0, 1, .rw, fun _ _ _ => 1, false, false⟩
def STRIPE_SCRUB_CFG_period_days : Field := ⟨gSTRIPE_SCRUB_CFG, 16, 8, .rw, fun _ _ _ => 28, false, false⟩
def STRIPE_SCRUB_CFG : Reg := ⟨gSTRIPE_SCRUB_CFG, [STRIPE_SCRUB_CFG_mode, STRIPE_SCRUB_CFG_period_days], true⟩

def gSTRIPE_SHEAR_CFG : Geo := ⟨0x708018, 0x0, 1, 0x0, 1, .always⟩
def STRIPE_SHEAR_CFG_en : Field := ⟨gSTRIPE_SHEAR_CFG, 0, 1, .rw, fun _ _ _ => 1, false, false⟩
def STRIPE_SHEAR_CFG_merge_en : Field := ⟨gSTRIPE_SHEAR_CFG, 1, 1, .rw, fun _ _ _ => 1, false, false⟩
def STRIPE_SHEAR_CFG_reenc_en : Field := ⟨gSTRIPE_SHEAR_CFG, 2, 1, .rw, fun _ _ _ => 1, false, false⟩
def STRIPE_SHEAR_CFG_interval_s : Field := ⟨gSTRIPE_SHEAR_CFG, 16, 16, .rw, fun _ _ _ => 300, false, false⟩
def STRIPE_SHEAR_CFG : Reg := ⟨gSTRIPE_SHEAR_CFG, [STRIPE_SHEAR_CFG_en, STRIPE_SHEAR_CFG_merge_en, STRIPE_SHEAR_CFG_reenc_en, STRIPE_SHEAR_CFG_interval_s], true⟩

def gSTRIPE_REC_AREA : Geo := ⟨0x708020, 0x0, 1, 0x0, 1, .always⟩
def STRIPE_REC_AREA_base_lba : Field := ⟨gSTRIPE_REC_AREA, 0, 48, .rw, fun _ _ _ => 0, false, false⟩
def STRIPE_REC_AREA : Reg := ⟨gSTRIPE_REC_AREA, [STRIPE_REC_AREA_base_lba], true⟩

def gSTRIPE_BG_STAT : Geo := ⟨0x708100, 0x20, 4, 0x0, 1, .always⟩
def STRIPE_BG_STAT_op : Field := ⟨gSTRIPE_BG_STAT, 0, 3, .ro, fun _ _ _ => 0, false, false⟩
def STRIPE_BG_STAT_scrub_paused : Field := ⟨gSTRIPE_BG_STAT, 3, 1, .ro, fun _ _ _ => 0, false, false⟩
def STRIPE_BG_STAT_step : Field := ⟨gSTRIPE_BG_STAT, 4, 4, .ro, fun _ _ _ => 0, false, false⟩
def STRIPE_BG_STAT_absent_cnt : Field := ⟨gSTRIPE_BG_STAT, 8, 8, .ro, fun _ _ _ => 0, false, false⟩
def STRIPE_BG_STAT_no_target_rows : Field := ⟨gSTRIPE_BG_STAT, 16, 8, .ro, fun _ _ _ => 0, false, false⟩
def STRIPE_BG_STAT_stale_regions : Field := ⟨gSTRIPE_BG_STAT, 32, 32, .ro, fun _ _ _ => 0, false, false⟩
def STRIPE_BG_STAT : Reg := ⟨gSTRIPE_BG_STAT, [STRIPE_BG_STAT_op, STRIPE_BG_STAT_scrub_paused, STRIPE_BG_STAT_step, STRIPE_BG_STAT_absent_cnt, STRIPE_BG_STAT_no_target_rows, STRIPE_BG_STAT_stale_regions], true⟩

def gSTRIPE_BG_POS : Geo := ⟨0x708108, 0x20, 4, 0x0, 1, .always⟩
def STRIPE_BG_POS_position : Field := ⟨gSTRIPE_BG_POS, 0, 36, .ro, fun _ _ _ => 0, false, false⟩
def STRIPE_BG_POS : Reg := ⟨gSTRIPE_BG_POS, [STRIPE_BG_POS_position], true⟩

def gSTRIPE_LOST_STAT : Geo := ⟨0x708200, 0x0, 1, 0x0, 1, .always⟩
def STRIPE_LOST_STAT_listed : Field := ⟨gSTRIPE_LOST_STAT, 0, 17, .ro, fun _ _ _ => 0, true, false⟩
def STRIPE_LOST_STAT_overflow : Field := ⟨gSTRIPE_LOST_STAT, 17, 1, .w1c, fun _ _ _ => 0, false, false⟩
def STRIPE_LOST_STAT_marked : Field := ⟨gSTRIPE_LOST_STAT, 32, 32, .ro, fun _ _ _ => 0, true, false⟩
def STRIPE_LOST_STAT : Reg := ⟨gSTRIPE_LOST_STAT, [STRIPE_LOST_STAT_listed, STRIPE_LOST_STAT_overflow, STRIPE_LOST_STAT_marked], true⟩

def gSTRIPE_BG_CNT : Geo := ⟨0x708800, 0x8, 16, 0x0, 1, .always⟩
def STRIPE_BG_CNT_count : Field := ⟨gSTRIPE_BG_CNT, 0, 48, .ro, fun _ _ _ => 0, true, false⟩
def STRIPE_BG_CNT_stuck : Field := ⟨gSTRIPE_BG_CNT, 63, 1, .ro, fun _ _ _ => 0, false, false⟩
def STRIPE_BG_CNT : Reg := ⟨gSTRIPE_BG_CNT, [STRIPE_BG_CNT_count, STRIPE_BG_CNT_stuck], true⟩

def gGOV_CTL : Geo := ⟨0x140000, 0x0, 1, 0x0, 1, .always⟩
def GOV_CTL_en : Field := ⟨gGOV_CTL, 0, 1, .rw, fun _ _ _ => 0, false, false⟩
def GOV_CTL_vf_en : Field := ⟨gGOV_CTL, 1, 1, .rw, fun _ _ _ => 1, false, false⟩
def GOV_CTL_ps_en : Field := ⟨gGOV_CTL, 2, 1, .rw, fun _ _ _ => 1, false, false⟩
def GOV_CTL_shape_en : Field := ⟨gGOV_CTL, 3, 1, .rw, fun _ _ _ => 1, false, false⟩
def GOV_CTL_gate_en : Field := ⟨gGOV_CTL, 4, 1, .rw, fun _ _ _ => 1, false, false⟩
def GOV_CTL : Reg := ⟨gGOV_CTL, [GOV_CTL_en, GOV_CTL_vf_en, GOV_CTL_ps_en, GOV_CTL_shape_en, GOV_CTL_gate_en], false⟩

def gGOV_CAP : Geo := ⟨0x140008, 0x0, 1, 0x0, 1, .always⟩
def GOV_CAP_shelf_cap_w : Field := ⟨gGOV_CAP, 0, 16, .rw, fun _ _ _ => 0, false, false⟩
def GOV_CAP_share_pct : Field := ⟨gGOV_CAP, 16, 7, .rw, fun _ _ _ => 50, false, false⟩
def GOV_CAP_other_w : Field := ⟨gGOV_CAP, 24, 16, .rw, fun _ _ _ => 0, false, false⟩
def GOV_CAP_bg_floor_pct : Field := ⟨gGOV_CAP, 40, 8, .rw, fun _ _ _ => 5, false, false⟩
def GOV_CAP_urgent_min_w : Field := ⟨gGOV_CAP, 48, 16, .rw, fun _ _ _ => 20, false, false⟩
def GOV_CAP : Reg := ⟨gGOV_CAP, [GOV_CAP_shelf_cap_w, GOV_CAP_share_pct, GOV_CAP_other_w, GOV_CAP_bg_floor_pct, GOV_CAP_urgent_min_w], true⟩

def gGOV_STAT : Geo := ⟨0x140010, 0x0, 1, 0x0, 1, .always⟩
def GOV_STAT_level : Field := ⟨gGOV_STAT, 0, 2, .ro, fun _ _ _ => 0, false, false⟩
def GOV_STAT_solo_cap : Field := ⟨gGOV_STAT, 2, 1, .ro, fun _ _ _ => 0, false, false⟩
def GOV_STAT_deficit : Field := ⟨gGOV_STAT, 3, 1, .ro, fun _ _ _ => 0, false, false⟩
def GOV_STAT_cap_mismatch : Field := ⟨gGOV_STAT, 4, 1, .ro, fun _ _ _ => 0, false, false⟩
def GOV_STAT_chip_w : Field := ⟨gGOV_STAT, 16, 16, .ro, fun _ _ _ => 0, false, false⟩
def GOV_STAT_cap_chip_w : Field := ⟨gGOV_STAT, 32, 16, .ro, fun _ _ _ => 0, false, false⟩
def GOV_STAT_budget_w : Field := ⟨gGOV_STAT, 48, 16, .ro, fun _ _ _ => 0, false, false⟩
def GOV_STAT : Reg := ⟨gGOV_STAT, [GOV_STAT_level, GOV_STAT_solo_cap, GOV_STAT_deficit, GOV_STAT_cap_mismatch, GOV_STAT_chip_w, GOV_STAT_cap_chip_w, GOV_STAT_budget_w], true⟩

def gGOV_CLASS_W : Geo := ⟨0x140018, 0x0, 1, 0x0, 1, .always⟩
def GOV_CLASS_W_high_w : Field := ⟨gGOV_CLASS_W, 0, 8, .rw, fun _ _ _ => 8, false, false⟩
def GOV_CLASS_W_med_w : Field := ⟨gGOV_CLASS_W, 8, 8, .rw, fun _ _ _ => 4, false, false⟩
def GOV_CLASS_W_low_w : Field := ⟨gGOV_CLASS_W, 16, 8, .rw, fun _ _ _ => 1, false, false⟩
def GOV_CLASS_W_lane_cap_uj : Field := ⟨gGOV_CLASS_W, 32, 32, .rw, fun _ _ _ => 20000, false, false⟩
def GOV_CLASS_W : Reg := ⟨gGOV_CLASS_W, [GOV_CLASS_W_high_w, GOV_CLASS_W_med_w, GOV_CLASS_W_low_w, GOV_CLASS_W_lane_cap_uj], true⟩

def gGOV_TEMP_CFG : Geo := ⟨0x140020, 0x0, 1, 0x0, 1, .always⟩
def GOV_TEMP_CFG_warn_c : Field := ⟨gGOV_TEMP_CFG, 0, 8, .rw, fun _ _ _ => 100, false, false⟩
def GOV_TEMP_CFG_throttle_c : Field := ⟨gGOV_TEMP_CFG, 8, 8, .rw, fun _ _ _ => 105, false, false⟩
def GOV_TEMP_CFG_crit_c : Field := ⟨gGOV_TEMP_CFG, 16, 8, .rw, fun _ _ _ => 110, false, false⟩
def GOV_TEMP_CFG : Reg := ⟨gGOV_TEMP_CFG, [GOV_TEMP_CFG_warn_c, GOV_TEMP_CFG_throttle_c, GOV_TEMP_CFG_crit_c], true⟩

def gGOV_TEMP_STAT : Geo := ⟨0x140028, 0x0, 1, 0x0, 1, .always⟩
def GOV_TEMP_STAT_max_c : Field := ⟨gGOV_TEMP_STAT, 0, 8, .ro, fun _ _ _ => 0, false, false⟩
def GOV_TEMP_STAT_hot_sensor : Field := ⟨gGOV_TEMP_STAT, 8, 6, .ro, fun _ _ _ => 0, false, false⟩
def GOV_TEMP_STAT_state : Field := ⟨gGOV_TEMP_STAT, 14, 2, .ro, fun _ _ _ => 0, false, false⟩
def GOV_TEMP_STAT_peak_c : Field := ⟨gGOV_TEMP_STAT, 16, 8, .ro, fun _ _ _ => 0, true, false⟩
def GOV_TEMP_STAT_peak_clr : Field := ⟨gGOV_TEMP_STAT, 31, 1, .wo, fun _ _ _ => 0, false, false⟩
def GOV_TEMP_STAT : Reg := ⟨gGOV_TEMP_STAT, [GOV_TEMP_STAT_max_c, GOV_TEMP_STAT_hot_sensor, GOV_TEMP_STAT_state, GOV_TEMP_STAT_peak_c, GOV_TEMP_STAT_peak_clr], true⟩

def gGOV_VF_CFG : Geo := ⟨0x140030, 0x0, 1, 0x0, 1, .always⟩
def GOV_VF_CFG_guard_steps : Field := ⟨gGOV_VF_CFG, 0, 4, .rw, fun _ _ _ => 4, false, false⟩
def GOV_VF_CFG_headroom_mv : Field := ⟨gGOV_VF_CFG, 4, 8, .rw, fun _ _ _ => 30, false, false⟩
def GOV_VF_CFG_recal_s : Field := ⟨gGOV_VF_CFG, 16, 16, .rw, fun _ _ _ => 3600, false, false⟩
def GOV_VF_CFG_core_mv : Field := ⟨gGOV_VF_CFG, 32, 12, .ro, fun _ _ _ => 0, false, false⟩
def GOV_VF_CFG : Reg := ⟨gGOV_VF_CFG, [GOV_VF_CFG_guard_steps, GOV_VF_CFG_headroom_mv, GOV_VF_CFG_recal_s, GOV_VF_CFG_core_mv], true⟩

def gGOV_DRV_PS_CFG : Geo := ⟨0x140040, 0x0, 1, 0x0, 1, .always⟩
def GOV_DRV_PS_CFG_idle_np_ms : Field := ⟨gGOV_DRV_PS_CFG, 0, 32, .rw, fun _ _ _ => 0, false, false⟩
def GOV_DRV_PS_CFG : Reg := ⟨gGOV_DRV_PS_CFG, [GOV_DRV_PS_CFG_idle_np_ms], true⟩

def gGOV_GATE_EN : Geo := ⟨0x140048, 0x0, 1, 0x0, 1, .always⟩
def GOV_GATE_EN_slot_en : Field := ⟨gGOV_GATE_EN, 0, 34, .rw, fun _ _ _ => 0, false, false⟩
def GOV_GATE_EN : Reg := ⟨gGOV_GATE_EN, [GOV_GATE_EN_slot_en], true⟩

def gGOV_GATE_STAT : Geo := ⟨0x140050, 0x0, 1, 0x0, 1, .always⟩
def GOV_GATE_STAT_open : Field := ⟨gGOV_GATE_STAT, 0, 34, .ro, fun _ _ _ => 0x3FFFFFFFF, false, false⟩
def GOV_GATE_STAT : Reg := ⟨gGOV_GATE_STAT, [GOV_GATE_STAT_open], true⟩

def gGOV_GATE_CFG : Geo := ⟨0x140058, 0x0, 1, 0x0, 1, .always⟩
def GOV_GATE_CFG_guard_mult : Field := ⟨gGOV_GATE_CFG, 0, 4, .rw, fun _ _ _ => 8, false, false⟩
def GOV_GATE_CFG : Reg := ⟨gGOV_GATE_CFG, [GOV_GATE_CFG_guard_mult], true⟩

def gGOV_SHAPE_SEL : Geo := ⟨0x140060, 0x0, 1, 0x0, 1, .always⟩
def GOV_SHAPE_SEL_kind : Field := ⟨gGOV_SHAPE_SEL, 0, 1, .rw, fun _ _ _ => 0, false, true⟩
def GOV_SHAPE_SEL_island : Field := ⟨gGOV_SHAPE_SEL, 1, 2, .rw, fun _ _ _ => 0, false, true⟩
def GOV_SHAPE_SEL_index : Field := ⟨gGOV_SHAPE_SEL, 16, 16, .rw, fun _ _ _ => 0, false, true⟩
def GOV_SHAPE_SEL : Reg := ⟨gGOV_SHAPE_SEL, [GOV_SHAPE_SEL_kind, GOV_SHAPE_SEL_island, GOV_SHAPE_SEL_index], true⟩

def gGOV_SHAPE_VIEW0 : Geo := ⟨0x140068, 0x0, 1, 0x0, 1, .always⟩
def GOV_SHAPE_VIEW0_cr_k : Field := ⟨gGOV_SHAPE_VIEW0, 0, 32, .ro, fun _ _ _ => 0, false, false⟩
def GOV_SHAPE_VIEW0_pr_k : Field := ⟨gGOV_SHAPE_VIEW0, 32, 32, .ro, fun _ _ _ => 0, false, false⟩
def GOV_SHAPE_VIEW0 : Reg := ⟨gGOV_SHAPE_VIEW0, [GOV_SHAPE_VIEW0_cr_k, GOV_SHAPE_VIEW0_pr_k], true⟩

def gGOV_SHAPE_VIEW1 : Geo := ⟨0x140070, 0x0, 1, 0x0, 1, .always⟩
def GOV_SHAPE_VIEW1_burst : Field := ⟨gGOV_SHAPE_VIEW1, 0, 32, .ro, fun _ _ _ => 0, false, false⟩
def GOV_SHAPE_VIEW1_peak_burst : Field := ⟨gGOV_SHAPE_VIEW1, 32, 32, .ro, fun _ _ _ => 0, false, false⟩
def GOV_SHAPE_VIEW1 : Reg := ⟨gGOV_SHAPE_VIEW1, [GOV_SHAPE_VIEW1_burst, GOV_SHAPE_VIEW1_peak_burst], true⟩

def gGOV_SHAPE_VIEW2 : Geo := ⟨0x140078, 0x0, 1, 0x0, 1, .always⟩
def GOV_SHAPE_VIEW2_tc : Field := ⟨gGOV_SHAPE_VIEW2, 0, 32, .ro, fun _ _ _ => 0, false, false⟩
def GOV_SHAPE_VIEW2_tp : Field := ⟨gGOV_SHAPE_VIEW2, 32, 32, .ro, fun _ _ _ => 0, false, false⟩
def GOV_SHAPE_VIEW2 : Reg := ⟨gGOV_SHAPE_VIEW2, [GOV_SHAPE_VIEW2_tc, GOV_SHAPE_VIEW2_tp], true⟩

def gGOV_SHAPE_VIEW3 : Geo := ⟨0x140080, 0x0, 1, 0x0, 1, .always⟩
def GOV_SHAPE_VIEW3_overhead : Field := ⟨gGOV_SHAPE_VIEW3, 0, 16, .ro, fun _ _ _ => 4096, false, false⟩
def GOV_SHAPE_VIEW3_on_wheel : Field := ⟨gGOV_SHAPE_VIEW3, 16, 1, .ro, fun _ _ _ => 0, false, false⟩
def GOV_SHAPE_VIEW3_coarse : Field := ⟨gGOV_SHAPE_VIEW3, 17, 1, .ro, fun _ _ _ => 0, false, false⟩
def GOV_SHAPE_VIEW3_wait_us : Field := ⟨gGOV_SHAPE_VIEW3, 32, 32, .ro, fun _ _ _ => 0, false, false⟩
def GOV_SHAPE_VIEW3 : Reg := ⟨gGOV_SHAPE_VIEW3, [GOV_SHAPE_VIEW3_overhead, GOV_SHAPE_VIEW3_on_wheel, GOV_SHAPE_VIEW3_coarse, GOV_SHAPE_VIEW3_wait_us], true⟩

def gGOV_WHEEL_STAT : Geo := ⟨0x140100, 0x8, 4, 0x0, 1, .cmd⟩
def GOV_WHEEL_STAT_fine : Field := ⟨gGOV_WHEEL_STAT, 0, 17, .ro, fun _ _ _ => 0, false, false⟩
def GOV_WHEEL_STAT_coarse : Field := ⟨gGOV_WHEEL_STAT, 32, 17, .ro, fun _ _ _ => 0, false, false⟩
def GOV_WHEEL_STAT : Reg := ⟨gGOV_WHEEL_STAT, [GOV_WHEEL_STAT_fine, GOV_WHEEL_STAT_coarse], true⟩

def gGOV_CNT : Geo := ⟨0x140180, 0x8, 16, 0x0, 1, .always⟩
def GOV_CNT_count : Field := ⟨gGOV_CNT, 0, 48, .ro, fun _ _ _ => 0, true, false⟩
def GOV_CNT_stuck : Field := ⟨gGOV_CNT, 63, 1, .ro, fun _ _ _ => 0, false, false⟩
def GOV_CNT : Reg := ⟨gGOV_CNT, [GOV_CNT_count, GOV_CNT_stuck], true⟩

def gGOV_ISL_PT : Geo := ⟨0x140200, 0x8, 37, 0x0, 1, .island⟩
def GOV_ISL_PT_point : Field := ⟨gGOV_ISL_PT, 0, 3, .ro, fun _ _ _ => 0, false, false⟩
def GOV_ISL_PT_max_point : Field := ⟨gGOV_ISL_PT, 4, 3, .rw, fun _ _ _ => 7, false, false⟩
def GOV_ISL_PT_pin : Field := ⟨gGOV_ISL_PT, 7, 1, .rw, fun _ _ _ => 0, false, false⟩
def GOV_ISL_PT_act_pct : Field := ⟨gGOV_ISL_PT, 8, 8, .ro, fun _ _ _ => 0, false, false⟩
def GOV_ISL_PT_mv : Field := ⟨gGOV_ISL_PT, 16, 12, .ro, fun _ _ _ => 0, false, false⟩
def GOV_ISL_PT_guard_extra : Field := ⟨gGOV_ISL_PT, 28, 3, .ro, fun _ _ _ => 0, false, false⟩
def GOV_ISL_PT_recal_pending : Field := ⟨gGOV_ISL_PT, 31, 1, .ro, fun _ _ _ => 0, false, false⟩
def GOV_ISL_PT : Reg := ⟨gGOV_ISL_PT, [GOV_ISL_PT_point, GOV_ISL_PT_max_point, GOV_ISL_PT_pin, GOV_ISL_PT_act_pct, GOV_ISL_PT_mv, GOV_ISL_PT_guard_extra, GOV_ISL_PT_recal_pending], true⟩

def gGOV_ISL_CAL : Geo := ⟨0x141000, 0x40, 37, 0x8, 8, .island⟩
def GOV_ISL_CAL_mv : Field := ⟨gGOV_ISL_CAL, 0, 12, .ro, fun _ _ _ => 0, false, false⟩
def GOV_ISL_CAL_cal_act : Field := ⟨gGOV_ISL_CAL, 12, 8, .ro, fun _ _ _ => 0, false, false⟩
def GOV_ISL_CAL_cal_temp_c : Field := ⟨gGOV_ISL_CAL, 20, 8, .ro, fun _ _ _ => 0, false, false⟩
def GOV_ISL_CAL_valid : Field := ⟨gGOV_ISL_CAL, 28, 1, .ro, fun _ _ _ => 0, false, false⟩
def GOV_ISL_CAL_cal_time_s : Field := ⟨gGOV_ISL_CAL, 32, 32, .ro, fun _ _ _ => 0, false, false⟩
def GOV_ISL_CAL : Reg := ⟨gGOV_ISL_CAL, [GOV_ISL_CAL_mv, GOV_ISL_CAL_cal_act, GOV_ISL_CAL_cal_temp_c, GOV_ISL_CAL_valid, GOV_ISL_CAL_cal_time_s], true⟩

def gGOV_PD_CTL : Geo := ⟨0x142000, 0x10, 62, 0x0, 1, .domain⟩
def GOV_PD_CTL_req : Field := ⟨gGOV_PD_CTL, 0, 2, .rw, fun _ _ _ => 0, false, false⟩
def GOV_PD_CTL : Reg := ⟨gGOV_PD_CTL, [GOV_PD_CTL_req], false⟩

def gGOV_PD_STAT : Geo := ⟨0x142008, 0x10, 62, 0x0, 1, .domain⟩
def GOV_PD_STAT_state : Field := ⟨gGOV_PD_STAT, 0, 2, .ro, fun _ _ _ => 2, false, false⟩
def GOV_PD_STAT_present : Field := ⟨gGOV_PD_STAT, 2, 1, .ro, fun d i _ => if domainAbsent d i then 0 else 1, false, false⟩
def GOV_PD_STAT_wakes : Field := ⟨gGOV_PD_STAT, 32, 32, .ro, fun _ _ _ => 0, true, false⟩
def GOV_PD_STAT : Reg := ⟨gGOV_PD_STAT, [GOV_PD_STAT_state, GOV_PD_STAT_present, GOV_PD_STAT_wakes], true⟩

def gGOV_DRV_E : Geo := ⟨0x143000, 0x40, 34, 0x8, 5, .slot⟩
def GOV_DRV_E_level_uj : Field := ⟨gGOV_DRV_E, 0, 32, .ro, fun _ _ _ => 0, false, false⟩
def GOV_DRV_E_alloc_uj : Field := ⟨gGOV_DRV_E, 32, 16, .ro, fun _ _ _ => 0, false, false⟩
def GOV_DRV_E_waiting : Field := ⟨gGOV_DRV_E, 48, 16, .ro, fun _ _ _ => 0, false, false⟩
def GOV_DRV_E : Reg := ⟨gGOV_DRV_E, [GOV_DRV_E_level_uj, GOV_DRV_E_alloc_uj, GOV_DRV_E_waiting], true⟩

def gGOV_DRV_PWR : Geo := ⟨0x143028, 0x40, 34, 0x0, 1, .slot⟩
def GOV_DRV_PWR_idle_mw : Field := ⟨gGOV_DRV_PWR, 0, 16, .ro, fun _ _ _ => 0, false, false⟩
def GOV_DRV_PWR_avg_mw : Field := ⟨gGOV_DRV_PWR, 16, 16, .ro, fun _ _ _ => 0, false, false⟩
def GOV_DRV_PWR_ps : Field := ⟨gGOV_DRV_PWR, 32, 4, .ro, fun _ _ _ => 0, false, false⟩
def GOV_DRV_PWR_np : Field := ⟨gGOV_DRV_PWR, 36, 1, .ro, fun _ _ _ => 0, false, false⟩
def GOV_DRV_PWR : Reg := ⟨gGOV_DRV_PWR, [GOV_DRV_PWR_idle_mw, GOV_DRV_PWR_avg_mw, GOV_DRV_PWR_ps, GOV_DRV_PWR_np], true⟩

def gGOV_DRV_COST : Geo := ⟨0x144000, 0x80, 34, 0x8, 16, .slot⟩
def GOV_DRV_COST_cost_uj : Field := ⟨gGOV_DRV_COST, 0, 16, .rw, fun _ _ j => rstCost j, false, false⟩
def GOV_DRV_COST_frozen : Field := ⟨gGOV_DRV_COST, 16, 1, .rw, fun _ _ _ => 0, false, false⟩
def GOV_DRV_COST_est_us : Field := ⟨gGOV_DRV_COST, 32, 16, .rw, fun _ _ j => rstEst j, false, false⟩
def GOV_DRV_COST : Reg := ⟨gGOV_DRV_COST, [GOV_DRV_COST_cost_uj, GOV_DRV_COST_frozen, GOV_DRV_COST_est_us], true⟩

def gGOV_GATE : Geo := ⟨0x146000, 0x40, 34, 0x8, 8, .slot⟩
def GOV_GATE_start_min : Field := ⟨gGOV_GATE, 0, 11, .rw, fun _ _ _ => 0, false, false⟩
def GOV_GATE_len_min : Field := ⟨gGOV_GATE, 16, 11, .rw, fun _ _ _ => 0, false, false⟩
def GOV_GATE : Reg := ⟨gGOV_GATE, [GOV_GATE_start_min, GOV_GATE_len_min], false⟩

def gSLOT_CH_CTL : Geo := ⟨0x180000, 0x100, 34, 0x0, 1, .slot⟩
def SLOT_CH_CTL_en : Field := ⟨gSLOT_CH_CTL, 0, 1, .rw, fun _ _ _ => 0, true, false⟩
def SLOT_CH_CTL_off_req : Field := ⟨gSLOT_CH_CTL, 1, 1, .wo, fun _ _ _ => 0, false, false⟩
def SLOT_CH_CTL_unlock : Field := ⟨gSLOT_CH_CTL, 2, 1, .wo, fun _ _ _ => 0, false, false⟩
def SLOT_CH_CTL_perst_rel : Field := ⟨gSLOT_CH_CTL, 3, 1, .rw, fun _ _ _ => 0, false, false⟩
def SLOT_CH_CTL_pwarn : Field := ⟨gSLOT_CH_CTL, 4, 1, .rw, fun _ _ _ => 0, false, false⟩
def SLOT_CH_CTL_seat_inhibit : Field := ⟨gSLOT_CH_CTL, 5, 1, .ro, fun _ _ _ => 0, true, false⟩
def SLOT_CH_CTL : Reg := ⟨gSLOT_CH_CTL, [SLOT_CH_CTL_en, SLOT_CH_CTL_off_req, SLOT_CH_CTL_unlock, SLOT_CH_CTL_perst_rel, SLOT_CH_CTL_pwarn, SLOT_CH_CTL_seat_inhibit], false⟩

def gSLOT_CH_STAT : Geo := ⟨0x180008, 0x100, 34, 0x0, 1, .slot⟩
def SLOT_CH_STAT_state : Field := ⟨gSLOT_CH_STAT, 0, 4, .ro, fun _ _ _ => 0, true, false⟩
def SLOT_CH_STAT_present : Field := ⟨gSLOT_CH_STAT, 4, 1, .ro, fun _ _ _ => 0, false, false⟩
def SLOT_CH_STAT_seated : Field := ⟨gSLOT_CH_STAT, 5, 1, .ro, fun _ _ _ => 0, false, false⟩
def SLOT_CH_STAT_pg : Field := ⟨gSLOT_CH_STAT, 6, 1, .ro, fun _ _ _ => 0, false, false⟩
def SLOT_CH_STAT_button : Field := ⟨gSLOT_CH_STAT, 7, 1, .ro, fun _ _ _ => 0, false, false⟩
def SLOT_CH_STAT_fault_cnt : Field := ⟨gSLOT_CH_STAT, 8, 2, .ro, fun _ _ _ => 0, true, false⟩
def SLOT_CH_STAT_reinserted : Field := ⟨gSLOT_CH_STAT, 10, 1, .ro, fun _ _ _ => 0, false, false⟩
def SLOT_CH_STAT_partner_on : Field := ⟨gSLOT_CH_STAT, 11, 1, .ro, fun _ _ _ => 0, false, false⟩
def SLOT_CH_STAT_vout_mv : Field := ⟨gSLOT_CH_STAT, 16, 16, .ro, fun _ _ _ => 0, false, false⟩
def SLOT_CH_STAT_i_ma : Field := ⟨gSLOT_CH_STAT, 32, 16, .ro, fun _ _ _ => 0, false, false⟩
def SLOT_CH_STAT : Reg := ⟨gSLOT_CH_STAT, [SLOT_CH_STAT_state, SLOT_CH_STAT_present, SLOT_CH_STAT_seated, SLOT_CH_STAT_pg, SLOT_CH_STAT_button, SLOT_CH_STAT_fault_cnt, SLOT_CH_STAT_reinserted, SLOT_CH_STAT_partner_on, SLOT_CH_STAT_vout_mv, SLOT_CH_STAT_i_ma], true⟩

def gSLOT_CH_CFG : Geo := ⟨0x180010, 0x100, 34, 0x0, 1, .slot⟩
def SLOT_CH_CFG_slope_hv : Field := ⟨gSLOT_CH_CFG, 0, 6, .rw, fun _ _ _ => 12, false, false⟩
def SLOT_CH_CFG_ramp_to_ms : Field := ⟨gSLOT_CH_CFG, 8, 8, .rw, fun _ _ _ => 50, false, false⟩
def SLOT_CH_CFG_ilim_ramp_ma : Field := ⟨gSLOT_CH_CFG, 16, 16, .rw, fun _ _ _ => 6000, false, false⟩
def SLOT_CH_CFG_retry_ms : Field := ⟨gSLOT_CH_CFG, 32, 16, .rw, fun _ _ _ => 5000, false, false⟩
def SLOT_CH_CFG_ins_delay_ms : Field := ⟨gSLOT_CH_CFG, 48, 10, .rw, fun _ _ _ => 500, false, false⟩
def SLOT_CH_CFG_auto_on : Field := ⟨gSLOT_CH_CFG, 58, 1, .rw, fun _ _ _ => 1, false, false⟩
def SLOT_CH_CFG_btn_unlock : Field := ⟨gSLOT_CH_CFG, 59, 1, .rw, fun _ _ _ => 0, false, false⟩
def SLOT_CH_CFG : Reg := ⟨gSLOT_CH_CFG, [SLOT_CH_CFG_slope_hv, SLOT_CH_CFG_ramp_to_ms, SLOT_CH_CFG_ilim_ramp_ma, SLOT_CH_CFG_retry_ms, SLOT_CH_CFG_ins_delay_ms, SLOT_CH_CFG_auto_on, SLOT_CH_CFG_btn_unlock], true⟩

def gSLOT_CH_LIM : Geo := ⟨0x180018, 0x100, 34, 0x0, 1, .slot⟩
def SLOT_CH_LIM_sc_ma : Field := ⟨gSLOT_CH_LIM, 0, 16, .rw, fun _ _ _ => 20000, false, false⟩
def SLOT_CH_LIM_pg_mv : Field := ⟨gSLOT_CH_LIM, 16, 16, .rw, fun _ _ _ => 10800, false, false⟩
def SLOT_CH_LIM_uv_mv : Field := ⟨gSLOT_CH_LIM, 32, 16, .rw, fun _ _ _ => 10200, false, false⟩
def SLOT_CH_LIM_pwarn_lead_ms : Field := ⟨gSLOT_CH_LIM, 48, 16, .rw, fun _ _ _ => 20, false, false⟩
def SLOT_CH_LIM : Reg := ⟨gSLOT_CH_LIM, [SLOT_CH_LIM_sc_ma, SLOT_CH_LIM_pg_mv, SLOT_CH_LIM_uv_mv, SLOT_CH_LIM_pwarn_lead_ms], true⟩

def gSLOT_CURVE : Geo := ⟨0x180020, 0x100, 34, 0x8, 8, .slot⟩
def SLOT_CURVE_i_ma : Field := ⟨gSLOT_CURVE, 0, 16, .rw, fun _ _ j => rstCurveI j, false, false⟩
def SLOT_CURVE_t_us : Field := ⟨gSLOT_CURVE, 16, 32, .rw, fun _ _ j => rstCurveT j, false, false⟩
def SLOT_CURVE : Reg := ⟨gSLOT_CURVE, [SLOT_CURVE_i_ma, SLOT_CURVE_t_us], true⟩

def gSLOT_TH_CFG : Geo := ⟨0x180060, 0x100, 34, 0x0, 1, .slot⟩
def SLOT_TH_CFG_src : Field := ⟨gSLOT_TH_CFG, 0, 1, .rw, fun _ _ _ => 0, false, false⟩
def SLOT_TH_CFG_tj_max_c : Field := ⟨gSLOT_TH_CFG, 8, 8, .rw, fun _ _ _ => 150, false, false⟩
def SLOT_TH_CFG_tj_restart_c : Field := ⟨gSLOT_TH_CFG, 16, 8, .rw, fun _ _ _ => 100, false, false⟩
def SLOT_TH_CFG_ta_c : Field := ⟨gSLOT_TH_CFG, 24, 8, .rw, fun _ _ _ => 85, false, false⟩
def SLOT_TH_CFG : Reg := ⟨gSLOT_TH_CFG, [SLOT_TH_CFG_src, SLOT_TH_CFG_tj_max_c, SLOT_TH_CFG_tj_restart_c, SLOT_TH_CFG_ta_c], true⟩

def gSLOT_TH_PARAM : Geo := ⟨0x180068, 0x100, 34, 0x0, 1, .slot⟩
def SLOT_TH_PARAM_rjc_mkw : Field := ⟨gSLOT_TH_PARAM, 0, 16, .rw, fun _ _ _ => 800, false, false⟩
def SLOT_TH_PARAM_cj_ujk : Field := ⟨gSLOT_TH_PARAM, 16, 16, .rw, fun _ _ _ => 5000, false, false⟩
def SLOT_TH_PARAM_rca_dkw : Field := ⟨gSLOT_TH_PARAM, 32, 16, .rw, fun _ _ _ => 400, false, false⟩
def SLOT_TH_PARAM_cc_mjk : Field := ⟨gSLOT_TH_PARAM, 48, 16, .rw, fun _ _ _ => 500, false, false⟩
def SLOT_TH_PARAM : Reg := ⟨gSLOT_TH_PARAM, [SLOT_TH_PARAM_rjc_mkw, SLOT_TH_PARAM_cj_ujk, SLOT_TH_PARAM_rca_dkw, SLOT_TH_PARAM_cc_mjk], true⟩

def gSLOT_TH_STAT : Geo := ⟨0x180070, 0x100, 34, 0x0, 1, .slot⟩
def SLOT_TH_STAT_tj_dc : Field := ⟨gSLOT_TH_STAT, 0, 16, .ro, fun _ _ _ => 850, false, false⟩
def SLOT_TH_STAT_tc_dc : Field := ⟨gSLOT_TH_STAT, 16, 16, .ro, fun _ _ _ => 850, false, false⟩
def SLOT_TH_STAT_p_dw : Field := ⟨gSLOT_TH_STAT, 32, 16, .ro, fun _ _ _ => 0, false, false⟩
def SLOT_TH_STAT : Reg := ⟨gSLOT_TH_STAT, [SLOT_TH_STAT_tj_dc, SLOT_TH_STAT_tc_dc, SLOT_TH_STAT_p_dw], true⟩

def gSLOT_CH_FAULT : Geo := ⟨0x180078, 0x100, 34, 0x0, 1, .slot⟩
def SLOT_CH_FAULT_kind : Field := ⟨gSLOT_CH_FAULT, 0, 4, .ro, fun _ _ _ => 0, false, false⟩
def SLOT_CH_FAULT_point : Field := ⟨gSLOT_CH_FAULT, 4, 3, .ro, fun _ _ _ => 0, false, false⟩
def SLOT_CH_FAULT_i_ma : Field := ⟨gSLOT_CH_FAULT, 16, 16, .ro, fun _ _ _ => 0, false, false⟩
def SLOT_CH_FAULT_retry_left_ms : Field := ⟨gSLOT_CH_FAULT, 32, 16, .ro, fun _ _ _ => 0, false, false⟩
def SLOT_CH_FAULT_valid : Field := ⟨gSLOT_CH_FAULT, 63, 1, .w1c, fun _ _ _ => 0, false, false⟩
def SLOT_CH_FAULT : Reg := ⟨gSLOT_CH_FAULT, [SLOT_CH_FAULT_kind, SLOT_CH_FAULT_point, SLOT_CH_FAULT_i_ma, SLOT_CH_FAULT_retry_left_ms, SLOT_CH_FAULT_valid], true⟩

def gSLOT_CEIL : Geo := ⟨0x180080, 0x100, 34, 0x0, 1, .slot⟩
def SLOT_CEIL_cont_ma : Field := ⟨gSLOT_CEIL, 0, 16, .ro, fun _ _ _ => 0, false, false⟩
def SLOT_CEIL_peak_ma : Field := ⟨gSLOT_CEIL, 16, 16, .ro, fun _ _ _ => 0, false, false⟩
def SLOT_CEIL_priv : Field := ⟨gSLOT_CEIL, 32, 1, .ro, fun _ _ _ => 0, false, false⟩
def SLOT_CEIL : Reg := ⟨gSLOT_CEIL, [SLOT_CEIL_cont_ma, SLOT_CEIL_peak_ma, SLOT_CEIL_priv], true⟩

def gSLOT_LED : Geo := ⟨0x180088, 0x100, 34, 0x0, 1, .slot⟩
def SLOT_LED_amber : Field := ⟨gSLOT_LED, 0, 3, .ro, fun _ _ _ => 0, false, false⟩
def SLOT_LED_green : Field := ⟨gSLOT_LED, 3, 3, .ro, fun _ _ _ => 0, false, false⟩
def SLOT_LED_locate : Field := ⟨gSLOT_LED, 6, 1, .rw, fun _ _ _ => 0, false, false⟩
def SLOT_LED_ovr_en : Field := ⟨gSLOT_LED, 7, 1, .rw, fun _ _ _ => 0, false, false⟩
def SLOT_LED_amber_ovr : Field := ⟨gSLOT_LED, 8, 3, .rw, fun _ _ _ => 0, false, false⟩
def SLOT_LED : Reg := ⟨gSLOT_LED, [SLOT_LED_amber, SLOT_LED_green, SLOT_LED_locate, SLOT_LED_ovr_en, SLOT_LED_amber_ovr], false⟩

def gSLOT_BTN_STAT : Geo := ⟨0x180090, 0x100, 34, 0x0, 1, .slot⟩
def SLOT_BTN_STAT_rm_state : Field := ⟨gSLOT_BTN_STAT, 0, 3, .ro, fun _ _ _ => 0, false, false⟩
def SLOT_BTN_STAT_last_press_ms : Field := ⟨gSLOT_BTN_STAT, 16, 16, .ro, fun _ _ _ => 0, false, false⟩
def SLOT_BTN_STAT_presses : Field := ⟨gSLOT_BTN_STAT, 32, 16, .ro, fun _ _ _ => 0, true, false⟩
def SLOT_BTN_STAT : Reg := ⟨gSLOT_BTN_STAT, [SLOT_BTN_STAT_rm_state, SLOT_BTN_STAT_last_press_ms, SLOT_BTN_STAT_presses], true⟩

def gSLOT_CNT : Geo := ⟨0x180098, 0x100, 34, 0x0, 1, .slot⟩
def SLOT_CNT_faults : Field := ⟨gSLOT_CNT, 0, 16, .ro, fun _ _ _ => 0, true, false⟩
def SLOT_CNT_starts : Field := ⟨gSLOT_CNT, 16, 16, .ro, fun _ _ _ => 0, true, false⟩
def SLOT_CNT_removals : Field := ⟨gSLOT_CNT, 32, 16, .ro, fun _ _ _ => 0, true, false⟩
def SLOT_CNT_reinsertions : Field := ⟨gSLOT_CNT, 48, 16, .ro, fun _ _ _ => 0, true, false⟩
def SLOT_CNT : Reg := ⟨gSLOT_CNT, [SLOT_CNT_faults, SLOT_CNT_starts, SLOT_CNT_removals, SLOT_CNT_reinsertions], true⟩

def gSLOT_GLB_CFG : Geo := ⟨0x184000, 0x0, 1, 0x0, 1, .always⟩
def SLOT_GLB_CFG_shunt_uohm : Field := ⟨gSLOT_GLB_CFG, 0, 16, .rw, fun _ _ _ => 2000, false, false⟩
def SLOT_GLB_CFG_led_owner : Field := ⟨gSLOT_GLB_CFG, 16, 1, .ro, fun _ _ _ => 0, false, false⟩
def SLOT_GLB_CFG_forced_en : Field := ⟨gSLOT_GLB_CFG, 17, 1, .ro, fun _ _ _ => 0, false, false⟩
def SLOT_GLB_CFG_mi_poll_ms : Field := ⟨gSLOT_GLB_CFG, 32, 16, .rw, fun _ _ _ => 1000, false, false⟩
def SLOT_GLB_CFG_sb_400k : Field := ⟨gSLOT_GLB_CFG, 48, 1, .rw, fun _ _ _ => 0, false, false⟩
def SLOT_GLB_CFG : Reg := ⟨gSLOT_GLB_CFG, [SLOT_GLB_CFG_shunt_uohm, SLOT_GLB_CFG_led_owner, SLOT_GLB_CFG_forced_en, SLOT_GLB_CFG_mi_poll_ms, SLOT_GLB_CFG_sb_400k], true⟩

def gSLOT_GLB_STAT : Geo := ⟨0x184008, 0x0, 1, 0x0, 1, .always⟩
def SLOT_GLB_STAT_vin_mv : Field := ⟨gSLOT_GLB_STAT, 0, 16, .ro, fun _ _ _ => 0, false, false⟩
def SLOT_GLB_STAT_slots_on : Field := ⟨gSLOT_GLB_STAT, 16, 34, .ro, fun _ _ _ => 0, false, false⟩
def SLOT_GLB_STAT : Reg := ⟨gSLOT_GLB_STAT, [SLOT_GLB_STAT_vin_mv, SLOT_GLB_STAT_slots_on], true⟩

def gSLOT_EVT_LAST : Geo := ⟨0x184010, 0x0, 1, 0x0, 1, .always⟩
def SLOT_EVT_LAST_slot : Field := ⟨gSLOT_EVT_LAST, 0, 6, .ro, fun _ _ _ => 0, false, false⟩
def SLOT_EVT_LAST_event : Field := ⟨gSLOT_EVT_LAST, 16, 11, .ro, fun _ _ _ => 0, false, false⟩
def SLOT_EVT_LAST_valid : Field := ⟨gSLOT_EVT_LAST, 63, 1, .w1c, fun _ _ _ => 0, false, false⟩
def SLOT_EVT_LAST : Reg := ⟨gSLOT_EVT_LAST, [SLOT_EVT_LAST_slot, SLOT_EVT_LAST_event, SLOT_EVT_LAST_valid], true⟩

def gDRV_LINK_CFG : Geo := ⟨0xC00000, 0x100, 34, 0x0, 1, .slot⟩
def DRV_LINK_CFG_max_gen : Field := ⟨gDRV_LINK_CFG, 0, 2, .rw, fun _ _ _ => 2, false, true⟩
def DRV_LINK_CFG_x1_ok : Field := ⟨gDRV_LINK_CFG, 2, 1, .rw, fun _ _ _ => 1, false, true⟩
def DRV_LINK_CFG_retries : Field := ⟨gDRV_LINK_CFG, 8, 4, .rw, fun _ _ _ => 3, false, true⟩
def DRV_LINK_CFG : Reg := ⟨gDRV_LINK_CFG, [DRV_LINK_CFG_max_gen, DRV_LINK_CFG_x1_ok, DRV_LINK_CFG_retries], false⟩

def gDRV_LINK_STAT : Geo := ⟨0xC00008, 0x100, 34, 0x0, 1, .slot⟩
def DRV_LINK_STAT_up : Field := ⟨gDRV_LINK_STAT, 0, 1, .ro, fun _ _ _ => 0, false, true⟩
def DRV_LINK_STAT_gen : Field := ⟨gDRV_LINK_STAT, 1, 2, .ro, fun _ _ _ => 0, false, true⟩
def DRV_LINK_STAT_width : Field := ⟨gDRV_LINK_STAT, 3, 2, .ro, fun _ _ _ => 0, false, true⟩
def DRV_LINK_STAT_ltssm : Field := ⟨gDRV_LINK_STAT, 8, 8, .ro, fun _ _ _ => 0, false, true⟩
def DRV_LINK_STAT_retrains : Field := ⟨gDRV_LINK_STAT, 16, 16, .ro, fun _ _ _ => 0, true, true⟩
def DRV_LINK_STAT_corr_err : Field := ⟨gDRV_LINK_STAT, 32, 16, .ro, fun _ _ _ => 0, true, true⟩
def DRV_LINK_STAT_uncorr_err : Field := ⟨gDRV_LINK_STAT, 48, 16, .ro, fun _ _ _ => 0, true, true⟩
def DRV_LINK_STAT : Reg := ⟨gDRV_LINK_STAT, [DRV_LINK_STAT_up, DRV_LINK_STAT_gen, DRV_LINK_STAT_width, DRV_LINK_STAT_ltssm, DRV_LINK_STAT_retrains, DRV_LINK_STAT_corr_err, DRV_LINK_STAT_uncorr_err], true⟩

def gDRV_NVME_STAT : Geo := ⟨0xC00010, 0x100, 34, 0x0, 1, .slot⟩
def DRV_NVME_STAT_ready : Field := ⟨gDRV_NVME_STAT, 0, 1, .ro, fun _ _ _ => 0, false, true⟩
def DRV_NVME_STAT_shn : Field := ⟨gDRV_NVME_STAT, 1, 1, .ro, fun _ _ _ => 0, false, true⟩
def DRV_NVME_STAT_rsv_held : Field := ⟨gDRV_NVME_STAT, 2, 1, .ro, fun _ _ _ => 0, false, true⟩
def DRV_NVME_STAT_req_ok : Field := ⟨gDRV_NVME_STAT, 3, 1, .ro, fun _ _ _ => 0, false, true⟩
def DRV_NVME_STAT_ioq : Field := ⟨gDRV_NVME_STAT, 8, 8, .ro, fun _ _ _ => 0, false, true⟩
def DRV_NVME_STAT_cntlid : Field := ⟨gDRV_NVME_STAT, 16, 16, .ro, fun _ _ _ => 0, false, true⟩
def DRV_NVME_STAT : Reg := ⟨gDRV_NVME_STAT, [DRV_NVME_STAT_ready, DRV_NVME_STAT_shn, DRV_NVME_STAT_rsv_held, DRV_NVME_STAT_req_ok, DRV_NVME_STAT_ioq, DRV_NVME_STAT_cntlid], true⟩

def gDRV_MI_STAT : Geo := ⟨0xC00018, 0x100, 34, 0x0, 1, .slot⟩
def DRV_MI_STAT_temp_c : Field := ⟨gDRV_MI_STAT, 0, 8, .ro, fun _ _ _ => 0, false, true⟩
def DRV_MI_STAT_mi_ok : Field := ⟨gDRV_MI_STAT, 8, 1, .ro, fun _ _ _ => 0, false, true⟩
def DRV_MI_STAT_crit_warn : Field := ⟨gDRV_MI_STAT, 9, 1, .ro, fun _ _ _ => 0, false, true⟩
def DRV_MI_STAT_poll_fail : Field := ⟨gDRV_MI_STAT, 16, 16, .ro, fun _ _ _ => 0, true, true⟩
def DRV_MI_STAT : Reg := ⟨gDRV_MI_STAT, [DRV_MI_STAT_temp_c, DRV_MI_STAT_mi_ok, DRV_MI_STAT_crit_warn, DRV_MI_STAT_poll_fail], true⟩

def gDRV_CFG : Geo := ⟨0xC04000, 0x0, 1, 0x0, 1, .always⟩
def DRV_CFG_link_fail_ms : Field := ⟨gDRV_CFG, 0, 16, .rw, fun _ _ _ => 5000, false, true⟩
def DRV_CFG_train_to_ms : Field := ⟨gDRV_CFG, 16, 16, .rw, fun _ _ _ => 1000, false, true⟩
def DRV_CFG : Reg := ⟨gDRV_CFG, [DRV_CFG_link_fail_ms, DRV_CFG_train_to_ms], true⟩

end Sys2Proof.Machine
end

