-- ==== Sys2Proof/Machine/RegMap.lean ====
section
/-!
DEFINITION. The BAR0 map of R402: every register of every block, in one list per block, and the register that an address names.
-/

namespace Sys2Proof.Machine

def regsSwx : List Reg := [
  SWX_CTL, SWX_BUF_STATUS, SWX_BUF_HWM, SWX_RESEQ_CFG, SWX_STILE_CFG, SWX_REPLAY_CFG,
  SWX_RESET_DISCARD, SWX_RESEQ_ERR, SWX_CLASS_CFG, SWX_CLASS_STAT, SWX_PUSHOUT_CNT, SWX_OUT_CFG,
  SWX_OUT_STAT, SWX_MIR_CTL, SWX_MIR_CNT, SWX_MIR_LOST]

def regsPort : List Reg := [
  PORT_CFG, PORT_STATUS, PORT_PRIO_MAP, PORT_PFC_CFG, PORT_DSCP_MAP, PORT_FEC_CNT,
  PORT_DROP_CNT, PORT_HURDLE_CNT, PORT_FEC_THR, PORT_TIME_CFG, PORT_TIME_STATUS, PORT_TICK_LAST,
  PORT_PPS_SEC, PORT_SLOWPATH_CFG]

def regsDrove : List Reg := [
  DROVE_TCP_CFG, DROVE_ROCE_CFG, DROVE_ROCE_RATE, DROVE_DRV_CFG, DROVE_DRV_TIMER, DROVE_DRV_PATH,
  DROVE_DRV_KEY, DROVE_DRV_CREDIT, DROVE_RXPOOL, DROVE_RXPOOL_PRESS, DROVE_DRV_RATE, DROVE_DRV_CONNS,
  DROVE_DRV_CNT, DROVE_CTX_SEL, DROVE_CTX_VIEW0, DROVE_CTX_VIEW1, DROVE_CTX_VIEW2, DROVE_CTX_VIEW3]

def regsMap : List Reg := [
  MAP_CTL, MAP_STATUS, MAP_LEARN_STAT, MAP_FB_STAT, MAP_PATH_CFG, MAP_PATH_STAT,
  MAP_RGN_CFG, MAP_CNT, MAP_TBL_CFG, MAP_TBL_SEED, MAP_TBL_STAT, MAP_TBL_NEXT]

def regsCmdq : List Reg := [
  CMDQ_CTL, CMDQ_LIMIT, CMDQ_URG_CFG, CMDQ_DRV_CFG, CMDQ_TMO_LAST, CMDQ_ISL_STAT,
  CMDQ_ISL_TAGS, CMDQ_SEQ_SEL, CMDQ_SEQ_VIEW, CMDQ_CNT, CMDQ_DRV_TMO, CMDQ_DRV_STAT,
  CMDQ_HOST_CLASS, CMDQ_PADDOCK_ARB, CMDQ_VOL_ARB]

def regsCache : List Reg := [
  CACHE_CTL, CACHE_STATUS, CACHE_DIRTY_CFG, CACHE_DIRTY_STAT, CACHE_HOLDUP, CACHE_DUMP_CFG,
  CACHE_DUMP_AREA, CACHE_DUMP_STAT, CACHE_LINE_STAT, CACHE_LINE_STAT2, CACHE_RANGE_STAT, CACHE_CNT,
  CACHE_VOL_MODE]

def regsStripe : List Reg := [
  STRIPE_CTL, STRIPE_JNL_STAT, STRIPE_CKPT_CFG, STRIPE_CKPT_AREA, STRIPE_CKPT_STAT, STRIPE_ANNEX_STAT,
  STRIPE_GATE_LAST, STRIPE_VERIFY_LAST, STRIPE_FLOCK_CFG, STRIPE_FLOCK_STAT, STRIPE_FLOCK_ACRES, STRIPE_FLOCK_SLOT,
  STRIPE_LAYOUT_SEL, STRIPE_LAYOUT_VIEW, STRIPE_ISL_STAT, STRIPE_CNT, STRIPE_RB_CFG, STRIPE_BG_RATE,
  STRIPE_SCRUB_CFG, STRIPE_SHEAR_CFG, STRIPE_REC_AREA, STRIPE_BG_STAT, STRIPE_BG_POS, STRIPE_LOST_STAT,
  STRIPE_BG_CNT]

def regsGov : List Reg := [
  GOV_CTL, GOV_CAP, GOV_STAT, GOV_CLASS_W, GOV_TEMP_CFG, GOV_TEMP_STAT,
  GOV_VF_CFG, GOV_DRV_PS_CFG, GOV_GATE_EN, GOV_GATE_STAT, GOV_GATE_CFG, GOV_SHAPE_SEL,
  GOV_SHAPE_VIEW0, GOV_SHAPE_VIEW1, GOV_SHAPE_VIEW2, GOV_SHAPE_VIEW3, GOV_WHEEL_STAT, GOV_CNT,
  GOV_ISL_PT, GOV_ISL_CAL, GOV_PD_CTL, GOV_PD_STAT, GOV_DRV_E, GOV_DRV_PWR,
  GOV_DRV_COST, GOV_GATE]

def regsSlot : List Reg := [
  SLOT_CH_CTL, SLOT_CH_STAT, SLOT_CH_CFG, SLOT_CH_LIM, SLOT_CURVE, SLOT_TH_CFG,
  SLOT_TH_PARAM, SLOT_TH_STAT, SLOT_CH_FAULT, SLOT_CEIL, SLOT_LED, SLOT_BTN_STAT,
  SLOT_CNT, SLOT_GLB_CFG, SLOT_GLB_STAT, SLOT_EVT_LAST]

def regsDrv : List Reg := [
  DRV_LINK_CFG, DRV_LINK_STAT, DRV_NVME_STAT, DRV_MI_STAT, DRV_CFG]

def regsCiph : List Reg := [
  CIPH_CTL, CIPH_STATUS, CIPH_KEK_ID, CIPH_DEV_FP, CIPH_GEN_CFG, CIPH_KEYREC_AREA,
  CIPH_ENTROPY, CIPH_LANE, CIPH_CACHE_STAT, CIPH_PAD_SEL, CIPH_PAD_VIEW0, CIPH_PAD_VIEW1,
  CIPH_PAD_VIEW2, CIPH_CNT]

def regsTwin : List Reg := [
  TWIN_CTL, TWIN_STATUS, TWIN_WHISTLE_CFG, TWIN_KICK, TWIN_WHISTLE_STAT, TWIN_FAILBACK_CFG,
  TWIN_RESYNC, TWIN_PLINK, TWIN_CROOK, TWIN_FOLD_CFG, TWIN_FOLD_STAT, TWIN_HEALTH_SEL,
  TWIN_HEALTH_VIEW, TWIN_CNT]

def regsGlb : List Reg := [
  GLB_ID, GLB_SERIAL, GLB_CFG_GEN, GLB_START, GLB_SCRATCH]

def regsRing : List Reg := [
  RING_SQ_BASE, RING_SQ_CFG, RING_SQ_CTL, RING_SQ_STAT, RING_SQ_DB, RING_CQ_BASE,
  RING_CQ_CFG, RING_CQ_HEAD, RING_CQ_STAT, RING_CAP_BASE, RING_CAP_CFG, RING_CAP_PROD,
  RING_CAP_CONS, RING_CAP_WB]

def regsWin : List Reg := [
  WIN_CTL_SH, WIN_BASE_SH, WIN_SIZE_SH, WIN_COMMIT, WIN_ACTIVE, WIN_EPOCH,
  WIN_XFER, WIN_UR_LAST]

def regsLongop : List Reg := [
  LONGOP_STATUS, LONGOP_TOTAL, LONGOP_RESULT_COUNT, LONGOP_RES_BASE, LONGOP_RES_PROD, LONGOP_RES_CONS,
  LONGOP_INFO, LONGOP_START]

def regsLedger : List Reg := [
  LEDGER_STAT, LEDGER_RULE, LEDGER_RULE_DRV, LEDGER_HOLD_SLOTS, LEDGER_IMAGE, LEDGER_ENTRY]

def regsFuse : List Reg := [
  FUSE_STAT, FUSE_KEYHASH, FUSE_RAW]

def regsEvt : List Reg := [
  EVT_STATUS, EVT_ENABLE, EVT_SUMMARY, EVT_LOG_STAT, EVT_ROUTE, EVT_COUNT]

def regsPmc : List Reg := [
  PMC_STAT, PMC_SMP_BASE, PMC_SMP_PROD, PMC_SMP_CONS, PMC_SMP_LOST, PMC_CHAIN_HI,
  PMC_CFG, PMC_CNT, PMC_RELOAD, PMC_KIND, PMC_KIND_NAME]

def regsTally : List Reg := [
  TALLY_CTL, TALLY_BANK, TALLY_CLOSED, TALLY_BASE, TALLY_ACC, TALLY_ACC_FIRST,
  TALLY_ACC_LAST, TALLY_CNT]

/-- Every register of BAR0 (R402). -/
def regMap : List Reg :=
  regsSwx ++ regsPort ++ regsDrove ++ regsMap ++ regsCmdq ++ regsCache ++ regsStripe ++ regsGov ++ regsSlot ++ regsDrv ++ regsCiph ++ regsTwin ++ regsGlb ++ regsRing ++ regsWin ++ regsLongop ++ regsLedger ++ regsFuse ++ regsEvt ++ regsPmc ++ regsTally

end Sys2Proof.Machine
end

