-- ==== Sys2Proof/Machine/Ops.lean ====
section
/-!
DEFINITION. The named operations that every meaning uses: reading and writing register fields, counters that stick, raising an event (R470 to
R472), sending an MSI-X message (R408, R424, R471), the register file as BAR0 shows it (R11 to R14, R403), fresh values.
-/

namespace Sys2Proof.Machine

/-! ### Register fields -/

/-- The value of a register field. -/
def Chip.get (c : Chip) (f : Field) (i : Nat := 0) (j : Nat := 0) : Nat :=
  c.regs.getD (f.key i j) (f.rst c.id i j)

/-- Set a register field; bits above its width are dropped. -/
def Chip.set (c : Chip) (f : Field) (v : Nat) (i : Nat := 0) (j : Nat := 0) : Chip :=
  { c with regs := c.regs.put (f.key i j) (v % 2 ^ f.width) }

/-- Is a one-bit field set? -/
def Chip.flag (c : Chip) (f : Field) (i : Nat := 0) (j : Nat := 0) : Bool := decide (c.get f i j ≠ 0)

/-- Set a one-bit field. -/
def Chip.setFlag (c : Chip) (f : Field) (b : Bool) (i : Nat := 0) (j : Nat := 0) : Chip := c.set f (b2n b) i j

/-- Add to a field that sticks at its greatest value. -/
def Chip.bump (c : Chip) (f : Field) (n : Nat := 1) (i : Nat := 0) (j : Nat := 0) : Chip :=
  c.set f (min (c.get f i j + n) (2 ^ f.width - 1)) i j

/-- Add to a counter whose register shows a stuck bit once it has stuck. -/
def Chip.bumpS (c : Chip) (f stuck : Field) (n : Nat := 1) (i : Nat := 0) (j : Nat := 0) : Chip :=
  let c := c.bump f n i j
  if c.get f i j = 2 ^ f.width - 1 then c.set stuck 1 i j else c

/-- Take from a field, not below 0. -/
def Chip.lessen (c : Chip) (f : Field) (n : Nat := 1) (i : Nat := 0) (j : Nat := 0) : Chip :=
  c.set f (c.get f i j - n) i j

/-- Raise a peak field to a value. -/
def Chip.peak (c : Chip) (f : Field) (v : Nat) (i : Nat := 0) (j : Nat := 0) : Chip :=
  if c.get f i j < v then c.set f v i j else c

/-- Put a message on an interface. -/
def Chip.send (c : Chip) (o : Out) : Chip := { c with out := o :: c.out }

/-- Take a fresh value that the spec leaves open. -/
def Chip.fresh (c : Chip) : Nat × Chip := (Config.free c.freeN, { c with freeN := c.freeN + 1 })

/-- Take a fresh string of bytes that the spec leaves open. -/
def Chip.freshBytes (c : Chip) : Bytes × Chip := (Config.freeBytes c.freeN, { c with freeN := c.freeN + 1 })

/-- Does the chip run on the one-stack layout (SV1816, or R189)? -/
def Chip.oneStack (c : Chip) : Bool := c.id.half || decide (c.get CACHE_STATUS_stacks ≠ 3)

/-- The stack that holds what stack 0 holds on a chip with both: an SV3432 that has lost stack 0 keeps all in stack 1 (R189). -/
def Chip.homeStack (c : Chip) : Nat := if !c.id.half && c.get CACHE_STATUS_stacks = 2 then 1 else 0

/-- The identity under which the map is laid out: an SV3432 on one stack takes the sizes of the SV1816 (R189, R462). -/
def Chip.layoutId (c : Chip) : Ident := { c.id with half := c.oneStack }

/-! ### Events -/

/-- Events that the SV1816 never raises (R5, R82, R122, R187, R219, R343). -/
def eventAbsent (d : Ident) (e : Nat) : Bool :=
  d.half && ((decide (0x040 ≤ e) && decide (e < 0x080)) || (decide (0x140 ≤ e) && decide (e < 0x180)) ||
    e == 0x282 || e == 0x283 || e == 0x301 || (decide (0x540 ≤ e) && decide (e < 0x580)))

/-- Keep EVT_SUMMARY: bit w is 1 while an enabled status bit of word w is set. -/
def Chip.refreshSummary (c : Chip) (w : Nat) : Chip :=
  let on := decide (c.get EVT_STATUS_status w &&& c.get EVT_ENABLE_enable w ≠ 0)
  c.set EVT_SUMMARY_words (setBit (c.get EVT_SUMMARY_words) w on)

/-- Send the message of an MSI-X vector, or set its PBA bit while it may not be sent (R408, R471, R474). -/
def Chip.msix (c : Chip) (v : Nat) : Chip :=
  let e := c.mgmt.msix.getD v ⟨0, 0, true⟩
  if c.mgmt.msixEn && c.mgmt.bme && !c.mgmt.d3 && !c.mgmt.msixMask && !e.masked then c.send (.msix v e.addr e.data)
  else { c with mgmt := { c.mgmt with pba := addNew v c.mgmt.pba } }

/-- Give a log entry to every session that subscribed to its event (R473). -/
def Chip.notify (c : Chip) (l : LogEntry) : Chip :=
  { c with mgmt := { c.mgmt with sessions := c.mgmt.sessions.mapVals (fun _ m =>
      if m.subMask.contains l.event then { m with waiting := m.waiting ++ [l] } else m) } }

/-- The status bit and the raise count of an event (R470). -/
def Chip.markEvent (c : Chip) (e : Nat) : Chip :=
  let w := e / 64
  let c := c.set EVT_STATUS_status (setBit (c.get EVT_STATUS_status w) (e % 64) true) w
  let c := c.bump EVT_COUNT_raises 1 e
  let c := c.set EVT_COUNT_last_s ((c.clk - c.start.st00Ns) / 1000000000) e
  c.refreshSummary w

/-- An entry that waits for its event's next millisecond: the count of a waiting entry rises (R472). -/
def Chip.logWait (c : Chip) (l : LogEntry) : Chip :=
  let e := match c.evt.waiting.get? l.event with
    | some w => { w with count := min (w.count + l.count) 0xFFFFFFFF, msixSent := w.msixSent || l.msixSent }
    | none => l
  { c with evt := { c.evt with waiting := c.evt.waiting.put l.event e } }

/-- Raise an event: its status bit and count, its MSI-X message where that is enabled and the bit was 0, and, routed to firmware, an entry given to `log` (R470, R471). -/
def Chip.raiseTo (c : Chip) (e : Nat) (atStart : Bool) (log : Chip → LogEntry → Chip) : Chip :=
  if eventAbsent c.id e then c
  else
    let was := bit (c.get EVT_STATUS_status (e / 64)) (e % 64)
    let en := bit (c.get EVT_ENABLE_enable (e / 64)) (e % 64)
    let c := c.markEvent e
    if en then
      let sent := c.flag EVT_ROUTE_msix e && !was
      let c := if sent then c.msix (c.get EVT_ROUTE_vector e) else c
      if c.flag EVT_ROUTE_fw e then log c ⟨c.now, e, sent, atStart, 1⟩ else c
    else c

/-- Write an entry into the ring of 4,096; an entry overwritten unread is counted and raises event 0x7E2, whose own entry waits (R472). -/
def Chip.logWrite (c : Chip) (l : LogEntry) : Chip :=
  let n := c.get EVT_LOG_STAT_next
  let c := { c with evt := { c.evt with log := c.evt.log.put (n % 4096) l, lastEntry := c.evt.lastEntry.put l.event c.clk } }
  let c := c.set EVT_LOG_STAT_next (n + 1)
  let c := c.notify l
  if ahead 32 (n + 1) c.evt.readTo > 4096 then
    let c := { c with evt := { c.evt with readTo := (n + 1 + 2 ^ 32 - 4096) % 2 ^ 32 } }
    (c.bump EVT_LOG_STAT_lost).raiseTo 0x7E2 false Chip.logWait
  else c

/-- Enter a raise in the event log: at most one entry per millisecond for each event (R472). -/
def Chip.logRaise (c : Chip) (l : LogEntry) : Chip :=
  let due := match c.evt.lastEntry.get? l.event with
    | some t => decide (t + 1000000 ≤ c.clk)
    | none => true
  if due && !c.evt.waiting.has l.event then c.logWrite l else c.logWait l

/-- Raise an event, marked in the log as raised at start from a record when `atStart` (R470 to R472). -/
def Chip.raiseAs (c : Chip) (e : Nat) (atStart : Bool) : Chip := c.raiseTo e atStart Chip.logRaise

/-- Raise an event. -/
def Chip.raise (c : Chip) (e : Nat) : Chip := c.raiseAs e false

/-- Raise an event when a condition holds. -/
def Chip.raiseIf (c : Chip) (b : Bool) (e : Nat) : Chip := if b then c.raise e else c

/-- Raise an event that is limited to once in a period for each key (R470: no more often than stated). -/
def Chip.raiseLtd (c : Chip) (e key period : Nat) : Chip :=
  let k := e * 2 ^ 20 + key
  let due := match c.mgmt.eventLast.get? k with
    | some t => decide (t + period ≤ c.clk)
    | none => true
  if due then ({ c with mgmt := { c.mgmt with eventLast := c.mgmt.eventLast.put k c.clk } }).raise e else c

def second : Nat := 1000000000

/-! ### Counters of the blocks -/

def Chip.cntDrove (c : Chip) (k : Nat) (n : Nat := 1) : Chip := c.bumpS DROVE_DRV_CNT_count DROVE_DRV_CNT_stuck n k
def Chip.cntMap (c : Chip) (k : Nat) (n : Nat := 1) : Chip := c.bumpS MAP_CNT_count MAP_CNT_stuck n k
def Chip.cntCmd (c : Chip) (k : Nat) (n : Nat := 1) : Chip := c.bumpS CMDQ_CNT_count CMDQ_CNT_stuck n k
def Chip.cntCache (c : Chip) (k : Nat) (n : Nat := 1) : Chip := c.bumpS CACHE_CNT_count CACHE_CNT_stuck n k
def Chip.cntStripe (c : Chip) (k : Nat) (n : Nat := 1) : Chip := c.bumpS STRIPE_CNT_count STRIPE_CNT_stuck n k
def Chip.cntBg (c : Chip) (k : Nat) (n : Nat := 1) : Chip := c.bumpS STRIPE_BG_CNT_count STRIPE_BG_CNT_stuck n k
def Chip.cntGov (c : Chip) (k : Nat) (n : Nat := 1) : Chip := c.bumpS GOV_CNT_count GOV_CNT_stuck n k
def Chip.cntCiph (c : Chip) (k : Nat) (n : Nat := 1) : Chip := c.bumpS CIPH_CNT_count CIPH_CNT_stuck n k
def Chip.cntTwin (c : Chip) (k : Nat) (n : Nat := 1) : Chip := c.bumpS TWIN_CNT_count TWIN_CNT_stuck n k
def Chip.cntTally (c : Chip) (k : Nat) (n : Nat := 1) : Chip := c.bumpS TALLY_CNT_count TALLY_CNT_stuck n k

/-! ### Lanes and their masks (R345 to R349) -/

/-- Lanes of the grade (R345). -/
def laneCount (d : Ident) : Nat := if d.half then 12 else 24

/-- The lane of lowest number in service in a cipher island (R346). -/
def Chip.cipherLane (c : Chip) (isl : Nat) : Option Nat :=
  ((List.range 8).map (fun i => isl * 8 + i)).find? (fun l => decide (l < laneCount c.id) && c.get CIPH_LANE_state l = 0)

/-- The lane for the packets of a connection: in its own island, else in the next that has one (R346). -/
def Chip.gcmLane (c : Chip) (ctx : Nat) : Option Nat :=
  let i := if c.id.half then (if ctx % 3 = 2 then 1 else 0) else ctx % 3
  [i, (i + 1) % 3, (i + 2) % 3].findSome? c.cipherLane

/-- The lane for a member block: no island has blocks queued at the end of a command, so the lowest has precedence (R346). -/
def Chip.xtsLane (c : Chip) : Option Nat := [0, 1, 2].findSome? c.cipherLane

/-- The key of a lane's mask generator, an AES-256-CTR stream (R347). -/
def Chip.maskKey (c : Chip) (lane : Nat) : Bytes := Config.maskKey lane (c.cipher.masks.getD lane (0, 0)).1

/-- A lane works on bytes under its masks: after 2^16 blocks its mask generator is keyed again from the DRBG (R347); while the DRBG is stopped it runs on past that point (R349). -/
def Chip.laneWork (c : Chip) (lane : Option Nat) (bytes : Nat) : Chip :=
  match lane with
  | none => c
  | some l =>
    let m := c.cipher.masks.getD l (0, 0)
    let n := m.2 + ceilDiv bytes 16
    let m := if 2 ^ 16 ≤ n && c.flag CIPH_STATUS_drbg_ready then (m.1 + 1, n % 2 ^ 16) else (m.1, n)
    { c with cipher := { c.cipher with masks := c.cipher.masks.put l m } }

/-- Is the DRBG stopped (R349)? -/
def Chip.drbgStopped (c : Chip) : Bool := !c.flag CIPH_STATUS_drbg_ready

/-- Work that needs random values waits while the DRBG is stopped (R349). -/
def Chip.waitDrbg (c : Chip) (w : DrbgWork) : Chip := { c with cipher := { c.cipher with drbgWait := c.cipher.drbgWait ++ [w] } }

/-- A request to a key engine (R346): the unwrap of an imported blob or of a context, an agreement, or the derivation of the secrets and keys of a connection or a generation. -/
def Chip.keyOp (c : Chip) : Chip := c.cntCiph 9

/-- The bytes of a member block with its check field (R231). -/
def blockBytes : Nat := 4112

/-- A GCM operation for a connection on a packet or record of this length. -/
def Chip.gcmOp (c : Chip) (ctx bytes : Nat) (n : Nat := 1) : Chip := (c.cntCiph 0 n).laneWork (c.gcmLane ctx) bytes

/-! ### The register file as BAR0 shows it -/

/-- The register that answers a BAR0 address, with its indices. -/
def findReg (a : Nat) : Option (Reg × Nat × Nat) :=
  regMap.findSome? (fun r => match r.geo.index? a with
    | some (i, j) => some (r, i, j)
    | none => none)

/-- The 64 bits of a register: reserved bits and write-only fields read 0 (R11, R12); an index that the grade lacks reads 0 (R5). -/
def Chip.readReg (c : Chip) (r : Reg) (i j : Nat) : Nat :=
  if r.geo.absence.absent c.id i then 0
  else r.fields.foldl (fun v f => if f.ty = .wo then v else v + c.get f i j * 2 ^ f.lo) 0

/-- What BAR0 reads at an 8-byte aligned offset: a register, the MSI-X table or the PBA (R405), or 0 where no register is (R12). -/
def Chip.readBar0 (c : Chip) (a : Nat) : W64 :=
  if 0x48000 ≤ a ∧ a < 0x48400 then
    let e := c.mgmt.msix.getD ((a - 0x48000) / 16) ⟨0, 0, true⟩
    if a % 16 = 0 then BitVec.ofNat 64 e.addr else BitVec.ofNat 64 (e.data % 2 ^ 32 + b2n e.masked * 2 ^ 32)
  else if a = 0x49000 then BitVec.ofNat 64 (maskOf c.mgmt.pba)
  else match findReg a with
    | some (r, i, j) => BitVec.ofNat 64 (c.readReg r i j)
    | none => 0

/-- Write one field from a register-wide value under a mask, as its type says (R11). `byHost` is a write of the management host: fields that
the chapter reserves for firmware keep their value (R403). Write-only fields act through rows of their own. RWL fields keep their value once
the seal fuse is blown. -/
def Chip.writeField (c : Chip) (f : Field) (i j v m : Nat) (byHost : Bool) : Chip :=
  let old := c.get f i j
  let fv := bits v (f.lo + f.width - 1) f.lo
  let fm := bits m (f.lo + f.width - 1) f.lo
  let merged := (old &&& (fm ^^^ (2 ^ f.width - 1))) ||| (fv &&& fm)
  match f.ty with
  | .ro => c
  | .wo => c
  | .rw => if byHost && !f.host then c else if fm = 0 then c else c.set f merged i j
  | .rwl => if (byHost && !f.host) || c.flag FUSE_STAT_sealed then c else if fm = 0 then c else c.set f merged i j
  | .w1c => if fv &&& fm = 0 then c else c.set f (old &&& ((fv &&& fm) ^^^ (2 ^ f.width - 1))) i j
  | .w1s => if fv &&& fm = 0 then c else c.set f (old ||| (fv &&& fm)) i j

/-- Write a register's fields from a value under a mask; an index that the grade lacks ignores the write (R5). -/
def Chip.writeReg (c : Chip) (r : Reg) (i j v m : Nat) (byHost : Bool) : Chip :=
  if r.geo.absence.absent c.id i then c else r.fields.foldl (fun c f => c.writeField f i j v m byHost) c

/-- Write a register from an image in a command packet: firmware writes the RW fields (R415). -/
def Chip.writeImage (c : Chip) (r : Reg) (v : Nat) (i : Nat := 0) (j : Nat := 0) : Chip :=
  c.writeReg r i j v (2 ^ 64 - 1) false

/-- The width of a register in bytes (R14). -/
def Reg.bytes (r : Reg) : Nat := if r.wide then 8 else 4

/-- The image of a register in reply data: its whole width, little-endian (R415). -/
def Chip.image (c : Chip) (r : Reg) (i : Nat := 0) (j : Nat := 0) : Bytes := le r.bytes (c.readReg r i j)

/-- A field's value in an image. -/
def Field.of (f : Field) (img : Nat) : Nat := bits img (f.lo + f.width - 1) f.lo

/-- Does a write by the management host find any field that it may write? -/
def Reg.hostWritable (r : Reg) : Bool := r.fields.any (fun f => f.ty ≠ .ro && (f.ty ≠ .rw || f.host))

/-- Reset a block's registers, keeping what a warm reset keeps (R13). -/
def Chip.resetRegs (c : Chip) (rs : List Reg) (warm : Bool) : Chip :=
  let drop := fun (k : Nat) => rs.any (fun r => match r.geo.index? (k / 64) with
    | some _ => r.fields.any (fun f => f.lo = k % 64 && !(warm && f.kept))
    | none => false)
  { c with regs := c.regs.keep (fun k _ => !drop k) }

end Sys2Proof.Machine
end

