-- ==== Sys2Proof/Machine/Packet.lean ====
section
/-!
DEFINITION. Command packets (R412 to R418, R428, R435, R436, R446, R453): what every management command passes through before its own effect, the
carrying of pair-scoped commands to the partner, and the reply. The long operations (R429 to R434).
-/

namespace Sys2Proof.Machine

/-- Kinds of R435: R leaves state unchanged, W changes it, L may reply as a long operation. -/
inductive CmdKind where
  | r | w | l
  deriving DecidableEq, Repr

/-- A row of R435: opcode, pair scope, kind, and the bytes of its parameters after the header, alignment included (R415). -/
structure CmdInfo where
  opcode : Nat
  pair   : Bool
  kind   : CmdKind
  need   : Nat

/-- The bytes that parameters of these sizes take: each is aligned to its own size, up to 8; a byte string is 8-byte aligned (R415). -/
def paramBytes (sizes : List Nat) : Nat :=
  sizes.foldl (fun pos n =>
    let al := if n = 1 ∨ n = 2 ∨ n = 4 then n else 8
    ceilDiv pos al * al + n) 0

/-- What a command comes to: the chip after it, and status, detail, handle and data of its reply. -/
structure Res where
  chip   : Chip
  status : Nat
  detail : Nat
  handle : Nat
  data   : Bytes
  later  : Bool := false

def Res.ok (c : Chip) (data : Bytes := []) : Res := ⟨c, 0, 0, 0, data, false⟩

/-- Accepted, with the reply to follow when a later step ends the command. -/
def Res.wait (c : Chip) : Res := ⟨c, 0, 0, 0, [], true⟩

/-- Refused with a status: the chip is as it was. -/
def Res.no (c : Chip) (status : Nat) (detail : Nat := 0) : Res := ⟨c, status, detail, 0, [], false⟩

/-- Statuses 0x0000 to 0x0002: the command was accepted (R418). -/
def accepted (status : Nat) : Bool := decide (status ≤ 2)

/-- A number that the SV1816 range halves, or that lies past the range (R5): the status and detail that refuse it, if any. -/
def rangeRefusal (c : Chip) (n full half offset : Nat) : Option (Nat × Nat) :=
  if full ≤ n then some (0x0102, offset) else if c.id.half && decide (half ≤ n) then some (0x0200, n) else none

/-- A slot that does not exist or that the grade lacks (R5). -/
def slotRefusal (c : Chip) (n offset : Nat) : Option (Nat × Nat) :=
  if 34 ≤ n then some (0x0102, offset) else if slotAbsent c.id n then some (0x0200, n) else none

/-- A port that does not exist or that the grade lacks (R5). -/
def portRefusal (c : Chip) (n offset : Nat) : Option (Nat × Nat) :=
  if 8 ≤ n then some (0x0102, offset) else if portAbsent c.id n then some (0x0200, n) else none

/-- Go on unless one of several refusals stands. -/
def Res.guard (c : Chip) : List (Option (Nat × Nat)) → (Chip → Res) → Res
  | [], f => f c
  | some (st, d) :: _, _ => Res.no c st d
  | none :: rest, f => Res.guard c rest f

/-- Refuse with a status when a condition holds. -/
def refuseIf (b : Bool) (status : Nat) (detail : Nat := 0) : Option (Nat × Nat) := if b then some (status, detail) else none

/-! ### Replies -/

/-- The end state of R433 as a status. -/
def endStatus (state failure : Nat) : Nat :=
  if state = 4 then 0 else if state = 5 then 3 else if state = 6 then failure else 0x0601

/-- Form a reply (R413, R414) and hand it over: to the ring's completion side (REPLY_WRITE writes it), to the session, or to the partner. A packet
of the shelf configuration record has no reply; an error in it is counted for the ledger (R449). -/
def Chip.reply (c : Chip) (src : Src) (opcode fmt tag status detail handle : Nat) (final : Bool) (data : Bytes) : Chip :=
  let gen := if fmt = 3 then c.get GLB_CFG_GEN_cfg_gen % 2 ^ 32 else 0
  let r : Reply := ⟨src, opcode, fmt, final, status, tag, handle, detail, 0, gen, data⟩
  match src with
  | .ring _ =>
    if c.mgmt.discard.contains (src, tag) then { c with mgmt := { c.mgmt with discard := c.mgmt.discard.erase (src, tag) } }
    else { c with mgmt := { c.mgmt with replies := c.mgmt.replies ++ [r] } }
  | .session i =>
    if c.mgmt.sessions.has i then
      ({ c with mgmt := { c.mgmt with sessions := c.mgmt.sessions.upd i (fun m => { m with ahead := m.ahead - 1 }) } }).send (Reply.toSession i r)
    else c
  | .partner => c.send (.partnerReply opcode status)
  | .record =>
    if accepted status then c else { c with start := { c.start with configErrs := c.start.configErrs + 1 } }

/-- The reply of a command: none on success when it is silent (R412). -/
def Chip.answer (c : Chip) (h : Hdr) (opcode : Nat) (r : Res) : Chip :=
  if h.silent && (r.status = 0 || r.status = 2) && h.src ≠ .partner then c
  else c.reply h.src opcode h.fmt h.tag r.status r.detail r.handle false r.data

/-- The role of a session's PSK, if the session is open (R428). -/
def Chip.roleOf (c : Chip) (src : Src) : Option Nat :=
  match src with
  | .session i => (c.mgmt.sessions.get? i).map (·.role)
  | _ => none

/-- Is the opcode permitted to the role or interface (R428, R455, R473)? -/
def Chip.permitted (c : Chip) (k : CmdInfo) (src : Src) : Bool :=
  match src with
  | .ring _ => k.opcode ≠ 0x0A03
  | .session i =>
    match (c.mgmt.sessions.get? i).map (·.role) with
    | some 0 => k.kind = .r
    | some 1 => k.opcode / 256 ≠ 0x08 && k.opcode / 256 ≠ 0x0B
    | some _ => k.opcode ≠ 0x0B20 && k.opcode ≠ 0x0B21
    | none => false
  | .partner => true
  | .record => k.opcode ≠ 0x0B20 && k.opcode ≠ 0x0B21 && k.opcode ≠ 0x0A03

/-- Opcodes accepted while a start is held (R446) and in recovery mode (R453). -/
def Chip.startAdmits (c : Chip) (opcode : Nat) : Bool :=
  if c.flag LEDGER_STAT_recovery then [0x0000, 0x0001, 0x0B00, 0x0B01, 0x0B02, 0x0B03, 0x0B10].contains opcode
  else if c.flag LEDGER_STAT_held then decide (opcode ≤ 2) || decide (opcode / 256 = 0x0B) || decide (opcode = 0x0C30)
  else true

/-- Forget a command that was fetched and now starts (R416). -/
def Chip.unfetch (c : Chip) (h : Hdr) (opcode : Nat) : Chip :=
  { c with mgmt := { c.mgmt with fetched := c.mgmt.fetched.eraseP (fun f => f.src = h.src && f.opcode = opcode && f.tag = h.tag) } }

/-- The checks that come before any command's own effect: role (R428), start state (R446, R453), length and paddock (R415), deadline and
generation (R413). Each gives the status and detail of its refusal. -/
def Chip.refusal (c : Chip) (k : CmdInfo) (h : Hdr) (paddocks : List Nat) : Option (Nat × Nat) :=
  let gen := c.get GLB_CFG_GEN_cfg_gen
  if !c.permitted k h.src then some (0x0104, (c.roleOf h.src).getD 0)
  else if !c.startAdmits k.opcode then some (0x0300, c.get GLB_START_step)
  else if h.len64 * 64 < 32 + k.need && h.src ≠ .partner then some (0x0103, ceilDiv (32 + k.need) 64)
  else if h.paddock ≠ 0xFFFF && paddocks.any (fun p => p ≠ h.paddock) then some (0x0106, 0)
  else if h.fmt ≠ 1 && h.deadlineMs ≠ 0 && decide (c.clk > h.fetchedAt + h.deadlineMs * 1000000) then some (0x0208, 0)
  else if h.fmt = 3 && h.expectGen ≠ 0 && h.expectGen ≠ gen then some (0x0207, gen % 2 ^ 32)
  else none

/-- After the effect: GLB_CFG_GEN rises for an accepted command of kind W or L (R418), then the reply leaves. -/
def Chip.finish (k : CmdInfo) (h : Hdr) (r : Res) : Chip :=
  if r.later then r.chip
  else
  let c := if k.kind ≠ .r && accepted r.status then r.chip.set GLB_CFG_GEN_cfg_gen (r.chip.get GLB_CFG_GEN_cfg_gen + 1) else r.chip
  c.answer h k.opcode { r with chip := c }

/-- The end of a command whose reply was to follow (`Res.wait`): a pair-scoped command that this chip applied while it is not paired replies 0x0002. -/
def Chip.finishLater (k : CmdInfo) (h : Hdr) (r : Res) : Chip :=
  let alone := k.pair && !h.localOnly && h.src ≠ .partner && h.src ≠ .record && r.chip.get TWIN_STATUS_pair_state ≠ 1
  Chip.finish k h { r with status := if alone && r.status = 0 then 2 else r.status, later := false }

/-- A pair-scoped command on the chip that receives it (R417): split or refused, it has no effect; not paired, it is applied here and carried at
the next pairing; paired, it is carried to the partner, and undone here when the partner refuses. -/
def pairScope (h : Hdr) (cmd : PairCmd) (body : Chip → Res) (c : Chip) : Res :=
  let state := c.get TWIN_STATUS_pair_state
  if h.localOnly || h.src = .partner || h.src = .record then body c
  else if state = 3 || state = 4 then Res.no c 0x0500
  else
    let r := body c
    if !accepted r.status then r
    else if state = 1 then
      if h.partner = 0 || h.partner = 1 || h.partner = 2 then { r with chip := r.chip.send (.partnerCommand cmd) }
      else Res.no (c.send (.partnerCommand cmd)) 0x0501 h.partner
    else { r with status := if r.status = 0 then 2 else r.status,
                  chip := { r.chip with mgmt := { r.chip.mgmt with carried := r.chip.mgmt.carried ++ [cmd] } } }

/-- A management command from its start to its reply. `paddocks` are the paddocks that its parameters name. -/
def runCommand (k : CmdInfo) (h : Hdr) (paddocks : List Nat) (body : Chip → Res) (c : Chip) : Chip :=
  let c := c.unfetch h k.opcode
  match c.refusal k h paddocks with
  | some (st, d) => (c.raiseIf (st = 0x0104) 0x731).answer h k.opcode (Res.no c st d)
  | none => Chip.finish k h (body c)

/-- A pair-scoped command from its start to its reply. -/
def runPair (k : CmdInfo) (h : Hdr) (paddocks : List Nat) (cmd : PairCmd) (body : Chip → Res) (c : Chip) : Chip :=
  runCommand k h paddocks (pairScope h cmd body) c

/-! ### Long operations (R429 to R434) -/

def loState (st : Nat) : Nat := bits st 63 60
def loStep (st : Nat) : Nat := bits st 59 52
def loErrs (st : Nat) : Nat := bits st 51 40
def loDone (st : Nat) : Nat := bits st 39 0

/-- The status word of a slot (R430); the error count sticks at 4,095. -/
def loWord (state step errs done : Nat) : Nat :=
  state % 16 * 2 ^ 60 + step % 256 * 2 ^ 52 + min errs 4095 * 2 ^ 40 + done % 2 ^ 40

def Chip.lo (c : Chip) (i : Nat) : Nat := c.get LONGOP_STATUS_status i

def finished (state : Nat) : Bool := decide (4 ≤ state) && decide (state ≤ 7)

/-- The slot for a new operation: a free one, or the finished operation that ended earliest, if that was at least 60 s ago (R429). -/
def Chip.loSlot (c : Chip) : Option Nat :=
  match (List.range 64).find? (fun i => loState (c.lo i) = 0) with
  | some i => some i
  | none =>
    let old := (List.range 64).filter (fun i => finished (loState (c.lo i)) &&
      decide ((c.mgmt.ops.getD i ⟨0, 0, .partner, 1, 0, false, 0, 0, false, 0, []⟩).endedNs + 60 * second ≤ c.clk))
    match sortBy (fun i => (c.mgmt.ops.getD i ⟨0, 0, .partner, 1, 0, false, 0, 0, false, 0, []⟩).endedNs) old with
    | i :: _ => some i
    | [] => none

/-- Accept a long operation into a slot: handle, start time, empty result ring, state running (R429, R430). -/
def Chip.loStart (c : Chip) (h : Hdr) (opcode total : Nat) (args : List Nat) : Option (Chip × Nat × Nat) :=
  match c.loSlot with
  | none => none
  | some i =>
    let use := c.mgmt.opUse.getD i 0 + 1
    let use := if use ≥ 2 ^ 26 then 1 else use
    let handle := use * 64 + i
    let op : LongOp := ⟨opcode, handle, h.src, h.fmt, h.tag, h.finalReply, 2, 0, false, 0, args⟩
    let c := { c with mgmt := { c.mgmt with ops := c.mgmt.ops.put i op, opUse := c.mgmt.opUse.put i use } }
    let c := c.set LONGOP_TOTAL_total total i
    let c := (c.set LONGOP_RESULT_COUNT_count 0 i).set LONGOP_RESULT_COUNT_overflow 0 i
    let c := (c.set LONGOP_RES_PROD_prod 0 i).set LONGOP_RES_CONS_cons 0 i
    let c := (c.set LONGOP_RES_BASE_base_64b (resBase c.oneStack i c.homeStack / 64) i).set LONGOP_START_start_ns c.now i
    let c := (c.set LONGOP_INFO_opcode opcode i).set LONGOP_INFO_handle handle i
    some (c.set LONGOP_STATUS_status (loWord 2 0 0 0) i, i, handle)

/-- Answer a command of kind L with a long operation, or with 0x0204 and event 0x730 when no slot is free. `f` sets up the operation in its slot. -/
def longAccept (c : Chip) (h : Hdr) (opcode total : Nat) (args : List Nat) (f : Nat → Chip → Chip) : Res :=
  match c.loStart h opcode total args with
  | none => Res.no (c.raise 0x730) 0x0204
  | some (c, i, handle) => ⟨f i c, 1, 0, handle, [], false⟩

/-- The slot of a handle whose count matches (R429). -/
def Chip.loFind (c : Chip) (handle : Nat) : Option Nat :=
  let i := handle % 64
  match c.mgmt.ops.get? i with
  | some op => if op.handle = handle && handle ≠ 0 && loState (c.lo i) ≠ 0 then some i else none
  | none => none

/-- The slot in which an operation of an opcode with these arguments is under way (states 1, 2, 3 and 8). -/
def Chip.loRunning (c : Chip) (opcode : Nat) (p : LongOp → Bool) : Option Nat :=
  (c.mgmt.ops.first? (fun i op => op.opcode = opcode && [1, 2, 3, 8].contains (loState (c.lo i)) && p op)).map (·.1)

/-- Advance an operation: more units done, a step, errors (R430). -/
def Chip.loProgress (c : Chip) (i : Nat) (units errs : Nat) (step : Option Nat := none) : Chip :=
  let w := c.lo i
  c.set LONGOP_STATUS_status (loWord (loState w) (step.getD (loStep w)) (loErrs w + errs) (loDone w + units)) i

/-- End an operation in a state of 4 to 7: event 0x72E, and the second reply when final_reply was set (R431, R433). A final reply after a Function
Level Reset, or after its session has closed, is discarded (the source is then `.record`). -/
def Chip.loEnd (c : Chip) (i state failure : Nat) : Chip :=
  let w := c.lo i
  let c := c.set LONGOP_STATUS_status (loWord state (loStep w) (loErrs w) (loDone w)) i
  let c := { c with mgmt := { c.mgmt with ops := c.mgmt.ops.upd i (fun op => { op with endedNs := c.clk, failure := failure, cancelling := false }) } }
  let c := c.raise 0x72E
  match c.mgmt.ops.get? i with
  | some op =>
    if op.final && op.src ≠ .record then
      c.reply op.src op.opcode op.fmt op.tag (endStatus state failure) (if state = 5 then loErrs w else 0) op.handle true []
    else c
  | none => c

/-- Write a result record of 32 bytes into the slot's ring; when 32,768 are unread it is only counted (R432). -/
def Chip.loResult (c : Chip) (i : Nat) (record : Bytes) : Chip :=
  let prod := c.get LONGOP_RES_PROD_prod i
  let cons := c.get LONGOP_RES_CONS_cons i
  let c := c.bump LONGOP_RESULT_COUNT_count 1 i
  if (prod + 2 ^ 32 - cons) % 2 ^ 32 ≥ 32768 then
    (c.set LONGOP_RESULT_COUNT_overflow 1 i).raise 0x72F
  else
    let base := c.get LONGOP_RES_BASE_base_64b i * 64
    let c := { c with hbm := memWriteN c.hbm (base + prod % 32768 * 32) (padTo 32 record) }
    c.set LONGOP_RES_PROD_prod (prod + 1) i

/-- Does an operation that was asked to cancel end at this fence (R431)? -/
def Chip.loFence (c : Chip) (i : Nat) : Chip :=
  match c.mgmt.ops.get? i with
  | some op => if op.cancelling then c.loEnd i 7 0 else c
  | none => c

end Sys2Proof.Machine
end

