-- ==== Sys2Proof/Machine/Switch.lean ====
section
/-!
DEFINITION. The cell switch and the mirroring taps (R18 to R53): admission and push-out, the matching of a cell time, the resequencers, replay and
plane faults, mirror copies and their records.
-/

namespace Sys2Proof.Machine

/-- The attach point of an island (R15). -/
def attachPoint (island : Nat) : Option Nat :=
  if island ≤ 11 then some island
  else if island ≤ 13 then none
  else if island ≤ 31 then some (island - 2)
  else if island = 34 then some 30
  else if island = 35 then some 31
  else none

/-! ### Cells, headers and messages in flight (R24 to R26) -/

/-- Bits [111:0] of a cell's header (R25); bits [111:98] are 0. -/
def Cell.headerLow (x : Cell) : Nat :=
  x.src % 32 + x.dst % 32 * 2 ^ 5 + x.cls % 8 * 2 ^ 10 + b2n x.first * 2 ^ 13 + b2n x.last * 2 ^ 14 + b2n x.mirror * 2 ^ 15 + x.seq % 2 ^ 16 * 2 ^ 16 + x.msgId % 2 ^ 16 * 2 ^ 32 +
    x.lenM1 % 256 * 2 ^ 48 + x.idx % 256 * 2 ^ 56 + x.ctx % 2 ^ 32 * 2 ^ 64 + b2n x.poison * 2 ^ 96 + x.plane % 2 * 2 ^ 97

/-- hcrc (R25): the CRC-16 with polynomial 0x1021 and initial value 0xFFFF over bits [111:0], the most significant byte first (DESIGN CHOICE, assumption 19: R25 gives no
order). -/
def Cell.hcrc (x : Cell) : Nat := crc16 (be 14 x.headerLow)

/-- The 128-bit header of a cell (R25). -/
def Cell.header (x : Cell) : Nat := x.headerLow + x.hcrc * 2 ^ 112

def flightKey (src msgId : Nat) : Nat := src * 65536 + msgId

/-- May a source offer a cell now? It begins a message under an identifier that it neither has in flight nor keeps a message under (R26, R42, R43), or it is the next cell of
the message that it has begun. -/
def Chip.continues (c : Chip) (x : Cell) : Bool :=
  match c.swx.flight.get? (flightKey x.src x.msgId) with
  | none => x.first && !c.swx.kept.any (fun m => m.src = x.src && m.msgId = x.msgId)
  | some f => !x.first && !f.done && decide (f.next = x.idx) && decide (f.dst = x.dst) && decide (f.cls = x.cls)

def Chip.fly (c : Chip) (x : Cell) : Chip :=
  { c with swx := { c.swx with flight := c.swx.flight.put (flightKey x.src x.msgId) ⟨x.dst, x.cls, x.idx + 1, x.last⟩ } }

/-! ### The shared cell buffer (R37 to R44) -/

def qKey (src dst cls : Nat) : Nat := (src * 32 + dst) * 8 + cls

def Chip.occ (c : Chip) (k : Nat) : Nat := c.get SWX_CLASS_STAT_occ k

def Chip.occAll (c : Chip) : Nat := ((List.range 8).map c.occ).sum

def bufferCells : Nat := 131072

/-- Free cells of the shared pool: what the reserves leave, less what each class holds above its reserve (R37, R40). -/
def Chip.sharedFree (c : Chip) : Nat :=
  bufferCells - ((List.range 8).map (fun k => max (c.get SWX_CLASS_CFG_rsv_cells k) (c.occ k))).sum

/-- Keep the buffer's status registers and peaks, and raise 0x7C4 when occupancy rises above hwm_cells. -/
def Chip.refreshBuffer (c : Chip) (before : Nat) : Chip :=
  let n := c.occAll
  let c := (c.set SWX_BUF_STATUS_free_cells (bufferCells - n)).set SWX_BUF_STATUS_shared_free c.sharedFree
  let c := c.peak SWX_BUF_HWM_peak_cells n
  let hwm := c.get SWX_BUF_HWM_hwm_cells
  c.raiseIf (decide (before ≤ hwm) && decide (hwm < n)) 0x7C4

/-- Ceiling on cells queued for an output; 256 to 131,072, values outside act as the nearer (R52). -/
def Chip.outCeil (c : Chip) (o : Nat) : Nat := clamp 256 131072 (c.get SWX_OUT_CFG_out_ceil o)

/-- Only C5, C6 and C7 may be evictable (R38). -/
def Chip.evictable (c : Chip) (k : Nat) : Bool := decide (5 ≤ k) && bit (c.get SWX_CTL_evict_mask) k

/-- Put a cell into the buffer's queue of its input, output and class (R31). -/
def Chip.bufferCell (c : Chip) (x : Cell) : Chip :=
  let before := c.occAll
  let k := qKey x.src x.dst x.cls
  let x := { x with stamp := c.swx.arrivals }
  let c := { c with swx := { c.swx with
    arrivals := c.swx.arrivals + 1,
    queues := c.swx.queues.updD k [] (fun q => q ++ [x]) } }
  let c := c.bump SWX_CLASS_STAT_occ 1 x.cls
  let c := c.peak SWX_CLASS_STAT_peak (c.occ x.cls) x.cls
  (c.bump SWX_OUT_STAT_queued 1 x.dst).refreshBuffer before

/-- A queued message (its cells of one queue with one msg_id) is eligible for push-out when its first and its last cell are both in the buffer
(R41). Its age is the arrival of its first cell. -/
def eligibleIn (q : List Cell) : List (Nat × Cell) :=
  (q.filter (fun x => x.first && q.any (fun y => y.last && y.msgId = x.msgId))).map (fun x => (x.stamp, x))

/-- How many cells the buffer holds of a message. -/
def Chip.messageCells (c : Chip) (x : Cell) : Nat := ((c.swx.queues.getD (qKey x.src x.dst x.cls) []).filter (fun y => y.msgId = x.msgId)).length

/-- The newest eligible message of a class whose push-out leaves the class its reserve (R41). -/
def Chip.newestEligible (c : Chip) (k : Nat) : Option Cell :=
  let all := ((c.swx.queues.keep (fun key _ => decide (key % 8 = k))).vals.flatMap eligibleIn).filter (fun e =>
    decide (c.get SWX_CLASS_CFG_rsv_cells k + c.messageCells e.2 ≤ c.occ k))
  match sortBy (fun e => 2 ^ 64 - e.1) all with
  | e :: _ => some e.2
  | [] => none

/-- Push a message out: free all its cells, count, tell its source in C0 (R41, R42, R44). With its notice it is no longer in flight (R26). -/
def Chip.pushOut (c : Chip) (x : Cell) : Chip :=
  let before := c.occAll
  let k := qKey x.src x.dst x.cls
  let q := c.swx.queues.getD k []
  let gone := (q.filter (fun y => y.msgId = x.msgId)).length
  let c := { c with swx := { c.swx with
    queues := c.swx.queues.put k (q.filter (fun y => y.msgId ≠ x.msgId)),
    kept := c.swx.kept.map (fun (m : KeptMsg) => if m.src = x.src && m.msgId = x.msgId then { m with pushed := m.pushed + 1 } else m),
    notices := c.swx.notices ++ [(x.src, x.msgId, x.cls, x.dst)],
    flight := c.swx.flight.del (flightKey x.src x.msgId) } }
  let c := (c.lessen SWX_CLASS_STAT_occ gone x.cls).lessen SWX_OUT_STAT_queued gone x.dst
  let c := (c.bumpS SWX_PUSHOUT_CNT_pushed SWX_PUSHOUT_CNT_stuck 1 x.cls).raise 0x7C5
  let c := c.raiseIf (c.swx.kept.any (fun m => m.src = x.src && m.msgId = x.msgId && m.pushed = 16)) 0x7C6
  (c.send (.pushOutNotice x.src x.msgId x.cls x.dst)).refreshBuffer before

/-- Look for a victim from class 7 down to the class above c (R40, R41): the chip after the push-out, if any. -/
def Chip.makeRoom (c : Chip) (cls : Nat) : Option Chip :=
  let vs := ([7, 6, 5, 4, 3, 2, 1].filter (fun v => decide (cls < v) && c.evictable v &&
    decide (c.get SWX_CLASS_CFG_rsv_cells v < c.occ v)))
  match vs.findSome? c.newestEligible with
  | some x => some (c.pushOut x)
  | none => none

/-- Admit a cell, or answer none: it must wait at its input (R40). -/
def Chip.admitCell (c : Chip) (x : Cell) : Option Chip :=
  if c.outCeil x.dst ≤ c.get SWX_OUT_STAT_queued x.dst then none
  else if c.occ x.cls < c.get SWX_CLASS_CFG_rsv_cells x.cls then some (c.bufferCell x)
  else if c.get SWX_CLASS_CFG_ceil_cells x.cls ≤ c.occ x.cls then none
  else if 0 < c.sharedFree then some (c.bufferCell x)
  else (c.makeRoom x.cls).map (fun c => c.bufferCell x)

/-- The classes that may be marked evictable (R38). -/
def mayEvict (k : Nat) : Bool := decide (5 ≤ k)

/-- A source keeps what it needs to resend a message of a class that may be made evictable while the message waits (R38, R43). -/
def Chip.keepForResend (c : Chip) (x : Cell) : Chip :=
  if !mayEvict x.cls then c
  else
    let old := c.swx.kept.find? (fun m => m.src = x.src && m.msgId = x.msgId)
    let rest := c.swx.kept.filter (fun m => !(m.src = x.src && m.msgId = x.msgId))
    let m : KeptMsg := match old with
      | some m => if m.cells.any (fun y => y.idx = x.idx) then m else { m with cells := m.cells ++ [x] }
      | none => ⟨x.src, x.msgId, x.cls, x.dst, [x], 0⟩
    { c with swx := { c.swx with kept := rest ++ [m] } }

def Chip.hold (c : Chip) (x : Cell) : Chip := { c with swx := { c.swx with held := c.swx.held ++ [x] } }

/-- Does a held cell hold a later one of its input? One whose output is at its ceiling holds only what is bound for that output, one that waits for room in its class all (R40, R45). -/
def Chip.holdsBack (c : Chip) (y x : Cell) : Bool :=
  y.src = x.src && (y.dst = x.dst || decide (c.get SWX_OUT_STAT_queued y.dst < c.outCeil y.dst))

/-- An input offers a cell. Behind a cell that holds the input it waits its turn (R19, R40). -/
def Chip.offerCell (c : Chip) (x : Cell) : Chip :=
  let c := c.keepForResend x
  if c.swx.held.any (fun y => c.holdsBack y x) then c.hold x
  else match c.admitCell x with
    | some c => c
    | none => c.hold x

/-- Offer the held cells again, oldest first. -/
def Chip.retryHeld (c : Chip) : Chip :=
  let hs := c.swx.held
  hs.foldl (fun c x => c.offerCell x) { c with swx := { c.swx with held := [] } }

/-- A source enters a whole message. -/
def Chip.offerMessage (c : Chip) (cells : List Cell) : Chip := cells.foldl (fun c x => (c.fly x).offerCell x) c

/-- CELL_ENQUEUE (R24, R26, R40). A source offers no other cell than one that a message may hold and that continues what it has begun; an absent attach point offers and takes none. -/
def cellEnqueue (x : Cell) (c : Chip) : Chip :=
  if x.legal && !attachAbsent c.id x.src && !attachAbsent c.id x.dst && c.continues x then (c.fly x).offerCell x else c

/-- PUSH_OUT_NOTICE (R42): the source resends the whole message as a new enqueue. -/
def pushOutNotice (src msgId : Nat) (c : Chip) : Chip :=
  match c.swx.notices.find? (fun n => n.1 = src && n.2.1 = msgId) with
  | none => c
  | some n =>
    let c := { c with swx := { c.swx with notices := c.swx.notices.erase n } }
    match c.swx.kept.find? (fun m => m.src = src && m.msgId = msgId) with
    | some m => c.offerMessage m.cells
    | none => c

/-- FIRST_CELL_LEFT_REPORT (R43): the source may drop what it kept; a tap frees its copy store (R47). -/
def firstCellLeftReport (src msgId : Nat) (c : Chip) : Chip :=
  if c.swx.reports.contains (src, msgId) then
    let size := ((c.swx.kept.filter (fun m => m.src = src && m.msgId = msgId)).flatMap (fun m => m.cells)).filter (·.mirror)
    let bytes := (size.map (fun x => x.lenM1 + 1)).sum
    { c with swx := { c.swx with
      reports := c.swx.reports.erase (src, msgId),
      kept := c.swx.kept.filter (fun m => !(m.src = src && m.msgId = msgId)),
      copyStore := c.swx.copyStore.updD src 0 (fun n => n - bytes) } }
  else c

/-! ### Mirroring (R46 to R49, R426) -/

/-- A copy that cannot be kept or delivered is lost and counted (R47). -/
def Chip.loseCopy (c : Chip) (m : Nat) : Chip :=
  let r := c.swx.mirror.getD m ⟨0, false⟩
  let c := { c with swx := { c.swx with mirror := c.swx.mirror.put m ⟨min (r.lostSince + 1) 0xFFFFFFFF, true⟩ } }
  (c.bumpS SWX_MIR_LOST_count SWX_MIR_LOST_stuck 1 m).raise (0x7D0 + m)

/-- The capture record of a copy: the 32-byte header of R49, the captured bytes, padding to 64 bytes. -/
def captureBytes (x : MirrorCopy) (r : MirrorRun) : Bytes :=
  let body := le 8 x.tapNs ++ le 2 x.origLen ++ le 2 x.bytes.length ++ le 1 x.session ++
    le 1 (b2n x.egress + 2 * b2n r.gap + 4 * b2n (decide (x.bytes.length < x.origLen))) ++ le 1 x.port ++ le 1 0 ++
    le 4 x.ctx ++ le 4 r.lostSince ++ zeros 8 ++ x.bytes
  padTo (ceilDiv body.length 64 * 64) body

/-- The pad record that fills a lap of the capture ring (R426): session byte 0xFF, cap_len 0. -/
def capturePad (n : Nat) : Bytes := padTo n (zeros 12 ++ le 1 0xFF)

/-- Write a record at the producer offset; one that finds too little room is lost (R426, R47). -/
def Chip.writeCapture (c : Chip) (x : MirrorCopy) : Chip :=
  let r := c.swx.mirror.getD x.session ⟨0, false⟩
  let rec_ := captureBytes x r
  let size := 2 ^ clamp 16 26 (c.get RING_CAP_CFG_size_log2)
  let prod := c.get RING_CAP_PROD_prod
  let used := (prod + 2 ^ 32 - c.get RING_CAP_CONS_cons) % 2 ^ 32
  let left := size - prod % size
  let pad := if left < rec_.length then left else 0
  if !c.flag RING_CAP_CFG_en || !c.mgmt.bme || c.mgmt.d3 || decide (size < used + pad + rec_.length) then c.loseCopy x.session
  else
    let c := if 0 < pad then c.send (.captureRecord (prod % size) (capturePad pad)) else c
    let at_ := (prod + pad) % size
    let c := (c.send (.captureRecord at_ rec_)).set RING_CAP_PROD_prod (prod + pad + rec_.length)
    let c := if c.get RING_CAP_WB_addr ≠ 0 then c.send (.hostWrite (c.get RING_CAP_WB_addr) (c.get RING_CAP_PROD_prod)) else c
    let c := { c with mgmt := { c.mgmt with capNew := true },
                      swx := { c.swx with mirror := c.swx.mirror.put x.session ⟨0, false⟩ } }
    c.bumpS SWX_MIR_CNT_count SWX_MIR_CNT_stuck 1 x.session

/-- A copy reaches its destination: the analysis port sends it as the original frame, or it becomes a capture record (R48, R49). -/
def Chip.deliverCopy (c : Chip) (x : MirrorCopy) : Chip :=
  if c.flag SWX_MIR_CTL_dst_kind x.session then c.writeCapture x
  else (c.send (.mirrorFrame (c.get SWX_MIR_CTL_dst_port x.session) x.bytes)).bumpS SWX_MIR_CNT_count SWX_MIR_CNT_stuck 1 x.session

/-- The cells of a message of bytes (R24). -/
def cellsOf (src dst cls msgId ctx : Nat) (mirror : Bool) (data : Bytes) : List Cell :=
  let n := max 1 (ceilDiv data.length 256)
  (List.range n).map (fun k =>
    let d := (data.drop (k * 256)).take 256
    ⟨src, dst, cls, k = 0, k + 1 = n, mirror, 0, msgId, d.length - 1, k, ctx, false, 0, 0, d⟩)

/-- The next msg_id of a source, from a number on, that it has neither in flight nor kept (R26). -/
def Chip.freeId (c : Chip) (src : Nat) : Nat → Nat → Option Nat
  | 0, _ => none
  | n + 1, id =>
    if c.swx.flight.has (flightKey src id) || c.swx.kept.any (fun m => m.src = src && m.msgId = id) then c.freeId src n ((id + 1) % 65536) else some id

/-- Does a sub-port carry host sessions, of a transport if one is named? -/
def Chip.carries (c : Chip) (sub : Nat) (t : Option Transport) : Bool :=
  c.conns.any (fun e => e.2.state ≠ .closing && (t.isNone || t = some e.2.transport) && (e.2.sub = sub || e.2.paths.any (fun p => p.2.sub = sub)))

/-- Is a sub-port an analysis port that an enabled mirror session uses (R48)? -/
def Chip.analysis (c : Chip) (sub : Nat) : Bool :=
  (List.range 4).any (fun m => c.flag SWX_MIR_CTL_en m && !c.flag SWX_MIR_CTL_dst_kind m && c.get SWX_MIR_CTL_dst_port m = sub)

/-- SWX_MIR_CTL.en reads 0 where the configuration makes no copies or breaks R48 (R52). -/
def Chip.judgeMirror (c : Chip) (m : Nat) : Chip :=
  let toPort := !c.flag SWX_MIR_CTL_dst_kind m
  let broken := toPort && (c.carries (c.get SWX_MIR_CTL_dst_port m) none ||
    (!c.flag SWX_MIR_CTL_src_kind m && c.get SWX_MIR_CTL_src_port m = c.get SWX_MIR_CTL_dst_port m))
  if c.get SWX_MIR_CTL_dir m = 0 || broken then c.set SWX_MIR_CTL_en 0 m else c

/-- A tap makes a copy: into its copy store of 256 KiB and, in C7, onto the switch (R47). `tap` is the attach point of the tap. A copy for which every msg_id of the tap is in
flight is lost too (R26). -/
def Chip.mirrorCopy (c : Chip) (tap : Nat) (x : MirrorCopy) : Chip :=
  let used := c.swx.copyStore.getD tap 0
  match if 262144 < used + x.bytes.length then none else c.freeId tap 65536 (c.swx.nextId.getD tap 0) with
  | none => c.loseCopy x.session
  | some id =>
    let dst := if c.flag SWX_MIR_CTL_dst_kind x.session then 31 else c.get SWX_MIR_CTL_dst_port x.session / 4
    let c := { c with swx := { c.swx with
      nextId := c.swx.nextId.put tap ((id + 1) % 65536),
      copies := c.swx.copies.put (tap * 65536 + id) x,
      copyStore := c.swx.copyStore.put tap (used + x.bytes.length) } }
    c.offerMessage (cellsOf tap dst 7 id x.ctx true x.bytes)

/-- The bytes a session's snap length leaves (R48, R52). -/
def Chip.snapped (c : Chip) (m : Nat) (b : Bytes) : Bytes :=
  let n := c.get SWX_MIR_CTL_snap_64 m
  if n = 0 then b else b.take (n * 64)

/-- Copy a frame that passes a port's tap (R46): every enabled session whose source is this port and direction. -/
def Chip.mirrorPort (c : Chip) (portSub : Nat) (egress : Bool) (frame : Bytes) : Chip :=
  (List.range 4).foldl (fun c m =>
    if c.flag SWX_MIR_CTL_en m && !c.flag SWX_MIR_CTL_src_kind m && c.get SWX_MIR_CTL_src_port m = portSub &&
        bit (c.get SWX_MIR_CTL_dir m) (b2n egress) then
      c.mirrorCopy (portSub / 4) ⟨m, egress, portSub, 0xFFFFFFFF, frame.length, c.snapped m frame, c.now⟩
    else c) c

/-- Copy a frame of a session at its DROVE island (R46). -/
def Chip.mirrorSession (c : Chip) (ctx portSub : Nat) (egress : Bool) (frame : Bytes) : Chip :=
  (List.range 4).foldl (fun c m =>
    if c.flag SWX_MIR_CTL_en m && c.flag SWX_MIR_CTL_src_kind m && c.get SWX_MIR_CTL_src_ctx m = ctx &&
        bit (c.get SWX_MIR_CTL_dir m) (b2n egress) then
      c.mirrorCopy (8 + ctx / 65536) ⟨m, egress, portSub, ctx, frame.length, c.snapped m frame, c.now⟩
    else c) c

/-! ### The resequencers (R29, R30, R36) -/

/-- The host command that a message's context word names: bit 31, then the command's key (DESIGN CHOICE, assumption 21: R25 leaves ctx to the units). -/
def ctxCommand (ctx : Nat) : List Nat := if bit ctx 31 then [ctx % 2 ^ 31] else []

/-- A message is at its end, delivered or lost: its identifier is free (R26), its destination holds no cell of it. -/
def Chip.endMessage (c : Chip) (dst src msgId : Nat) : Chip :=
  { c with swx := { c.swx with
    flight := c.swx.flight.del (flightKey src msgId),
    poisoned := c.swx.poisoned.filter (· ≠ (src, msgId)),
    asm := c.swx.asm.del ((dst * 32 + src) * 65536 + msgId) } }

/-- A destination discards a poisoned message (R36): the command that it serves fails. A mirror copy that comes poisoned is counted as lost (DESIGN CHOICE, assumption 21: R47
names a full copy store and a full capture ring). -/
def Chip.loseMessage (c : Chip) (x : Cell) : Chip :=
  if x.mirror then
    match c.swx.copies.get? (flightKey x.src x.msgId) with
    | some m => ({ c with swx := { c.swx with copies := c.swx.copies.del (flightKey x.src x.msgId) } } : Chip).loseCopy m.session
    | none => c
  else { c with swx := { c.swx with damaged := c.swx.damaged ++ ctxCommand x.ctx } }

/-- A destination has all cells of a message (R31): it takes the bytes; a mirror copy goes on to the analysis port or the capture ring. -/
def Chip.takeMessage (c : Chip) (x : Cell) (cells : List Cell) : Chip :=
  let c := c.send (.messageDelivered x.dst x.src x.msgId x.cls x.ctx x.mirror ((sortBy (·.idx) cells).flatMap (·.data)))
  match if x.mirror then c.swx.copies.get? (flightKey x.src x.msgId) else none with
  | some m => ({ c with swx := { c.swx with copies := c.swx.copies.del (flightKey x.src x.msgId) } } : Chip).deliverCopy m
  | none => c

/-- Deliver a cell to its destination, poisoned when its message is. The destination reassembles messages by src_ap, msg_id and cell_idx (R31); the last cell ends the message. -/
def Chip.deliverCell (c : Chip) (x : Cell) : Chip :=
  let x := { x with poison := x.poison || c.swx.poisoned.contains (x.src, x.msgId) }
  let c := c.send (.cellDelivered x x.header)
  let k := (x.dst * 32 + x.src) * 65536 + x.msgId
  let cells := c.swx.asm.getD k [] ++ [x]
  if !x.last then { c with swx := { c.swx with asm := c.swx.asm.put k cells } }
  else
    let c := c.endMessage x.dst x.src x.msgId
    if cells.any (·.poison) then c.loseMessage x else c.takeMessage x cells

/-- Deliver, in sequence order, what an output holds of a source from its expected number on. -/
def reseqDrain (dst src : Nat) : Nat → Chip → Chip
  | 0, c => c
  | fuel + 1, c =>
    let k := dst * 32 + src
    let e := c.swx.seqExpect.getD k 0
    match c.swx.reorder.find? (fun x => x.dst = dst && x.src = src && x.seq = e) with
    | some x =>
      let c := { c with swx := { c.swx with
        reorder := c.swx.reorder.erase x, seqExpect := c.swx.seqExpect.put k ((e + 1) % 65536) } }
      reseqDrain dst src fuel (c.deliverCell x)
    | none => c

/-- Are the 512 reorder slots of an output all in use (R30)? -/
def Chip.slotsFull (c : Chip) (o : Nat) : Bool := decide (512 ≤ (c.swx.reorder.filter (fun x => x.dst = o)).length)

/-- A cell arrives at its output (R30): the expected one is delivered, with what waited for it; one 1 to 32,767 ahead is held in a reorder slot; one behind is a duplicate. One
that finds no slot waits on its link. -/
def Chip.reseqArrive (c : Chip) (x : Cell) : Chip :=
  let k := x.dst * 32 + x.src
  let e := c.swx.seqExpect.getD k 0
  if 32768 ≤ ahead 16 x.seq e || c.swx.reorder.any (fun y => y.dst = x.dst && y.src = x.src && y.seq = x.seq) then
    c.bump SWX_OUT_STAT_dup_discards 1 x.dst
  else if x.seq = e then
    reseqDrain x.dst x.src 512 (({ c with swx := { c.swx with seqExpect := c.swx.seqExpect.put k ((e + 1) % 65536) } } : Chip).deliverCell x)
  else if c.slotsFull x.dst then { c with swx := { c.swx with resend := c.swx.resend ++ [x] } }
  else { c with swx := { c.swx with reorder := c.swx.reorder ++ [x] } }

/-- Cells that wait on their links for a reorder slot try again. -/
def Chip.retryResend (c : Chip) : Chip :=
  c.swx.resend.foldl (fun c x => c.reseqArrive x) { c with swx := { c.swx with resend := [] } }

/-- Mark a message poisoned: the cells it still has are delivered with poison set (R36). -/
def Chip.poisonMessage (c : Chip) (src msgId : Nat) : Chip :=
  { c with swx := { c.swx with poisoned := (src, msgId) :: c.swx.poisoned.filter (· ≠ (src, msgId)) } }

/-- A cell buffer ECC error: corrected (0x7C8), or its message is poisoned (0x7C9) (R36). -/
def Chip.bufferEcc (c : Chip) (uncorrectable : Bool) (src msgId : Nat) : Chip :=
  if uncorrectable then (c.poisonMessage src msgId).raise 0x7C9 else c.raise 0x7C8

/-- Messages with a cell that a time-out gives up are damaged (R36): one whose last cell is given up ends now, of the others the rest is delivered poisoned. -/
def Chip.damage (c : Chip) (missing : List Cell) : Chip :=
  ((missing.map (fun x => x.msgId)).eraseDups).foldl (fun c id =>
    match missing.filter (fun x => x.msgId = id) with
    | [] => c
    | x :: xs =>
      let c := c.send (.messagePoisoned x.dst x.src id)
      if (x :: xs).any (·.last) then (c.endMessage x.dst x.src id).loseMessage x else c.poisonMessage x.src id) c

/-- RESEQ_TIMEOUT (R36): the output latches the pair, gives up the numbers up to the next that it holds, delivers their messages incomplete and poisoned, and resumes. The numbers
given up are those of cells that wait for a replay; `msgId` names the message where none of them does. -/
def reseqTimeout (dst src msgId : Nat) (c : Chip) : Chip :=
  let k := dst * 32 + src
  let c := c.retryResend
  let e := c.swx.seqExpect.getD k 0
  match sortBy (fun x => ahead 16 x.seq e) (c.swx.reorder.filter (fun x => x.dst = dst && x.src = src)) with
  | [] => c
  | x :: _ =>
    let given := fun (y : Cell) => y.dst = dst && y.src = src && decide (ahead 16 y.seq e < ahead 16 x.seq e)
    let missing := (c.swx.bad ++ c.swx.resend).filter given
    let c := c.raise 0x7C7
    let c := if c.flag SWX_RESEQ_ERR_valid then c
      else (((c.set SWX_RESEQ_ERR_dst_ap dst).set SWX_RESEQ_ERR_src_ap src).set SWX_RESEQ_ERR_expected_seq e).set SWX_RESEQ_ERR_valid 1
    let c : Chip := { c with swx := { c.swx with bad := c.swx.bad.filter (fun y => !given y), resend := c.swx.resend.filter (fun y => !given y) } }
    let c := if missing.isEmpty then (c.poisonMessage src msgId).send (.messagePoisoned dst src msgId) else c.damage missing
    reseqDrain dst src 512 { c with swx := { c.swx with seqExpect := c.swx.seqExpect.put k x.seq } }

/-! ### Matching (R27, R28) -/

def planeOn (c : Chip) (p : Nat) : Bool := bit (c.get SWX_CTL_plane_en) p

/-- Does a link hold back? The oldest of the 16 cells in its replay buffer has still to be replayed (R33: no cell is lost to a header error). -/
def Chip.linkHolds (c : Chip) (p o : Nat) : Bool :=
  match c.swx.replay.getD (p * 32 + o) [] with
  | x :: rest => decide (15 ≤ rest.length) && c.swx.bad.contains x
  | [] => false

/-- What each input requests of each output: the highest class it holds for it (R28). An output whose stile holds back-pressure, whose 512
reorder slots are full or whose link on this plane holds back takes no cell. -/
def Chip.requests (c : Chip) (p : Nat) : List (Nat × Nat × Nat) :=
  (c.swx.queues.foldl (fun acc e =>
    if e.2.isEmpty then acc
    else
      let i := e.1 / 256
      let o := e.1 / 8 % 32
      if c.flag SWX_OUT_STAT_stalled o || c.slotsFull o || c.linkHolds p o then acc
      else match acc with
        | (i', o', k') :: rest => if i' = i && o' = o then (i', o', k') :: rest else (i, o, e.1 % 8) :: acc
        | [] => [(i, o, e.1 % 8)]) []).reverse

/-- Round robin: of some candidates the first at or after a pointer. -/
def rrPick (ptr : Nat) (xs : List Nat) : Nat :=
  match sortBy (fun x => (x + 32 - ptr % 32) % 32) xs with
  | x :: _ => x
  | [] => 0

/-- The class an output grants: C0, then C1, then among C2 to C7 by deficit weighted round robin over cells (R28): the first class with deficit
left; when none has any, every requesting class gains its weight. Answers the class and the deficits after. -/
def dwrrPick (c : Chip) (p o : Nat) (ks : List Nat) : Nat × Tab Nat :=
  let key := fun k => (p * 32 + o) * 8 + k
  if ks.contains 0 then (0, c.swx.deficit)
  else if ks.contains 1 then (1, c.swx.deficit)
  else
    let ks := sortBy id ks.eraseDups
    match ks.find? (fun k => decide (0 < c.swx.deficit.getD (key k) 0)) with
    | some k => (k, c.swx.deficit)
    | none =>
      let d := ks.foldl (fun d k => d.updD (key k) 0 (fun n => n + atLeast1 (c.get SWX_CLASS_CFG_weight k))) c.swx.deficit
      (ks.headD 7, d)

/-- One round of request, grant and accept on a plane over inputs and outputs left unmatched; answers the new matches (input, output, class). -/
def matchRound (p : Nat) (reqs : List (Nat × Nat × Nat)) (c : Chip) : List (Nat × Nat × Nat) × Chip :=
  let outs := (reqs.map (fun r => r.2.1)).eraseDups
  let step := fun (a : List (Nat × Nat × Nat) × Chip) (o : Nat) =>
    let mine := reqs.filter (fun r => r.2.1 = o)
    let (k, d) := dwrrPick a.2 p o (mine.map (fun r => r.2.2))
    let i := rrPick (a.2.swx.grantPtr.getD (p * 32 + o) 0) ((mine.filter (fun r => r.2.2 = k)).map (·.1))
    ((i, o, k) :: a.1, { a.2 with swx := { a.2.swx with deficit := d } })
  let (grants, c) := outs.foldl step ([], c)
  let ins := (grants.map (·.1)).eraseDups
  let ms := ins.map (fun i =>
    let mine := grants.filter (fun g => g.1 = i)
    let k := minOr 7 (mine.map (fun g => g.2.2))
    let o := rrPick (c.swx.acceptPtr.getD (p * 32 + i) 0) ((mine.filter (fun g => g.2.2 = k)).map (fun g => g.2.1))
    (i, o, k))
  (ms, c)

/-- Advance the pointers of a first-round accept. -/
def Chip.advancePtrs (c : Chip) (p : Nat) (ms : List (Nat × Nat × Nat)) : Chip :=
  { c with swx := { c.swx with
    grantPtr := ms.foldl (fun t m => t.put (p * 32 + m.2.1) ((m.1 + 1) % 32)) c.swx.grantPtr,
    acceptPtr := ms.foldl (fun t m => t.put (p * 32 + m.1) ((m.2.1 + 1) % 32)) c.swx.acceptPtr } }

/-- The three rounds of one cell time on one plane. -/
def matchPlane (p : Nat) (c : Chip) : List (Nat × Nat × Nat) × Chip :=
  let left := fun (ms : List (Nat × Nat × Nat)) (rs : List (Nat × Nat × Nat)) =>
    rs.filter (fun r => !ms.any (fun m => m.1 = r.1 || m.2.1 = r.2.1))
  let r0 := c.requests p
  let (m1, c) := matchRound p r0 c
  let c := c.advancePtrs p m1
  let (m2, c) := matchRound p (left m1 r0) c
  let m12 := m1 ++ m2
  let (m3, c) := matchRound p (left m12 r0) c
  (m12 ++ m3, c)

/-- A matched cell leaves the buffer: sequence number and plane are stamped (R25, R29), the plane's link keeps it among its last 16 (R33). A cell of
`bad` arrives with a failing header CRC and waits for HCRC_FAIL; any other reaches the resequencer. -/
def Chip.moveCell (c : Chip) (p : Nat) (bad : List Nat) (m : Nat × Nat × Nat) : Chip :=
  let (i, o, k) := m
  match c.swx.queues.getD (qKey i o k) [] with
  | [] => c
  | x :: rest =>
    let before := c.occAll
    let n := c.swx.seqNext.getD (i * 32 + o) 0
    let x := { x with seq := n, plane := p }
    let dk := (p * 32 + o) * 8 + k
    let deficit := if 2 ≤ k then (if rest.isEmpty then c.swx.deficit.del dk else c.swx.deficit.updD dk 0 (fun d => d - 1)) else c.swx.deficit
    let c := { c with swx := { c.swx with
      queues := if rest.isEmpty then c.swx.queues.del (qKey i o k) else c.swx.queues.put (qKey i o k) rest,
      seqNext := c.swx.seqNext.put (i * 32 + o) ((n + 1) % 65536),
      deficit := deficit,
      replay := c.swx.replay.updD (p * 32 + o) [] (fun l => (l ++ [x]).drop ((l.length + 1) - 16)),
      reports := if x.first && mayEvict k then c.swx.reports ++ [(x.src, x.msgId)] else c.swx.reports } }
    let c := if x.first && mayEvict k then c.send (.firstCellLeft x.src x.msgId) else c
    let c := ((c.lessen SWX_CLASS_STAT_occ 1 k).lessen SWX_OUT_STAT_queued 1 o).refreshBuffer before
    if bad.contains (p * 32 + o) then { c with swx := { c.swx with bad := c.swx.bad ++ [x] } }
    else ({ c with swx := { c.swx with failRun := c.swx.failRun.del (p * 32 + o) } } : Chip).reseqArrive x

/-- CELL_TIME_MATCH (R27 to R30): plane 0, then plane 1, matches and moves one cell per match; inputs held in back-pressure then try again. `bad`
names the links (plane × 32 + output) whose cell arrives with a failing header CRC, `ecc` an ECC error of a message in the buffer. -/
def cellTimeMatch (bad : List Nat) (ecc : Option (Bool × Nat × Nat)) (c : Chip) : Chip :=
  let c := match ecc with
    | some (u, src, id) => c.bufferEcc u src id
    | none => c
  let plane := fun (c : Chip) (p : Nat) =>
    if planeOn c p then
      let (ms, c) := matchPlane p c
      ms.foldl (fun c m => c.moveCell p bad m) c
    else c
  (plane (plane c.retryResend 0) 1).retryHeld

/-! ### Link replay and plane faults (R33 to R35) -/

/-- Show which planes run (R52). -/
def Chip.showPlanes (c : Chip) (en : Nat) : Chip := (c.set SWX_CTL_plane_en en).setFlag SWX_CTL_single_plane (decide (en = 1 ∨ en = 2))

/-- Stop a plane: its replay cells are resent on the other plane, and the resequencer discards duplicates (R34). With both planes disabled
the whistle generator stops (R35). Cells resent so go straight to the resequencer: they enter no replay buffer of the other plane and meet no header error there
(DESIGN CHOICE, assumption 17: R34 says that they are resent on it, and no more). -/
def Chip.stopPlane (c : Chip) (p : Nat) : Chip :=
  let en := setBit (c.get SWX_CTL_plane_en) p false
  let c := c.showPlanes en
  if en = 0 then c.setFlag TWIN_WHISTLE_STAT_gen_running false
  else
    let cells := (c.swx.replay.keep (fun k _ => decide (k / 32 = p))).vals.flatMap (fun l => l)
    let c := { c with swx := { c.swx with
      replay := c.swx.replay.keep (fun k _ => decide (k / 32 ≠ p)),
      bad := c.swx.bad.filter (fun x => x.plane ≠ p) } }
    cells.foldl (fun c x => c.reseqArrive { x with plane := 1 - p }) c

/-- A plane is disabled for its faults (R34). -/
def Chip.disablePlane (c : Chip) (p : Nat) : Chip := (c.stopPlane p).raise (0x7C2 + p)

/-- A write of SWX_CTL (R38, R52): the evictable bits of C0 to C4 stay 0; a plane switched off hands its cells over as a disabled one does. -/
def swxCtlWrite (image : Nat) (c : Chip) : Chip :=
  let en := SWX_CTL_plane_en.of image
  let off := fun (c : Chip) (p : Nat) => if planeOn c p && !bit en p then c.stopPlane p else c
  ((off (off c 0) 1).showPlanes en).set SWX_CTL_evict_mask (SWX_CTL_evict_mask.of image / 32 * 32)

/-- HCRC_FAIL (R33, R34): the oldest cell discarded on this link is requested again from the replay buffer; `again` says that the replayed cell
fails too. More than fault_limit failures in a row on one link disable the plane. -/
def hcrcFail (p out : Nat) (again : Bool) (c : Chip) : Chip :=
  match c.swx.bad.find? (fun x => x.plane = p && x.dst = out) with
  | none => c
  | some x =>
    let run := c.swx.failRun.getD (p * 32 + out) 0 + 1
    let c := { c with swx := { c.swx with failRun := c.swx.failRun.put (p * 32 + out) run } }
    let c := c.raise (0x7C0 + p)
    if atLeast1 (c.get SWX_REPLAY_CFG_fault_limit) < run then c.disablePlane p
    else if again then c
    else ({ c with swx := { c.swx with bad := c.swx.bad.erase x, failRun := c.swx.failRun.del (p * 32 + out) } } : Chip).reseqArrive x

/-! ### Time-outs and register rows -/

/-- STILE_WAKE_TIMEOUT (R20): the sender goes on waiting. -/
def stileWakeTimeout (sender receiver : Nat) (c : Chip) : Chip :=
  c.raiseIf (decide (c.swx.stiles.getD (sender * 64 + receiver) [] ≠ [])) 0x7CA

/-- What waits at a stile, oldest first: its entries, then those that its full depth holds at the sender (R18, R19). -/
def Swx.waitsAt (w : Swx) (key : Nat) : List Nat := w.stiles.getD key [] ++ w.stileWait.getD key []

/-- A stile's entries: as many as it has room for are in it, the others wait at the sender. -/
def Swx.putStile (w : Swx) (key : Nat) (l : List Nat) : Swx :=
  let d := atLeast1 Config.stileDepth
  { w with stiles := if l.isEmpty then w.stiles.del key else w.stiles.put key (l.take d),
           stileWait := if (l.drop d).isEmpty then w.stileWait.del key else w.stileWait.put key (l.drop d) }

/-- OUTPUT_STALL_TIMEOUT (R45): an output at its ceiling for longer than 1 ms. -/
def outputStallTimeout (o : Nat) (c : Chip) : Chip :=
  c.raiseIf (decide (c.outCeil o ≤ c.get SWX_OUT_STAT_queued o)) 0x7CB

/-- SWX_CLASS_CFG_WRITE (R39): refused with event 0x7CC when the reserves sum above 114,688 or the ceiling lies below the reserve. -/
def swxClassCfgWrite (k image : Nat) (c : Chip) : Chip :=
  if 8 ≤ k then c
  else
    let rsv := SWX_CLASS_CFG_rsv_cells.of image
    let ceil := SWX_CLASS_CFG_ceil_cells.of image
    let sum := ((List.range 8).map (fun j => if j = k then rsv else c.get SWX_CLASS_CFG_rsv_cells j)).sum
    if 114688 < sum || decide (ceil < rsv) then c.raise 0x7CC
    else
      let c := ((c.set SWX_CLASS_CFG_rsv_cells rsv k).set SWX_CLASS_CFG_ceil_cells ceil k).set SWX_CLASS_CFG_weight (SWX_CLASS_CFG_weight.of image) k
      c.set SWX_BUF_STATUS_shared_free c.sharedFree

/-- SWX_PEAK_CLR (R52): peak_clr clears the buffer's peak and the classes' peaks. -/
def swxPeakClr (c : Chip) : Chip :=
  (List.range 8).foldl (fun c k => c.set SWX_CLASS_STAT_peak 0 k) (c.set SWX_BUF_HWM_peak_cells 0)

/-- SWX_RESEQ_ERR_REARM (R52). -/
def swxReseqErrRearm (c : Chip) : Chip := c.set SWX_RESEQ_ERR_valid 0

/-! ### Crossings of the switch (R50, R51) -/

/-- Island numbers of the units (R15). -/
def droveId (ctx : Nat) : Nat := 8 + ctx / 65536
def cmdId (isl : Nat) : Nat := 14 + isl
def cacheId (stack : Nat) : Nat := 18 + stack
def strpId (isl : Nat) : Nat := 20 + isl
def ciphId (lane : Option Nat) : Nat := 24 + (lane.getD 0) / 8
def drvId (slot : Nat) : Nat := if slot < 32 then 27 + slot / 8 else 31
def partId : Nat := 34

/-- A unit's message crosses the switch from one island's attach point to another's, in a class (R50, R51). What it carries is what the units' own steps say. -/
def Chip.cross (c : Chip) (src dst cls : Nat) : Chip :=
  match attachPoint src, attachPoint dst with
  | some a, some b => c.send (.crossing a b cls)
  | _, _ => c

/-- The class in which a host command travels: that of its frame (R62), C3 when it was marked red under red action 0 (R79). -/
def Chip.hostCls (c : Chip) (ctx : Nat) (low : Bool) : Nat := if low then 3 else (c.conns.get? ctx).elim 3 (·.hostCls)

end Sys2Proof.Machine
end

