-- ==== Sys2Proof/Machine/Endpoint.lean ====
section
/-!
DEFINITION. The PCIe endpoint, the rings, the BAR2 window, the management sessions and the long operations' commands: chapter 13 of the spec
(R402 to R438), but for register writes by BAR0 address (Machine/Bar0.lean).
-/

namespace Sys2Proof.Machine

/-! ### Submission rings (R419 to R422) -/

def Chip.sqState (c : Chip) (r : Nat) : Nat := c.get RING_SQ_STAT_state r

/-- May this ring be fetched at this point of the start (R442, R446, R453)? -/
def Chip.sqAllowed (c : Chip) (r : Nat) : Bool :=
  if c.flag LEDGER_STAT_recovery || c.flag LEDGER_STAT_held then r = 0
  else decide (5 ≤ c.get GLB_START_step)

/-- Read the entry at the head (R419). -/
def Chip.sqRead (c : Chip) (r : Nat) : Chip :=
  if c.sqState r = 1 && c.mgmt.bme && !c.mgmt.d3 && c.sqAllowed r then
    c.send (.hostRead (c.get RING_SQ_BASE_base r * 64 + c.get RING_SQ_STAT_head r * 64) 64)
  else c

/-- SQ_ENABLE_WRITE (R419): 1 starts the ring at start_head with phase 1; 0 stops it. A ring whose size lies outside 64 to 65,536 stays in state 0
(R437). -/
def sqEnableWrite (r : Nat) (en : Bool) (startHead : Nat) (c : Chip) : Chip :=
  let c := (c.setFlag RING_SQ_CTL_en en r).set RING_SQ_CTL_start_head startHead r
  if !en then c.set RING_SQ_STAT_state 0 r
  else
    let size := c.get RING_SQ_CFG_size_64 r
    if size < 64 ∨ 65536 < size then c.set RING_SQ_STAT_state 0 r
    else
      let c := c.set RING_SQ_STAT_state (if c.mgmt.bme && !c.mgmt.d3 then 1 else 2) r
      let c := ((c.set RING_SQ_STAT_phase 1 r).set RING_SQ_STAT_err_reason 0 r).set RING_SQ_STAT_head startHead r
      c.sqRead r

/-- SQ_CLEAR_ERR (R422): resumes at the latched entry. -/
def sqClearErr (r : Nat) (c : Chip) : Chip :=
  if c.sqState r = 3 then ((c.set RING_SQ_STAT_state 1 r).set RING_SQ_STAT_err_reason 0 r).sqRead r else c

/-- SQ_DOORBELL (R419). -/
def sqDoorbell (r : Nat) (c : Chip) : Chip := c.sqRead r

/-- SQ_POLL (R419): poll_us after finding no entry of the host's. -/
def sqPoll (r : Nat) (c : Chip) : Chip := c.sqRead r

/-- The opcodes of R435. -/
def opcodes : List Nat :=
  [0x0000, 0x0001, 0x0002, 0x00FE, 0x0100, 0x0101, 0x0102, 0x0103, 0x0104, 0x0110, 0x0111, 0x0112, 0x0113, 0x0114, 0x0115, 0x0116, 0x0117,
   0x0130, 0x0131, 0x0200, 0x0201, 0x0202, 0x0204, 0x0210, 0x0211, 0x0212, 0x0220, 0x0221, 0x0222, 0x0223, 0x0224, 0x0225, 0x0228, 0x0229] ++
  [0x0230, 0x0231, 0x0240, 0x0241, 0x0242, 0x0243, 0x0300, 0x0301, 0x0302, 0x0303, 0x0400, 0x0401, 0x0402, 0x0404, 0x0410, 0x0411, 0x0412,
   0x0413, 0x0414, 0x0415, 0x0500, 0x0501, 0x0502, 0x0503, 0x0504, 0x0505, 0x0506, 0x0600, 0x0601, 0x0602, 0x0603, 0x0604, 0x0605, 0x0606,
   0x0607, 0x0608, 0x0610, 0x0611, 0x0620, 0x0621, 0x0622] ++
  [0x0700, 0x0701, 0x0702, 0x0710, 0x0711, 0x0720, 0x0721, 0x0722, 0x0723, 0x0730, 0x0731, 0x0732, 0x0733, 0x0740, 0x0750, 0x0800, 0x0801,
   0x0802, 0x0803, 0x0804, 0x0805, 0x0806, 0x0807, 0x0808, 0x0809, 0x0900, 0x0901, 0x0902, 0x0903, 0x0904, 0x0905, 0x0906, 0x0A00, 0x0A01,
   0x0A03, 0x0A10, 0x0A11, 0x0A12, 0x0A20, 0x0A21, 0x0A22] ++
  [0x0B00, 0x0B01, 0x0B02, 0x0B03, 0x0B04, 0x0B05, 0x0B06, 0x0B10, 0x0B20, 0x0B21, 0x0C00, 0x0C01, 0x0C10, 0x0C11, 0x0C12, 0x0C20, 0x0C30,
   0x0C31]

/-- The err_reason of a malformed entry, or 0 (R422). The checks are made in the order in which the parts of the entry arrive: the read, the length,
the ring's end, the format, the reserved fields, the packet check. -/
def malformedReason (p : Packet) (head size : Nat) : Nat :=
  if !p.fetchOk then 6
  else if p.len64 = 0 ∨ 64 < p.len64 then 1
  else if size < head + p.len64 then 2
  else if p.fmt < 1 ∨ 3 < p.fmt then 3
  else if bits p.flags 6 3 ≠ 0 ∨ (p.fmt = 1 ∧ (2 ^ 32 ≤ p.tag ∨ p.deadlineMs ≠ 0)) ∨ (p.fmt ≠ 3 ∧ (p.expectGen ≠ 0 ∨ p.crc ≠ 0)) then 4
  else if p.fmt = 3 ∧ p.crcOk = false then 5
  else 0

/-- Move a ring's head past an entry; at unit 0 the expected phase inverts (R419). -/
def Chip.sqAdvance (c : Chip) (r len : Nat) : Chip :=
  let size := c.get RING_SQ_CFG_size_64 r
  let h := c.get RING_SQ_STAT_head r + len
  if size ≤ h then (c.set RING_SQ_STAT_head 0 r).set RING_SQ_STAT_phase (1 - c.get RING_SQ_STAT_phase r) r
  else c.set RING_SQ_STAT_head h r

/-- SQ_ENTRY_FETCHED (R419, R421, R422): an entry of the host's is taken whole, a malformed one stops the ring with the head latched, a pad is
skipped, an unknown opcode is answered 0x0100, any other command waits for its start. -/
def sqEntryFetched (r : Nat) (p : Packet) (c : Chip) : Chip :=
  if c.sqState r ≠ 1 || !c.mgmt.bme || c.mgmt.d3 || !c.sqAllowed r then c
  else
    let reason := malformedReason p (c.get RING_SQ_STAT_head r) (c.get RING_SQ_CFG_size_64 r)
    if reason ≠ 6 && b2n (bit p.flags 7) ≠ c.get RING_SQ_STAT_phase r then c
    else if reason ≠ 0 then
      let c := c.raiseIf (reason = 6) 0x727
      ((c.set RING_SQ_STAT_state 3 r).set RING_SQ_STAT_err_reason reason r).raise (0x700 + r)
    else
      let c := (c.sqAdvance r p.len64).bump RING_SQ_STAT_fetched 1 r
      let c := if p.opcode = 0x00FE then c
        else if !opcodes.contains p.opcode then c.reply (.ring r) p.opcode p.fmt p.tag 0x0100 0 0 false []
        else { c with mgmt := { c.mgmt with fetched := c.mgmt.fetched ++ [⟨.ring r, p.opcode, p.fmt, p.tag, c.clk⟩] } }
      c.sqRead r

/-- PAD (R421): skips units and has no reply. -/
def pad (r len64 : Nat) (c : Chip) : Chip :=
  sqEntryFetched r ⟨0x00FE, 1, c.get RING_SQ_STAT_phase r * 128, len64, 0xFFFF, 0, 0, 0, 0, [], true⟩ c

/-! ### Completion rings (R423, R424) -/

def Chip.cqOf (c : Chip) (src : Src) : Option Nat :=
  match src with
  | .ring r => some (c.get RING_SQ_CFG_cq r)
  | _ => none

/-- Count a reply toward the ring's message, and send the message when it is due (R424). -/
def Chip.cqCount (c : Chip) (q : Nat) : Chip :=
  let k := c.mgmt.cqCoal.getD q ⟨0, 0⟩
  let k : CqCoal := ⟨k.since + 1, if k.since = 0 then c.clk else k.firstNs⟩
  if c.flag RING_CQ_CFG_irq_en q && (c.get RING_CQ_CFG_coal_us q = 0 || decide (atLeast1 (c.get RING_CQ_CFG_coal_cnt q) ≤ k.since)) then
    ({ c with mgmt := { c.mgmt with cqCoal := c.mgmt.cqCoal.put q ⟨0, 0⟩ } } : Chip).msix (c.get RING_CQ_CFG_vector q)
  else { c with mgmt := { c.mgmt with cqCoal := c.mgmt.cqCoal.put q k } }

/-- Advance the tail of a completion ring; at unit 0 the phase inverts. -/
def Chip.cqAdvance (c : Chip) (q n : Nat) : Chip :=
  let size := c.get RING_CQ_CFG_size_64 q
  let t := c.get RING_CQ_STAT_tail q + n
  let c := { c with mgmt := { c.mgmt with cqUsed := c.mgmt.cqUsed.updD q 0 (fun u => u + n) } }
  if size ≤ t then (c.set RING_CQ_STAT_tail 0 q).set RING_CQ_STAT_phase (1 - c.get RING_CQ_STAT_phase q) q
  else c.set RING_CQ_STAT_tail t q

/-- The first reply that waits for a completion ring. -/
def Chip.cqFirst (c : Chip) (q : Nat) : Option Reply := c.mgmt.replies.find? (fun r => c.cqOf r.src = some q)

/-- Write one reply: a pad to the end of the lap where it does not fit there, then its units (R423). Answers none when there is no room, or while
writes may not be issued (R408). -/
def Chip.cqWriteOne (c : Chip) (q : Nat) : Option Chip :=
  match c.cqFirst q with
  | none => none
  | some r =>
    let n := replyUnits r
    let size := c.get RING_CQ_CFG_size_64 q
    let left := size - c.get RING_CQ_STAT_tail q
    let padN := if left < n then left else 0
    if !c.flag RING_CQ_CFG_en q || !c.mgmt.bme || c.mgmt.d3 || decide (size < c.mgmt.cqUsed.getD q 0 + padN + n) then none
    else
      let c := { c with mgmt := { c.mgmt with replies := c.mgmt.replies.erase r } }
      let c := if 0 < padN then
          (c.send (.cqPad q (c.get RING_CQ_STAT_tail q) padN (c.flag RING_CQ_STAT_phase q))).cqAdvance q padN
        else c
      let head := match r.src with
        | .ring s => c.get RING_SQ_STAT_head s
        | _ => 0
      let c := c.send (Reply.toRing q (c.get RING_CQ_STAT_tail q) (c.flag RING_CQ_STAT_phase q) { r with sqHead := head })
      some ((c.cqAdvance q n).cqCount q)

/-- Show how many replies a completion ring holds back. -/
def Chip.cqHolding (c : Chip) (q : Nat) : Chip :=
  let n := (c.mgmt.replies.filter (fun r => c.cqOf r.src = some q)).length
  (c.setFlag RING_CQ_STAT_holding (decide (0 < n)) q).set RING_CQ_STAT_held (min n 0xFFFF) q

/-- Submission rings bound to a completion ring. -/
def Chip.boundTo (c : Chip) (q : Nat) : List Nat := (List.range 16).filter (fun r => c.get RING_SQ_CFG_cq r = q)

/-- REPLY_WRITE (R423): the next reply of a completion ring is written; when it does not fit it is held, the rings bound to that completion ring wait
in state 4, and event 0x710 + c is raised. -/
def replyWrite (q : Nat) (c : Chip) : Chip :=
  match c.cqWriteOne q with
  | some c => if c.flag RING_CQ_STAT_holding q then c.cqHolding q else c
  | none =>
    match c.cqFirst q with
    | none => c
    | some _ =>
      let c := c.cqHolding q
      if c.mgmt.bme && !c.mgmt.d3 && c.flag RING_CQ_CFG_en q then
        ((c.boundTo q).foldl (fun c r => if c.sqState r = 1 then c.set RING_SQ_STAT_state 4 r else c) c).raise (0x710 + q)
      else c

/-- Write held replies while they fit. -/
def cqDrain (q : Nat) : Nat → Chip → Chip
  | 0, c => c
  | n + 1, c =>
    match c.cqWriteOne q with
    | some c => cqDrain q n c
    | none => c

/-- Resume the rings that waited for room once no reply is held (R423). -/
def Chip.cqResume (c : Chip) (q : Nat) : Chip :=
  let c := (cqDrain q c.mgmt.replies.length c).cqHolding q
  if c.flag RING_CQ_STAT_holding q then c
  else (c.boundTo q).foldl (fun c r => if c.sqState r = 4 then (c.set RING_SQ_STAT_state 1 r).sqRead r else c) c

/-- CQ_ENABLE_WRITE (R423): a write of RING_CQ_CFG; setting en starts the ring at tail 0 with phase 1. -/
def cqEnableWrite (q image : Nat) (c : Chip) : Chip :=
  let was := c.flag RING_CQ_CFG_en q
  let c := c.writeReg RING_CQ_CFG q 0 image (2 ^ 64 - 1) true
  if c.flag RING_CQ_CFG_en q && !was then
    let c := ((c.set RING_CQ_STAT_tail 0 q).set RING_CQ_STAT_phase 1 q).set RING_CQ_HEAD_head 0 q
    ({ c with mgmt := { c.mgmt with cqUsed := c.mgmt.cqUsed.del q, cqCoal := c.mgmt.cqCoal.del q } } : Chip).cqResume q
  else c

/-- CQ_HEAD_WRITE (R423, R424): the host frees units; the count toward the next message restarts; held replies are written as room allows. -/
def cqHeadWrite (q head : Nat) (c : Chip) : Chip :=
  let size := atLeast1 (c.get RING_CQ_CFG_size_64 q)
  let freed := (head + size - c.get RING_CQ_HEAD_head q % size) % size
  let used := c.mgmt.cqUsed.getD q 0
  let freed := if freed = 0 && used = size then size else freed
  let c := c.set RING_CQ_HEAD_head head q
  let c := { c with mgmt := { c.mgmt with cqUsed := c.mgmt.cqUsed.put q (used - freed), cqCoal := c.mgmt.cqCoal.put q ⟨0, 0⟩ } }
  c.cqResume q

/-- CQ_COALESCE_EXPIRY (R424): the oldest reply since the last message is coal_us old. -/
def cqCoalesceExpiry (q : Nat) (c : Chip) : Chip :=
  if c.flag RING_CQ_CFG_irq_en q && decide (0 < (c.mgmt.cqCoal.getD q ⟨0, 0⟩).since) then
    ({ c with mgmt := { c.mgmt with cqCoal := c.mgmt.cqCoal.put q ⟨0, 0⟩ } } : Chip).msix (c.get RING_CQ_CFG_vector q)
  else c

/-! ### The capture ring (R426) -/

/-- CAPTURE_CONS_WRITE: the host frees capture ring space. -/
def captureConsWrite (cons : Nat) (c : Chip) : Chip := c.set RING_CAP_CONS_cons cons

/-- CAPTURE_COAL_EXPIRY: records have been written and cap_coal_us has passed since the last event 0x72A. -/
def captureCoalExpiry (c : Chip) : Chip :=
  if c.mgmt.capNew then ({ c with mgmt := { c.mgmt with capNew := false, capLastNs := c.clk } } : Chip).raise 0x72A else c

/-- CAPTURE_RING_SET (0x0C12). -/
def captureRingSet (h : Hdr) (base cfg wb : Nat) : Chip → Chip :=
  runCommand ⟨0x0C12, false, .w, paramBytes [8, 4, 8]⟩ h [] (fun c =>
    let c := ((c.writeImage RING_CAP_BASE base).writeImage RING_CAP_CFG cfg).writeImage RING_CAP_WB wb
    Res.ok ((c.set RING_CAP_PROD_prod 0).set RING_CAP_CONS_cons 0))

/-! ### Bus Master Enable, power states, Function Level Reset (R406 to R408) -/

/-- Send every due message of an unmasked vector. -/
def Chip.sendDue (c : Chip) : Chip :=
  let due := c.mgmt.pba
  due.foldl (fun c v => c.msix v) { c with mgmt := { c.mgmt with pba := [] } }

def Chip.anyRing (c : Chip) : Bool := (List.range 16).any (fun r => c.sqState r = 1 || c.sqState r = 4)

/-- Each submission ring that runs is paused, its head latched (R408). -/
def Chip.pauseRings (c : Chip) : Chip :=
  (List.range 16).foldl (fun c r => if c.sqState r = 1 || c.sqState r = 4 then c.set RING_SQ_STAT_state 2 r else c) c

/-- Held replies are written first, then the paused rings resume from their latched heads, those whose completion ring still lacks room into state 4 (R423), then due messages are sent (R408). -/
def Chip.resumeRings (c : Chip) : Chip :=
  let any := (List.range 16).any (fun r => c.sqState r = 2)
  let c := (List.range 16).foldl (fun c q => c.cqResume q) c
  let c := (List.range 16).foldl (fun (c : Chip) r => if c.sqState r ≠ 2 then c
    else if c.flag RING_CQ_STAT_holding (c.get RING_SQ_CFG_cq r) && c.flag RING_CQ_CFG_en (c.get RING_SQ_CFG_cq r) then c.set RING_SQ_STAT_state 4 r
    else (c.set RING_SQ_STAT_state 1 r).sqRead r) c
  (c.sendDue).raiseIf any 0x721

/-- BME_CLEAR (R408). -/
def bmeClear (c : Chip) : Chip :=
  let any := c.anyRing
  (({ c with mgmt := { c.mgmt with bme := false } } : Chip).pauseRings).raiseIf any 0x720

/-- BME_SET (R408). -/
def bmeSet (c : Chip) : Chip :=
  let c := { c with mgmt := { c.mgmt with bme := true } }
  if c.mgmt.d3 then c else c.resumeRings

/-- D3HOT_ENTRY (R407). -/
def d3hotEntry (c : Chip) : Chip := (({ c with mgmt := { c.mgmt with d3 := true } } : Chip).pauseRings).raise 0x723

/-- D0_RETURN (R407): every register is kept. -/
def d0Return (c : Chip) : Chip :=
  let c := { c with mgmt := { c.mgmt with d3 := false } }
  if c.mgmt.bme then c.resumeRings else c

/-- The configuration space, as a Function Level Reset and a cold reset leave it (R407). -/
def Chip.resetConfig (c : Chip) : Chip :=
  { c with mgmt := { c.mgmt with msix := [], msixEn := false, msixMask := false, bme := false, memEn := false, d3 := false, barSizing := [],
                                 cmdBits := 0, intLine := 0 } }

/-- FLR (R407): the configuration space, the RING, WIN and GLB_SCRATCH registers and the MSI-X table return to reset; every ring stops; commands
already fetched run on and their replies are discarded; long operations go on. -/
def flr (c : Chip) : Chip :=
  let lost := c.mgmt.fetched.filterMap (fun f => match f.src with
    | .ring r => some (Src.ring r, f.tag)
    | _ => none)
  let c := (c.resetConfig).resetRegs (regsRing ++ regsWin ++ [GLB_SCRATCH]) false
  let c := { c with mgmt := { c.mgmt with
    discard := c.mgmt.discard ++ lost,
    replies := [],
    cqUsed := [], cqCoal := [], capNew := false,
    ops := c.mgmt.ops.mapVals (fun _ (op : LongOp) => match op.src with
      | .ring _ => { op with src := .record }
      | _ => op) } }
  let c := { c with regs := c.regs.filter (fun e => !(decide (GLB_SCRATCH.geo.base * 64 ≤ e.1) && decide (e.1 < (GLB_SCRATCH.geo.base + 0x20) * 64))) }
  c.raise 0x722

/-- ENDPOINT_LINK_CHANGE (R438). -/
def endpointLinkChange (up : Bool) (c : Chip) : Chip :=
  ({ c with mgmt := { c.mgmt with linkUp := up } } : Chip).raise (if up then 0x733 else 0x732)

/-- CONFIG_SPACE_WRITE (R404 to R406): the Command register, the BARs' sizing, the interrupt line, the MSI-X control, the power state. Fields that
R404 and R405 do not list ignore the write. -/
def configSpaceWrite (offset value : Nat) (c : Chip) : Chip :=
  let bar := fun (v : Nat) => ({ c with mgmt := { c.mgmt with barSizing := c.mgmt.barSizing.put offset v } } : Chip)
  if offset = 0x04 then
    let c := { c with mgmt := { c.mgmt with memEn := bit value 1, cmdBits := value &&& 0x546 } }
    let on := bit value 2
    if on && !c.mgmt.bme then bmeSet c else if !on && c.mgmt.bme then bmeClear c else c
  else if offset = 0x10 then bar ((value &&& 0xFF000000) ||| 0x4)
  else if offset = 0x14 then bar (value % 2 ^ 32)
  else if offset = 0x18 then bar ((value &&& 0xC0000000) ||| 0xC)
  else if offset = 0x1C then bar (value % 2 ^ 32)
  else if offset = 0x3C then { c with mgmt := { c.mgmt with intLine := value % 256 } }
  else if offset = 0x84 then
    if value % 4 = 3 && !c.mgmt.d3 then d3hotEntry c else if value % 4 = 0 && c.mgmt.d3 then d0Return c else c
  else if offset = 0x90 then
    let c := { c with mgmt := { c.mgmt with msixEn := bit value 31, msixMask := bit value 30 } }
    if bit value 31 && !bit value 30 then c.sendDue else c
  else c

/-- A dword of the configuration space (R404 to R406): the header, the capability list, and the Welar vendor-specific capability at 0x158, whose firmware fields read 0 until ST05. What R405 leaves to the
PCI Express standards stands as they have it (PRESUMED, assumption 140); every other dword reads 0. -/
def Chip.configDword (c : Chip) (offset : Nat) : Nat :=
  let bar := fun (v : Nat) => c.mgmt.barSizing.getD offset v
  let grade := c.get GLB_ID_grade
  if offset = 0x00 then 0x1F9E + grade * 2 ^ 16
  else if offset = 0x04 then c.mgmt.cmdBits + 2 ^ 20
  else if offset = 0x08 then 0xB0 + 0x088000 * 2 ^ 8
  else if offset = 0x10 then bar 0x4
  else if offset = 0x14 then bar 0
  else if offset = 0x18 then bar 0xC
  else if offset = 0x1C then bar 0
  else if offset = 0x2C then 0x1F9E + (if c.id.chipB then 0x000B else 0x000A) * 2 ^ 16
  else if offset = 0x34 then 0x40
  else if offset = 0x3C then c.mgmt.intLine
  else if offset = 0x40 then 0x10 + 0x80 * 2 ^ 8 + 2 * 2 ^ 16
  else if offset = 0x44 then 2 + 2 ^ 28
  else if offset = 0x4C then 4 + 4 * 2 ^ 4 + 2 * 2 ^ 10
  else if offset = 0x80 then 0x01 + 0x90 * 2 ^ 8 + 3 * 2 ^ 16
  else if offset = 0x84 then (if c.mgmt.d3 then 3 else 0) + 2 ^ 3
  else if offset = 0x90 then 0x11 + 63 * 2 ^ 16 + b2n c.mgmt.msixMask * 2 ^ 30 + b2n c.mgmt.msixEn * 2 ^ 31
  else if offset = 0x94 then 0x48000
  else if offset = 0x98 then 0x49000
  else if offset = 0x100 then 0x0001 + 2 ^ 16 + 0x148 * 2 ^ 20
  else if offset = 0x148 then 0x0003 + 2 ^ 16 + 0x158 * 2 ^ 20
  else if offset = 0x14C then c.get GLB_SERIAL_serial % 2 ^ 32
  else if offset = 0x150 then c.get GLB_SERIAL_serial / 2 ^ 32
  else if offset = 0x158 then 0x000B + 2 ^ 16
  else if offset = 0x15C then 0x0001 + 2 ^ 16 + 0x20 * 2 ^ 20
  else if offset = 0x160 then grade + c.get GLB_ID_revision * 2 ^ 16 + c.get GLB_ID_chip * 2 ^ 24
  else if offset = 0x164 then c.get GLB_ID_release
  else if offset = 0x168 then (if c.get GLB_ID_release = 0 then 0 else c.start.proto % 2 ^ 16) + 2 ^ 16
  else 0

/-- Is a message of this vector still due: an enabled event routed to it has its status bit set, or a ring has unread replies counted (R424, R474)? -/
def Chip.vectorDue (c : Chip) (v : Nat) : Bool :=
  (List.range 16).any (fun q => c.flag RING_CQ_CFG_irq_en q && c.get RING_CQ_CFG_vector q = v && decide (0 < c.mgmt.cqUsed.getD q 0)) ||
  (List.range 32).any (fun w =>
    let on := c.get EVT_STATUS_status w &&& c.get EVT_ENABLE_enable w
    on ≠ 0 && (List.range 64).any (fun b => bit on b && c.flag EVT_ROUTE_msix (64 * w + b) && c.get EVT_ROUTE_vector (64 * w + b) = v))

/-- MSIX_VECTOR_UNMASK (R474): the pending message is sent if its event's status bit or its ring's condition still stands. -/
def msixVectorUnmask (v : Nat) (c : Chip) : Chip :=
  let c := { c with mgmt := { c.mgmt with msix := c.mgmt.msix.updD v ⟨0, 0, true⟩ (fun e => { e with masked := false }) } }
  if c.mgmt.pba.contains v then
    let due := c.vectorDue v
    let c := { c with mgmt := { c.mgmt with pba := c.mgmt.pba.erase v } }
    if due then c.msix v else c
  else c

/-! ### The BAR2 window (R409, R410) -/

/-- WIN_COMMIT_WRITE (R409). -/
def winCommitWrite (c : Chip) : Chip :=
  let c := (c.set WIN_ACTIVE_en (c.get WIN_CTL_SH_en)).set WIN_ACTIVE_wr_en (c.get WIN_CTL_SH_wr_en)
  let c := (c.set WIN_ACTIVE_base_2m (c.get WIN_BASE_SH_base_2m)).set WIN_ACTIVE_size_2m (c.get WIN_SIZE_SH_size_2m)
  (c.set WIN_EPOCH_epoch (c.get WIN_EPOCH_epoch + 1)).raise 0x724

/-- WIN_UR_LAST_REARM (R437). -/
def winUrLastRearm (c : Chip) : Chip := c.set WIN_UR_LAST_valid 0

def overlaps (a n b m : Nat) : Bool := decide (a < b + m) && decide (b < a + n)
def within (a n b m : Nat) : Bool := decide (b ≤ a) && decide (a + n ≤ b + m)

/-- Is a stack present and in use (R189, R410)? -/
def Chip.stackUsable (c : Chip) (s : Nat) : Bool :=
  decide (s < 2) && !(c.id.half && decide (1 ≤ s)) && bit (c.get CACHE_STATUS_stacks) s

/-- R410's cases: does the window refuse this TLP? -/
def Chip.tlpRefused (c : Chip) (write : Bool) (x len : Nat) : Bool :=
  let one := c.oneStack
  let size := if c.get WIN_ACTIVE_size_2m = 0 then 512 else min 512 (c.get WIN_ACTIVE_size_2m)
  let a := c.get WIN_ACTIVE_base_2m * 2097152 + x
  let inXfer := within a len (xferBase one c.homeStack) xferSize
  let forbidden := (List.range 2).any (fun s =>
    overlaps a len (cipherBase one s) (partSize one 6) || overlaps a len (keyScratchBase one s) (partSize one 9 / 2) ||
    (!c.stackUsable s && overlaps a len (s * stackBytes) stackBytes))
  !c.flag WIN_ACTIVE_en || decide (size * 2097152 < x + len) || forbidden || decide (2 * stackBytes < a + len) ||
    (write && (!c.flag WIN_ACTIVE_wr_en || !inXfer)) ||
    (c.flag FUSE_STAT_isolation && !inXfer && !within a len (resBase one 0 c.homeStack) (64 * mib 1))

/-- BAR2_TLP (R410): a read or a write of HBM through the window, or Unsupported Request with event 0x725 and WIN_UR_LAST, a write with event 0x729. `data` is none for a read
of `len` bytes; `hbmError` says that a read meets an uncorrectable HBM error. -/
def bar2Tlp (x len : Nat) (data : Option Bytes) (hbmError : Bool) (c : Chip) : Chip :=
  let write := data.isSome
  if c.tlpRefused write x len then
    let c := if c.flag WIN_UR_LAST_valid then c
      else ((c.set WIN_UR_LAST_offset x).setFlag WIN_UR_LAST_write write).set WIN_UR_LAST_valid 1
    ((c.send (if write then .aerReport false else .tlpUnsupported)).raise 0x725).raiseIf write 0x729
  else
    let a := c.get WIN_ACTIVE_base_2m * 2097152 + x
    match data with
    | some d => { c with hbm := memWriteN c.hbm a (d.take len) }
    | none => (c.send (.tlpData (memReadN c.hbm a len) hbmError)).raiseIf hbmError 0x726

/-! ### Management sessions (R427, R428, R473) -/

/-- SESSION_ACCEPT (R427): a fifth connection is reset; a failed handshake raises 0x72D; otherwise the session opens with event 0x72B. -/
def sessionAccept (port address psk : Nat) (handshakeOk : Bool) (c : Chip) : Chip :=
  if !c.mgmt.mgmtEn || decide (4 ≤ c.mgmt.sessions.length) then c.send (.tcpReset port)
  else match c.mgmt.psks.get? psk with
    | none => c.raise 0x72D
    | some k =>
      if !handshakeOk then c.raise 0x72D
      else
        let i := c.mgmt.sessions.freeFrom 4 0
        let m : MgmtSession := ⟨psk, k.role, port, address, c.now, c.clk, 0, [], 1, 0, 0, 0, [], 0⟩
        ({ c with mgmt := { c.mgmt with sessions := c.mgmt.sessions.put i m } } : Chip).raise 0x72B

/-- Close a session: event 0x72C; its pending final replies are discarded (R427, R433). -/
def Chip.closeSession (c : Chip) (i : Nat) : Chip :=
  if c.mgmt.sessions.has i then
    let c := { c with mgmt := { c.mgmt with
      sessions := c.mgmt.sessions.del i,
      ops := c.mgmt.ops.mapVals (fun _ (op : LongOp) => if op.src = Src.session i then { op with src := .record } else op) } }
    (c.send (.sessionClosed i)).raise 0x72C
  else c

/-- SESSION_IDLE_EXPIRY (R427). -/
def sessionIdleExpiry (i : Nat) (c : Chip) : Chip := c.closeSession i

/-- MGMT_SESSION_CLOSE_RX (R427). -/
def mgmtSessionCloseRx (i : Nat) (c : Chip) : Chip := c.closeSession i

/-- SESSION_PACKET_RX (R427): a packet with a bad fmt or crc replies 0x0101 or 0x0105 in format 1 and the session continues; a pad has no reply (R421, R435); at 64 packets ahead of
their replies the chip stops reading. -/
def sessionPacketRx (i : Nat) (p : Packet) (c : Chip) : Chip :=
  match c.mgmt.sessions.get? i with
  | none => c
  | some m =>
    if 64 ≤ m.ahead then c
    else if p.opcode = 0x00FE && 1 ≤ p.fmt && p.fmt ≤ 3 && p.crcOk then { c with mgmt := { c.mgmt with sessions := c.mgmt.sessions.put i { m with lastNs := c.clk } } }
    else
      let c := { c with mgmt := { c.mgmt with sessions := c.mgmt.sessions.put i { m with lastNs := c.clk, ahead := m.ahead + 1 } } }
      if p.fmt < 1 || 3 < p.fmt then c.reply (.session i) p.opcode 1 p.tag 0x0101 0 0 false []
      else if p.fmt = 3 && !p.crcOk then c.reply (.session i) p.opcode 1 p.tag 0x0105 0 0 false []
      else if !opcodes.contains p.opcode then c.reply (.session i) p.opcode p.fmt p.tag 0x0100 0 0 false []
      else { c with mgmt := { c.mgmt with fetched := c.mgmt.fetched ++ [⟨.session i, p.opcode, p.fmt, p.tag, c.clk⟩] } }

/-- A log entry as 16 bytes (R472). -/
def logBytes (l : LogEntry) : Bytes :=
  le 8 l.timebase ++ le 2 l.event ++ le 1 (b2n l.msixSent + 2 * b2n l.atStart) ++ le 1 0 ++ le 4 l.count

/-- EVENT_NOTICE_COAL (R473): the entries that wait go out as a notice of up to 250; a session whose send queue cannot take it drops them, counts
them in the next notice and raises 0x7E3. -/
def eventNoticeCoal (i : Nat) (queueFull : Bool) (c : Chip) : Chip :=
  match c.mgmt.sessions.get? i with
  | none => c
  | some m =>
    let due := m.waiting.take 250
    if due.isEmpty then c
    else if queueFull then
      let m := { m with waiting := m.waiting.drop 250, lost := min (m.lost + due.length) 0xFFFF, lastNotice := c.clk }
      ({ c with mgmt := { c.mgmt with sessions := c.mgmt.sessions.put i m } } : Chip).raise 0x7E3
    else
      let gen := if m.subFmt = 3 then c.get GLB_CFG_GEN_cfg_gen % 2 ^ 32 else 0
      let data := le 2 due.length ++ le 2 m.lost ++ le 4 0 ++ due.flatMap logBytes
      let r : Reply := ⟨.session i, 0x0A03, m.subFmt, false, 0, m.subTag, 0, 0, 0, gen, data⟩
      let m := { m with waiting := m.waiting.drop 250, lost := 0, lastNotice := c.clk }
      ({ c with mgmt := { c.mgmt with sessions := c.mgmt.sessions.put i m } } : Chip).send (Reply.toSession i r)

/-! ### Commands of this chapter -/

/-- NOP (0x0000). -/
def nop (h : Hdr) : Chip → Chip := runCommand ⟨0x0000, false, .r, 0⟩ h [] (fun c => Res.ok c)

/-- IDENTIFY (0x0001). -/
def identify (h : Hdr) : Chip → Chip :=
  runCommand ⟨0x0001, false, .r, 0⟩ h [] (fun c =>
    Res.ok c (le 2 (c.get GLB_ID_grade) ++ le 1 (c.get GLB_ID_revision) ++ le 1 (c.get GLB_ID_chip) ++ le 4 (c.get GLB_ID_release) ++
      le 2 c.start.proto ++ zeros 6 ++ le 8 (c.get GLB_SERIAL_serial)))

/-- The folds this chip owns, as a mask: those whose crook gate is open (R371, R374). -/
def Chip.ownedMask (c : Chip) : Nat := maskOf ((List.range 8).filter (fun f => c.flag TWIN_FOLD_STAT_gate_open f))

/-- STATUS_GET (0x0002). -/
def statusGet (h : Hdr) : Chip → Chip :=
  runCommand ⟨0x0002, false, .r, 0⟩ h [] (fun c =>
    Res.ok c (le 1 (c.get GLB_START_step) ++ le 1 (c.get TWIN_STATUS_pair_state) ++ le 1 c.ownedMask ++ zeros 5 ++
      le 8 (c.get GLB_CFG_GEN_cfg_gen) ++ c.image GOV_STAT ++ c.image CACHE_STATUS))

/-- MGMT_SESSION_CFG (0x0242). Disabling closes nothing that is open. -/
def mgmtSessionCfg (h : Hdr) (port enable idleS : Nat) : Chip → Chip :=
  runCommand ⟨0x0242, false, .w, paramBytes [2, 1, 2]⟩ h [] (fun c =>
    Res.ok { c with mgmt := { c.mgmt with mgmtPort := port, mgmtEn := decide (enable ≠ 0), idleS := idleS } })

/-- MGMT_SESSION_LIST (0x0243). -/
def mgmtSessionList (h : Hdr) : Chip → Chip :=
  runCommand ⟨0x0243, false, .r, 0⟩ h [] (fun c =>
    Res.ok c ((List.range 4).flatMap (fun i => match c.mgmt.sessions.get? i with
      | some m => le 1 m.psk ++ le 1 m.role ++ le 2 m.port ++ zeros 4 ++ le 16 m.address ++ le 8 m.openedNs
      | none => zeros 32)))

/-- MGMT_PSK_CLEAR (0x0241). -/
def mgmtPskClear (h : Hdr) (index : Nat) : Chip → Chip :=
  runCommand ⟨0x0241, false, .w, paramBytes [1]⟩ h [] (fun c =>
    Res.guard c [refuseIf (decide (8 ≤ index)) 0x0102 32, refuseIf (!c.mgmt.psks.has index) 0x0201]
      (fun c => Res.ok { c with mgmt := { c.mgmt with psks := c.mgmt.psks.del index } }))

/-- LONGOP_STATUS (0x0500): the eight registers of the handle's slot. -/
def longopStatus (h : Hdr) (handle : Nat) : Chip → Chip :=
  runCommand ⟨0x0500, false, .r, paramBytes [4]⟩ h [] (fun c =>
    match c.loFind handle with
    | none => Res.no c 0x0201
    | some i => Res.ok c ([LONGOP_STATUS, LONGOP_TOTAL, LONGOP_RESULT_COUNT, LONGOP_RES_BASE, LONGOP_RES_PROD, LONGOP_RES_CONS, LONGOP_INFO,
        LONGOP_START].flatMap (fun r => le 8 (c.readReg r i 0))))

/-- Operations with no pause point: PADDOCK_ERASE after step 2, DUMP_TEST and FOLD_MOVE (R431). -/
def noPause (op : LongOp) (step : Nat) : Bool :=
  op.opcode = 0x0621 || op.opcode = 0x0902 || (op.opcode = 0x0103 && decide (2 < step))

/-- Operations that their chapter declares not cancellable at their present step: PADDOCK_ERASE after step 2 (R366), DUMP_TEST (R212), FOLD_MOVE
(R394), which have no point at which to stop. -/
def noCancel (op : LongOp) (step : Nat) : Bool := noPause op step

/-- Operations with fences (R264): resync (shown under opcode 0, which has no long operation of its own), rebuild, copy-back, scrub, shearing, detach. -/
def hasFences (opcode : Nat) : Bool := [0x0000, 0x0410, 0x0411, 0x0412, 0x0413, 0x0116].contains opcode

/-- A command on a handle: 0x0201 for a stale one, else by its slot. -/
def onHandle (c : Chip) (handle : Nat) (f : Nat → LongOp → Res) : Res :=
  match c.loFind handle with
  | none => Res.no c 0x0201
  | some i => match c.mgmt.ops.get? i with
    | some op => f i op
    | none => Res.no c 0x0201

/-- Change the state in a slot's status word. -/
def Chip.loSetState (c : Chip) (i state : Nat) : Chip :=
  c.set LONGOP_STATUS_status (loWord state (loStep (c.lo i)) (loErrs (c.lo i)) (loDone (c.lo i))) i

/-- LONGOP_PAUSE (0x0501). -/
def longopPause (h : Hdr) (handle : Nat) : Chip → Chip :=
  runCommand ⟨0x0501, false, .w, paramBytes [4]⟩ h [] (fun c => onHandle c handle (fun i op =>
    let st := loState (c.lo i)
    if !([1, 2, 8].contains st) || noPause op (loStep (c.lo i)) then Res.no c 0x0300 st
    else Res.ok (({ c with mgmt := { c.mgmt with ops := c.mgmt.ops.put i { op with leftState := st } } } : Chip).loSetState i 3)))

/-- LONGOP_RESUME (0x0502). -/
def longopResume (h : Hdr) (handle : Nat) : Chip → Chip :=
  runCommand ⟨0x0502, false, .w, paramBytes [4]⟩ h [] (fun c => onHandle c handle (fun i op =>
    let st := loState (c.lo i)
    if st ≠ 3 then Res.no c 0x0300 st else Res.ok (c.loSetState i op.leftState)))

/-- LONGOP_CANCEL (0x0503): at the operation's next fence, or at once when it has none. -/
def longopCancel (h : Hdr) (handle : Nat) : Chip → Chip :=
  runCommand ⟨0x0503, false, .w, paramBytes [4]⟩ h [] (fun c => onHandle c handle (fun i op =>
    let st := loState (c.lo i)
    if !([1, 2, 3, 8].contains st) || noCancel op (loStep (c.lo i)) then Res.no c 0x0300 st
    else if hasFences op.opcode then
      Res.ok { c with mgmt := { c.mgmt with ops := c.mgmt.ops.put i { op with cancelling := true } } }
    else Res.ok (c.loEnd i 7 0)))

/-- LONGOP_LIST (0x0504). -/
def longopList (h : Hdr) : Chip → Chip :=
  runCommand ⟨0x0504, false, .r, 0⟩ h [] (fun c =>
    Res.ok c ((List.range 64).flatMap (fun i =>
      le 4 (c.get LONGOP_INFO_handle i) ++ le 2 (c.get LONGOP_INFO_opcode i) ++ le 1 (loState (c.lo i)) ++ le 1 0)))

/-- LONGOP_RELEASE (0x0505): 0x0300 unless the state is 4 to 7. -/
def longopRelease (h : Hdr) (handle : Nat) : Chip → Chip :=
  runCommand ⟨0x0505, false, .w, paramBytes [4]⟩ h [] (fun c => onHandle c handle (fun i _ =>
    let st := loState (c.lo i)
    if !finished st then Res.no c 0x0300 st
    else
      let c := { c with mgmt := { c.mgmt with ops := c.mgmt.ops.del i } }
      let c := (c.set LONGOP_STATUS_status 0 i).set LONGOP_TOTAL_total 0 i
      Res.ok ((c.set LONGOP_INFO_opcode 0 i).set LONGOP_INFO_handle 0 i)))

/-- LONGOP_RESULTS_READ (0x0506): up to 126 records from a free-running index on; with advance set, those read are freed (R432). -/
def longopResultsRead (h : Hdr) (handle index advance : Nat) : Chip → Chip :=
  runCommand ⟨0x0506, false, .r, paramBytes [4, 4, 1]⟩ h [] (fun c => onHandle c handle (fun i _ =>
    let prod := c.get LONGOP_RES_PROD_prod i
    let n := min 126 (min 32768 ((prod + 2 ^ 32 - index % 2 ^ 32) % 2 ^ 32))
    let base := c.get LONGOP_RES_BASE_base_64b i * 64
    let data := (List.range n).flatMap (fun k => memReadN c.hbm (base + (index + k) % 32768 * 32) 32)
    let c := if advance ≠ 0 then c.set LONGOP_RES_CONS_cons (index + n) i else c
    Res.ok c (le 4 n ++ zeros 4 ++ data)))

/-- LONGOP_RES_CONS_WRITE (R432). -/
def longopResConsWrite (i cons : Nat) (c : Chip) : Chip := if 64 ≤ i then c else c.set LONGOP_RES_CONS_cons cons i

/-- The lanes that the grade lacks (R5): of absent ports (group 0) and slots (1), and of the partner link beyond 8 (2). -/
def laneAbsent (d : Ident) (group lane : Nat) : Bool :=
  if group = 0 then portAbsent d (lane / 4) else if group = 1 then slotAbsent d (lane / 2) else d.half && decide (8 ≤ lane)

/-- SERDES_TEST (0x0C01, R432): PRBS31 or eye scan over the lanes named; LONGOP_TOTAL is their count. -/
def serdesTest (h : Hdr) (group lane kind durationMs : Nat) : Chip → Chip :=
  runCommand ⟨0x0C01, false, .l, paramBytes [1, 1, 1, 4]⟩ h [] (fun c =>
    let lanes := if group = 0 then 32 else if group = 1 then 68 else 16
    Res.guard c [refuseIf (decide (3 ≤ group)) 0x0102 32, refuseIf (decide (lane ≠ 0xFF) && decide (lanes ≤ lane)) 0x0102 33,
        refuseIf (decide (2 ≤ kind)) 0x0102 34, if lane ≠ 0xFF && laneAbsent c.id group lane then some (0x0200, lane) else none]
      (fun c => longAccept c h 0x0C01 (if lane = 0xFF then ((List.range lanes).filter (fun l => !laneAbsent c.id group l)).length else 1) [group, lane, kind, durationMs] (fun _ c => c)))

end Sys2Proof.Machine
end

