-- ==== Sys2Proof/Machine/Events.lean ====
section
/-!
DEFINITION. Events, performance counters and tallies: chapter 15 of the spec (R470 to R488). Raising an event itself stands in Machine/Ops.lean.
-/

namespace Sys2Proof.Machine

/-! ### Events -/

/-- Set the route and the enable of an event; a message that is due and was not due under the old setting leaves at once (R471, R474). -/
def Chip.routeEvent (c : Chip) (e vector : Nat) (msix fw enable : Bool) : Chip :=
  let w := e / 64
  let wasDue := bit (c.get EVT_ENABLE_enable w) (e % 64) && c.flag EVT_ROUTE_msix e && c.get EVT_ROUTE_vector e = vector
  let c := ((c.set EVT_ROUTE_vector vector e).setFlag EVT_ROUTE_msix msix e).setFlag EVT_ROUTE_fw fw e
  let c := (c.set EVT_ENABLE_enable (setBit (c.get EVT_ENABLE_enable w) (e % 64) enable) w).refreshSummary w
  if bit (c.get EVT_STATUS_status w) (e % 64) && enable && msix && !wasDue then c.msix vector else c

/-- EVT_CFG_SET (0x0A00). -/
def evtCfgSet (h : Hdr) (first count vector route enable test : Nat) : Chip → Chip :=
  runCommand ⟨0x0A00, false, .w, paramBytes [2, 2, 1, 1, 1, 1]⟩ h [] (fun c =>
    Res.guard c [refuseIf (decide (2048 ≤ first)) 0x0102 32, refuseIf (decide (count = 0) || decide (2048 < first + count)) 0x0102 34,
        refuseIf (decide (64 ≤ vector)) 0x0102 36]
      (fun c =>
        let c := (List.range count).foldl (fun c k => c.routeEvent (first + k) vector (bit route 0) (bit route 1) (decide (enable ≠ 0))) c
        Res.ok (c.raiseIf (test = 1) 0x7E7)))

/-- EVT_READ (0x0A01): entries from an index on, from the oldest that the ring still holds. -/
def evtRead (h : Hdr) (first max : Nat) : Chip → Chip :=
  runCommand ⟨0x0A01, false, .r, paramBytes [4, 2]⟩ h [] (fun c =>
    Res.guard c [refuseIf (decide (max = 0) || decide (250 < max)) 0x0102 36]
      (fun c =>
        let next := c.get EVT_LOG_STAT_next
        let back := ahead 32 next first
        let back := if 2 ^ 31 ≤ back then 0 else min back 4096
        let start := (next + 2 ^ 32 - back) % 2 ^ 32
        let n := min max back
        let ended := (start + n) % 2 ^ 32
        let data := (List.range n).flatMap (fun k => match c.evt.log.get? ((start + k) % 4096) with
          | some l => le 8 l.timebase ++ le 2 l.event ++ le 1 (b2n l.msixSent + 2 * b2n l.atStart) ++ le 1 0 ++ le 4 l.count
          | none => zeros 16)
        let toGo := ahead 32 next c.evt.readTo
        let c := if ahead 32 next ended < toGo then { c with evt := { c.evt with readTo := ended } } else c
        Res.ok c (le 2 n ++ zeros 2 ++ le 4 ended ++ le 4 (c.get EVT_LOG_STAT_lost) ++ zeros 4 ++ data)))

/-- EVT_SUBSCRIBE (0x0A03, R473): sessions only. -/
def evtSubscribe (h : Hdr) (coalMs mask : Nat) : Chip → Chip :=
  runCommand ⟨0x0A03, false, .w, paramBytes [2, 2, 4] + 256⟩ h [] (fun c =>
    match h.src with
    | .session i =>
      Res.guard c [refuseIf (decide (coalMs = 0) || decide (60000 < coalMs)) 0x0102 32]
        (fun c => Res.ok { c with mgmt := { c.mgmt with sessions := c.mgmt.sessions.upd i (fun (m : MgmtSession) =>
          { m with subMask := bitList mask 2048, subFmt := h.fmt, subTag := h.tag, coalMs := coalMs,
                   waiting := if mask % 2 ^ 2048 = 0 then [] else m.waiting }) } })
    | _ => Res.no c 0x0104)

/-- EVT_STATUS_CLEAR (R471, R487): a write of 1 clears a status bit; the next raise sends a message again. -/
def evtStatusClear (w mask : Nat) (c : Chip) : Chip :=
  if 32 ≤ w then c
  else
    let old := c.get EVT_STATUS_status w
    (c.set EVT_STATUS_status (old &&& ((mask % 2 ^ 64) ^^^ (2 ^ 64 - 1))) w).refreshSummary w

/-- EVT_ENABLE_WRITE (R471). -/
def evtEnableWrite (w enable : Nat) (c : Chip) : Chip :=
  if 32 ≤ w then c
  else (List.range 64).foldl (fun c b =>
    let e := 64 * w + b
    c.routeEvent e (c.get EVT_ROUTE_vector e) (c.flag EVT_ROUTE_msix e) (c.flag EVT_ROUTE_fw e) (bit enable b)) c

/-- EVT_ROUTE_WRITE (R474). -/
def evtRouteWrite (e image : Nat) (c : Chip) : Chip :=
  if 2048 ≤ e then c
  else c.routeEvent e (EVT_ROUTE_vector.of image) (bit image 6) (bit image 7) (bit (c.get EVT_ENABLE_enable (e / 64)) (e % 64))

/-- EVENT_LOG_INTERVAL (R472): the raises that waited become one entry. -/
def eventLogInterval (e : Nat) (c : Chip) : Chip :=
  match c.evt.waiting.get? e with
  | some l => ({ c with evt := { c.evt with waiting := c.evt.waiting.del e } } : Chip).logWrite l
  | none => c

/-- MGMT_CORE_WATCHDOG (R488): the core is restarted. -/
def mgmtCoreWatchdog (c : Chip) : Chip := c.raise 0x7E1

/-! ### Performance counters -/

/-- Islands of a kind's class: first and last (R15, R475). -/
def kindIslands (kind : Nat) : Option (Nat × Nat) :=
  ([(0x060, 0, 7), (0x0C0, 8, 11), (0x100, 12, 13), (0x140, 14, 17), (0x180, 18, 19), (0x1E0, 20, 23), (0x210, 24, 26), (0x250, 27, 31),
    (0x270, 32, 33), (0x290, 34, 34), (0x2B0, 35, 35), (0x2D0, 36, 36)].find? (fun r => decide (kind < r.1))).map (·.2)

/-- May a counter count this kind in this island (R475)? -/
def pmcSelectable (d : Ident) (kind island : Nat) : Bool :=
  pmcKindDefined kind && (island = 0x3F || (match kindIslands kind with
    | some (a, b) => decide (a ≤ island) && decide (island ≤ b) && !islandAbsent d island
    | none => false))

/-- Start counter i in a mode with a selection (R475, R477, R479). A chained odd counter has no selection of its own (R478). -/
def Chip.pmcStart (c : Chip) (i kind island mode : Nat) (clear : Bool) : Chip :=
  let even := c.flag PMC_CFG_chained i && i % 2 = 0
  if c.flag PMC_CFG_chained i && i % 2 = 1 then c
  else
    let c := if clear then (c.set PMC_CNT_count 0 i).set PMC_CNT_stuck 0 i else c
    let c := if clear && even then (c.set PMC_CNT_count 0 (i + 1)).set PMC_CNT_stuck 0 (i + 1) else c
    let ok := pmcSelectable c.id kind island
    let c := ((c.set PMC_CFG_kind kind i).set PMC_CFG_island island i).set PMC_CFG_mode (if ok then mode else 0) i
    if !ok then (c.set PMC_CNT_count 0 i).set PMC_CNT_stuck 0 i
    else if mode = 2 then (c.set PMC_CNT_count (c.get PMC_RELOAD_reload i) i).set PMC_CNT_stuck 0 i
    else c

/-- PMC_SELECT (0x0A10). -/
def pmcSelect (h : Hdr) (first count kind island mode clear : Nat) : Chip → Chip :=
  runCommand ⟨0x0A10, false, .w, paramBytes [2, 2, 2, 1, 1, 1]⟩ h [] (fun c =>
    Res.guard c [refuseIf (decide (1024 ≤ first)) 0x0102 32, refuseIf (decide (count = 0) || decide (1024 < first + count)) 0x0102 34,
        refuseIf (decide (1024 ≤ kind)) 0x0102 36, refuseIf (decide (64 ≤ island)) 0x0102 38, refuseIf (decide (2 < mode)) 0x0102 39]
      (fun c => Res.ok ((List.range count).foldl (fun c k => c.pmcStart (first + k) kind island mode (decide (clear ≠ 0))) c)))

/-- PMC_SAMPLE_SET (0x0A11). -/
def pmcSampleSet (h : Hdr) (counter reload : Nat) : Chip → Chip :=
  runCommand ⟨0x0A11, false, .w, paramBytes [2, 2, 4, 8]⟩ h [] (fun c =>
    Res.guard c [refuseIf (decide (1024 ≤ counter)) 0x0102 32] (fun c => Res.ok (c.set PMC_RELOAD_reload reload counter)))

/-- PMC_CHAIN_SET (0x0A12, R478): on the SV1816 only, and only for two stopped counters. -/
def pmcChainSet (h : Hdr) (even enable : Nat) : Chip → Chip :=
  runCommand ⟨0x0A12, false, .w, paramBytes [2, 1]⟩ h [] (fun c =>
    Res.guard c [refuseIf (!c.id.half) 0x0200 even, refuseIf (decide (1024 ≤ even) || even % 2 = 1) 0x0102 32,
        refuseIf (decide (c.get PMC_CFG_mode even ≠ 0) || decide (c.get PMC_CFG_mode (even + 1) ≠ 0)) 0x0300]
      (fun c => Res.ok ((c.setFlag PMC_CFG_chained (decide (enable ≠ 0)) even).setFlag PMC_CFG_chained (decide (enable ≠ 0)) (even + 1))))

/-- A counter has stuck (R478). -/
def Chip.pmcStick (c : Chip) (i : Nat) : Chip :=
  let c := c.set PMC_CNT_stuck 1 i
  if c.flag PMC_STAT_sat_valid then c
  else ((c.set PMC_STAT_sat_index i).set PMC_STAT_sat_valid 1).raise 0x780

def pmcTop : Nat := 2 ^ 48 - 1

/-- A sample record goes into the ring (R479). -/
def Chip.pmcSample (c : Chip) (i island skid tag state : Nat) : Chip :=
  let prod := c.get PMC_SMP_PROD_prod
  if 4096 ≤ ahead 32 prod (c.get PMC_SMP_CONS_cons) then (c.bump PMC_SMP_LOST_lost).raiseLtd 0x781 0 second
  else
    let record := le 2 i ++ le 1 island ++ le 1 (min skid 16) ++ le 2 (c.get PMC_CFG_kind i) ++ zeros 2 ++ le 4 tag ++ zeros 4 ++ le 8 state ++ le 8 c.now
    ({ c with hbm := memWriteN c.hbm (c.get PMC_SMP_BASE_base_64b * 64 + prod % 4096 * 32) record } : Chip).set PMC_SMP_PROD_prod (prod + 1)

/-- Add n occurrences to counter i (R478, R479). -/
def Chip.pmcAdd (c : Chip) (i n island skid tag state : Nat) : Chip :=
  let v := c.get PMC_CNT_count i + n
  if c.get PMC_CFG_mode i = 2 then
    if pmcTop < v then
      (c.set PMC_CNT_count (min pmcTop (c.get PMC_RELOAD_reload i + (v - 2 ^ 48))) i).pmcSample i island skid tag state
    else c.set PMC_CNT_count v i
  else if c.flag PMC_CFG_chained i then
    let all := c.get PMC_CNT_count (i + 1) * 2 ^ 48 + v
    if 2 ^ 96 - 1 ≤ all then
      let was := c.flag PMC_CNT_stuck i
      let c := (c.set PMC_CNT_count pmcTop i).set PMC_CNT_count pmcTop (i + 1)
      if was then c else c.pmcStick i
    else (c.set PMC_CNT_count (all % 2 ^ 48) i).set PMC_CNT_count (all / 2 ^ 48) (i + 1)
  else if pmcTop ≤ v then
    let was := c.flag PMC_CNT_stuck i
    let c := c.set PMC_CNT_count pmcTop i
    if was then c else c.pmcStick i
  else c.set PMC_CNT_count v i

/-- PMC_INCREMENT (R476): an island adds n occurrences of a kind to every counter that counts them. `skid`, `tag` and `state` are what the next
command-handling cycle of the unit captures, should a sampling counter overflow (R479). -/
def pmcIncrement (island kind n skid tag state : Nat) (c : Chip) : Chip :=
  if !pmcSelectable c.id kind island then c
  else (List.range 1024).foldl (fun c i =>
    if c.get PMC_CFG_mode i ≠ 0 && c.get PMC_CFG_kind i = kind && (c.get PMC_CFG_island i = island || c.get PMC_CFG_island i = 0x3F) &&
        !(c.flag PMC_CFG_chained i && i % 2 = 1) then
      c.pmcAdd i n island skid tag state
    else c) c

/-- PMC_SAT_REARM (R487). -/
def pmcSatRearm (c : Chip) : Chip := c.set PMC_STAT_sat_valid 0

/-- PMC_SMP_CONS_WRITE (R479). -/
def pmcSmpConsWrite (cons : Nat) (c : Chip) : Chip := c.set PMC_SMP_CONS_cons cons

/-! ### Tallies -/

def bankBytes : Nat := 524288

/-- Where bank b lies: 0 and 1 the banks, 2 the accumulator, 3 the partner's bank, 4 the partner's accumulator (R484). -/
def Chip.bankBase (c : Chip) (b : Nat) : Nat := tallyBase c.oneStack c.homeStack + b * bankBytes

/-- Meter m of paddock p in bank b. -/
def Chip.meter (c : Chip) (b p m : Nat) : Nat := unle (memReadN c.hbm (c.bankBase b + p * 128 + m * 8) 8)

def Chip.setMeter (c : Chip) (b p m v : Nat) : Chip := { c with hbm := memWriteN c.hbm (c.bankBase b + p * 128 + m * 8) (le 8 v) }

def meterTop : Nat := 2 ^ 64 - 1

/-- Add to a meter of the counting bank; a meter that reaches the top stays there (R480, R482). -/
def Chip.meterAdd (c : Chip) (p m n : Nat) : Chip :=
  if !c.flag TALLY_CTL_en || n = 0 || 4096 ≤ p then c
  else
    let b := c.get TALLY_BANK_counting
    let old := c.meter b p m
    let c := c.setMeter b p m (min meterTop (old + n))
    if meterTop ≤ old + n && old ≠ meterTop then
      let flags := setBit c.tally.openFlags 6 true
      (({ c with tally := { c.tally with openFlags := flags } } : Chip).raise 0x792).cntTally 3
    else c

/-- Charge drive energy to a paddock in µJ; what is below 1 mJ is carried (R480). -/
def Chip.tallyEnergy (c : Chip) (p uj : Nat) : Chip :=
  let r := c.tally.energyRem.getD p 0 + uj
  ({ c with tally := { c.tally with energyRem := c.tally.energyRem.put p (r % 1000) } } : Chip).meterAdd p 7 (r / 1000)

/-- Set a flag of the open bank (R481). -/
def Chip.tallyFlag (c : Chip) (b : Nat) : Chip := { c with tally := { c.tally with openFlags := setBit c.tally.openFlags b true } }

/-- The meters of a bank that are not 0: (p × 16 + m, value), in order. -/
def Chip.bankMeters (c : Chip) (b : Nat) : List (Nat × Nat) :=
  let base := c.bankBase b
  let ids := (c.hbm.filter (fun e => decide (base ≤ e.1) && decide (e.1 < base + bankBytes))).map (fun e => (e.1 - base) / 8)
  let ids := ids.foldl (fun acc i => if acc.head? = some i then acc else i :: acc) []
  ids.reverse.map (fun i => (i, c.meter b (i / 16) (i % 16)))

/-- Zero a bank. -/
def Chip.zeroBank (c : Chip) (b : Nat) : Chip :=
  let base := c.bankBase b
  { c with hbm := c.hbm.filter (fun e => !(decide (base ≤ e.1) && decide (e.1 < base + bankBytes))) }

/-- Add the closed bank into the uncollected accumulator (R483). -/
def Chip.mergeBank (c : Chip) (b : Nat) : Chip :=
  let minute := c.get TALLY_CLOSED_minute
  let empty := !c.flag TALLY_ACC_valid
  let c := (c.bankMeters b).foldl (fun c e =>
    let old := c.meter 2 (e.1 / 16) (e.1 % 16)
    let c := c.setMeter 2 (e.1 / 16) (e.1 % 16) (min meterTop (old + e.2))
    if meterTop ≤ old + e.2 && old ≠ meterTop then (c.raise 0x793).cntTally 3 else c) c
  let c := if empty then c.set TALLY_ACC_FIRST_minute minute else c
  let c := (c.set TALLY_ACC_LAST_minute minute).set TALLY_ACC_valid 1
  let c := c.set TALLY_ACC_flags (c.get TALLY_ACC_flags ||| c.get TALLY_CLOSED_flags)
  (({ c with tally := { c.tally with cleared := [] } } : Chip).raise 0x791).cntTally 2

/-- The swap of the banks at a minute tick (R481, R483). `acres` and `conns` are what meters 6 and 14 gain, by paddock, in the bank being closed. -/
def Chip.tallySwap (c : Chip) (minute : Nat) (holdover skipped long : Bool) (acres conns : List (Nat × Nat)) : Chip :=
  if !c.flag TALLY_CTL_en then c
  else
    let cur := c.get TALLY_BANK_counting
    let old := 1 - cur
    let c := acres.foldl (fun c e => c.meterAdd e.1 6 e.2) c
    let c := conns.foldl (fun c e => c.meterAdd e.1 14 e.2) c
    let closed := c.flag TALLY_BANK_sealed || c.tally.sealing
    let c := if closed && !c.flag TALLY_BANK_collected then c.mergeBank old else c
    let c := c.zeroBank old
    let flags := c.tally.openFlags ||| (b2n holdover + 2 * b2n skipped + 32 * b2n (c.get TWIN_STATUS_pair_state = 2) + 128 * b2n long)
    let c := (c.set TALLY_CLOSED_minute c.tally.openMinute).set TALLY_CLOSED_flags flags
    let c := ((c.set TALLY_BANK_counting old).set TALLY_BANK_sealed 0).set TALLY_BANK_collected 0
    let first := c.tally.firstTick
    ({ c with tally := { c.tally with sealing := true, openMinute := minute, openFlags := if first then 4 else 0, firstTick := false,
                                      copySeen := false } } : Chip).cntTally 0

/-- 29 paddocks of a bank, from a first on, as TALLY_READ returns them (R486). -/
def Chip.bankRecords (c : Chip) (b first : Nat) : Nat × Bytes :=
  let n := min 29 ((if c.id.half then 2048 else 4096) - first)
  (n, (List.range n).flatMap (fun k => le 2 (first + k) ++ zeros 6 ++ memReadN c.hbm (c.bankBase b + (first + k) * 128) 128))

def tallyReadInfo : CmdInfo := ⟨0x0A20, false, .r, paramBytes [8, 2, 1]⟩

/-- The data of TALLY_READ for a sealed bank or for the partner copy. -/
def Chip.tallyData (c : Chip) (minute first chip : Nat) : Bytes :=
  let flags := if chip = 0 then c.get TALLY_CLOSED_flags else c.tally.partnerFlags
  let r := c.bankRecords (if chip = 0 then 1 - c.get TALLY_BANK_counting else 3) first
  le 8 minute ++ le 1 flags ++ le 1 0 ++ le 2 r.1 ++ zeros 4 ++ r.2

/-- TALLY_READ (0x0A20): a read of a minute that is still open or not yet sealed waits for the seal; a minute that is neither sealed nor the partner
copy's replies 0x0201 (R485). -/
def tallyRead (h : Hdr) (minute first chip : Nat) : Chip → Chip :=
  runCommand tallyReadInfo h [] (fun c =>
    Res.guard c [rangeRefusal c first 4096 2048 40, refuseIf (decide (1 < chip)) 0x0102 42]
      (fun c =>
        if chip = 1 then
          if c.tally.partnerHeld && c.tally.partnerMinute = minute then Res.ok c (c.tallyData minute first 1) else Res.no c 0x0201
        else if c.flag TALLY_BANK_sealed && c.get TALLY_CLOSED_minute = minute then Res.ok c (c.tallyData minute first 0)
        else if c.flag TALLY_CTL_en && ((c.tally.sealing && c.get TALLY_CLOSED_minute = minute) || c.tally.openMinute = minute) then
          Res.wait { c with tally := { c.tally with waitingReads := c.tally.waitingReads ++ [(h, minute, first, chip)] } }
        else Res.no c 0x0201))

/-- TALLY_SEAL_EXPIRY (R481, R484, R485): the closed bank is sealed, reads that waited for it are answered, and the bank goes to the partner. -/
def tallySealExpiry (c : Chip) : Chip :=
  if !c.tally.sealing then c
  else
    let minute := c.get TALLY_CLOSED_minute
    let c := (({ c with tally := { c.tally with sealing := false } } : Chip).set TALLY_BANK_sealed 1).raise 0x790
    let due := c.tally.waitingReads.filter (fun r => r.2.1 = minute)
    let c := { c with tally := { c.tally with waitingReads := c.tally.waitingReads.filter (fun r => r.2.1 ≠ minute) } }
    let c := due.foldl (fun c r => Chip.finishLater tallyReadInfo r.1 (Res.ok c (c.tallyData minute r.2.2.1 0))) c
    if c.get TWIN_STATUS_pair_state = 1 then
      c.send (.tallyCopy minute (c.get TALLY_CLOSED_flags) (c.bankMeters (1 - c.get TALLY_BANK_counting)) (c.get TALLY_ACC_FIRST_minute)
        (c.get TALLY_ACC_LAST_minute) (c.get TALLY_ACC_flags) (c.bankMeters 2))
    else c

/-- Store a copy of the partner's meters in bank b. -/
def Chip.storeBank (c : Chip) (b : Nat) (meters : List (Nat × Nat)) : Chip :=
  meters.foldl (fun c e => if e.1 < 65536 then c.setMeter b (e.1 / 16) (e.1 % 16) e.2 else c) (c.zeroBank b)

/-- TALLY_COPY_RX (R484): the partner's sealed bank and accumulator replace the copy held. -/
def tallyCopyRx (minute flags : Nat) (meters : List (Nat × Nat)) (accFirst accLast accFlags : Nat) (acc : List (Nat × Nat)) (c : Chip) : Chip :=
  let c := (c.storeBank 3 meters).storeBank 4 acc
  ({ c with tally := { c.tally with partnerHeld := true, copySeen := true, partnerMinute := minute, partnerFlags := flags, partnerAccFirst := accFirst,
                                    partnerAccLast := accLast, partnerAccFlags := accFlags, partnerCleared := [] } } : Chip).cntTally 4

/-- TALLY_COPY_TIMEOUT (R484): 1 s after the tick. -/
def tallyCopyTimeout (c : Chip) : Chip := if c.tally.copySeen then c else (c.raise 0x794).cntTally 5

/-- TALLY_COLLECTED (0x0A21, R483, R485). -/
def tallyCollected (h : Hdr) (minute chip : Nat) : Chip → Chip :=
  runCommand ⟨0x0A21, false, .w, paramBytes [8, 1]⟩ h [] (fun c =>
    Res.guard c [refuseIf (decide (1 < chip)) 0x0102 40]
      (fun c =>
        if chip = 1 then (if c.tally.partnerHeld && c.tally.partnerMinute = minute then Res.ok c else Res.no c 0x0201)
        else if c.flag TALLY_BANK_sealed && c.get TALLY_CLOSED_minute = minute then
          if c.flag TALLY_BANK_collected then Res.ok c else Res.ok ((c.set TALLY_BANK_collected 1).cntTally 1)
        else Res.no c 0x0201))

/-- Zero a paddock's sixteen meters in a bank. -/
def Chip.zeroPaddock (c : Chip) (b p : Nat) : Chip := { c with hbm := memWriteN c.hbm (c.bankBase b + p * 128) (zeros 128) }

/-- TALLY_ACCUM_READ (0x0A22, R483): with clear, each paddock returned is read and zeroed as one; once every paddock has been cleared, the minutes
return to 0 and the accumulator is empty. -/
def tallyAccumRead (h : Hdr) (first chip clear : Nat) : Chip → Chip :=
  runCommand ⟨0x0A22, false, .r, paramBytes [2, 1, 1]⟩ h [] (fun c =>
    Res.guard c [rangeRefusal c first 4096 2048 32, refuseIf (decide (1 < chip)) 0x0102 34]
      (fun c =>
        let b := if chip = 0 then 2 else 4
        let r := c.bankRecords b first
        let hd := if chip = 0 then le 8 (c.get TALLY_ACC_FIRST_minute) ++ le 8 (c.get TALLY_ACC_LAST_minute) ++ le 1 (c.get TALLY_ACC_flags)
          else le 8 c.tally.partnerAccFirst ++ le 8 c.tally.partnerAccLast ++ le 1 c.tally.partnerAccFlags
        let data := hd ++ le 1 0 ++ le 2 r.1 ++ zeros 4 ++ r.2
        if clear = 0 then Res.ok c data
        else
          let ps := (List.range r.1).map (fun k => first + k)
          let c := ps.foldl (fun c p => c.zeroPaddock b p) (c.cntTally 7)
          let all := if c.id.half then 2048 else 4096
          if chip = 0 then
            let done := ps.foldl (fun l p => addNew p l) c.tally.cleared
            let c := { c with tally := { c.tally with cleared := if all ≤ done.length then [] else done } }
            if all ≤ done.length then
              Res.ok (((c.set TALLY_ACC_valid 0).set TALLY_ACC_flags 0).set TALLY_ACC_FIRST_minute 0 |>.set TALLY_ACC_LAST_minute 0) data
            else Res.ok c data
          else
            let done := ps.foldl (fun l p => addNew p l) c.tally.partnerCleared
            if all ≤ done.length then
              Res.ok { c with tally := { c.tally with partnerCleared := [], partnerAccFirst := 0, partnerAccLast := 0, partnerAccFlags := 0 } } data
            else Res.ok { c with tally := { c.tally with partnerCleared := done } } data))

end Sys2Proof.Machine
end

