-- ==== Sys2Proof/Machine/Start.lean ====
section
/-!
DEFINITION. The start ledger, the rule record, the firmware images, the shelf configuration record and the fuses: chapter 14 of the spec (R443 to
R458, R467, R468), but for the start steps and the resets, which touch every unit (Machine/Reset.lean).
-/

namespace Sys2Proof.Machine

/-! ### The ledger -/

/-- The 28 bytes of a ledger entry before its CRC, and the CRC after them (R444). -/
def ledgerBytes (e : LedgerEntry) : Bytes :=
  let body := le 4 e.startNo ++ le 1 e.step ++ le 1 e.outcome ++ le 1 e.attempt ++ le 1 e.reason ++ le 8 e.detail ++ le 4 e.tMs ++ le 4 e.release ++
    le 4 e.seq
  body ++ le 4 (crc32c body)

/-- Show ring entry i in LEDGER_ENTRY (R468). -/
def Chip.showLedger (c : Chip) (i : Nat) (e : LedgerEntry) : Chip :=
  let b := ledgerBytes e
  (List.range 4).foldl (fun c w => c.set LEDGER_ENTRY_bytes (unle ((b.drop (8 * w)).take 8)) i w) c

/-- Append a ledger entry (R443, R444). -/
def Chip.ledgerAppend (c : Chip) (step outcome reason detail : Nat) : Chip :=
  let attempt := min 15 (c.flash.attempts.getD step 0) + 16 * b2n c.start.warm + 32 * b2n c.start.trialRun + 64 * c.start.running
  let e : LedgerEntry := ⟨c.flash.startNo, step, outcome, attempt, reason, detail, (c.clk - c.start.st00Ns) / 1000000, c.start.release, c.flash.ledgerSeq⟩
  let i := c.flash.ledgerSeq % 64
  let c := { c with flash := { c.flash with ledger := c.flash.ledger.put i e, ledgerSeq := c.flash.ledgerSeq + 1 } }
  (c.showLedger i e).set LEDGER_STAT_last_step step

/-- Show the rule record in its registers (R444, R468). -/
def Chip.showRules (c : Chip) : Chip :=
  let r := c.flash.rules
  let c := ((c.set LEDGER_RULE_eth_off r.ethOff).set LEDGER_RULE_part_off r.partOff).set LEDGER_RULE_stack_off r.stackOff
  let c := (c.setFlag LEDGER_RULE_replay_retry r.replayRetry).set LEDGER_RULE_DRV_drv_off (r.drvOff % 2 ^ 64) 0
  (c.set LEDGER_RULE_DRV_drv_off (r.drvOff / 2 ^ 64) 1).set LEDGER_HOLD_SLOTS_held r.holdSlots

/-- The entries of the ledger ring, oldest first. -/
def Chip.ledgerList (c : Chip) : List LedgerEntry := sortBy (fun (e : LedgerEntry) => e.seq) c.flash.ledger.vals

/-- LEDGER_READ (0x0B03). -/
def ledgerRead (h : Hdr) (first : Nat) : Chip → Chip :=
  runCommand ⟨0x0B03, false, .r, paramBytes [1]⟩ h [] (fun c =>
    let l := (c.ledgerList.drop first).take 64
    Res.ok c (le 1 l.length ++ zeros 7 ++ l.flatMap ledgerBytes))

/-- LEDGER_RULE_CLEAR (0x0B04). -/
def ledgerRuleClear (h : Hdr) (mask : Nat) : Chip → Chip :=
  runCommand ⟨0x0B04, false, .w, paramBytes [4]⟩ h [] (fun c =>
    let r := c.flash.rules
    let r' : RuleRecord := ⟨if bit mask 0 then 0 else r.ethOff, if bit mask 2 then 0 else r.partOff, if bit mask 3 then 0 else r.stackOff,
      if bit mask 1 then 0 else r.drvOff, if bit mask 4 then 0 else r.holdSlots, !bit mask 6 && r.replayRetry, !bit mask 7 && r.hold,
      !bit mask 5 && r.prefMoved⟩
    let back := bit mask 5 && r.prefMoved
    let preferred := if back then 1 - c.flash.preferred else c.flash.preferred
    let c := { c with flash := { c.flash with rules := r', preferred := preferred } }
    Res.ok ((c.set LEDGER_IMAGE_preferred preferred).showRules))

/-! ### Images -/

/-- The anti-rollback count: the number of blown bits in its field (R450). -/
def Chip.rollbackCount (c : Chip) : Nat := popCount (bits c.fuses 1823 1760) 64

/-- Blow bits of the fuse array; a blown bit stays blown. -/
def Chip.blow (c : Chip) (lo v : Nat) : Chip := { c with fuses := c.fuses ||| (v * 2 ^ lo) }

/-- The firmware key hash in the fuses, as bytes. -/
def Chip.keyHash (c : Chip) : Bytes := le 48 (bits c.fuses 1759 1376)

/-- The CRC-16 value that the array holds at an index (R454). -/
def Chip.fuseCrc (c : Chip) (k : Nat) : Nat := bits c.fuses (15360 + 16 * k + 15) (15360 + 16 * k)

/-- The bytes that CRC index k covers (R454). -/
def Chip.fuseField (c : Chip) (k : Nat) : Bytes :=
  if k = 0 then le 10 (bits c.fuses 79 0)
  else if k = 1 then le 128 (bits c.fuses 1119 96)
  else if k = 2 then le 32 (bits c.fuses 1375 1120)
  else if k = 3 then le 48 (bits c.fuses 1759 1376)
  else
    let n := k - 4
    le 4 (bits c.fuses (1832 + 32 * n + 31) (1832 + 32 * n)) ++ le 1 (b2n (bit c.fuses (2920 + n)))

/-- Is a fuse field valid: does its CRC agree (R455, R458)? -/
def Chip.fuseValid (c : Chip) (k : Nat) : Bool := crc16 (c.fuseField k) = c.fuseCrc k

/-- An image as its bytes show it, with the result of R448's tests 1, 2 and 5 (digests and signature) against the fuses. -/
def Chip.parseImage (c : Chip) (b : Bytes) : Image :=
  let at_ := fun (off n : Nat) => (b.drop off).take n
  let s1 := unle (at_ 16 4)
  let s2 := unle (at_ 20 4)
  let sound := unle (at_ 0 4) = 0x53564657 && unle (at_ 4 2) = 1 && decide (s1 ≤ 2097152) && decide (s2 ≤ 28311552) &&
    c.fuseValid 3 && Config.sha384 (at_ 120 97) = c.keyHash && Config.ecdsaVerify (at_ 120 97) (at_ 224 96) (Config.sha384 (at_ 0 224)) &&
    Config.sha384 (at_ 4096 s1) = at_ 24 48 && Config.sha384 (at_ (4096 + s1) s2) = at_ 72 48
  ⟨true, unle (at_ 8 4), unle (at_ 12 2), unle (at_ 14 1), unle (at_ 6 2), sound⟩

/-- R448 as a whole: 0 when the image verifies, 0x0402 when only the rollback test fails, else 0x0401. -/
def Chip.imageVerdict (c : Chip) (m : Image) : Nat :=
  if !(m.valid && m.sound && bit m.gradeMask (b2n c.id.half)) then 0x0401
  else if m.rollback < c.rollbackCount then 0x0402 else 0

def noImage : Image := ⟨false, 0, 0, 0, 0, false⟩

def Chip.imageAt (c : Chip) (slot : Nat) : Image := c.flash.images.getD slot noImage

/-- Show both slots' validity (LEDGER_IMAGE.valid). -/
def Chip.showImages (c : Chip) : Chip :=
  c.set LEDGER_IMAGE_valid (b2n (c.imageVerdict (c.imageAt 0) = 0) + 2 * b2n (c.imageVerdict (c.imageAt 1) = 0))

/-- FW_IMAGE_WRITE (0x0B00, R451): a long operation in KiB; the slot reads invalid from now on. -/
def fwImageWrite (h : Hdr) (slot offset length : Nat) : Chip → Chip :=
  runCommand ⟨0x0B00, false, .l, paramBytes [1, 4, 4]⟩ h [] (fun c =>
    let limit := if c.flag LEDGER_STAT_recovery then mib 4 else mib 30
    Res.guard c [refuseIf (decide (2 ≤ slot)) 0x0102 32, refuseIf (!c.flag LEDGER_STAT_recovery && c.start.running = slot) 0x0203,
        refuseIf (decide (xferSize ≤ offset)) 0x0102 36, refuseIf (decide (length = 0) || decide (limit < length) || decide (xferSize < offset + length)) 0x0102 40]
      (fun c => longAccept c h 0x0B00 (ceilDiv length 1024) [slot, offset, length] (fun i c =>
        (({ c with flash := { c.flash with images := c.flash.images.put slot noImage } } : Chip).showImages).loProgress i 0 0 (some 1))))

/-- The image has been programmed: it is verified and the operation ends (R451). -/
def Chip.imageWritten (c : Chip) (i slot offset length : Nat) : Chip :=
  let m := c.parseImage (memReadN c.hbm (xferBase c.oneStack c.homeStack + offset) length)
  let verdict := c.imageVerdict m
  if verdict = 0 then
    (({ c with flash := { c.flash with images := c.flash.images.put slot m } } : Chip).showImages).loEnd i 4 0
  else c.loEnd i 6 verdict

/-- FW_IMAGE_SELECT (0x0B01, R449, R450). -/
def fwImageSelect (h : Hdr) (slot trial advance : Nat) : Chip → Chip :=
  runCommand ⟨0x0B01, false, .w, paramBytes [1, 1, 1]⟩ h [] (fun c =>
    let verdict := c.imageVerdict (c.imageAt slot)
    Res.guard c [refuseIf (decide (2 ≤ slot)) 0x0102 32, refuseIf (verdict ≠ 0) verdict (if verdict = 0x0402 then c.rollbackCount else 0),
        refuseIf (decide (advance ≠ 0) && (!c.flag GLB_START_in_service || c.start.trialRun)) 0x0300 (c.get GLB_START_step)]
      (fun c =>
        let c := if trial ≠ 0 then { c with flash := { c.flash with trial := decide (slot ≠ c.flash.preferred), dirSeq := c.flash.dirSeq + 1 } }
          else { c with flash := { c.flash with preferred := slot, trial := false, dirSeq := c.flash.dirSeq + 1 } }
        let c := c.set LEDGER_IMAGE_preferred c.flash.preferred
        if advance ≠ 0 then
          let n := min 64 (c.imageAt c.start.running).rollback
          let c := c.blow 1760 (2 ^ n - 1)
          Res.ok (((c.set LEDGER_IMAGE_rollback c.rollbackCount).raise 0x74C).showImages)
        else Res.ok c))

/-- FW_INFO_GET (0x0B02). -/
def fwInfoGet (h : Hdr) : Chip → Chip :=
  runCommand ⟨0x0B02, false, .r, 0⟩ h [] (fun c =>
    Res.ok c (le 1 c.start.running ++ le 1 c.rollbackCount ++ zeros 6 ++ (List.range 2).flatMap (fun s =>
      let m := c.imageAt s
      le 1 (b2n (c.imageVerdict m = 0)) ++ le 1 m.rollback ++ le 2 m.proto ++ le 4 m.release)))

/-- TRIAL_PROMOTE (R449): 600 s in service. -/
def trialPromote (c : Chip) : Chip :=
  if c.start.trialRun && c.flag GLB_START_in_service then
    let c := { c with flash := { c.flash with preferred := c.start.running, trial := false, dirSeq := c.flash.dirSeq + 1 },
                      start := { c.start with trialRun := false } }
    let c : Chip := { c with flash := { c.flash with trialOpen := false } }
    (c.set LEDGER_IMAGE_preferred c.start.running).set LEDGER_IMAGE_trial 0
  else c

/-! ### The shelf configuration record (R449) -/

/-- A copy of the record as its bytes show it. -/
def parseShelf (b : Bytes) : ShelfCopy :=
  let len := unle ((b.drop 16).take 4)
  let sound := unle (b.take 4) = 0x53565343 && unle ((b.drop 4).take 2) = 1 && decide (72 + len ≤ b.length) &&
    Config.sha384 ((b.drop 72).take len) = (b.drop 24).take 48
  ⟨unle ((b.drop 8).take 8), sound, b⟩

/-- The copy in use: of those that verify, the one with the higher sequence. -/
def Chip.shelfCopy (c : Chip) : Option (Nat × ShelfCopy) :=
  (c.flash.shelf.keep (fun _ s => s.sound)).foldl (fun best e => match best with
    | some b => if b.2.seq < e.2.seq then some e else some b
    | none => some e) none

/-- SHELF_RECORD_WRITE (0x0B05): writes the older copy. -/
def shelfRecordWrite (h : Hdr) (offset length : Nat) : Chip → Chip :=
  runCommand ⟨0x0B05, false, .w, paramBytes [4, 4]⟩ h [] (fun c =>
    Res.guard c [refuseIf (decide (xferSize ≤ offset)) 0x0102 32, refuseIf (decide (524288 < length) || decide (xferSize < offset + length)) 0x0102 36]
      (fun c =>
        let copy := match c.shelfCopy with
          | some (i, _) => 1 - i
          | none => 0
        let s := parseShelf (memReadN c.hbm (xferBase c.oneStack c.homeStack + offset) length)
        Res.ok { c with flash := { c.flash with shelf := c.flash.shelf.put copy s } }))

/-- SHELF_RECORD_READ (0x0B06): the record goes into the exchange area. -/
def shelfRecordRead (h : Hdr) (offset : Nat) : Chip → Chip :=
  runCommand ⟨0x0B06, false, .r, paramBytes [4]⟩ h [] (fun c =>
    match c.shelfCopy with
    | none => Res.no c 0x0201
    | some (_, s) =>
      Res.guard c [refuseIf (decide (xferSize < offset + s.raw.length)) 0x0102 32]
        (fun c => Res.ok { c with hbm := memWriteN c.hbm (xferBase c.oneStack c.homeStack + offset) s.raw } (le 4 s.raw.length)))

/-! ### Fuses (R454 to R458) -/

/-- Read the array into the FUSE shadow: FUSE_STAT, FUSE_KEYHASH, FUSE_RAW, and what the fuses fix elsewhere (R458, R468). The root key reads 0. -/
def Chip.senseFuses (c : Chip) : Chip :=
  let errs := (List.range 38).filter (fun k => !c.fuseValid k)
  let c := ((c.setFlag FUSE_STAT_sealed (bits c.fuses 2967 2960 ≠ 0)).setFlag FUSE_STAT_debug_locked (bits c.fuses 1831 1824 ≠ 0)).setFlag FUSE_STAT_forced
    (bits c.fuses 2955 2954 ≠ 0)
  let c := ((c.setFlag FUSE_STAT_isolation (bits c.fuses 2957 2956 ≠ 0)).setFlag FUSE_STAT_pair (bits c.fuses 2959 2958 ≠ 0)).set FUSE_STAT_crc_err (maskOf errs)
  let c := (List.range 6).foldl (fun c j => c.set FUSE_KEYHASH_hash (bits c.fuses (1376 + 64 * j + 63) (1376 + 64 * j)) j) c
  let shown := c.fuses - bits c.fuses 1375 1120 * 2 ^ 1120
  let c := (List.range 256).foldl (fun c w => c.set FUSE_RAW_bits (bits shown (64 * w + 63) (64 * w)) w) c
  let c := (List.range 34).foldl (fun c n =>
    let ok := c.fuseValid (4 + n)
    let v := bits c.fuses (1832 + 32 * n + 31) (1832 + 32 * n)
    ((c.set SLOT_CEIL_cont_ma (if ok then v % 65536 else 0) n).set SLOT_CEIL_peak_ma (if ok then v / 65536 else 0) n).setFlag SLOT_CEIL_priv
      (ok && bit c.fuses (2920 + n)) n) c
  let c := (c.set SLOT_GLB_CFG_forced_en (c.get FUSE_STAT_forced)).set TWIN_STATUS_pair_fuse (c.get FUSE_STAT_pair)
  (c.setFlag CIPH_STATUS_debug_open (!c.flag FUSE_STAT_debug_locked)).set LEDGER_IMAGE_rollback c.rollbackCount

/-- Where a field of FUSE_PROGRAM lies: first bit, number of bits, CRC index (R454, R467). -/
def fusePlace (field slot : Nat) : Nat × Nat × Option Nat :=
  match field with
  | 0 => (1120, 256, some 2)
  | 1 => (1376, 384, some 3)
  | 2 => (1824, 8, none)
  | 3 => (1832 + 32 * slot, 32, some (4 + slot))
  | 4 => (2954, 2, none)
  | 5 => (2956, 2, none)
  | _ => (2958, 2, none)

def fuseProgramInfo : CmdInfo := ⟨0x0B20, false, .w, paramBytes [1, 1, 1, 1, 4] + 48⟩

/-- Blow a field of the array, the privilege bit of a slot's ceiling where asked, and the field's CRC (R455). -/
def Chip.burnField (c : Chip) (field slot privilege v : Nat) : Chip :=
  let place := fusePlace field slot
  let c := c.blow place.1 (v % 2 ^ place.2.1)
  let c := if field = 3 && privilege ≠ 0 then c.blow (2920 + slot) 1 else c
  let c := match place.2.2 with
    | some k => c.blow (15360 + 16 * k) (crc16 (c.fuseField k))
    | none => c
  c.senseFuses.raise 0x74E

/-- The root key drawn from the DRBG (R455). -/
def Chip.burnRoot (c : Chip) : Chip :=
  let drawn := c.freshBytes
  drawn.2.burnField 0 0 0 (unle (padTo 32 drawn.1))

/-- FUSE_PROGRAM (0x0B20, R455): a root key to be drawn waits while the DRBG is stopped (R349); PCIe rings only; refused once sealed, and for a field that holds blown bits unless it is an option or lock. -/
def fuseProgram (h : Hdr) (field generate slot privilege : Nat) (value : Nat) : Chip → Chip :=
  runCommand fuseProgramInfo h [] (fun c =>
    let place := fusePlace field slot
    let held := bits c.fuses (place.1 + place.2.1 - 1) place.1 ≠ 0 || (field = 3 && bit c.fuses (2920 + slot))
    Res.guard c [refuseIf (c.flag FUSE_STAT_sealed) 0x0301, refuseIf (decide (6 < field)) 0x0102 32,
        (if field = 3 then slotRefusal c slot 34 else none), refuseIf (place.2.2.isSome && held) 0x0202]
      (fun c =>
        if field = 0 && generate ≠ 0 then (if c.drbgStopped then Res.wait (c.waitDrbg (.fuse h)) else Res.ok c.burnRoot)
        else Res.ok (c.burnField field slot privilege value)))

/-- FUSE_SEAL (0x0B21, R456). -/
def fuseSeal (h : Hdr) (confirm : Nat) : Chip → Chip :=
  runCommand ⟨0x0B21, false, .w, paramBytes [4]⟩ h [] (fun c =>
    let ready := bits c.fuses 1375 1120 ≠ 0 && c.fuseValid 2 && bits c.fuses 1759 1376 ≠ 0 && c.fuseValid 3 && bits c.fuses 1831 1824 ≠ 0
    Res.guard c [refuseIf (confirm ≠ 0x5345414C) 0x0102 32, refuseIf (c.flag FUSE_STAT_sealed) 0x0301, refuseIf (!ready) 0x0300]
      (fun c => Res.ok (((c.blow 2960 255).senseFuses).raise 0x74F)))

end Sys2Proof.Machine
end

