-- ==== Sys2Proof/Machine/Ports.lean ====
section
/-!
DEFINITION. The network ports: modes, frames, priorities, PFC, time and the hurdle: chapter 2 of the spec (R55 to R71, R76 to R82). The minute tick
itself, which swaps the tally banks, stands in Machine/Clock.lean; the standard transports in Machine/Transports.lean.
-/

namespace Sys2Proof.Machine

def portEvent (p k : Nat) : Nat := p * 16 + k

/-- Sub-port s of a port exists in its mode, and these are its lanes (R55). -/
def subLanes (mode s : Nat) : List Nat :=
  match mode with
  | 1 => if s = 0 then [0, 1] else if s = 1 then [2, 3] else []
  | 2 => if s < 4 then [s] else []
  | _ => if s = 0 then [0, 1, 2, 3] else []

def Chip.portMode (c : Chip) (p : Nat) : Nat := c.ports.mode.getD p 0

/-- The mtu in force (R59). -/
def Chip.mtu (c : Chip) (p : Nat) : Nat := clamp 1518 9216 (c.get PORT_CFG_mtu p)

/-- Line rate of a sub-port in units of 100 kb/s. -/
def Chip.lineRate (c : Chip) (sub : Nat) : Nat := (subLanes (c.portMode (sub / 4)) (sub % 4)).length * 1000000

/-- Sub-ports that are enabled and exist in the mode of their port (R55). -/
def Chip.subsOn (c : Chip) : List Nat :=
  (List.range 32).filter (fun i => bit (c.get PORT_CFG_sub_en (i / 4)) (i % 4) && !portAbsent c.id (i / 4) && !(subLanes (c.portMode (i / 4)) (i % 4)).isEmpty)

/-- Does a sub-port exist in the mode of its port (R55)? -/
def Chip.subExists (c : Chip) (sub : Nat) : Bool := !(subLanes (c.portMode (sub / 4)) (sub % 4)).isEmpty

/-- A sub-port starts auto-negotiation: where PORT_CFG.an_en is 1 it advertises the speed of the present mode, in units of 100 Gb/s, and no other (R57). -/
def Chip.startLink (c : Chip) (sub : Nat) : Chip :=
  if c.flag PORT_CFG_an_en (sub / 4) then c.send (.autoNeg sub (subLanes (c.portMode (sub / 4)) (sub % 4)).length) else c

/-- The links of a port whose mode changes go down (R55, R82). -/
def Chip.linksDown (c : Chip) (p : Nat) : Chip :=
  (List.range 4).foldl (fun (c : Chip) s =>
    if bit (c.get PORT_STATUS_link_up p) s then (c.set PORT_STATUS_link_up (setBit (c.get PORT_STATUS_link_up p) s false) p).raise (portEvent p 1) else c) c

/-- A write of PORT_CFG: the mode takes effect when the port is enabled again, and the sub-ports enabled then start their links (R55, R57). -/
def Chip.writePortCfg (c : Chip) (p image : Nat) : Chip :=
  let was := c.get PORT_CFG_sub_en p
  let c := c.writeImage PORT_CFG image p
  if was = 0 && c.get PORT_CFG_sub_en p ≠ 0 then
    let m := if c.get PORT_CFG_mode p = 3 then 0 else c.get PORT_CFG_mode p
    let c := if c.portMode p = m then c else ({ c with ports := { c.ports with mode := c.ports.mode.put p m } } : Chip).linksDown p
    (c.subsOn.filter (fun i => i / 4 = p)).foldl (fun (c : Chip) i => c.startLink i) c
  else c

/-- PORT_CFG_SET (0x0222). -/
def portCfgSet (h : Hdr) (port cfg prio pfc fec : Nat) : Chip → Chip :=
  runCommand ⟨0x0222, false, .w, paramBytes [1, 4, 4, 8, 4]⟩ h [] (fun c =>
    Res.guard c [portRefusal c port 32]
      (fun c => Res.ok ((((c.writePortCfg port cfg).writeImage PORT_PRIO_MAP prio port).writeImage PORT_PFC_CFG pfc port).writeImage PORT_FEC_THR fec port)))

/-- PORT_ADDR_SET (0x0223). Zero addresses and VLAN ID 0 are unused places. -/
def portAddrSet (h : Hdr) (port sub mac : Nat) (ipv4 : List Nat) (ipv6 : List HostPrefix) (vlans : List Nat) : Chip → Chip :=
  runCommand ⟨0x0223, false, .w, paramBytes [1, 1] + 6 + 16 + 96 + 32⟩ h [] (fun c =>
    Res.guard c [portRefusal c port 32, refuseIf (decide (4 ≤ sub)) 0x0102 33]
      (fun c =>
        let s : SubPort := ⟨mac, (ipv4.take 4).filter (· ≠ 0), (ipv6.take 4).filter (fun p => p.address ≠ 0), (vlans.take 16).filter (· ≠ 0)⟩
        Res.ok { c with ports := { c.ports with subs := c.ports.subs.put (port * 4 + sub) s } }))

/-- PORT_DSCP_SET (0x0224). -/
def portDscpSet (h : Hdr) (port : Nat) (table : List Nat) : Chip → Chip :=
  runCommand ⟨0x0224, false, .w, paramBytes [1] + 7 + 64⟩ h [] (fun c =>
    Res.guard c [portRefusal c port 32]
      (fun c => Res.ok ((List.range 64).foldl (fun c d => c.writeImage PORT_DSCP_MAP (table.getD d 0) port d) c)))

/-- TIME_CFG_SET (0x0225). -/
def timeCfgSet (h : Hdr) (cfg pps : Nat) : Chip → Chip :=
  runCommand ⟨0x0225, false, .w, paramBytes [8, 8]⟩ h [] (fun c =>
    let c := c.writeImage PORT_TIME_CFG cfg
    Res.ok (if pps = 2 ^ 64 - 1 then c else c.set PORT_PPS_SEC_seconds pps))

/-- LOOPBACK_SET (0x0C00). -/
def loopbackSet (h : Hdr) (port loopback : Nat) : Chip → Chip :=
  runCommand ⟨0x0C00, false, .w, paramBytes [1, 1]⟩ h [] (fun c =>
    Res.guard c [portRefusal c port 32, refuseIf (decide (4 ≤ loopback)) 0x0102 33] (fun c => Res.ok (c.set PORT_CFG_loopback loopback port)))

/-! ### The hurdle (R76 to R80) -/

def meterKey (port ctx : Nat) : Nat := port * 2 ^ 20 + ctx

/-- Refill a meter from elapsed time, then colour a frame of b bytes with precolour pc: 0 green, 1 yellow, 2 red (R78). Levels are in millibytes,
rates in 10^6 B/s, so that a nanosecond adds `cir` millibytes. -/
def Meter.mark (m : Meter) (now b pc : Nat) : Nat × Meter :=
  let dt := now - m.lastNs
  let tc := min (m.cbs * 1000) (m.tc + m.cir * dt)
  let tp := min (m.pbs * 1000) (m.tp + m.pir * dt)
  let need := b * 1000
  let pc := if m.aware then pc else 0
  if pc = 2 ∨ tp < need then (2, { m with tc := tc, tp := tp, lastNs := now })
  else if pc = 1 ∨ tc < need then (1, { m with tc := tc, tp := tp - need, lastNs := now })
  else (0, { m with tc := tc - need, tp := tp - need, lastNs := now })

/-- A meter with these rates, full (R77). -/
def Hurdle.full (h : Hurdle) (now : Nat) : Meter := ⟨h.cir, h.pir, h.cbs, h.pbs, h.cbs * 1000, h.pbs * 1000, now, h.aware⟩

/-- New values for a meter in use: levels are kept, clipped to the new sizes (R80). -/
def Meter.retune (m : Meter) (h : Hurdle) : Meter := ⟨h.cir, h.pir, h.cbs, h.pbs, min m.tc (h.cbs * 1000), min m.tp (h.pbs * 1000), m.lastNs, h.aware⟩

/-- The ports of a connection's paths. -/
def Conn.ports (n : Conn) : List Nat :=
  let l := n.paths.vals.foldl (fun l (p : Path) => addNew (p.sub / 4) l) []
  if l.isEmpty then [n.sub / 4] else l

/-- Give a session its meters on the ports of its paths, each with the session's rates and sizes divided by their number, rounded up (R77). A port whose
32,768 meters are all in use raises its event, and the paddock's fallback meter serves there. -/
def Chip.placeMeters (c : Chip) (ctx : Nat) : Chip :=
  match c.ports.hurdles.get? ctx, c.conns.get? ctx with
  | some h, some n =>
    let ps := n.ports
    let k := atLeast1 ps.length
    let share : Hurdle := ⟨ceilDiv h.cir k, ceilDiv h.pir k, ceilDiv h.cbs k, ceilDiv h.pbs k, h.aware⟩
    let c := { c with ports := { c.ports with meters := c.ports.meters.keep (fun key _ => key % 2 ^ 20 ≠ ctx || ps.contains (key / 2 ^ 20)) } }
    ps.foldl (fun c p =>
      match c.ports.meters.get? (meterKey p ctx) with
      | some m => { c with ports := { c.ports with meters := c.ports.meters.put (meterKey p ctx) (m.retune share) } }
      | none =>
        if 32768 ≤ (c.ports.meters.keep (fun key _ => key / 2 ^ 20 = p)).length then c.raise (portEvent p 6)
        else { c with ports := { c.ports with meters := c.ports.meters.put (meterKey p ctx) (share.full c.clk) } }) c
  | _, _ => c

/-- Free a session's meters. -/
def Chip.dropMeters (c : Chip) (ctx : Nat) : Chip :=
  { c with ports := { c.ports with hurdles := c.ports.hurdles.del ctx, meters := c.ports.meters.keep (fun key _ => key % 2 ^ 20 ≠ ctx) } }

/-- The ranges of R76 for a meter's values; `offset` is the byte offset of the first of them. -/
def hurdleRefusals (mtu cir pir cbs pbs offset : Nat) : List (Option (Nat × Nat)) :=
  [refuseIf (decide (cir < 1) || decide (60000 < cir)) 0x0102 offset, refuseIf (decide (pir < cir) || decide (60000 < pir)) 0x0102 (offset + 2),
   refuseIf (decide (cbs < mtu) || decide (16777216 < cbs)) 0x0102 (offset + 4), refuseIf (decide (pbs < mtu) || decide (pbs < cbs) || decide (16777216 < pbs)) 0x0102 (offset + 8)]

/-- HURDLE_SET (0x0230). Mode 2 removes the session's meters. -/
def hurdleSet (h : Hdr) (context cir pir cbs pbs mode : Nat) : Chip → Chip :=
  runPair ⟨0x0230, true, .w, paramBytes [4, 2, 2, 4, 4, 1]⟩ h [] (.hurdleSet context cir pir cbs pbs mode) (fun c =>
    Res.guard c [rangeRefusal c context 262144 131072 32, refuseIf (decide (2 < mode)) 0x0102 48, refuseIf (!c.conns.has context) 0x0201]
      (fun c =>
        if mode = 2 then Res.ok (c.dropMeters context)
        else
          let mtu := match c.conns.get? context with
            | some n => c.mtu (n.sub / 4)
            | none => 1518
          Res.guard c (hurdleRefusals mtu cir pir cbs pbs 36)
            (fun c => Res.ok (({ c with ports := { c.ports with hurdles := c.ports.hurdles.put context ⟨cir, pir, cbs, pbs, decide (mode = 1)⟩ } } :
              Chip).placeMeters context))))

/-- HURDLE_PADDOCK_SET (0x0231). A fallback meter is colour-blind (DESIGN CHOICE, assumption 24: the spec gives it no mode). -/
def hurdlePaddockSet (h : Hdr) (paddock red cir pir cbs pbs : Nat) : Chip → Chip :=
  runPair ⟨0x0231, true, .w, paramBytes [2, 1, 2, 2, 4, 4]⟩ h [paddock] (.hurdlePaddockSet paddock red cir pir cbs pbs) (fun c =>
    Res.guard c ([rangeRefusal c paddock 4096 2048 32, refuseIf (!c.paddocks.has paddock) 0x0201, refuseIf (decide (1 < red)) 0x0102 34] ++
        hurdleRefusals 1518 cir pir cbs pbs 36)
      (fun c =>
        let f : Hurdle := ⟨cir, pir, cbs, pbs, false⟩
        Res.ok { c with ports := { c.ports with redAction := c.ports.redAction.put paddock red, fallback := c.ports.fallback.put paddock f,
                                                fbMeters := c.ports.fbMeters.mapVals (fun k m => if k % 4096 = paddock then m.retune f else m) } }))

/-- Colour a frame of a session at a port: its own meter; where the port had none left, the paddock's fallback meter; without any, green (R76, R77). -/
def Chip.colourFrame (c : Chip) (p ctx paddock b pc : Nat) : Nat × Chip :=
  match c.ports.meters.get? (meterKey p ctx) with
  | some m =>
    let r := m.mark c.clk b pc
    (r.1, { c with ports := { c.ports with meters := c.ports.meters.put (meterKey p ctx) r.2 } })
  | none =>
    match c.ports.hurdles.get? ctx, c.ports.fallback.get? paddock with
    | some _, some f =>
      let key := p * 4096 + paddock
      let r := (c.ports.fbMeters.getD key (f.full c.clk)).mark c.clk b pc
      (r.1, { c with ports := { c.ports with fbMeters := c.ports.fbMeters.put key r.2 } })
    | _, _ => (0, c)

/-! ### What leaves by a port (R63, R46, R48, R81) -/

/-- Is a sub-port looped back, at the PCS or at the near end of the SerDes (R81)? -/
def Chip.looped (c : Chip) (sub : Nat) : Bool := decide (sub < 32) && (c.get PORT_CFG_loopback (sub / 4) = 1 || c.get PORT_CFG_loopback (sub / 4) = 2)

/-- Send a frame by a sub-port in a priority. While that priority is paused it is held (R63). An analysis port carries nothing but copies (R48). What a looped port sends comes back to
its own receiver, which does not own the address and discards it as R60, index 5, says; nothing goes onto the line (DESIGN CHOICE, assumption 22: R81 names the two loops only). -/
def Chip.netSend (c : Chip) (sub prio : Nat) (o : Out) : Chip :=
  let key := sub / 4 * 8 + prio
  if c.analysis sub then c
  else if c.looped sub then c.bumpS PORT_DROP_CNT_count PORT_DROP_CNT_stuck 1 (sub / 4) 5
  else if c.ports.paused.has key then { c with heldOut := c.heldOut.updD key [] (fun l => l ++ [o]) }
  else c.send o

/-- Send a frame of a connection: in the priority of its last frame from the host (DESIGN CHOICE, assumption 22: the spec gives the chip's own frames no priority), past the egress taps
(R46). `payload` is what the frame carries as it passes them, after encryption. -/
def Chip.emitFrame (c : Chip) (ctx sub : Nat) (o : Out) (payload : Bytes) : Chip :=
  let frame := Config.frameOf ctx sub payload
  let prio := (c.conns.get? ctx).elim 0 (·.prio)
  if c.analysis sub then c else (((c.cross (droveId ctx) (sub / 4) (c.hostCls ctx false)).netSend sub prio o).mirrorPort sub true frame).mirrorSession ctx sub true frame

/-! ### Frames (R59 to R64) -/

/-- Does the sub-port own the addresses of a frame (R60 index 5, R61)? -/
def SubPort.owns (s : SubPort) (f : Frame) : Bool :=
  f.multicast || (f.mac = s.mac && (!f.hasAddr || (if f.v6 then s.ipv6.any (fun p => p.address = f.addr) else s.ipv4.contains f.addr)))

/-- The index of R60 under which a frame is discarded, if it is. The checks run in the order of the index. -/
def frameDrop (mtu rateLeft : Nat) (s : SubPort) (f : Frame) : Option Nat :=
  if !f.fcsOk || f.fecBad ≠ 0 then some 0
  else if f.len < 64 || mtu < f.len then some 1
  else if 1 < f.tags || f.qinq then some 2
  else if f.fragment then some 3
  else if !f.sumOk then some 4
  else if !s.owns f then some 5
  else if f.proto = 1 && rateLeft = 0 then some 6
  else if f.tags = 1 && !s.vlans.contains f.vlan then some 7
  else none

/-- The class that PORT_PRIO_MAP gives a priority: C1 to C3 (R62). -/
def Chip.prioClass (c : Chip) (p prio : Nat) : Nat := min 3 (bits (c.get PORT_PRIO_MAP_cls_map p) (2 * prio + 1) (2 * prio) + 1)

/-- PFC by ingress occupancy (R63): XOFF above xoff_kib, XON below xon_kib. -/
def Chip.pfcJudge (c : Chip) (p prio occ : Nat) : Chip :=
  let c := { c with ports := { c.ports with ingress := c.ports.ingress.put (p * 8 + prio) occ } }
  if !bit (c.get PORT_PRIO_MAP_pfc_en p) prio then c
  else
    let xoff := c.get PORT_PFC_CFG_xoff_kib p
    let xon := min (c.get PORT_PFC_CFG_xon_kib p) (xoff - 1)
    let on := c.ports.xoff.contains (p * 8 + prio)
    if xoff * 1024 < occ && !on then
      ({ c with ports := { c.ports with xoff := c.ports.xoff ++ [p * 8 + prio] } } : Chip).send (.pfc p prio true)
    else if occ < xon * 1024 && on then
      ({ c with ports := { c.ports with xoff := c.ports.xoff.erase (p * 8 + prio) } } : Chip).send (.pfc p prio false)
    else c

/-- Slow-path frames that a port may still take in this second (R61), and the table after one more. -/
def Chip.slowLeft (c : Chip) (p : Nat) : Nat :=
  let sec := c.clk / second
  let w := c.ports.slow.getD p (0, 0)
  c.get PORT_SLOWPATH_CFG_rate - (if w.1 = sec then w.2 else 0)

def Chip.slowCount (c : Chip) (p : Nat) : Chip :=
  let sec := c.clk / second
  let w := c.ports.slow.getD p (0, 0)
  { c with ports := { c.ports with slow := c.ports.slow.put p (sec, (if w.1 = sec then w.2 else 0) + 1) } }

/-- A frame of a connection gives it its priority and its switch class (R62). -/
def Chip.noteFrame (c : Chip) (ctx p prio : Nat) : Chip :=
  { c with conns := c.conns.upd ctx (fun n => { n with prio := prio, hostCls := c.prioClass p prio }) }

/-- FRAME_RECEIVE (R59 to R63, R78, R79): a looped port and an analysis port take no frame from the line (R48, R81). `occ` is the ingress occupancy of the frame's priority in bytes once the frame is in. -/
def frameReceive (sub : Nat) (f : Frame) (occ : Nat) (c : Chip) : Chip :=
  let p := sub / 4
  if portAbsent c.id p || 32 ≤ sub || !bit (c.get PORT_CFG_sub_en p) (sub % 4) || !c.subExists sub || c.looped sub || c.analysis sub then c
  else
    let c := (c.bumpS PORT_FEC_CNT_count PORT_FEC_CNT_stuck f.fecCorr p 0).bumpS PORT_FEC_CNT_count PORT_FEC_CNT_stuck f.fecBad p 1
    match frameDrop (c.mtu p) (c.slowLeft p) (c.ports.subs.getD sub ⟨0, [], [], []⟩) f with
    | some k =>
      let c := c.bumpS PORT_DROP_CNT_count PORT_DROP_CNT_stuck 1 p k
      if k = 6 then c.raiseLtd (portEvent p 7) p second else c
    | none =>
      let prio := if c.flag PORT_CFG_trust p then c.get PORT_DSCP_MAP_prio p f.dscp else if f.tags = 1 then f.pcp % 8 else 0
      let c := (c.pfcJudge p prio occ).mirrorPort sub false f.raw
      let c := match f.ctx with
        | some ctx => c.mirrorSession ctx sub false f.raw
        | none => c
      if f.proto = 1 then (c.slowCount p).bumpS PORT_HURDLE_CNT_count PORT_HURDLE_CNT_stuck 1 p 0
      else
        let pc := c.get PORT_DSCP_MAP_precolour p f.dscp
        let pc := if pc = 3 then 0 else pc
        match f.ctx with
        | none => (c.bumpS PORT_HURDLE_CNT_count PORT_HURDLE_CNT_stuck 1 p 0).send (.frameTo p none (c.prioClass p prio) 0)
        | some ctx =>
          let paddock := match c.conns.get? ctx with
            | some n => n.paddock
            | none => 0
          let r := (c.noteFrame ctx p prio).colourFrame p ctx paddock f.len pc
          let c := r.2.bumpS PORT_HURDLE_CNT_count PORT_HURDLE_CNT_stuck 1 p r.1
          let c := if c.conns.has ctx then c.meterAdd paddock 9 f.len else c
          c.send (.frameTo p (some ctx) (c.prioClass p prio) r.1)

/-- SLOW_PATH_FRAME (R61): kind 0 ARP, 1 neighbour discovery, 2 echo, 3 LLDP, 4 PTP. Firmware answers the first three for an address that the sub-port
owns. -/
def slowPathFrame (sub kind addr : Nat) (c : Chip) : Chip :=
  let s := c.ports.subs.getD sub ⟨0, [], [], []⟩
  let own := s.ipv4.contains addr || s.ipv6.any (fun p => p.address = addr)
  if kind ≤ 2 && own && c.subsOn.contains sub then c.netSend sub 0 (.slowReply sub kind addr) else c

/-- LLDP_ADVERTISE_TIMER (R61): an advertisement from every sub-port that is up. -/
def lldpAdvertiseTimer (c : Chip) : Chip :=
  c.subsOn.foldl (fun c s => if bit (c.get PORT_STATUS_link_up (s / 4)) (s % 4) then c.netSend s 0 (.lldp s) else c) c

/-- SUBPORT_LINK_CHANGE (R57, R58): a sub-port that is not enabled, or that uses a disabled lane, stays down. `partner` is what the link partner of a CR or KR sub-port advertises, in
units of 100 Gb/s: with an_en set the link comes up only at the speed of the present mode. A link that goes down starts again. -/
def subportLinkChange (sub : Nat) (up : Bool) (partner : Option (List Nat)) (c : Chip) : Chip :=
  let p := sub / 4
  let lanes := subLanes (c.portMode p) (sub % 4)
  let was := bit (c.get PORT_STATUS_link_up p) (sub % 4)
  let off := lanes.any (fun l => bit (c.get PORT_STATUS_lane_disabled p) l) || (c.flag PORT_CFG_an_en p && partner.any (fun l => !l.contains lanes.length))
  if (lanes.isEmpty && up) || up = was || (up && (off || bit c.start.deadPorts p || !c.subsOn.contains sub)) then c
  else
    let c := c.set PORT_STATUS_link_up (setBit (c.get PORT_STATUS_link_up p) (sub % 4) up) p
    let c := if up then lanes.foldl (fun c l => c.set PORT_STATUS_lane_ok (setBit (c.get PORT_STATUS_lane_ok p) l true) p) c else c
    let c := c.raise (portEvent p (if up then 0 else 1))
    if !up && c.subsOn.contains sub then c.startLink sub else c

/-- LANE_TRAINING_FAIL (R58): kept for the ledger's judgement at ST06. -/
def laneTrainingFail (port lane : Nat) (c : Chip) : Chip :=
  if portAbsent c.id port || 8 ≤ port || 4 ≤ lane then c
  else
    let c := { c with ports := { c.ports with trainFails := c.ports.trainFails.updD (4 * port + lane) 0 (fun n => n + 1) } }
    (c.set PORT_STATUS_lane_ok (setBit (c.get PORT_STATUS_lane_ok port) lane false) port).raise (portEvent port 2)

/-- A priority is no longer paused: its held frames are sent. -/
def Chip.unpause (c : Chip) (p prio : Nat) : Chip :=
  let key := p * 8 + prio
  let held := c.heldOut.getD key []
  let c := { c with ports := { c.ports with paused := c.ports.paused.del key, pausedAt := c.ports.pausedAt.del key }, heldOut := c.heldOut.del key }
  held.foldl (fun c o => c.send o) c

/-- PFC_PAUSE_RX (R63, R64): pause is honoured on an enabled priority whose watchdog has not tripped; a pause of 0 quanta ends it. -/
def pfcPauseRx (port prio quanta : Nat) (c : Chip) : Chip :=
  if portAbsent c.id port || 8 ≤ port || 8 ≤ prio || !bit (c.get PORT_PRIO_MAP_pfc_en port) prio || bit (c.get PORT_PFC_CFG_watchdog_tripped port) prio then c
  else if quanta = 0 then c.unpause port prio
  else
    let key := port * 8 + prio
    { c with ports := { c.ports with paused := c.ports.paused.put key quanta,
                                     pausedAt := if c.ports.pausedAt.has key then c.ports.pausedAt else c.ports.pausedAt.put key c.clk } }

/-- Bytes that a port hands on in an idle microsecond: 400 Gb/s (DESIGN CHOICE, assumption 22: the spec gives no rate at which a port's ingress drains). -/
def drainStep : Nat := 50000

/-- In a microsecond in which nothing comes, the ingress occupancies fall, and XON follows (R63). -/
def Chip.drainIngress (c : Chip) : Chip :=
  (c.ports.ingress.keep (fun _ n => decide (0 < n))).foldl (fun (c : Chip) e => c.pfcJudge (e.1 / 8) (e.1 % 8) (e.2 - drainStep)) c

/-- PFC_PAUSE_EXPIRY (R63). -/
def pfcPauseExpiry (port prio : Nat) (c : Chip) : Chip := c.unpause port prio

/-- PFC_WATCHDOG_EXPIRY (R64). -/
def pfcWatchdogExpiry (port prio : Nat) (c : Chip) : Chip :=
  if c.get PORT_PFC_CFG_watchdog_ms port = 0 || !c.ports.paused.has (port * 8 + prio) || 8 ≤ prio then c
  else
    let c := c.set PORT_PFC_CFG_watchdog_tripped (setBit (c.get PORT_PFC_CFG_watchdog_tripped port) prio true) port
    (c.unpause port prio).raise (portEvent port 4)

/-- PFC_WATCHDOG_CLEAR (R64): a write of 1 clears a priority's bit. -/
def pfcWatchdogClear (port mask : Nat) (c : Chip) : Chip :=
  if portAbsent c.id port || 8 ≤ port then c
  else c.set PORT_PFC_CFG_watchdog_tripped (c.get PORT_PFC_CFG_watchdog_tripped port &&& ((mask % 256) ^^^ 255)) port

/-- FEC_RATE_CHECK (R82): once a second. -/
def fecRateCheck (port : Nat) (c : Chip) : Chip :=
  if portAbsent c.id port || 8 ≤ port then c
  else
    let n := c.get PORT_FEC_CNT_count port 1
    let overThr := decide (c.get PORT_FEC_THR_uncorr_per_s port < n - c.ports.fecLast.getD port 0)
    ({ c with ports := { c.ports with fecLast := c.ports.fecLast.put port n } } : Chip).raiseIf overThr (portEvent port 3)

/-! ### Time (R67 to R71) -/

/-- Move the timebase by a signed amount. -/
def Chip.shiftNow (c : Chip) (d : Int) : Chip := { c with now := ((c.now : Int) + d).toNat }

/-- The minute number of R69 under the source and the offset in force. -/
def Chip.minuteNumber (c : Chip) : Nat :=
  if c.ports.srcInForce = 1 then c.get PORT_PPS_SEC_seconds / 60 else (c.now - c.ports.utcInForce * second) / (60 * second)

/-- The best master clock algorithm (R67): does a clock stand before another? The data sets are compared member by member, then by the steps removed. -/
def PtpData.before (a b : PtpData) : Bool :=
  let key := fun (d : PtpData) => [d.prio1, d.cls, d.acc, d.var, d.prio2, d.ident, d.steps]
  match ((key a).zip (key b)).find? (fun x => x.1 ≠ x.2) with
  | some x => decide (x.1 < x.2)
  | none => false

/-- The servo (R67, R71): `o` is local time less master time in ns. A step is made above 1 ms; else the timebase is slewed by at most 100 ppm of the time since the last message.
On the local source the timebase runs free (R68). -/
def Chip.servo (c : Chip) (o : Int) (elapsed : Nat) : Chip :=
  let c := c.set PORT_TIME_STATUS_offset_ns (ofSigned 32 (clampSigned 32 o))
  if c.ports.srcInForce = 2 then c
  else if 1000000 < o.natAbs then
    let was := c.minuteNumber
    let c := (c.shiftNow (-o)).raise 0x082
    if o < 0 then { c with ports := { c.ports with steppedFwd := c.ports.steppedFwd || decide (was < c.minuteNumber) } }
    else if c.minuteNumber < c.get PORT_TICK_LAST_minute then
      ({ c with ports := { c.ports with steppedBack := true } } : Chip).raise 0x087
    else c
  else
    let m := min o.natAbs (elapsed / 10000)
    let c := c.shiftNow (if o < 0 then (m : Int) else -(m : Int))
    let was := c.flag PORT_TIME_STATUS_ptp_locked
    let c := (c.set PORT_TIME_STATUS_ptp_locked 1).set PORT_TIME_STATUS_holdover 0
    c.raiseIf (!was) 0x080

/-- An announce or sync message has come (R70). -/
def Chip.heardPtp (c : Chip) : Chip := { c with ports := { c.ports with ptpLastClk := c.clk, ptpHeard := true } }

/-- A PTP message of the PTP sub-port and domain, over UDP on IPv4 (form 0) or IPv6 (1) or over Ethernet (2) (R67). An announce of the best clock gives the master and the UTC offset `utc`;
a sync from the master is noted and answered with a delay request; the delay response gives the offset, ((t2 − t1) − (t4 − t3)) ÷ 2, end to end. -/
def Chip.takePtp (c : Chip) (sub form : Nat) (m : PtpMsg) (utc : Nat) : Chip :=
  let elapsed := c.clk - c.ports.ptpLastClk
  let isMaster := fun (src : Nat) => c.ports.ptpMaster.any (fun d => d.ident = src)
  match m with
  | .announce d =>
    if c.ports.ptpMaster.all (fun x => x.ident = d.ident || d.before x) then
      let c := c.heardPtp
      ({ c with ports := { c.ports with ptpMaster := some d } } : Chip).set PORT_TIME_CFG_utc_offset utc
    else c
  | .sync src t1 =>
    if isMaster src then
      let c := c.heardPtp
      ({ c with ports := { c.ports with ptpSync := some (t1, c.now, c.now) } } : Chip).netSend sub 0 (.ptpDelayReq sub form)
    else c
  | .delayResp src t4 =>
    match c.ports.ptpSync with
    | some (t1, t2, t3) =>
      if isMaster src then
        let c : Chip := { c with ports := { c.ports with ptpSync := none, ptpLastClk := c.clk } }
        c.servo ((((t2 : Int) - t1) - ((t4 : Int) - t3)) / 2) elapsed
      else c
    | none => c

/-- PTP_LOSS_TIMEOUT (R70): 3 s without announce or sync, after some have come. The clock that sent them is master no more. -/
def ptpLossTimeout (c : Chip) : Chip :=
  if c.ports.ptpHeard then
    let c : Chip := { c with ports := { c.ports with ptpHeard := false, ptpMaster := none, ptpSync := none } }
    ((c.set PORT_TIME_STATUS_ptp_locked 0).set PORT_TIME_STATUS_holdover 1).raise 0x081
  else c

/-- PPS_EDGE (R68, R70): an edge of the configured direction advances the second count and aligns the second. -/
def ppsEdge (falling : Bool) (c : Chip) : Chip :=
  if falling = c.flag PORT_TIME_CFG_pps_edge then
    let c := (c.set PORT_PPS_SEC_seconds (c.get PORT_PPS_SEC_seconds + 1)).set PORT_TIME_STATUS_pps_seen 1
    { c with ports := { c.ports with ppsLastNs := c.now } }
  else c

/-- PPS_EDGE_MISSING (R70, R81): no edge came in its window; in 1PPS mode the timebase supplies it. -/
def ppsEdgeMissing (c : Chip) : Chip :=
  if c.ports.srcInForce = 1 then
    let c := (c.set PORT_PPS_SEC_seconds (c.get PORT_PPS_SEC_seconds + 1)).set PORT_TIME_STATUS_pps_seen 0
    ({ c with ports := { c.ports with ppsLastNs := c.ports.ppsLastNs + second } } : Chip).raise 0x083
  else c.set PORT_TIME_STATUS_pps_seen 0

end Sys2Proof.Machine
end

