-- ==== Sys2Proof/Machine/Shape.lean ====
section
/-!
DEFINITION. Shaping at admission: costs, buckets and the timing wheel (R279 to R283). The commands that set contracts and the divisions of R284 stand
in Machine/Governor.lean.
-/

namespace Sys2Proof.Machine

/-- The per-command overhead of a paddock (R279). -/
def Chip.overheadOf (c : Chip) (p : Nat) : Nat := c.shape.overhead.getD p 4096

def unitScale : Nat := 1000000000

/-- Refill a bucket: a rate of r units per second adds r × 10^-9 of a unit in a nanosecond. A bucket with no limit is always full. -/
def Bucket.refill (b : Bucket) (rate burst now : Nat) : Bucket :=
  if rate = 0 then ⟨(burst * unitScale : Nat), now⟩
  else ⟨min ((burst * unitScale : Nat) : Int) (b.level + ((rate * (now - b.lastNs) : Nat) : Int)), now⟩

def Buckets.refill (b : Buckets) (now : Nat) : Buckets :=
  { b with tc := b.tc.refill b.terms.cr b.terms.burst now, tp := b.tp.refill b.terms.pr b.terms.peak now }

/-- A contract in the buckets' units: rates in cost units per second. -/
def Contract.fine (t : Contract) : Contract := { t with cr := t.cr * 1000, pr := t.pr * 1000 }

/-- A contract with both buckets full (R280). -/
def Contract.full (t : Contract) (now : Nat) : Buckets := ⟨t, ⟨(t.burst * unitScale : Nat), now⟩, ⟨(t.peak * unitScale : Nat), now⟩⟩

/-- New terms: levels are kept and clipped to the new bursts (R284, R285). -/
def Buckets.retune (b : Buckets) (t : Contract) (now : Nat) : Buckets :=
  let b := b.refill now
  ⟨t, ⟨min b.tc.level (t.burst * unitScale : Nat), now⟩, ⟨min b.tp.level (t.peak * unitScale : Nat), now⟩⟩

def Buckets.charge (b : Buckets) (cost now : Nat) : Buckets :=
  let b := b.refill now
  let take := fun (x : Bucket) (rate : Nat) => if rate = 0 then x else { x with level := x.level - ((cost * unitScale : Nat) : Int) }
  { b with tc := take b.tc b.terms.cr, tp := take b.tp b.terms.pr }

/-- How long a bucket stays below 0, in ns (R281). -/
def Bucket.wait (b : Bucket) (rate : Nat) : Nat := if 0 ≤ b.level || rate = 0 then 0 else ceilDiv b.level.natAbs rate

def Buckets.wait (b : Buckets) : Nat := max (b.tc.wait b.terms.cr) (b.tp.wait b.terms.pr)

def padPart (p isl : Nat) : Nat := p * 4 + isl

/-- The time at which a volume queue becomes eligible: the later of its own buckets' and its paddock's; at once while shaping is off (R312). -/
def Chip.eligibleAt (c : Chip) (v p isl : Nat) : Nat :=
  if !c.flag GOV_CTL_shape_en then c.clk else
  let w1 := match c.shape.vols.get? v with
    | some b => (b.refill c.clk).wait
    | none => 0
  let w2 := match c.shape.parts.get? (padPart p isl) with
    | some b => (b.refill c.clk).wait
    | none => 0
  c.clk + max w1 w2

/-- Begin or end the throttled time of a paddock in an island, as its queues enter and leave the wheel (R283, R480). -/
def Chip.markThrottle (c : Chip) (p isl : Nat) (held : Bool) : Chip :=
  let key := padPart p isl
  match c.shape.throttled.get? key, held with
  | none, true => { c with shape := { c.shape with throttled := c.shape.throttled.put key c.clk } }
  | some t, false => ({ c with shape := { c.shape with throttled := c.shape.throttled.del key } } : Chip).meterAdd p 8 ((c.clk - t) / 1000)
  | _, _ => c

/-- The CMD island of a fold (R16). -/
def Chip.islandOf (c : Chip) (fold : Nat) : Nat := if c.id.half then fold % 2 else fold % 4

/-- The HBM stack that holds a block's cache set. -/
def Chip.stackOf (c : Chip) (v lba : Nat) : Nat :=
  if c.id.half then 0 else if c.oneStack then (if c.get CACHE_STATUS_stacks = 2 then 1 else 0) else (lba / 16 ^^^ v) % 2

/-- Queues of a paddock on an island's wheel. -/
def Chip.onWheel (c : Chip) (p isl : Nat) : Bool :=
  c.shape.wheel.any (fun e => match c.vols.get? e.1 with
    | some v => v.paddock = p && c.islandOf v.fold = isl
    | none => false)

/-- Put a volume queue on the wheel, or take it off when it is eligible now: below 4.096 ms ahead the fine wheel, else the coarse one, whose span is
16.78 s (R282). -/
def Chip.rewheel (c : Chip) (v : Nat) : Chip :=
  match c.vols.get? v with
  | none => { c with shape := { c.shape with wheel := c.shape.wheel.del v } }
  | some r =>
    let isl := c.islandOf r.fold
    let at_ := c.eligibleAt v r.paddock isl
    let wheel := if at_ ≤ c.clk then c.shape.wheel.del v
      else if at_ < c.clk + 4096000 then c.shape.wheel.put v (ceilDiv at_ 1000 * 1000, false)
      else c.shape.wheel.put v (min at_ (c.clk + 4095 * 4096000), true)
    let c := { c with shape := { c.shape with wheel := wheel } }
    c.markThrottle r.paddock isl (c.onWheel r.paddock isl)

/-- Charge an admitted command (R281, R283). A paddock in debt holds every volume queue of the paddock in the island. -/
def Chip.chargeShape (c : Chip) (v p isl cost : Nat) : Chip :=
  let c := { c with shape := { c.shape with
    vols := c.shape.vols.upd v (fun b => b.charge cost c.clk),
    parts := c.shape.parts.upd (padPart p isl) (fun b => b.charge cost c.clk),
    demandMs := c.shape.demandMs.updD (padPart p isl) 0 (fun n => n + cost),
    demand := c.shape.demand.updD p 0 (fun n => n + cost) } }
  if c.shape.parts.has (padPart p isl) then
    (c.vols.filter (fun e => e.2.paddock = p && c.islandOf e.2.fold = isl)).foldl (fun c e => c.rewheel e.1) c
  else c.rewheel v

/-- TIMING_WHEEL_SLOT (R282): queues of an island whose time has come become eligible; those on the coarse wheel whose slot comes round move to the fine
wheel or, beyond its span, are computed again. -/
def timingWheelSlot (isl : Nat) (c : Chip) : Chip :=
  let due := c.shape.wheel.filter (fun e => (match c.vols.get? e.1 with
      | some v => c.islandOf v.fold = isl
      | none => true) && (decide (e.2.1 ≤ c.clk) || (e.2.2 && decide (e.2.1 < c.clk + 4096000))))
  due.foldl (fun c e => c.rewheel e.1) c

end Sys2Proof.Machine
end

