-- ==== Sys2Proof/Machine/Conn.lean ====
section
/-!
DEFINITION. The sending side of Drove and what all connections share: rate control (R66), the path table (R152 to R156), packets (R86 to R90), keys
and rekeying (R96 to R98), spraying and paths (R99 to R101), the sending window (R106 to R112), credits (R113 to R115), and closing (R94).
-/

namespace Sys2Proof.Machine

/-! ### Rate control (R66, R116) -/

/-- A control at the line rate. The initial alpha, 1, is the algorithm's own (PRESUMED, assumption 7). -/
def RateCtl.fresh (line : Nat) : RateCtl := ⟨line, line, 65536, 0, none⟩

/-- Keep the rate between min_rate (units of 100 Mb/s) and the line rate; remember since when it stands at min_rate. -/
def RateCtl.bound (r : RateCtl) (minRate line now : Nat) : RateCtl :=
  let v := max (minRate * 1000) (min r.rate line)
  { r with rate := v, minSince := if v = minRate * 1000 then some (r.minSince.getD now) else none }

/-- A CNP, or its Drove equivalent. -/
def RateCtl.cnp (r : RateCtl) (g minRate line now : Nat) : RateCtl :=
  ({ r with target := r.rate, rate := r.rate - r.rate * r.alpha / 131072, alpha := r.alpha - r.alpha / 2 ^ g + 65536 / 2 ^ g, steps := 0 } : RateCtl).bound
    minRate line now

/-- alpha_us without a CNP. Alpha is cut to steps of 2^-16 and rates to steps of 100 kb/s, downwards, so that alpha stands once it is below 2^g_shift steps (DESIGN CHOICE, assumption 7: R66
names no rounding). -/
def RateCtl.decay (r : RateCtl) (g : Nat) : RateCtl := { r with alpha := r.alpha - r.alpha / 2 ^ g }

/-- increase_us without a CNP: five steps toward the target, then the target rises by ai_step (units of 100 Mb/s). -/
def RateCtl.rise (r : RateCtl) (aiStep minRate line now : Nat) : RateCtl :=
  let target := if r.steps < 5 then r.target else r.target + aiStep * 1000
  ({ r with target := target, rate := (r.rate + target) / 2, steps := min 5 (r.steps + 1) } : RateCtl).bound minRate line now

/-! ### Contexts -/

/-- The event of a connection's DROVE island (R122). -/
def droveEvent (ctx k : Nat) : Nat := 0x100 + ctx / 65536 * 0x20 + k

/-- An address of ::ffff:0:0/96 is an IPv4 address (R126). -/
def isV4 (a : Nat) : Bool := decide (a / 2 ^ 32 = 0xFFFF)

def Chip.updConn (c : Chip) (ctx : Nat) (f : Conn → Conn) : Chip := { c with conns := c.conns.upd ctx f }

def Conn.livePaths (n : Conn) : List Nat := (n.paths.keep (fun _ p => p.live)).keys

/-- The timers and limits of a connection, each within its range (R119), from the registers as they stood when it was opened (R121). -/
def Conn.retryMax (n : Conn) : Nat := clamp 1 15 (DROVE_DRV_TIMER_retry_max.of n.timerImg)
def Conn.ackEvery (n : Conn) : Nat := clamp 1 255 (DROVE_DRV_TIMER_ack_every.of n.timerImg)
def Conn.probeMiss (n : Conn) : Nat := clamp 1 15 (DROVE_DRV_PATH_probe_miss.of n.pathImg)
def Conn.pathRtoLimit (n : Conn) : Nat := clamp 1 15 (DROVE_DRV_PATH_path_rto_limit.of n.pathImg)
def Conn.maxGrant (n : Conn) : Nat := max 256 (DROVE_DRV_CREDIT_max_grant.of n.creditImg)

/-- The field of DROVE_DRV_CONNS that counts a version. -/
def versionField (v : Nat) : Field := if v = 0x100 then DROVE_DRV_CONNS_v10 else if v = 0x102 then DROVE_DRV_CONNS_v12 else DROVE_DRV_CONNS_v20

/-! ### The path table (R152 to R156) -/

/-- Entries of the path table in one half (R152). -/
def pathCapacity : Nat := 524288

/-- The half that holds an entry (DESIGN CHOICE, assumption 27: R152 names the halves and no rule for them). -/
def pathHalf (key : Nat) : Nat := key % 2

/-- Does the path table hold an entry, or have room for it in its half (R152)? -/
def Chip.pathFits (c : Chip) (key : Nat) : Bool :=
  c.map.paths.has key || decide ((c.map.paths.keep (fun k _ => pathHalf k = pathHalf key)).length < pathCapacity)

def Chip.showPaths (c : Chip) : Chip :=
  (c.set MAP_PATH_STAT_entries c.map.paths.length).set MAP_PATH_STAT_foreign c.map.foreign.length

/-- Is a learning exchange window open (R155)? -/
def Chip.exchanging (c : Chip) : Bool := c.flag MAP_STATUS_exchange_window

/-- Send one learning message to the partner (R155, R156). -/
def Chip.sendLearning (c : Chip) (op key : Nat) (e : PathEntry) : Chip :=
  let seq := c.map.sendSeq
  ({ c with map := { c.map with sendSeq := (seq + 1) % 2 ^ 32 } } : Chip).send (.learning (learningBytes op (b2n c.id.chipB) seq (key / 8) (key % 8) e))

/-- Insert or replace an entry; a full table takes no new one (event 0x20E). -/
def Chip.pathPut (c : Chip) (key : Nat) (e : PathEntry) : Chip :=
  if !c.pathFits key then c.raise 0x20E
  else
    let c := { c with map := { c.map with paths := c.map.paths.put key e } }
    (if c.exchanging && !e.flow then c.sendLearning 1 key e else c).showPaths

def Chip.pathDel (c : Chip) (key : Nat) : Chip :=
  match c.map.paths.get? key with
  | none => c
  | some e =>
    let c := { c with map := { c.map with paths := c.map.paths.del key } }
    (if c.exchanging && !e.flow then c.sendLearning 2 key e else c).showPaths

/-- Refresh a path's stamp at a hit (R153). -/
def Chip.pathHit (c : Chip) (key : Nat) : Chip :=
  { c with map := { c.map with paths := c.map.paths.upd key (fun e => { e with stampS := c.clk / second % 65536 }) } }

/-! ### Packets -/

def ascii (s : String) : Bytes := s.toList.map (fun ch => BitVec.ofNat 8 ch.toNat)

/-- The info string of R96. -/
def Conn.info (n : Conn) (label : String) (g : Nat) : Bytes := ascii label ++ be 1 0 ++ be 2 n.version ++ be 4 n.hostCid ++ be 4 n.chipCid ++ be 4 g

def xorBytes : Bytes → Bytes → Bytes
  | a :: x, b :: y => (a ^^^ b) :: xorBytes x y
  | a :: x, [] => a :: x
  | [], y => y

/-- The header of R86. -/
def Conn.header (n : Conn) (path type flags psn msn offset msgLen aux : Nat) : Bytes :=
  be 1 path ++ be 3 0 ++ be 1 1 ++ be 1 type ++ be 1 flags ++ be 1 (n.gen % 256) ++ be 4 n.hostCid ++ be 4 psn ++ be 4 msn ++ be 4 offset ++
    be 4 msgLen ++ be 4 aux

/-- The nonce of R87: the direction's IV XORed with the packet's number. -/
def packetNonce (iv : Bytes) (sequenced : Bool) (psn : Nat) : Bytes := xorBytes iv (be 1 (b2n (!sequenced)) ++ zeros 7 ++ be 4 psn)

/-- The secret of a generation: the current one, the one before while it is kept, else the next (R96). -/
def Conn.secretOf (n : Conn) (g : Nat) : Bytes :=
  if g = n.gen then n.secret else if g + 1 = n.gen then n.oldSecret else Config.hkdfExpand n.secret (n.info "drove next" (n.gen + 1)) 48

/-- Open a body that the host has sealed under a generation (R87, R96): the plaintext, if the tag verifies. `aad` is header bytes 4 to 31. -/
def Conn.unseal (n : Conn) (g : Nat) (sequenced : Bool) (psn : Nat) (aad cipher : Bytes) : Option Bytes :=
  let key := Config.hkdfExpand (n.secretOf g) (n.info "drove h2c key" g) 32
  let iv := Config.hkdfExpand (n.secretOf g) (n.info "drove h2c iv" g) 12
  Config.gcmOpen key (packetNonce iv sequenced psn) aad cipher

/-- Seal a body under the c2h key of the current generation (R87, R96); header bytes 0 to 3 are not authenticated. -/
def Conn.seal (n : Conn) (sequenced : Bool) (psn : Nat) (hdr body : Bytes) : Bytes :=
  let key := Config.hkdfExpand n.secret (n.info "drove c2h key" n.gen) 32
  let iv := Config.hkdfExpand n.secret (n.info "drove c2h iv" n.gen) 12
  Config.gcmSeal key (packetNonce iv sequenced psn) (hdr.drop 4) body

/-- The sequenced types (R88). -/
def sequencedType (t : Nat) : Bool := [0x01, 0x02, 0x03, 0x04, 0x20, 0x21, 0x22].contains t

/-- The bytes of a packet from header byte 4 on: header, sealed body, tag (R86, R87). -/
def Conn.wire (n : Conn) (type flags psn msn offset msgLen aux : Nat) (body : Bytes) : Bytes :=
  let hdr := n.header 0 type flags psn msn offset msgLen aux
  hdr.drop 4 ++ n.seal (sequencedType type) psn hdr body

/-- The ECN codepoint ECT(0) (R65, R85). -/
def ect0 : Nat := 2

/-- Put a packet on a path: the frame leaves by the path's sub-port, from the chip's port to the host's port of the path, marked ECT(0) (R85), passes the egress taps (R46), and is counted (R121, R480). -/
def Chip.putWire (c : Chip) (ctx path type psn gen : Nat) (wire : Bytes) : Chip :=
  match c.conns.get? ctx with
  | none => c
  | some n =>
    let sub := (n.paths.get? path).elim n.sub (·.sub)
    let bytes := be 1 path ++ be 3 0 ++ wire
    let o : Out := .drove ctx path type psn gen (bytes.take 32) (bytes.drop 32) n.udpPort ((n.paths.get? path).elim 0 (·.srcPort)) ect0
    ((c.emitFrame ctx sub o bytes).cntDrove 1).meterAdd n.paddock 10 ((if isV4 n.srcAddr then 46 else 66) + bytes.length)

/-- Encrypt a packet under the current generation and put it on a path. -/
def Chip.droveEmit (c : Chip) (ctx path type flags psn msn offset msgLen aux : Nat) (body : Bytes) : Chip :=
  match c.conns.get? ctx with
  | none => c
  | some n => (c.gcmOp ctx body.length).putWire ctx path type psn n.gen (n.wire type flags psn msn offset msgLen aux body)

/-- Where a path stands once it has carried one packet more: the slower its rate, the further (R100). -/
def Path.due (q : Path) : Nat := q.vtime + 2 ^ 40 / atLeast1 q.rate.rate

/-- The least use of the live paths: a path that becomes live joins there (R100). -/
def Conn.vnow (n : Conn) : Nat :=
  match n.paths.keep (fun _ p => p.live) with
  | [] => 0
  | e :: rest => rest.foldl (fun v x => min v x.2.vtime) e.2.vtime

/-- A path has carried a sequenced packet. -/
def Conn.charge (n : Conn) (path : Nat) : Conn := { n with paths := n.paths.upd path (fun q => { q with vtime := q.due }) }

/-- The path for a sequenced packet: the live path that is used least for its rate, so that the live paths carry packets in proportion to their rates (R100), and for a resend another than the one that carried it
before, where one exists. Version 1.0 uses path 0 only. -/
def Conn.spray (n : Conn) (avoid : Option Nat) : Option Nat :=
  let live := n.paths.keep (fun _ p => p.live)
  if n.version = 0x100 then (live.get? 0).map (fun _ => 0)
  else
    let others := live.keep (fun k _ => avoid ≠ some k)
    let cand := if others.isEmpty then live else others
    (cand.foldl (fun (best : Option (Nat × Path)) e => match best with
      | none => some e
      | some b => if e.2.due < b.2.due then some e else some b) none).map (·.1)

/-- The path of an acknowledgement: the one that carried the newest packet (R108), while it is live; a down path carries only PROBE (R101). -/
def Conn.ackPath (n : Conn) : Option Nat := if n.livePaths.contains n.lastPath then some n.lastPath else n.spray none

def stopAt : Nat := 2 ^ 32 - 2 ^ 20

/-- The types of data and responses, which stop when the send count reaches 2^32 − 2^20 (R97). -/
def TxPkt.stops (p : TxPkt) : Bool := p.type = 3 || p.type = 4

/-- Is there room in the span of 4,096 unacknowledged psn for one more (R106)? -/
def Conn.spanRoom (n : Conn) : Bool :=
  match n.unacked.head? with
  | some q => decide (ahead 32 (n.txNext + 1) q.psn ≤ 4096)
  | none => true

/-- May a sequenced packet go now: room in the span (R106) and, for a message, among the 1,024 that the host holds open (R102), a live path, and its type is not stopped (R97)? -/
def Conn.mayGo (n : Conn) (p : TxPkt) : Option Nat :=
  if n.spanRoom && !(p.stops && (n.stopped || decide (1024 ≤ ahead 32 p.msn n.hostMsn))) then n.spray none else none

def TxPkt.final (p : TxPkt) : Nat := if p.type = 4 then 1 else 0

/-- Count an encrypted packet (R97). -/
def Conn.encrypted (n : Conn) : Conn := { n with sent := n.sent + 1, stopped := n.stopped || decide (stopAt ≤ n.sent + 1) }

/-- The chip sends under g + 1 from now on (R98); packets under g are accepted for rekey_grace_ms, and those already heard under g + 1 are counted under it (R97). -/
def Chip.nextGen (c : Chip) (ctx : Nat) : Chip :=
  match c.conns.get? ctx with
  | none => c
  | some n =>
    let next := Config.hkdfExpand n.secret (n.info "drove next" (n.gen + 1)) 48
    let c := c.updConn ctx (fun n => { n with secret := next, oldSecret := n.secret, gen := n.gen + 1, sent := 0, received := n.nextRecv, hostData := n.nextData, oldData := n.hostData,
                                              nextRecv := 0, nextData := 0, oldGen := true, stopped := false, rekeyOpen := false, rekeySent := false, moveDue := false })
    (c.keyOp.cntDrove 14).raise (droveEvent ctx 6)

/-- Send a sequenced packet on a path. With its REKEY_ACK, sealed under g, the chip moves to g + 1 (R98). -/
def Chip.sendNow (c : Chip) (ctx path : Nat) (p : TxPkt) : Chip :=
  match c.conns.get? ctx with
  | none => c
  | some n =>
    let wire := n.wire p.type p.final n.txNext p.msn p.offset p.msgLen p.aux p.body
    let p := { p with psn := n.txNext, path := path, sentNs := c.clk, gen := n.gen, wire := wire }
    let c := (c.gcmOp ctx p.body.length).putWire ctx path p.type p.psn p.gen wire
    let c := c.updConn ctx (fun n => { n.encrypted.charge path with txNext := (n.txNext + 1) % 2 ^ 32, unacked := n.unacked ++ [p] })
    if p.type = 0x21 && n.moveDue then c.nextGen ctx else c

/-- Send what waits, in order, as far as it may go; once a packet of a message waits, those behind it wait too. -/
def Chip.drainList (ctx : Nat) : List TxPkt → Bool → Chip → List TxPkt × Chip
  | [], _, c => ([], c)
  | p :: ps, held, c =>
    match (if held && p.stops then none else (c.conns.get? ctx).bind (fun n => n.mayGo p)) with
    | some path => Chip.drainList ctx ps held (c.sendNow ctx path p)
    | none =>
      let r := Chip.drainList ctx ps (held || p.stops) c
      (p :: r.1, r.2)

/-- The events and effects of the send count (R97): at 2^31 a rekey is asked for, at 2^32 − 2^20 data stops. `before` is the count before. -/
def Chip.sentMarks (c : Chip) (ctx before : Nat) : Chip :=
  match c.conns.get? ctx with
  | none => c
  | some n => c.raiseIf (decide (before < stopAt) && decide (stopAt ≤ n.sent)) (droveEvent ctx 5)

def Chip.drainOnce (c : Chip) (ctx : Nat) : Chip :=
  match c.conns.get? ctx with
  | none => c
  | some n =>
    let r := Chip.drainList ctx n.txWait false c
    (r.2.updConn ctx (fun m => { m with txWait := r.1 })).sentMarks ctx n.sent

/-- Send what waits; a move to the next generation on the way lets stopped packets go. -/
def Chip.drainTx (c : Chip) (ctx : Nat) : Chip :=
  let gen := fun (c : Chip) => (c.conns.get? ctx).map (·.gen)
  let d := c.drainOnce ctx
  if gen d = gen c then d else d.drainOnce ctx

/-- Queue a sequenced packet and send what may go. -/
def Chip.sendSeq (c : Chip) (ctx type msn offset msgLen aux : Nat) (body : Bytes) : Chip :=
  (c.updConn ctx (fun n => { n with txWait := n.txWait ++ [⟨0, type, msn, offset, msgLen, aux, body, 0, 0, 0, 0, []⟩] })).drainTx ctx

/-- Send an unsequenced packet on a path, with the next control number (R87). -/
def Chip.sendCtl (c : Chip) (ctx path type : Nat) (body : Bytes) : Chip :=
  match c.conns.get? ctx with
  | none => c
  | some n =>
    let c := c.droveEmit ctx path type 0 n.txCtrl 0 0 0 0 body
    (c.updConn ctx (fun n => { n.encrypted with txCtrl := (n.txCtrl + 1) % 2 ^ 32 })).sentMarks ctx n.sent

/-! ### Closing -/

/-- Units of the receive pool go back to it (R114). While its free part is at or below pressure_units the chip says so. -/
def Chip.poolReturn (c : Chip) (units : Nat) : Chip :=
  if units = 0 then c
  else
    let free := c.get DROVE_RXPOOL_free_units
    (c.raiseIf (decide (free ≤ c.get DROVE_RXPOOL_PRESS_pressure_units)) 0x180).set DROVE_RXPOOL_free_units (free + units)

/-- Units of a message that are freed (R114): granted back at once while the pool is above its mark and the connection is open, within max_grant;
otherwise they go to the pool. -/
def Chip.freeUnits (c : Chip) (ctx units : Nat) : Chip :=
  if units = 0 then c
  else
    let press := decide (c.get DROVE_RXPOOL_free_units ≤ c.get DROVE_RXPOOL_PRESS_pressure_units)
    match c.conns.get? ctx with
    | some n =>
      if n.transport ≠ .drove then c
      else if n.state = .opened && !press then
        let back := min units (n.maxGrant - ahead 32 n.creditLimit n.consumed)
        (c.updConn ctx (fun n => { n with creditLimit := (n.creditLimit + back) % 2 ^ 32 })).poolReturn (units - back)
      else c.poolReturn units
    | none => c.poolReturn units

def unitsOf (msgLen : Nat) : Nat := ceilDiv msgLen 4096

/-- Messages whose finals have not been delivered are discarded, and the room the connection holds returns to the pool (R94, R114, R120). -/
def Chip.dropMessages (c : Chip) (ctx : Nat) : Chip :=
  match c.conns.get? ctx with
  | none => c
  | some n =>
    let held := (n.msgs.vals.map (fun (m : RxMsg) => m.units)).sum
    let room := if n.transport = .drove then ahead 32 n.creditLimit n.consumed else 0
    let c := { c with creditQ := c.creditQ.filter (· ≠ ctx) }
    let c := c.set DROVE_RXPOOL_PRESS_waiting c.creditQ.length
    (c.updConn ctx (fun n => { n with msgs := [], wanted := none, consumed := n.creditLimit, capsules := [] })).poolReturn (held + room)

/-- The queue pair of a context is lost: the command in hand settles its commands (R176). -/
def Chip.loseQueue (c : Chip) (ctx : Nat) : Chip :=
  match c.conns.get? ctx with
  | some n => { c with lost := if c.lost.any (fun x => x.1 = ctx) then c.lost else c.lost ++ [(ctx, if n.connected then some (n.ctrl, n.qid) else none)] }
  | none => c

/-- Free a context. -/
def Chip.freeContext (c : Chip) (ctx : Nat) : Chip :=
  match c.conns.get? ctx with
  | none => c
  | some n =>
    let c := (c.dropMessages ctx).dropMeters ctx
    let c := (List.range 8).foldl (fun c p => c.pathDel (ctx * 8 + p)) c
    let c := if n.transport = .drove && n.state = .opened then c.lessen (versionField n.version) else c
    { c with conns := c.conns.del ctx }

/-- Send the CLOSE that waits, once the span has room for it (R94, R106), on these paths. -/
def Chip.sendClose (c : Chip) (ctx : Nat) (ps : List Nat) : Chip :=
  match c.conns.get? ctx with
  | none => c
  | some n => match n.txWait.head? with
    | none => c
    | some p =>
      if !n.spanRoom then c
      else
        let wire := n.wire 0x22 0 n.txNext 0 0 0 0 p.body
        let p := { p with psn := n.txNext, sentNs := c.clk, gen := n.gen, wire := wire, path := ps.head?.getD n.lastPath }
        let c := ps.foldl (fun (c : Chip) path => c.putWire ctx path 0x22 p.psn n.gen wire) (c.gcmOp ctx 8)
        c.updConn ctx (fun n => { n.encrypted with unacked := [p], txWait := [], txNext := (n.txNext + 1) % 2 ^ 32, closePkt := some p })

/-- End a Drove connection with a CLOSE (R94): the packet is sent, the context answers with CLOSE until close_hold_ms has passed, and the queue pair
is lost. `all` sends it on every path (R101). -/
def Chip.closeDrove (c : Chip) (ctx reason : Nat) (all : Bool := false) : Chip :=
  match c.conns.get? ctx with
  | none => c
  | some n =>
    if n.transport ≠ .drove || n.state = .closing then c
    else
      let p : TxPkt := ⟨0, 0x22, 0, 0, 0, 0, be 2 reason ++ zeros 6, 0, 0, 0, 0, []⟩
      let c := if n.state = .opened then c.lessen (versionField n.version) else c
      let ps := if all then n.paths.keys else [(n.spray none).getD n.lastPath]
      let c := (c.dropMessages ctx).loseQueue ctx
      (c.updConn ctx (fun n => { n with state := .closing, txWait := [p] })).sendClose ctx ps

/-- Answer a packet of a closing connection with its CLOSE, byte for byte as it was sent (R94, R109). -/
def Chip.repeatClose (c : Chip) (ctx path : Nat) : Chip :=
  match (c.conns.get? ctx).bind (fun n => n.closePkt) with
  | some p => c.putWire ctx path 0x22 p.psn p.gen p.wire
  | none => c

/-! ### Rekeying (R97, R98) -/

/-- The last packet of a generation is a CLOSE (R97). -/
def Chip.lastPacket (c : Chip) (ctx : Nat) : Chip :=
  match c.conns.get? ctx with
  | some n => if n.state = .opened && decide (2 ^ 32 - 2 ≤ n.sent) then c.closeDrove ctx 0x000A else c
  | none => c

/-- Start a rekey, unless one is open. After generation 2^32 − 1 there is none. -/
def Chip.startRekey (c : Chip) (ctx : Nat) : Chip :=
  match c.conns.get? ctx with
  | none => c
  | some n =>
    if n.rekeyOpen || n.state ≠ .opened then c
    else if n.gen = 2 ^ 32 - 1 then c.closeDrove ctx 0x000A
    else ((c.updConn ctx (fun n => { n with rekeyOpen := true, rekeySent := true })).raise (droveEvent ctx 4)).sendSeq ctx 0x20 0 0 0 0 (be 4 (n.gen + 1) ++ zeros 4)

/-- Any count under the current generation that reaches 2^31 starts a rekey (R97). -/
def Chip.checkCounts (c : Chip) (ctx : Nat) : Chip :=
  match c.conns.get? ctx with
  | none => c
  | some n =>
    let c := if n.transport = .drove && (decide (2 ^ 31 ≤ n.sent) || decide (2 ^ 31 ≤ n.received)) then c.startRekey ctx else c
    c.lastPacket ctx

/-- Generations that the chip accepts now: the current one, the old one during the grace, and the next once it has sent REKEY. -/
def Conn.accepts (n : Conn) (byte : Nat) : Option Nat :=
  if n.gen % 256 = byte then some n.gen
  else if n.rekeySent && (n.gen + 1) % 256 = byte then some (n.gen + 1)
  else if n.oldGen && (n.gen + 2 ^ 32 - 1) % 256 = byte then some (n.gen - 1) else none

/-! ### Resending -/

/-- Resend a packet (R109): with its psn unchanged, under the current generation once its own is no longer accepted, on another live path where there
is one. While sending is stopped a packet of a message is not resent under the current generation (R97), nor is any while no path is live; neither counts as a resend. After retry_max
resends the connection is failed. -/
def Chip.resend (c : Chip) (ctx psn : Nat) : Chip :=
  match c.conns.get? ctx with
  | none => c
  | some n =>
    match n.unacked.find? (fun p => p.psn = psn) with
    | none => c
    | some p =>
      if n.retryMax ≤ p.resends then if n.state = .closing then c else ((c.raise (droveEvent ctx 0x0A)).cntDrove 15).closeDrove ctx 0x0009
      else
        let kept := p.gen = n.gen || (n.oldGen && p.gen + 1 = n.gen)
        let gen := if kept then p.gen else n.gen
        match (if n.stopped && p.stops && gen = n.gen then none else n.spray (some p.path)) with
        | none => c
        | some path =>
          let wire := if kept then p.wire else n.wire p.type p.final p.psn p.msn p.offset p.msgLen p.aux p.body
          let c := ((if kept then c else c.gcmOp ctx p.body.length).putWire ctx path p.type p.psn gen wire).cntDrove 8
          let c := c.updConn ctx (fun n =>
            let n := (if kept then n else n.encrypted).charge path
            { n with unacked := n.unacked.map (fun q =>
                if q.psn = psn then { q with resends := q.resends + 1, sentNs := c.clk, path := path, gen := gen, wire := wire } else q) })
          c.sentMarks ctx n.sent

/-! ### Acknowledging -/

/-- The sack bitmap: bit i says that psn cum + 1 + i is received (R110). -/
def Conn.sack (n : Conn) : Nat := maskOf ((n.rxBits.map (fun p => ahead 32 p (n.rxCum + 1))).filter (fun d => decide (d < 64)))

/-- Send an ACK (R108, R110). Where no path is live it stays due (R101). -/
def Chip.sendAck (c : Chip) (ctx : Nat) : Chip :=
  match c.conns.get? ctx with
  | none => c
  | some n =>
    let body := be 4 n.rxCum ++ be 8 n.sack ++ be 4 n.creditLimit ++ be 2 0 ++ be 1 n.ceMask ++ be 1 0 ++ be 4 n.nextMsn ++ be 8 0
    match n.ackPath with
    | none => c
    | some path => (c.sendCtl ctx path 0x10 body).updConn ctx (fun n => { n with ackFrom := none, newPkts := 0, ceMask := 0 })

/-- The missing ranges above cum and below the highest psn received, lowest first, each of 1 to 4,096 psn (R111, R112). -/
def Conn.missing (n : Conn) : List (Nat × Nat) :=
  let ds := sortBy id (n.rxBits.map (fun p => ahead 32 p n.rxCum))
  let r := ds.foldl (fun (acc : Nat × List (Nat × Nat)) d => (d + 1, if acc.1 < d then acc.2 ++ [((n.rxCum + acc.1) % 2 ^ 32, min 4096 (d - acc.1))] else acc.2)) (0, [])
  r.2

/-- Send a NACK of these ranges; a psn named by 3 NACKs in a row raises the persistent-gap event (R111, R112). A psn that an earlier NACK named stays named, its run at an end (R108). -/
def Chip.nackRanges (c : Chip) (ctx : Nat) (rs : List (Nat × Nat)) : Chip :=
  match c.conns.get? ctx with
  | none => c
  | some n =>
    match (if rs.isEmpty then none else n.ackPath) with
    | none => c
    | some path =>
      let psns := rs.flatMap (fun r => (List.range r.2).map (fun i => (r.1 + i) % 2 ^ 32))
      let again := psns.foldl (fun (t : Tab Nat) p => t.put p (n.named.getD p 0 + 1)) []
      let named := n.named.foldl (fun (t : Tab Nat) e => if t.has e.1 then t else t.put e.1 0) again
      let body := be 1 rs.length ++ be 3 0 ++ be 4 n.rxCum ++ rs.flatMap (fun r => be 4 r.1 ++ be 2 r.2 ++ be 2 0)
      let c := (c.sendCtl ctx path 0x11 body).cntDrove 6
      let c := c.updConn ctx (fun n => { n with named := named })
      c.raiseIf (again.any (fun e => decide (e.2 = 3))) (droveEvent ctx 0x0B)

/-- Send a NACK naming up to `most` of the lowest missing ranges. -/
def Chip.sendNack (c : Chip) (ctx most : Nat) : Chip :=
  match c.conns.get? ctx with
  | some n => c.nackRanges ctx (n.missing.take most)
  | none => c

/-! ### Credits (R115) -/

/-- Serve the waiting requests in the order they arrived, each in full, as the pool allows; an ACK carries the new limit to the host at once (DESIGN CHOICE, assumption 29: R115 names no
sending). -/
def Chip.serveCredits : List Nat → Chip → Chip
  | [], c => c
  | ctx :: rest, c =>
    match c.conns.get? ctx with
    | none => Chip.serveCredits rest { c with creditQ := c.creditQ.filter (· ≠ ctx) }
    | some n =>
      let want := min ((n.wanted.map (·.1)).getD 0) (n.maxGrant - ahead 32 n.creditLimit n.consumed)
      let free := c.get DROVE_RXPOOL_free_units
      if free < want then c
      else
        let c := (c.set DROVE_RXPOOL_free_units (free - want)).updConn ctx (fun n => { n with creditLimit := (n.creditLimit + want) % 2 ^ 32, wanted := none })
        let c := { c with creditQ := c.creditQ.filter (· ≠ ctx) }
        let c := c.raiseIf (0 < want && decide (free - want ≤ c.get DROVE_RXPOOL_PRESS_pressure_units) &&
          decide (c.get DROVE_RXPOOL_PRESS_pressure_units < free)) 0x180
        Chip.serveCredits rest (if want = 0 then c else c.sendAck ctx)

def Chip.creditPass (c : Chip) : Chip :=
  let c := Chip.serveCredits c.creditQ c
  c.set DROVE_RXPOOL_PRESS_waiting c.creditQ.length

end Sys2Proof.Machine
end

