-- ==== Sys2Proof/Machine/Map.lean ====
section
/-!
DEFINITION. The lookup islands: extents, members and epochs, the hashed tables with their cuckoo moves and fall-back memories, region masks, lookup,
learns, rehash, map deltas (R130 to R151, R508), path ageing and the exchange of paths (R152 to R156).
-/

namespace Sys2Proof.Machine

/-! ### Mirror records (R202, R204) -/

/-- Does the chip send mirror records? -/
def Chip.mirroring (c : Chip) : Bool := !c.flag CACHE_STATUS_solo

/-- The paddock that a record's header names. -/
def Chip.recordPaddock (c : Chip) : MirRec → Nat
  | .line l => l.paddock
  | .delta _ paddock _ _ _ _ => paddock
  | .journal _ e => ((c.vols.get? e.volume).map (·.paddock)).getD 0
  | .retire volume _ _ _ _ => ((c.vols.get? volume).map (·.paddock)).getD 0
  | .discard volume _ _ _ => ((c.vols.get? volume).map (·.paddock)).getD 0

/-- Send a record to the partner under the next mseq. Solo, nothing is sent and 0 is answered; map deltas are kept for the next pairing (R392). -/
def Chip.mirrorPush (c : Chip) (r : MirRec) : Nat × Chip :=
  if c.mirroring then
    let m := c.mirror.nextSeq
    let oldest := if c.mirror.unacked.isEmpty then c.clk else c.mirror.oldestNs
    let stack := match r with
      | .line l => c.stackOf l.volume l.lba
      | _ => 0
    (m, ((({ c with mirror := { c.mirror with nextSeq := m + 1, unacked := c.mirror.unacked ++ [(m, r)], oldestNs := oldest } } : Chip).cross (cacheId stack) partId 4).send
      (.mirror m (r.header m (c.recordPaddock r)) r.body r)).cntCache 11)
  else match r with
    | .delta fold paddock volume adm dseq d => (0, { c with mirror := { c.mirror with missed := c.mirror.missed ++ [⟨fold, paddock, volume, adm, dseq, d⟩] } })
    | _ => (0, c)

/-- Has held_mseq passed a record (R203)? Records sent while solo are none; a chip that has become solo waits for none. -/
def Chip.heldPast (c : Chip) (m : Nat) : Bool := m = 0 || !c.mirroring || decide (m < c.mirror.heldSeq)

/-! ### Map deltas (R508) -/

/-- Make a map delta (R508) and send it. -/
def Chip.sendDelta (c : Chip) (fold paddock volume adm : Nat) (d : Delta) : Nat × Chip :=
  let n := c.map.dseq + 1
  ({ c with map := { c.map with dseq := n, recent := c.map.recent ++ [⟨fold, paddock, volume, adm, n, d⟩] } } : Chip).mirrorPush (.delta fold paddock volume adm n d)

/-! ### Entries (R130 to R134) -/

def Entry.ofWords (w0 w1 : Nat) : Option Entry :=
  if bit w0 61 then some ⟨bits w0 60 45, bits w0 44 40, bits w0 39 0, bit w0 62, bits w1 31 0, bits w1 33 32, bits w1 39 34, bits w1 59 40⟩ else none

/-- The position of an owner among the ancestors, nearest first, whose cut admits the birth (R131). -/
def ancestorRank (owner birth : Nat) : List (Nat × Nat) → Nat → Option Nat
  | [], _ => none
  | (a, cut) :: rest, i => if owner = a then (if birth ≤ cut then some i else none) else ancestorRank owner birth rest (i + 1)

/-- The rank of an entry to a member, when it is visible; the member's own entries only up to an epoch (R131, R236). -/
def Entry.rank (e : Entry) (v : Volume) (ep : Nat) : Option Nat :=
  if e.owner = v.member then (if e.birth ≤ ep then some 0 else none) else ancestorRank e.owner e.birth v.ancestry 1

/-- A visible entry is private when its owner is the member and its birth the member's epoch (R131). -/
def Entry.unshared (e : Entry) (v : Volume) (ep : Nat) : Bool := e.owner = v.member && e.birth = ep

/-- The physical acre of an acre address under an entry (R134). -/
def Entry.acre (e : Entry) (a : Nat) : Nat := e.pbase + (a - e.start)

/-- The first acre address of the extent of length k that holds a (R133). -/
def extentStart (a k : Nat) : Nat := a / 2 ^ k * 2 ^ k

/-- The half that holds a key (R135). -/
def halfOf (lineage start : Nat) : Nat := b2n (bit start 20 != bit lineage 0)

def acreOf (lba : Nat) : Nat := lba / 1024

/-! ### Hash tables (R136, R137) -/

def mul64 (a b : Nat) : Nat := a * b % 2 ^ 64

/-- The two candidate buckets of a key. -/
def bucketsOf (s seed lineage k start : Nat) : Nat × Nat :=
  let x := (lineage * 2 ^ 45 + k * 2 ^ 40 + start) ^^^ seed
  let x := mul64 (x ^^^ (x / 2 ^ 30)) 0xBF58476D1CE4E5B9
  let x := mul64 (x ^^^ (x / 2 ^ 27)) 0x94D049BB133111EB
  let x := x ^^^ (x / 2 ^ 31)
  let b1 := x % 2 ^ s
  let b2 := x / 2 ^ 32 % 2 ^ s
  (b1, if b2 = b1 then b1 ^^^ 1 else b2)

/-- A hashed table: base address, size exponent, seed. -/
structure Table where
  half : Nat
  k    : Nat
  base : Nat
  s    : Nat
  seed : Nat

def Table.buckets (t : Table) (e : Entry) : Nat × Nat := bucketsOf t.s t.seed e.lineage e.k e.start

def Table.slot (t : Table) (b i : Nat) : Nat := t.base + b * 64 + i * 16

/-- Table k of a half as the registers give it. -/
def Chip.table (c : Chip) (h k : Nat) : Table :=
  ⟨h, k, c.get MAP_TBL_CFG_base_64b h k * 64, clamp 10 27 (c.get MAP_TBL_CFG_s h k), c.get MAP_TBL_SEED_seed h k⟩

/-- The new table of a rehash under way (R149). -/
def Chip.nextTable (c : Chip) (h k : Nat) : Option Table :=
  match c.map.rehash.get? h with
  | some r => if r.k = k && c.flag MAP_TBL_NEXT_active h k then some ⟨h, k, r.newBase, r.newS, r.newSeed⟩ else none
  | none => none

def Chip.readSlot (c : Chip) (a : Nat) : Option Entry :=
  let b := memReadN c.hbm a 16
  Entry.ofWords (unle (b.take 8)) (unle (b.drop 8))

def Chip.writeSlot (c : Chip) (a : Nat) (e : Option Entry) : Chip :=
  { c with hbm := memWriteN c.hbm a (match e with
    | some e => le 8 e.words.1 ++ le 8 e.words.2
    | none => zeros 16) }

/-- Are the write engines paused (R147, R158)? Then no entry is inserted, moved or removed, and what would is left waiting. -/
def Chip.enginePaused (c : Chip) : Bool := c.flag MAP_CTL_engine_pause

/-- Raise the version of a bucket's stripe (R146). -/
def Chip.bumpVersion (c : Chip) (t : Table) (b : Nat) : Chip :=
  { c with map := { c.map with
      versions := c.map.versions.updD ((t.half * 32 + t.k) * 4096 + b % 4096) 0 (fun n => (n + 1) % 65536),
      movedNs := c.map.movedNs.put t.half c.clk } }

/-- The first free slot of a bucket. -/
def Chip.freeSlot (c : Chip) (t : Table) (b : Nat) : Option Nat := (List.range 4).find? (fun i => (c.readSlot (t.slot b i)).isNone)

/-- The entries of a key in a table, with their addresses: all 8 slots of both buckets are tested (R140). -/
def Chip.probe (c : Chip) (t : Table) (lineage start : Nat) : List (Nat × Entry) :=
  let bs := bucketsOf t.s t.seed lineage t.k start
  ([bs.1, bs.2].flatMap (fun b => (List.range 4).map (fun i => t.slot b i))).filterMap (fun a =>
    match c.readSlot a with
    | some e => if e.lineage = lineage && e.k = t.k && e.start = start then some (a, e) else none
    | none => none)

/-- Occupancy of a table as shown; above 90 % it raises event 0x207 (R148). -/
def Chip.countTable (c : Chip) (t : Table) (n : Nat) : Chip :=
  let slots := 2 ^ t.s * 4
  (c.set MAP_TBL_STAT_entries n t.half t.k).set MAP_TBL_STAT_occ_pct (n * 100 / slots) t.half t.k

/-- Up to 32 cuckoo moves (R146): each takes slot (move count mod 4) of the current bucket and moves its occupant to that occupant's other bucket. Answers the
entry left without a slot, and the buckets that the moves touched, the last move's first. -/
def cuckoo (t : Table) : Nat → Nat → Nat → Entry → List (Nat × Nat) → Chip → Option Entry × List (Nat × Nat) × Chip
  | 0, _, _, hand, moves, c => (some hand, moves, c)
  | fuel + 1, n, cur, hand, moves, c =>
    let a := t.slot cur (n % 4)
    match c.readSlot a with
    | none => (none, moves, c.writeSlot a (some hand))
    | some victim =>
      let bs := t.buckets victim
      let other := if cur = bs.1 then bs.2 else bs.1
      let c := (((c.writeSlot a (some hand)).bumpVersion t cur).bumpVersion t other).cntMap 8
      match c.freeSlot t other with
      | some i => (none, (cur, other) :: moves, c.writeSlot (t.slot other i) (some victim))
      | none => cuckoo t fuel (n + 1) other victim ((cur, other) :: moves) c

/-- Insert into one table: the first free slot of b1, then of b2, then the moves. -/
def Chip.tableInsert (c : Chip) (t : Table) (e : Entry) : Option Entry × List (Nat × Nat) × Chip :=
  let bs := t.buckets e
  match c.freeSlot t bs.1 with
  | some i => (none, [], c.writeSlot (t.slot bs.1 i) (some e))
  | none =>
    match c.freeSlot t bs.2 with
    | some i => (none, [], c.writeSlot (t.slot bs.2 i) (some e))
    | none => cuckoo t 32 0 bs.1 e [] c

/-- Undo moves in reverse order: the entries are where they were, and the versions of the buckets touched rise again (R146). -/
def Chip.undoMoves (c : Chip) (was : Chip) (t : Table) (moves : List (Nat × Nat)) : Chip :=
  moves.foldl (fun (c : Chip) m => (c.bumpVersion t m.1).bumpVersion t m.2) { c with hbm := was.hbm }

def Chip.fallbackSize (c : Chip) : Nat := if c.oneStack then 8192 else 16384

def Chip.setFallback (c : Chip) (h : Nat) (l : List Entry) : Chip :=
  ({ c with map := { c.map with fallback := c.map.fallback.put h l } } : Chip).set MAP_FB_STAT_used l.length h

/-- Place an entry in a table; what finds no slot goes to the fall-back memory of the half (event 0x202; above 90 % 0x208); when that is full the moves are undone and nothing is placed
(R146, R148). Answers how many entries the table gained. -/
def Chip.placeIn (c : Chip) (t : Table) (e : Entry) : Option Nat × Chip :=
  let r := c.tableInsert t e
  match r.1 with
  | none => (some 1, r.2.2)
  | some spill =>
    let fb := c.map.fallback.getD t.half []
    if c.fallbackSize ≤ fb.length then (none, r.2.2.undoMoves c t r.2.1)
    else
      let c := ((r.2.2.setFallback t.half (insertBy (fun (x : Entry) => x.k) spill fb)).cntMap 9).raise 0x202
      (some 0, c.raiseIf (fb.length * 100 ≤ c.fallbackSize * 90 && decide (c.fallbackSize * 90 < (fb.length + 1) * 100)) 0x208)

/-- Insert into the tables of the entry's half: into the new table while its length is being rehashed (R149). Above 90 % the table raises event 0x207 (R148). Answers whether
the insertion found room. -/
def Chip.insertEntry (c : Chip) (e : Entry) : Bool × Chip :=
  let h := halfOf e.lineage e.start
  let t := (c.nextTable h e.k).getD (c.table h e.k)
  let n := c.get MAP_TBL_STAT_entries h e.k
  let r := c.placeIn t e
  match r.1 with
  | none => (false, r.2)
  | some g => (true, (r.2.countTable t (n + g)).raiseIf (n * 100 ≤ 2 ^ t.s * 4 * 90 && decide (2 ^ t.s * 4 * 90 < (n + g) * 100)) 0x207)

/-- Take out the entry whose words equal these (R508). -/
def Chip.removeEntry (c : Chip) (e : Entry) : Chip :=
  let h := halfOf e.lineage e.start
  let fb := c.map.fallback.getD h []
  if fb.contains e then c.setFallback h (fb.erase e)
  else
    let ts := (c.nextTable h e.k).toList ++ [c.table h e.k]
    match ts.findSome? (fun t => (c.probe t e.lineage e.start).findSome? (fun p => if p.2 = e then some (t, p.1) else none)) with
    | some (t, a) => ((c.writeSlot a none).bumpVersion t ((a - t.base) / 64)).countTable t (c.get MAP_TBL_STAT_entries h e.k - 1)
    | none => c

/-- Every entry of the map that satisfies a test: the tables of both halves read in order, then the fall-back memories. -/
def Chip.tableEntries (c : Chip) (t : Table) : List Entry :=
  let lo := t.base
  let hi := t.base + 2 ^ t.s * 64
  let slots := (c.hbm.filter (fun x => decide (lo ≤ x.1) && decide (x.1 < hi))).foldl
    (fun (acc : List Nat) x => let a := lo + (x.1 - lo) / 16 * 16; if acc.head? = some a then acc else a :: acc) []
  slots.reverse.filterMap c.readSlot

def Chip.allEntries (c : Chip) : List Entry :=
  (List.range 2).flatMap (fun h =>
    (List.range 21).flatMap (fun k => ((c.nextTable h k).toList ++ [c.table h k]).flatMap c.tableEntries) ++ c.map.fallback.getD h [])

/-! ### Region masks and filters (R138) -/

def rgnS (d : Ident) : Nat := if d.half then 19 else 20

/-- The 8 slots where the mask of a region may lie. -/
def Chip.rgnSlots (c : Chip) (lineage region : Nat) : List Nat :=
  let h := halfOf lineage (region * 16384)
  let bs := bucketsOf (rgnS c.layoutId) (c.map.rgnSeed.getD h 0) lineage 31 region
  [bs.1, bs.2].flatMap (fun b => (List.range 4).map (fun i => h * 2 ^ 22 + b * 4 + i))

def Chip.rgnFind (c : Chip) (lineage region : Nat) : Option (Nat × Nat) :=
  (c.rgnSlots lineage region).findSome? (fun a => match c.map.regions.get? a with
    | some (l, r, m) => if l = lineage && r = region then some (a, m) else none
    | none => none)

/-- The mask of a region; a region without one holds no entries of k ≤ 13. -/
def Chip.regionMask (c : Chip) (lineage region : Nat) : Nat := ((c.rgnFind lineage region).map (·.2)).getD 0

def Chip.showRegions (c : Chip) (h : Nat) : Chip := c.set MAP_RGN_CFG_used (c.map.regions.keep (fun a _ => a / 2 ^ 22 = h)).length h

/-- Change bits of a region mask; `none` when the region needs an entry and the table has no room. -/
def Chip.rgnBits (c : Chip) (lineage region mask : Nat) (on : Bool) : Option Chip :=
  let h := halfOf lineage (region * 16384)
  match c.rgnFind lineage region with
  | some (a, m) =>
    let m := if on then m ||| mask else m &&& (mask ^^^ 0x3FFF)
    let regions := if m = 0 then c.map.regions.del a else c.map.regions.put a (lineage, region, m)
    some (({ c with map := { c.map with regions := regions } } : Chip).showRegions h)
  | none =>
    if !on then some c
    else match (c.rgnSlots lineage region).find? (fun a => !c.map.regions.has a) with
      | some a => some (({ c with map := { c.map with regions := c.map.regions.put a (lineage, region, mask) } } : Chip).showRegions h)
      | none => none

/-- The volume that is a member of a lineage. -/
def Chip.memberVol (c : Chip) (lineage member : Nat) : Option (Nat × Volume) := c.vols.first? (fun _ v => v.lineage = lineage && v.member = member)

/-- Change filter bits of a member. -/
def Chip.filterBits (c : Chip) (lineage member mask : Nat) (on : Bool) : Chip :=
  match c.memberVol lineage member with
  | some (i, v) => { c with vols := c.vols.put i { v with filter := if on then v.filter ||| mask else v.filter &&& (mask ^^^ 0x1FFFFF) } }
  | none => c

def Chip.setFilterOnly (c : Chip) (lineage : Nat) (on : Bool) : Chip :=
  { c with map := { c.map with filterOnly := if on then addNew lineage c.map.filterOnly else c.map.filterOnly.filter (· ≠ lineage) } }

/-! ### Lookup (R139 to R141) -/

/-- The best of the visible entries of one length: lowest rank, then highest birth. -/
def bestOf (v : Volume) (ep : Nat) (es : List Entry) : Option Entry :=
  es.foldl (fun best e => match e.rank v ep, best with
    | none, b => b
    | some _, none => some e
    | some r, some b =>
      let rb := (b.rank v ep).getD 99
      if r < rb || (r = rb && decide (b.birth < e.birth)) then some e else some b) none

/-- The first visible match of the fall-back memory, smallest k first (R139). -/
def Chip.fallbackFind (c : Chip) (v : Volume) (ep a : Nat) : Option Entry :=
  let half := fun e : Entry => decide (e.lineage = v.lineage) && decide (e.start = extentStart a e.k) && (e.rank v ep).isSome
  (c.map.fallback.getD (halfOf v.lineage a) []).find? half

/-- The lengths to probe (R140). -/
def Chip.lens (c : Chip) (v : Volume) (a : Nat) : Nat :=
  if c.map.filterOnly.contains v.lineage then v.filter
  else v.filter / 2 ^ 14 * 2 ^ 14 + (v.filter % 2 ^ 14 &&& c.regionMask v.lineage (a / 16384))

/-- Probe the lengths in order, longest prefix first, beside the fall-back result. -/
def Chip.probeLens (c : Chip) (v : Volume) (ep a : Nat) (fb : Option Entry) : List Nat → Nat → Option Entry × Nat
  | [], n => (fb, n)
  | k :: ks, n =>
    match fb with
    | some f =>
      if f.k < k then (fb, n)
      else
        let es := ((c.nextTable (halfOf v.lineage a) k).toList ++ [c.table (halfOf v.lineage a) k]).flatMap (fun t =>
          (c.probe t v.lineage (extentStart a k)).map (·.2))
        match bestOf v ep es with
        | some e => (if f.k = k then bestOf v ep [e, f] else some e, n + 1)
        | none => Chip.probeLens c v ep a fb ks (n + 1)
    | none =>
      let es := ((c.nextTable (halfOf v.lineage a) k).toList ++ [c.table (halfOf v.lineage a) k]).flatMap (fun t =>
        (c.probe t v.lineage (extentStart a k)).map (·.2))
      match bestOf v ep es with
      | some e => (some e, n + 1)
      | none => Chip.probeLens c v ep a fb ks (n + 1)

/-- A lookup of an acre for a member at an epoch: the entry, and how many lengths were probed. -/
def Chip.lookupAt (c : Chip) (v : Volume) (ep a : Nat) : Option Entry × Nat :=
  c.probeLens v ep a (c.fallbackFind v ep a) (bitList (c.lens v a) 21) 0

/-- The entry of an acre for a member, as it stands. -/
def Chip.entryOf (c : Chip) (v : Volume) (a : Nat) : Option Entry := (c.lookupAt v v.epoch a).1

/-- Count a lookup (R158): its probes, its misses of the map cache, and, when a write engine changed a bucket of the half at this moment, its repeats and its slow path (R147). The result of the lookup
is the same in all of them, for no lookup misses an entry that stays. -/
def Chip.countLookup (c : Chip) (v : Volume) (a : Nat) : Chip :=
  let r := c.lookupAt v v.epoch a
  let moved := !c.enginePaused && decide (0 < r.2) && c.map.movedNs.get? (halfOf v.lineage a) = some c.clk
  let again := if moved then Config.probeRepeats v.lineage a c.clk else 0
  let slow := decide (2 < again) && c.flag MAP_CTL_slowpath_en
  let c := ((c.cntMap 0).cntMap 1 r.2).cntMap 2 (min (2 * r.2) (Config.mapCacheMisses v.lineage a c.clk))
  let c := c.cntMap 4 (if slow then 2 else again)
  let c := if slow then (c.cntMap 5).raiseLtd 0x209 0 second else c
  match c.fallbackFind v v.epoch a, r.1 with
  | some f, some e => if f = e then c.cntMap 3 else c
  | _, _ => c

/-- The result of a lookup to a CMD island (R141): may a write of the member go to the mapped acre? -/
def Chip.writable? (c : Chip) (v : Volume) (a : Nat) : Bool :=
  match c.entryOf v a with
  | some e => !e.zero && e.unshared v v.epoch
  | none => false

/-! ### Insertions and removals by the owner (R138, R146, R150, R508) -/

/-- Set the filter bit and the region mask bit of an entry, before it becomes visible; a full region table sets the lineage filter-only. A filter-only lineage's masks are still kept as far as
they find room. -/
def Chip.markEntry (c : Chip) (e : Entry) (fold paddock volume adm : Nat) : Chip :=
  let has := match c.memberVol e.lineage e.owner with
    | some (_, v) => bit v.filter e.k
    | none => true
  let c := if has then c
    else ((c.filterBits e.lineage e.owner (2 ^ e.k) true).sendDelta fold paddock volume adm (.bits e.lineage e.owner none true (2 ^ e.k))).2
  let region := e.start / 16384
  if e.k ≤ 13 && !bit (c.regionMask e.lineage region) e.k then
    match c.rgnBits e.lineage region (2 ^ e.k) true with
    | some c => (c.sendDelta fold paddock volume adm (.bits e.lineage 0xFF (some region) true (2 ^ e.k))).2
    | none => if c.map.filterOnly.contains e.lineage then c else (((c.setFilterOnly e.lineage true).raise 0x20B).sendDelta fold paddock volume adm (.filterOnly e.lineage true)).2
  else c

def Chip.mapRemove (c : Chip) (e : Entry) (fold paddock volume adm : Nat) : Chip :=
  ((c.removeEntry e).sendDelta fold paddock volume adm (.remove e)).2

/-! ### Learns (R142, R143) -/

def learnRing : Nat := 4096

def Chip.showLearns (c : Chip) (h : Nat) : Chip :=
  let open_ := c.map.learns.keep (fun _ l => l.half = h)
  let queued := (open_.keep (fun _ l => l.queued)).length
  ((c.set MAP_LEARN_STAT_open open_.length h).set MAP_LEARN_STAT_queued queued h).peak MAP_LEARN_STAT_peak queued h

/-- The record of a learn (R143): 32 bytes, little-endian. -/
def Learn.bytes (l : Learn) (id_ : Nat) : Bytes :=
  le 1 l.kind ++ le 1 (b2n l.whole) ++ le 2 l.volume ++ le 2 l.lineage ++ le 1 l.member ++ le 1 l.foundK ++ le 8 l.acre ++
    le 4 ((l.found.map (fun e => e.birth + e.owner * 2 ^ 20)).getD 0) ++ le 4 l.epoch ++ le 4 id_ ++ le 4 (l.admSeq % 2 ^ 32)

/-- Is a half's learn queue full? -/
def Chip.ringFull (c : Chip) (half : Nat) : Bool := decide (learnRing ≤ (c.map.learns.keep (fun _ l => l.half = half && l.queued)).length)

/-- The open learn of a member and acre. -/
def Chip.openLearn? (c : Chip) (volume lineage acre : Nat) : Option (Nat × Learn) :=
  c.map.learns.first? (fun _ l => l.volume = volume && l.acre = acre && l.lineage = lineage)

/-- Write a new learn into its queue. -/
def Chip.openLearn (c : Chip) (volume : Nat) (v : Volume) (acre kind adm : Nat) (whole : Bool) (covered : List (Nat × Nat)) (waiting : List Nat) : Nat × Chip :=
  let found := c.entryOf v acre
  let i := c.map.learnId
  let l : Learn := ⟨kind, whole, volume, v.member, v.lineage, (found.map (·.k)).getD 0x1F, found, acre, v.epoch, adm, halfOf v.lineage acre, true, covered, waiting, none, [], []⟩
  let c := ({ c with map := { c.map with learns := c.map.learns.put i { l with record := l.bytes i }, learnId := (i + 1) % 2 ^ 32 } } : Chip).cntMap 6
  (i, c.showLearns l.half)

/-- A write, or a deallocation of whole acres, that needs a learn joins an open one of its member and acre, or raises one (R142). `key` is the command. `none` when the learn queue has no
room: the command waits without a record (R143). -/
def Chip.raiseLearn (c : Chip) (key volume : Nat) (v : Volume) (acre kind adm : Nat) (whole : Bool) (covered : List (Nat × Nat)) : Option Nat × Chip :=
  match c.openLearn? volume v.lineage acre with
  | some (i, l) =>
    if l.waiting.contains key then (some i, c)
    else (some i, ({ c with map := { c.map with learns := c.map.learns.put i { l with waiting := l.waiting ++ [key] } } } : Chip).cntMap 7)
  | none =>
    if c.ringFull (halfOf v.lineage acre) then (none, c)
    else
      let r := c.openLearn volume v acre kind adm whole covered [key]
      (some r.1, r.2)

/-- Close a learn. -/
def Chip.closeLearn (c : Chip) (i : Nat) : Chip :=
  match c.map.learns.get? i with
  | none => c
  | some l => ({ c with map := { c.map with learns := c.map.learns.del i } } : Chip).showLearns l.half

/-- The entry of a learn waits for room or for its engine; firmware has taken its record out of the queue. -/
def Chip.setPlacing (c : Chip) (i : Nat) (l : Learn) (e : Entry) : Chip :=
  ({ c with map := { c.map with learns := c.map.learns.put i { l with placing := some e, queued := false } } } : Chip).showLearns l.half

/-! ### Rehash (R148, R149) -/

/-- The free area of a half: what the layout leaves after its tables and region masks (R137). -/
def Chip.freeChunks (c : Chip) (h : Nat) : List (Nat × Nat) :=
  c.map.freeArea.getD h [(mapTableBase c.layoutId h 21 c.homeStack + mib (if c.oneStack then 16 else 32), mib (if c.oneStack then 128 else 256))]

def Chip.setChunks (c : Chip) (h : Nat) (l : List (Nat × Nat)) : Chip :=
  let c := { c with map := { c.map with freeArea := c.map.freeArea.put h l } }
  let total := fun i => ((c.freeChunks i).map (·.2)).sum / 1048576
  c.set MAP_STATUS_free_area_mib (total 0 % 65536 + total 1 % 65536 * 65536)

/-- Join chunks that touch. -/
def joinChunks (l : List (Nat × Nat)) : List (Nat × Nat) :=
  (sortBy (fun (x : Nat × Nat) => x.1) l).foldr (fun x acc => match acc with
    | y :: rest => if x.1 + x.2 = y.1 then (x.1, x.2 + y.2) :: rest else x :: acc
    | [] => [x]) []

/-- Take the first chunk that holds a table of 2^s buckets. -/
def Chip.takeChunk (c : Chip) (h s : Nat) : Option (Nat × Chip) :=
  let n := 2 ^ s * 64
  match (c.freeChunks h).find? (fun x => decide (n ≤ x.2)) with
  | some x => some (x.1, c.setChunks h ((c.freeChunks h).flatMap (fun y => if y = x then (if x.2 = n then [] else [(x.1 + n, x.2 - n)]) else [y])))
  | none => none

/-- Steps 1 and 2: choose s, draw the seed, take the space, clear and activate the new table. `none` where no s fits. -/
def Chip.rehashBegin (c : Chip) (h k want slot : Nat) : Option Chip :=
  let old := c.table h k
  let cand := (if want ≠ 0 then [want] else [old.s + 1, old.s]).filter (fun s => decide (10 ≤ s) && decide (s ≤ 27))
  match cand.findSome? (fun s => (c.takeChunk h s).map (fun r => (s, r))) with
  | none => none
  | some (s, base, c) =>
    let f := c.fresh
    let seed := f.1 % 2 ^ 64
    let c := { f.2 with hbm := f.2.hbm.filter (fun x => !(decide (base ≤ x.1) && decide (x.1 < base + 2 ^ s * 64))) }
    let c := { c with map := { c.map with rehash := c.map.rehash.put h ⟨k, slot, 3, 0, s, base, seed, 0, []⟩ } }
    let c := ((c.set MAP_TBL_NEXT_base_64b (base / 64) h k).set MAP_TBL_NEXT_s s h k).set MAP_TBL_NEXT_active 1 h k
    some ((c.set MAP_STATUS_rehash_busy (setBit (c.get MAP_STATUS_rehash_busy) h true)).raise 0x204)

/-- Sweep one bucket: its entries go to the new table, or to the fall-back memory. Where neither has room the sweep stops there, and the entry stays in the old table, where lookups find it
(DESIGN CHOICE, assumption 38). Answers whether the bucket is swept. -/
def Chip.sweepBucket (c : Chip) (old new : Table) (b : Nat) : Bool × Chip :=
  let r := (List.range 4).foldl (fun (acc : Bool × Chip) i =>
    let a := old.slot b i
    match acc.1, acc.2.readSlot a with
    | true, some e =>
      let n := acc.2.get MAP_TBL_STAT_entries old.half old.k
      let p := acc.2.placeIn new e
      (match p.1 with
      | some g => (true, (p.2.writeSlot a none).set MAP_TBL_STAT_entries (n - 1 + g) old.half old.k)
      | none => (false, p.2))
    | ok, _ => (ok, acc.2)) (true, c)
  (r.1, r.2.bumpVersion old b)

/-- Sweep up to n buckets from one on; answers how many are swept. -/
def Chip.sweepFrom (old new : Table) : Nat → Nat → Chip → Nat × Chip
  | 0, _, c => (0, c)
  | n + 1, b, c =>
    let r := c.sweepBucket old new b
    if !r.1 then (0, r.2)
    else
      let rest := Chip.sweepFrom old new n (b + 1) r.2
      (rest.1 + 1, rest.2)

/-- The vault block at which a map image of the store begins: 9 GiB each, from 256 MiB past STRIPE_REC_AREA (R460). -/
def Chip.mapImageLba (c : Chip) (slot : Nat) : Nat := c.get STRIPE_REC_AREA_base_lba + 65536 + slot * 2359296

/-- The seeds of the tables, by half and length, and of the region tables. -/
def Chip.mapSeeds (c : Chip) : List Nat :=
  (List.range 42).map (fun i => c.get MAP_TBL_SEED_seed (i / 21) (i % 21)) ++ [0, 1].map (fun h => c.map.rgnSeed.getD h 0)

/-- MAP_IMAGE_TIMER (R460): every 900 s, and at the end of each rehash, a map image goes into the older of the map store's two. -/
def Chip.writeMapImage (c : Chip) : Chip :=
  if c.flag MAP_CTL_en then ({ c with map := { c.map with imageNext := 1 - c.map.imageNext } } : Chip).send (.mapImage c.map.imageNext (c.mapImageLba c.map.imageNext) c.mapSeeds) else c

def mapImageTimer (c : Chip) : Chip := c.writeMapImage

/-- Steps 4 and 5: fall-back entries of the length are offered to the new table, which then replaces the old one. -/
def Chip.rehashEnd (c : Chip) (h : Nat) (r : Rehash) : Chip :=
  let old := c.table h r.k
  let new : Table := ⟨h, r.k, r.newBase, r.newS, r.newSeed⟩
  let c := (c.map.fallback.getD h []).foldl (fun (c : Chip) e =>
    if e.k ≠ r.k then c
    else
      let p := c.tableInsert new e
      match p.1 with
      | none => (p.2.2.setFallback h ((c.map.fallback.getD h []).erase e)).set MAP_TBL_STAT_entries (c.get MAP_TBL_STAT_entries h r.k + 1) h r.k
      | some _ => p.2.2.undoMoves c new p.2.1) c
  let c := ((c.set MAP_TBL_CFG_base_64b (r.newBase / 64) h r.k).set MAP_TBL_CFG_s r.newS h r.k).set MAP_TBL_SEED_seed r.newSeed h r.k
  let c := c.countTable new (c.get MAP_TBL_STAT_entries h r.k)
  let c := ((c.set MAP_TBL_NEXT_base_64b 0 h r.k).set MAP_TBL_NEXT_s 0 h r.k).set MAP_TBL_NEXT_active 0 h r.k
  let c := { c with map := { c.map with rehash := c.map.rehash.del h } }
  let c := c.setChunks h (joinChunks ((old.base, 2 ^ old.s * 64) :: c.freeChunks h))
  ((c.set MAP_STATUS_rehash_busy (setBit (c.get MAP_STATUS_rehash_busy) h false)).raise 0x205).writeMapImage

/-- Step 3: sweep n more old buckets; every 65,536 a fence is recorded. After the last bucket the rehash ends. -/
def Chip.rehashSweep (c : Chip) (h n : Nat) : Chip :=
  match c.map.rehash.get? h with
  | none => c
  | some r =>
    let old := c.table h r.k
    let new : Table := ⟨h, r.k, r.newBase, r.newS, r.newSeed⟩
    let s := Chip.sweepFrom old new (min (2 ^ old.s - r.pos) n) r.pos c
    let stop := r.pos + s.1
    let r := { r with pos := stop, fence := stop / 65536 * 65536 }
    let c := ({ s.2 with map := { s.2.map with rehash := s.2.map.rehash.put h r } } : Chip).loProgress r.slot s.1 0 (some 3)
    if stop = 2 ^ old.s then (c.rehashEnd h r).loEnd r.slot 4 0 else c

/-- Is a half being rehashed, or is a rehash of it under way that waits for the DRBG (R149, R349)? -/
def Chip.rehashBusy (c : Chip) (h : Nat) : Bool :=
  c.map.rehash.has h || c.cipher.drbgWait.any (fun w => match w with
    | .rehash half _ _ _ => half = h
    | _ => false)

/-- Begin a rehash that no command asked for: a long operation that answers nobody. `none` when it cannot begin yet, since the half is being rehashed or no operation slot is free or the DRBG is stopped (R349); `some none` when
no space fits (R149, step 1). -/
def Chip.startRehash (c : Chip) (h k : Nat) : Option (Option Chip) :=
  if c.rehashBusy h || c.drbgStopped then none
  else (c.loStart ⟨.record, 2, true, true, false, 1, 0xFFFF, 0, 0, 0, c.clk, 0⟩ 0x0302 (2 ^ (c.table h k).s) [h, k, 0]).map (fun r => r.1.rehashBegin h k 0 r.2.1)

/-- Remember a table whose rehash cannot begin yet, or forget it. -/
def Chip.wantRehash (c : Chip) (h k : Nat) : Chip := { c with map := { c.map with rehashWant := if c.map.rehashWant.contains (h, k) then c.map.rehashWant else c.map.rehashWant ++ [(h, k)] } }

def Chip.unwantRehash (c : Chip) (h k : Nat) : Chip := { c with map := { c.map with rehashWant := c.map.rehashWant.filter (· ≠ (h, k)) } }

/-- Does a table's rehash run, or wait to begin? -/
def Chip.rehashDue (c : Chip) (h k : Nat) : Bool := (c.map.rehash.get? h).any (fun r => r.k = k) || c.map.rehashWant.contains (h, k)

/-- Firmware starts a rehash on its own (R148), at once or as soon as it can begin. Answers whether it is possible; if not, event 0x206. -/
def Chip.autoRehash (c : Chip) (h k : Nat) : Bool × Chip :=
  if c.rehashDue h k then (true, c)
  else match c.startRehash h k with
    | none => (true, c.wantRehash h k)
    | some (some c) => (true, c)
    | some none => (false, c.raise 0x206)

/-- An insertion has failed: event 0x203, and the table is rehashed (R148); where its rehash is under way the entry waits for that (R151). Answers whether one is possible. -/
def Chip.insertFailed (c : Chip) (e : Entry) : Bool × Chip :=
  let h := halfOf e.lineage e.start
  if c.rehashDue h e.k then (true, c.cntMap 10) else ((c.cntMap 10).raise 0x203).autoRehash h e.k

/-- Insert an entry and send its deltas; `none` when no room is left. The number is that of the last delta's record. A table that passes 90 %, or whose insertion makes the fall-back memory
pass 90 %, is rehashed (R148; which table the latter means is the model's choice, assumption 38). -/
def Chip.mapInsert (c : Chip) (e : Entry) (fold paddock volume adm : Nat) : Option Nat × Chip :=  let h := halfOf e.lineage e.start
  let past := fun (c : Chip) =>
    let t := (c.nextTable h e.k).getD (c.table h e.k)
    (decide (2 ^ t.s * 4 * 90 < c.get MAP_TBL_STAT_entries h e.k * 100), decide (c.fallbackSize * 90 < (c.map.fallback.getD h []).length * 100))
  let was := past c
  let r := (c.markEntry e fold paddock volume adm).insertEntry e
  if !r.1 then (none, r.2)
  else
    let d := r.2.sendDelta fold paddock volume adm (.insert e)
    let is := past d.2
    (some d.1, if (is.1 && !was.1) || (is.2 && !was.2) then (d.2.autoRehash h e.k).2 else d.2)

/-- Insert several entries as one change: all of them, or none, those already placed being removed again. Answers the one that found no room. -/
def Chip.insertAll (fold paddock volume adm : Nat) : List Entry → Chip → Option Entry × Chip
  | [], c => (none, c)
  | e :: es, c =>
    match c.mapInsert e fold paddock volume adm with
    | (none, c) => (some e, c)
    | (some _, c) =>
      match Chip.insertAll fold paddock volume adm es c with
      | (none, c) => (none, c)
      | (some x, c) => (some x, c.mapRemove e fold paddock volume adm)

/-- A commanded rehash begins in its slot; where no space fits the operation fails at once. -/
def Chip.rehashAsked (c : Chip) (half k s slot : Nat) : Chip := (c.rehashBegin half k s slot).getD (c.loEnd slot 6 0x0204)

/-- MAP_REHASH (0x0302): a second rehash of the half is refused as busy; while the DRBG is stopped the operation waits for its seed (R349). -/
def mapRehash (h : Hdr) (half k s : Nat) : Chip → Chip :=
  runCommand ⟨0x0302, false, .l, paramBytes [1, 1, 1]⟩ h [] (fun c =>
    Res.guard c [refuseIf (decide (2 ≤ half)) 0x0102 32, refuseIf (decide (21 ≤ k)) 0x0102 33,
        refuseIf (s ≠ 0 && (decide (s < 10) || decide (27 < s))) 0x0102 34, refuseIf (c.rehashBusy half) 0x0205]
      (fun c => longAccept c h 0x0302 (2 ^ (c.table half k).s) [half, k, s] (fun i c => if c.drbgStopped then c.waitDrbg (.rehash half k s i) else c.rehashAsked half k s i)))

/-! ### Queries -/

/-- MAP_LOOKUP (0x0300). -/
def mapLookup (h : Hdr) (volume lba : Nat) : Chip → Chip :=
  runCommand ⟨0x0300, false, .r, paramBytes [2, 8]⟩ h [] (fun c =>
    Res.guard c [rangeRefusal c volume 65536 32768 32, refuseIf (!c.vols.has volume) 0x0201]
      (fun c => match c.vols.get? volume with
        | none => Res.no c 0x0201
        | some v =>
          let a := acreOf lba
          let d := match c.entryOf v a with
            | none => zeros 16
            | some e => le 1 (if e.zero then 2 else 1) ++ le 1 e.k ++ le 1 e.owner ++ le 1 (b2n (e.unshared v v.epoch)) ++ le 1 e.flock ++ zeros 3 ++
                le 4 (if e.zero then 0 else e.acre a) ++ le 4 e.birth
          Res.ok (c.countLookup v a) d))

/-- MAP_STAT_GET (0x0303). -/
def mapStatGet (h : Hdr) (half : Nat) : Chip → Chip :=
  runCommand ⟨0x0303, false, .r, paramBytes [1]⟩ h [] (fun c =>
    Res.guard c [refuseIf (decide (2 ≤ half)) 0x0102 32]
      (fun c => Res.ok c ((List.range 21).flatMap (fun k => c.image MAP_TBL_STAT half k) ++ c.image MAP_FB_STAT half)))

/-- LEARN_PEAK_CLR: a write of peak_clr. -/
def learnPeakClr (half : Nat) (c : Chip) : Chip := if 2 ≤ half then c else c.set MAP_LEARN_STAT_peak 0 half

/-! ### Path ageing and the exchange of paths (R153 to R156) -/

/-- PATH_AGE_SWEEP (R153): path entries of the swept half that have been idle for age_s are removed and forgotten by their connections. The sweep remembers them for hits of the same moment
(R154). -/
def pathAgeSweep (half : Nat) (c : Chip) : Chip :=
  let age := clamp 1 3600 (c.get MAP_PATH_CFG_age_s)
  let nowS := c.clk / second % 65536
  let old := c.map.paths.keep (fun key e => pathHalf key = half % 2 && !e.flow && decide (age ≤ ahead 16 nowS e.stampS))
  let c := { c with map := { c.map with aged := old.keys, agedNs := c.clk } }
  old.foldl (fun c e => (((c.pathDel e.1).cntMap 14).updConn (e.1 / 8) (fun n => { n with paths := n.paths.del (e.1 % 8) }))) c

/-- Open an exchange window (R155): event 0x211, and each path entry is sent once. -/
def Chip.openExchange (c : Chip) : Chip :=
  if c.exchanging then c
  else
    let c := ({ c with map := { c.map with sendSeq := 0, foreignSeq := none, foreignWait := [] } } : Chip).set MAP_STATUS_exchange_window 1
    let c := c.raise 0x211
    (c.map.paths.keep (fun _ e => !e.flow)).foldl (fun c e => c.sendLearning 1 e.1 e.2) c

/-- MAP_EXCHANGE_TEST (0x0C20). The end of its time is the command EXCHANGE_WINDOW_END. -/
def mapExchangeTest (h : Hdr) (seconds : Nat) : Chip → Chip :=
  runPair ⟨0x0C20, true, .w, paramBytes [2]⟩ h [] (.mapExchangeTest seconds) (fun c => Res.ok c.openExchange)

/-- The number of the learning message to be applied next (R156). -/
def Chip.nextLearning (c : Chip) : Nat := (c.map.foreignSeq.map (fun s => (s + 1) % 2 ^ 32)).getD 0

/-- Apply one learning message. -/
def Chip.applyLearning (c : Chip) (seq op key : Nat) (e : PathEntry) : Chip :=
  let f := if op = 1 then c.map.foreign.put key { e with flow := false } else if op = 2 then c.map.foreign.del key else c.map.foreign
  { c with map := { c.map with foreign := f, foreignSeq := some seq } }

/-- Apply the messages kept back, as far as their numbers follow. -/
def Chip.drainLearning : Nat → Chip → Chip
  | 0, c => c
  | fuel + 1, c =>
    match c.map.foreignWait.get? c.nextLearning with
    | none => c
    | some (op, key, e) =>
      let n := c.nextLearning
      Chip.drainLearning fuel (({ c with map := { c.map with foreignWait := c.map.foreignWait.del n } } : Chip).applyLearning n op key e)

/-- LEARNING_MSG_RX (R156): while a window is open the records of the partner are applied in seq order, each once; one that comes before a lower number is kept until its turn. -/
def learningMsgRx (op chip seq key : Nat) (e : PathEntry) (c : Chip) : Chip :=
  let d := ahead 32 seq c.nextLearning
  if !c.exchanging || chip ≠ 1 - b2n c.id.chipB || 2 ^ 31 ≤ d || c.map.foreignWait.has seq then c
  else if d = 0 then (Chip.drainLearning c.map.foreignWait.length (c.applyLearning seq op key e)).showPaths
  else { c with map := { c.map with foreignWait := c.map.foreignWait.put seq (op, key, e) } }

/-- EXCHANGE_WINDOW_END (R155). -/
def exchangeWindowEnd (c : Chip) : Chip :=
  if !c.exchanging then c
  else (((({ c with map := { c.map with foreign := [], foreignSeq := none, foreignWait := [] } } : Chip).showPaths).set MAP_STATUS_exchange_window 0).raise 0x212)

/-- A Drove packet that misses the local table but hits a foreign entry goes unchanged to the partner, in C4 (R155). -/
def Chip.toPartner (c : Chip) (r : Rx) (p : DPkt) : Option Chip :=
  match c.map.foreign.first? (fun _ e => e.srcAddr = r.srcAddr && e.srcPort = r.srcPort && e.dstAddr = r.dstAddr) with
  | some (key, _) => some (((c.send (.foreign (key / 8) (key % 8) r p)).cntMap 15).raiseLtd 0x210 0 second)
  | none => none

end Sys2Proof.Machine
end

