-- ==== Sys2Proof/Machine/Cipher.lean ====
section
/-!
DEFINITION. The cipher islands: keys and generations, member blocks encrypted and decrypted, lanes, the DRBG, context caches, and the key commands:
chapter 11 of the spec (R345 to R370), with MGMT_PSK_SET (R427). PADDOCK_ERASE stands in Machine/Erase.lean.
-/

namespace Sys2Proof.Machine

/-! ### The root and the device key (R354, R355) -/

def debugOpen (c : Chip) : Bool := !c.flag FUSE_STAT_debug_locked

def Chip.rootPrk (c : Chip) : Bytes :=
  Config.hkdfExtract (ascii "sveting root") (if debugOpen c then Config.testRoot else (le 32 (bits c.fuses 1375 1120)).reverse)

/-- The order of the group of P-384. -/
def p384Order : Nat := 0xFFFFFFFFFFFFFFFFFFFFFFFFFFFFFFFFFFFFFFFFFFFFFFFFC7634D81F4372DDF581A0DB248B0A77AECEC196ACCC52973

/-- The context-wrapping key. -/
def Chip.cwk (c : Chip) : Bytes := Config.hkdfExpand c.rootPrk (ascii "context wrap") 32

/-- The device key: the first candidate in range. -/
def Chip.deviceKey (c : Chip) : Nat :=
  (((List.range 256).map (fun i => unle (Config.hkdfExpand c.rootPrk (ascii "device key" ++ be 1 i) 48).reverse)).find?
    (fun d => decide (1 ≤ d) && decide (d < p384Order))).getD 1

def Chip.devicePub (c : Chip) : Bytes := Config.p384Pub c.deviceKey

/-- Imports need a valid root key (R458); while debug access is open the test root serves. -/
def Chip.rootUsable (c : Chip) : Bool := debugOpen c || c.fuseValid 2

/-! ### Generations (R358, R359) -/

def padInfo (label : String) (paddock keyId g : Nat) : Bytes := ascii label ++ be 1 0 ++ be 2 paddock ++ be 8 keyId ++ be 4 g

/-- secret[g + n] from secret[g]. -/
def secretAfter (paddock keyId : Nat) (secret : Bytes) (g : Nat) : Nat → Bytes
  | 0 => secret
  | n + 1 => secretAfter paddock keyId (Config.hkdfExpand secret (padInfo "paddock next" paddock keyId (g + 1)) 48) (g + 1) n

def PadKey.secretOf (k : PadKey) (paddock g : Nat) : Bytes := secretAfter paddock k.keyId k.secret k.gLo (g - k.gLo)

/-- The two XTS keys of a generation. -/
def PadKey.xts (k : PadKey) (paddock g : Nat) : Bytes × Bytes :=
  let s := k.secretOf paddock g
  (Config.hkdfExpand s (padInfo "xts data key" paddock k.keyId g) 32, Config.hkdfExpand s (padInfo "xts tweak key" paddock k.keyId g) 32)

/-- A key from a seed (R358). -/
def seedKey (paddock keyId gen0 gCur : Nat) (seed : Bytes) : PadKey :=
  let prk := Config.hkdfExtract (ascii "sveting paddock") seed
  ⟨keyId, gen0, gCur, Config.hkdfExpand prk (padInfo "paddock secret" paddock keyId gen0) 48, [], [], 1, none, false, false, false, false, false⟩

/-- Blocks under g_cur on both chips, as last exchanged (R368). -/
def PadKey.count (k : PadKey) : Nat := k.counts.getD k.gCur 0 + k.partner.getD k.gCur 0

def hardLimit : Nat := 2 ^ 44

/-- Commits that write data of the paddock wait: an advance waits and the count is at the hard limit (R360). -/
def Chip.hardStop (c : Chip) (paddock : Nat) : Bool :=
  match c.cipher.pads.get? paddock with
  | some k => k.state = 3 && decide (hardLimit ≤ k.count)
  | none => false

/-! ### Member blocks (R231 to R233, R361) -/

/-- A member block's content: data, application tag, low 32 bits of the LBA, whether a learn fill wrote it. -/
structure Plain where
  data : Bytes
  app  : Nat
  ref  : Nat
  fill : Bool
  deriving DecidableEq, Repr

def memberTweak (flock pa blk : Nat) : Nat := flock * 2 ^ 42 + pa * 2 ^ 10 + blk

/-- The 4,112 bytes before encryption (R231). -/
def plainBytes (p : Plain) (g : Nat) : Bytes :=
  padTo 4096 p.data ++ le 8 (crc64 (padTo 4096 p.data)) ++ le 4 p.ref ++ le 2 p.app ++ le 2 (g % 4096 + 4096 * b2n p.fill)

/-- Encrypt a data member block under the current generation, and count it (R232, R359). A paddock without a key has nothing to encrypt under: its
volumes cannot exist (R357). -/
def Chip.encryptBlock (c : Chip) (paddock flock pa blk : Nat) (p : Plain) : Bytes × Nat × Chip :=
  match c.cipher.pads.get? paddock with
  | none => (plainBytes p 0, 0, c)
  | some k =>
    let x := k.xts paddock k.gCur
    let k' := { k with counts := k.counts.updD k.gCur 0 (fun n => n + 1) }
    let c := (({ c with cipher := { c.cipher with pads := c.cipher.pads.put paddock k' } } : Chip).cntCiph 2).laneWork c.xtsLane blockBytes
    (Config.xtsEncrypt x.1 x.2 (memberTweak flock pa blk) (plainBytes p k.gCur), k.gCur, c)

/-- What a decryption came to: the block, or which comparisons failed. -/
inductive Opened where
  | good (p : Plain) (gen : Nat)
  | bad (guard app : Bool)

/-- Try generations from the highest down to the lowest (R361): the guard must verify and the app generation agree. -/
def tryGens (k : PadKey) (paddock flock pa blk : Nat) (ct : Bytes) : List Nat → Opened
  | [] => .bad true false
  | g :: gs =>
    let x := k.xts paddock g
    let b := Config.xtsDecrypt x.1 x.2 (memberTweak flock pa blk) ct
    let data := b.take 4096
    let guardOk := decide (crc64 data = unle ((b.drop 4096).take 8))
    let appField := unle ((b.drop 4110).take 2)
    if guardOk && appField % 4096 = g % 4096 then .good ⟨data, unle ((b.drop 4108).take 2), unle ((b.drop 4104).take 4), bit appField 12⟩ g
    else match tryGens k paddock flock pa blk ct gs with
      | .bad _ _ => .bad (!guardOk) guardOk
      | r => r

/-- Decrypt and check a member block with the range of its acre record; no request names a generation that is closed (R362). -/
def Chip.openBlock (c : Chip) (paddock lo hi flock pa blk : Nat) (ct : Bytes) : Opened × Chip :=
  match c.cipher.pads.get? paddock with
  | none => (.bad true false, c)
  | some k =>
    let low := max lo (if k.closed then k.gLo + 1 else k.gLo)
    let gens := (List.range (hi + 1 - low)).map (fun i => hi - i)
    let r := tryGens k paddock flock pa blk ct gens
    let c := (c.cntCiph 3).laneWork c.xtsLane blockBytes
    match r with
    | .good _ g => (r, if g = hi then c else c.cntCiph 4)
    | .bad _ _ => (r, c)

/-! ### Blobs (R357) -/

structure KeyBlob where
  kind    : Nat
  paddock : Nat
  keyId   : Nat
  gen0    : Nat
  idHash  : Bytes
  secret  : Bytes

/-- Unwrap a blob under the KEK; `none` when that fails or its form is wrong. -/
def Chip.openBlob (c : Chip) (blob : Bytes) : Option KeyBlob :=
  match c.cipher.kek.bind (fun k => Config.keyUnwrap k.2 blob) with
  | none => none
  | some b =>
    let at_ := fun (off n : Nat) => unle ((b.drop off).take n)
    let kind := at_ 4 1
    let len := at_ 5 1
    if b.length = 88 && at_ 0 4 = 0x53564B59 && at_ 8 8 ≠ 0 && ((kind = 1 && len = 48) || (kind = 2 && (len = 32 || len = 48))) then
      some ⟨kind, at_ 6 2, at_ 8 8, at_ 16 4, (b.drop 24).take 16, (b.drop 40).take len⟩
    else none

/-- A refused import is counted and raises event 0x48B. -/
def importRefused (c : Chip) (status detail : Nat) : Res := ⟨(c.raise 0x48B).cntCiph 15, status, detail, 0, [], false⟩

/-- The KEK identifiers of the chips agree, as far as this chip knows (R356). -/
def Chip.kekAgrees (c : Chip) : Bool :=
  match c.cipher.partnerKek with
  | some k => decide (k = c.get CIPH_KEK_ID_kek_id)
  | none => true

/-- Imports under the KEK need a root key, a KEK, and agreement with the partner's. -/
def importGuards (c : Chip) (paddock : Nat) : Option (Nat × Nat) :=
  if !c.rootUsable || c.cipher.kek.isNone then some (0x0206, paddock) else if !c.kekAgrees then some (0x0400, 0) else none

/-! ### The key record (R365) -/

/-- Ask for the key record to be written to the vaults; the change takes effect at KEY_RECORD_WRITTEN. -/
def Chip.recordChange (c : Chip) (k : KeyChange) : Chip :=
  let n := c.cipher.recSeq + 1
  ({ c with cipher := { c.cipher with waiting := c.cipher.waiting ++ [k], recSeq := n } } : Chip).send (.keyRecord n)

def Chip.updPad (c : Chip) (p : Nat) (f : PadKey → PadKey) : Chip := { c with cipher := { c.cipher with pads := c.cipher.pads.upd p f } }

def kekImportInfo : CmdInfo := ⟨0x0800, false, .w, paramBytes [8] + 97 + 7 + 48⟩
def padImportInfo : CmdInfo := ⟨0x0802, true, .w, paramBytes [2, 1, 4] + 96⟩

def Chip.pairedNow (c : Chip) : Bool := c.get TWIN_STATUS_pair_state = 1

/-- Step 5 of R362: g_lo rises, and what belonged to it is gone. -/
def PadKey.retired (p : Nat) (k : PadKey) : PadKey :=
  { k with
    gLo := k.gLo + 1
    secret := k.secretOf p (k.gLo + 1)
    closed := false
    unusedHere := false
    unusedThere := false
    counts := k.counts.del k.gLo
    partner := k.partner.del k.gLo }

/-- Step 3 of R360. -/
def Chip.advanceNow (c : Chip) (p g : Nat) : Chip :=
  ((c.keyOp.updPad p (fun k => { k with gCur := g, proposed := none, ackHere := false, ackThere := false, state := 1, unusedHere := false, unusedThere := false })).raise 0x48C).cntCiph 12

/-- Propose g_cur + 1: it waits while four generations would be live; paired, chip A decides and tells its partner. -/
def Chip.propose (c : Chip) (p : Nat) : Chip :=
  match c.cipher.pads.get? p with
  | none => c
  | some k =>
    if k.proposed.isSome || k.state = 2 then c
    else if 3 < k.gCur + 1 - k.gLo then
      if k.state = 3 then c else (c.updPad p (fun k => { k with state := 3 })).raise 0x48E
    else if c.pairedNow && c.id.chipB then c
    else
      let g := k.gCur + 1
      let c := c.updPad p (fun k => { k with proposed := some g, ackHere := false, ackThere := false })
      (if c.pairedNow then c.send (.genProposal p g) else c).recordChange (.advance p g)

/-- This chip's counts by paddock and generation, and its kek_id, for the partner (R356, R359). -/
def Chip.sendCounts (c : Chip) : Chip :=
  if c.pairedNow then c.send (.genCounts (c.cipher.pads.flatMap (fun e => e.2.counts.map (fun x => (e.1, x.1, x.2)))) (c.get CIPH_KEK_ID_kek_id)) else c

/-- A change that the record now holds takes effect. A KEK imported is reported to the partner (R356); an advance that waited for a generation to retire proceeds (R360). -/
def Chip.applyChange (c : Chip) : KeyChange → Chip
  | .kek id key h =>
    let c := { c with cipher := { c.cipher with kek := some (id, key) } }
    let c := ((c.set CIPH_KEK_ID_kek_id id).set CIPH_STATUS_kek_loaded 1).raise 0x488
    let c := (c.raiseIf (!c.kekAgrees) 0x489).sendCounts
    Chip.finishLater kekImportInfo h (Res.ok (c.cntCiph 14))
  | .padImport p key h =>
    let c := ({ c with cipher := { c.cipher with pads := c.cipher.pads.put p key } } : Chip).raise 0x48A
    Chip.finishLater padImportInfo h (Res.ok (c.cntCiph 14))
  | .advance p g =>
    let c := c.updPad p (fun k => { k with ackHere := true })
    if c.pairedNow then
      let c := c.send (.genAck p g)
      match c.cipher.pads.get? p with
      | some k => if k.ackThere then c.advanceNow p g else c
      | none => c
    else c.advanceNow p g
  | .retire p =>
    let waits := (c.cipher.pads.get? p).any (fun k => k.state = 3)
    let c := ((c.keyOp.updPad p (PadKey.retired p)).raise 0x48D).cntCiph 13
    if waits then c.propose p else c
  | .erased p => { c with cipher := { c.cipher with pads := c.cipher.pads.del p } }
  | .install p key => { c with cipher := { c.cipher with pads := c.cipher.pads.put p key } }

/-- KEY_RECORD_WRITTEN (R365): the record was written to these vaults. With none, the change waits. -/
def keyRecordWritten (ok32 ok33 : Bool) (c : Chip) : Chip :=
  let c := c.raiseIf (!(ok32 && ok33)) 0x495
  if !ok32 && !ok33 then c
  else
    let ks := c.cipher.waiting
    ks.foldl Chip.applyChange { c with cipher := { c.cipher with waiting := [] } }

/-! ### Commands -/

/-- KEK_IMPORT (0x0800). -/
def kekImport (h : Hdr) (kekId : Nat) (point wrapped : Bytes) : Chip → Chip :=
  runCommand kekImportInfo h [] (fun c =>
    if debugOpen c then importRefused c 0x0102 32
    else if !c.rootUsable then importRefused c 0x0206 0
    else
      let c := c.keyOp
      let wk := Config.hkdfExpand (Config.hkdfExtract (be 8 c.id.serial) (Config.ecdh c.deviceKey (point.take 97))) (ascii "sveting kek import") 32
      match Config.keyUnwrap wk wrapped with
      | none => importRefused c 0x0400 0
      | some b => if unle (b.take 8) = kekId then Res.wait (c.recordChange (.kek kekId (b.drop 8) h)) else importRefused c 0x0400 0)

/-- DEVICE_KEY_GET (0x0801). -/
def deviceKeyGet (h : Hdr) : Chip → Chip :=
  runCommand ⟨0x0801, false, .r, 0⟩ h [] (fun c => Res.ok c (padTo 97 c.devicePub ++ zeros 7 ++ le 8 c.id.serial))

/-- PADDOCK_KEY_IMPORT (0x0802): accepted where R357 says so. During an erasure the key is kept for its step 4 (R366). -/
def paddockKeyImport (h : Hdr) (paddock hasGcur gCur : Nat) (blob : Bytes) : Chip → Chip :=
  runPair padImportInfo h [paddock] (.paddockKeyImport paddock hasGcur gCur blob) (fun c =>
    Res.guard c [rangeRefusal c paddock 4096 2048 32, refuseIf (decide (2 ≤ hasGcur)) 0x0102 34]
      (fun c => match importGuards c paddock with
        | some (st, d) => importRefused c st d
        | none =>
          let c := c.keyOp
          match c.openBlob blob with
          | none => importRefused c 0x0400 0
          | some b =>
            if b.kind ≠ 1 || b.paddock ≠ paddock then importRefused c 0x0400 0
            else
              match c.cipher.pads.get? paddock with
              | some k =>
                if h.src = .partner && c.cipher.erases.has paddock then
                  Res.ok { c with cipher := { c.cipher with erases := c.cipher.erases.upd paddock (fun r => { r with key := some (seedKey paddock b.keyId b.gen0 b.gen0 b.secret) }) } }
                else if k.keyId = b.keyId then Res.ok (c.cntCiph 14) else importRefused c 0x0203 0
              | none =>
                let g := if hasGcur = 1 then gCur else b.gen0
                if g < b.gen0 || b.gen0 + 3 < g then importRefused c 0x0102 36
                else if c.cipher.erases.has paddock then
                  Res.ok { c with cipher := { c.cipher with erases := c.cipher.erases.upd paddock (fun r => { r with key := some (seedKey paddock b.keyId b.gen0 g b.secret) }) } }
                else Res.wait (c.recordChange (.padImport paddock (seedKey paddock b.keyId b.gen0 g b.secret) h))))

def Chip.padViews (c : Chip) (p : Nat) : Nat × Nat × Nat :=
  match c.cipher.pads.get? p with
  | none => (0, 0, if c.cipher.erases.has p then 2 * 2 ^ 45 else 0)
  | some k => (k.keyId, k.gLo + k.gCur * 2 ^ 32, min k.count (2 ^ 45 - 1) + (if c.cipher.erases.has p then 2 else k.state) * 2 ^ 45)

/-- PADDOCK_KEY_STATUS (0x0803). -/
def paddockKeyStatus (h : Hdr) (paddock : Nat) : Chip → Chip :=
  runCommand ⟨0x0803, false, .r, paramBytes [2]⟩ h [paddock] (fun c =>
    Res.guard c [rangeRefusal c paddock 4096 2048 32]
      (fun c => Res.ok c (le 8 (c.padViews paddock).1 ++ le 8 (c.padViews paddock).2.1 ++ le 8 (c.padViews paddock).2.2)))

/-- CIPH_PAD_SEL_WRITE: writing the select takes a snapshot of the three views (R368). -/
def ciphPadSelWrite (paddock : Nat) (c : Chip) : Chip :=
  let p := paddock % 4096
  let v := c.padViews p
  let c := (c.set CIPH_PAD_SEL_paddock p).set CIPH_PAD_VIEW0_key_id v.1
  let c := (c.set CIPH_PAD_VIEW1_g_lo (v.2.1 % 2 ^ 32)).set CIPH_PAD_VIEW1_g_cur (v.2.1 / 2 ^ 32)
  (c.set CIPH_PAD_VIEW2_count (v.2.2 % 2 ^ 45)).set CIPH_PAD_VIEW2_state (v.2.2 / 2 ^ 45)

/-- The first 16 bytes of SHA-384 over an identity. -/
def identityHash (identity : Bytes) : Bytes := (Config.sha384 identity).take 16

/-- PSK_IMPORT (0x0804): at most 8,192 PSKs; one with the same identity is replaced. -/
def pskImport (h : Hdr) (blob identity : Bytes) : Chip → Chip :=
  runPair ⟨0x0804, true, .w, paramBytes [1] + 7 + 96 + identity.length⟩ h [] (.pskImport blob identity) (fun c =>
    Res.guard c [refuseIf (identity.length = 0 || decide (128 < identity.length)) 0x0102 32]
      (fun c => match importGuards c 0xFFFF with
        | some (st, d) => importRefused c st d
        | none =>
          let c := c.keyOp
          match c.openBlob blob with
          | none => importRefused c 0x0400 0
          | some b =>
            if b.kind ≠ 2 || b.idHash ≠ identityHash identity then importRefused c 0x0400 0
            else if h.paddock ≠ 0xFFFF && b.paddock ≠ h.paddock then importRefused c 0x0106 0
            else
              let i := match c.cipher.psks.first? (fun _ p => p.identity = identity) with
                | some (i, _) => i
                | none => c.cipher.psks.freeFrom 8192 0
              if 8192 ≤ i then importRefused c 0x0204 0
              else Res.ok ((({ c with cipher := { c.cipher with psks := c.cipher.psks.put i ⟨b.keyId, b.paddock, identity, b.secret⟩ } } : Chip).raise 0x48A).cntCiph 14)))

/-- PSK_CLEAR (0x0805): open connections keep their keys. -/
def pskClear (h : Hdr) (keyId : Nat) : Chip → Chip :=
  runPair ⟨0x0805, true, .w, paramBytes [8]⟩ h [] (.pskClear keyId) (fun c =>
    match c.cipher.psks.first? (fun _ p => p.keyId = keyId) with
    | some (i, _) => Res.ok { c with cipher := { c.cipher with psks := c.cipher.psks.del i } }
    | none => Res.no c 0x0201)

/-- MGMT_PSK_SET (0x0240): a blob of kind 2 with paddock 0xFFFF, and a role (R427). -/
def mgmtPskSet (h : Hdr) (index role : Nat) (blob identity : Bytes) : Chip → Chip :=
  runCommand ⟨0x0240, false, .w, paramBytes [1, 1, 1] + 5 + 96 + identity.length⟩ h [] (fun c =>
    Res.guard c [refuseIf (decide (8 ≤ index)) 0x0102 32, refuseIf (decide (3 ≤ role)) 0x0102 33,
        refuseIf (identity.length = 0 || decide (128 < identity.length)) 0x0102 34]
      (fun c => match importGuards c 0xFFFF with
        | some (st, d) => importRefused c st d
        | none =>
          let c := c.keyOp
          match c.openBlob blob with
          | none => importRefused c 0x0400 0
          | some b =>
            if b.kind ≠ 2 || b.paddock ≠ 0xFFFF || b.idHash ≠ identityHash identity then importRefused c 0x0400 0
            else Res.ok (({ c with mgmt := { c.mgmt with psks := c.mgmt.psks.put index ⟨role, b.keyId, identity, b.secret⟩ } } : Chip).cntCiph 14)))

/-! ### Advancing a generation (R360) -/

/-- PADDOCK_REKEY (0x0806). -/
def paddockRekey (h : Hdr) (paddock : Nat) : Chip → Chip :=
  runPair ⟨0x0806, true, .w, paramBytes [2]⟩ h [paddock] (.paddockRekey paddock) (fun c =>
    Res.guard c [rangeRefusal c paddock 4096 2048 32, refuseIf (!c.cipher.pads.has paddock) 0x0206 paddock]
      (fun c => Res.ok (c.propose paddock)))

/-- GEN_LIMIT_SET (0x0807). -/
def genLimitSet (h : Hdr) (image : Nat) : Chip → Chip :=
  runPair ⟨0x0807, true, .w, paramBytes [8]⟩ h [] (.genLimitSet image) (fun c => Res.ok (c.writeImage CIPH_GEN_CFG image))

/-- CIPH_CTL_SET (0x0808). -/
def ciphCtlSet (h : Hdr) (image : Nat) : Chip → Chip :=
  runCommand ⟨0x0808, false, .w, paramBytes [4]⟩ h [] (fun c => Res.ok (c.writeImage CIPH_CTL image))

/-- GEN_ADVANCE_PROPOSAL_RX: the partner's proposal goes into the key record; the acknowledgement follows (R360). -/
def genAdvanceProposalRx (paddock gen : Nat) (c : Chip) : Chip :=
  match c.cipher.pads.get? paddock with
  | none => c
  | some k =>
    if gen ≠ k.gCur + 1 || 3 < gen - k.gLo then c
    else (c.updPad paddock (fun k => { k with proposed := some gen, ackHere := false, ackThere := true })).recordChange (.advance paddock gen)

/-- GEN_ADVANCE_ACK: the partner has acknowledged; with this chip's own, the advance takes effect (R360). -/
def genAdvanceAck (paddock gen : Nat) (c : Chip) : Chip :=
  match c.cipher.pads.get? paddock with
  | none => c
  | some k =>
    if k.proposed ≠ some gen then c
    else
      let c := c.updPad paddock (fun k => { k with ackThere := true })
      if k.ackHere then c.advanceNow paddock gen else c

/-- GEN_COUNT_EXCHANGE (R359): the partner's counts by (paddock, generation), and its kek_id (R356), arrive; this chip sends its own. A count at the soft
limit starts an advance; at 2^44 with an advance waiting, commits wait. -/
def genCountExchange (counts : List (Nat × Nat × Nat)) (kek : Option Nat) (c : Chip) : Chip :=
  let c := counts.foldl (fun c e => c.updPad e.1 (fun k => { k with partner := k.partner.put e.2.1 e.2.2 })) c
  let c := match kek with
    | some k =>
      let was := c.kekAgrees
      let c := { c with cipher := { c.cipher with partnerKek := some k } }
      c.raiseIf (was && !c.kekAgrees) 0x489
    | none => c
  let c := c.sendCounts
  let soft := 2 ^ clamp 32 44 (c.get CIPH_GEN_CFG_soft_log2)
  c.cipher.pads.foldl (fun c e =>
    let c := if c.flag CIPH_CTL_auto_advance && decide (soft ≤ e.2.count) then c.propose e.1 else c
    c.raiseIf (c.hardStop e.1) 0x48F) c

/-! ### Lanes (R350 to R352) -/

/-- Set a lane's state and lanes_ok. An island left without a lane in service raises event 0x483. -/
def Chip.laneState (c : Chip) (l st : Nat) : Chip :=
  let c := c.set CIPH_LANE_state st l
  let c := c.set CIPH_STATUS_lanes_ok (setBit (c.get CIPH_STATUS_lanes_ok) l (st = 0))
  let isl := l / 8
  let lanes := (List.range 8).filter (fun i => decide (isl * 8 + i < laneCount c.id))
  c.raiseIf (st ≠ 0 && lanes.all (fun i => c.get CIPH_LANE_state (isl * 8 + i) ≠ 0)) 0x483

/-- A known-answer test that passed is counted. -/
def Chip.katPass (c : Chip) (l : Nat) : Chip := c.bump CIPH_LANE_kat_runs 1 l

/-- LANE_SET (0x0809): return after tests, or disable. -/
def laneSet (h : Hdr) (lane action : Nat) (testsPass : Bool) : Chip → Chip :=
  runCommand ⟨0x0809, false, .w, paramBytes [1, 1]⟩ h [] (fun c =>
    Res.guard c [refuseIf (decide (24 ≤ lane)) 0x0102 32, refuseIf (decide (laneCount c.id ≤ lane)) 0x0200 lane, refuseIf (decide (2 ≤ action)) 0x0102 33,
        refuseIf (action = 0 && c.get CIPH_LANE_state lane ≠ 2) 0x0300 (c.get CIPH_LANE_state lane)]
      (fun c =>
        if action = 1 then Res.ok (c.laneState lane 2)
        else if testsPass then Res.ok ((c.katPass lane).laneState lane 0)
        else ⟨c.raise 0x484, 0x0300, 2, 0, [], false⟩))

/-- LANE_PARITY_FAULT (R350, R351): the output is discarded and computed again elsewhere. -/
def laneParityFault (lane : Nat) (c : Chip) : Chip :=
  if laneCount c.id ≤ lane || c.get CIPH_LANE_state lane ≠ 0 then c
  else
    let times := c.clk :: (c.cipher.faultNs.getD lane []).filter (fun t => decide (c.clk < t + 3600 * second))
    let c := { c with cipher := { c.cipher with faultNs := c.cipher.faultNs.put lane times } }
    (((c.bump CIPH_LANE_faults 1 lane).raise 0x480).cntCiph 7).cntCiph 8 |>.laneState lane 1

/-- QUARANTINE_EXPIRY (R351): 10 ms after the fault. -/
def quarantineExpiry (lane : Nat) (testsPass : Bool) (c : Chip) : Chip :=
  if laneCount c.id ≤ lane || c.get CIPH_LANE_state lane ≠ 1 then c
  else
    let third := decide (3 ≤ ((c.cipher.faultNs.getD lane []).filter (fun t => decide (c.clk < t + 3600 * second))).length)
    let c := if testsPass then c.katPass lane else c
    if testsPass && !third then (c.laneState lane 0).raise 0x481 else (c.laneState lane 2).raise 0x482

/-- KAT_INTERVAL (R352): an island whose lanes are all idle tests one lane, in turn. -/
def katInterval (isl : Nat) (pass : Bool) (c : Chip) : Chip :=
  let lanes := (List.range 8).filter (fun i => decide (isl * 8 + i < laneCount c.id))
  if lanes.isEmpty then c
  else
    let n := c.cipher.katNext.getD isl 0 % lanes.length
    let lane := isl * 8 + lanes.getD n 0
    let c := { c with cipher := { c.cipher with katNext := c.cipher.katNext.put isl (n + 1) } }
    if c.get CIPH_LANE_state lane ≠ 0 then c
    else if pass then c.katPass lane else
      let c := (c.raise 0x484).laneState lane 2
      { c with twin := { c.twin with faults := setBit c.twin.faults 0 true } }

/-! ### The DRBG (R348, R349) -/

/-- ENTROPY_HEALTH_FAIL: test 0 repetition count, 1 adaptive proportion. -/
def entropyHealthFail (test : Nat) (c : Chip) : Chip :=
  let c := if test = 0 then c.set CIPH_ENTROPY_rct_fail 1 else c.set CIPH_ENTROPY_apt_fail 1
  (({ c with cipher := { c.cipher with sourceOk := false } } : Chip).set CIPH_STATUS_entropy_ok 0).raise 0x485 |>.cntCiph 11

/-- ENTROPY_FLAG_CLEAR: writing 1 clears a latched bit. -/
def entropyFlagClear (mask : Nat) (c : Chip) : Chip :=
  let c := if bit mask 0 then c.set CIPH_ENTROPY_rct_fail 0 else c
  if bit mask 1 then c.set CIPH_ENTROPY_apt_fail 0 else c

/-- DRBG_RESEED: the 1 s reseed. `pass` says that the source passes its tests; `requests` generate requests came since the last call. Without a reseed, 2^32
requests stop the DRBG. -/
def drbgReseed (pass : Bool) (requests : Nat) (c : Chip) : Chip :=
  let since := min (c.get CIPH_ENTROPY_since_reseed + requests) 0xFFFFFFFF
  if pass then
    let was := c.cipher.sourceOk
    let c := ({ c with cipher := { c.cipher with sourceOk := true } } : Chip).set CIPH_ENTROPY_since_reseed 0
    let c := ((c.set CIPH_STATUS_entropy_ok 1).set CIPH_STATUS_drbg_ready 1).cntCiph 10
    c.raiseIf (!was) 0x486
  else
    let c := c.set CIPH_ENTROPY_since_reseed since
    if since = 0xFFFFFFFF && c.flag CIPH_STATUS_drbg_ready then (c.set CIPH_STATUS_drbg_ready 0).raise 0x487 else c

/-! ### Context caches (R363, R364) -/

def ctxLimit (kind : Nat) : Nat := if kind = 1 then 8192 else 1024

def Chip.showCtxs (c : Chip) (isl : Nat) : Chip :=
  let l := c.cipher.ctxs.getD isl []
  let n := fun k => (l.filter (fun x => x / 2 ^ 20 = k)).length
  ((c.set CIPH_CACHE_STAT_conn_used (n 1) isl).set CIPH_CACHE_STAT_psk_used (n 2) isl).set CIPH_CACHE_STAT_pad_used (n 3) isl

/-- CONTEXT_FETCH_DONE: a context is unwrapped into an island's cache, the least recently used of its kind leaving (a connection or paddock context
is written back, since its counters move). An unwrap that fails is a context failure (event 0x492): the connection is lost, a PSK is cleared, a
paddock context is rebuilt from the key record. -/
def contextFetchDone (isl kind index : Nat) (ok : Bool) (c : Chip) : Chip :=
  let c := (c.cntCiph 5).keyOp
  if !ok then
    let c := c.raise 0x492
    if kind = 1 then
      match c.conns.get? index with
      | none => c
      | some n =>
        match n.transport with
        | .drove => c.closeDrove index 0x0009
        | .tcp => (c.emitFrame index n.sub (.tcpClose index true) []).loseQueue index
        | .roce => (c.updConn index (fun n => { n with failed := true })).loseQueue index
    else if kind = 2 then { c with cipher := { c.cipher with psks := c.cipher.psks.del index } }
    else c
  else
    let key := kind * 2 ^ 20 + index
    let l := (c.cipher.ctxs.getD isl []).filter (· ≠ key)
    let same := l.filter (fun x => x / 2 ^ 20 = kind)
    let out_ := if ctxLimit kind ≤ same.length then same.head? else none
    let l := match out_ with
      | some x => l.filter (· ≠ x)
      | none => l
    let c := if out_.isSome && kind ≠ 2 then c.cntCiph 6 else c
    ({ c with cipher := { c.cipher with ctxs := c.cipher.ctxs.put isl (l ++ [key]) } } : Chip).showCtxs isl

end Sys2Proof.Machine
end

