-- ==== Sys2Proof/Machine/Lines.lean ====
section
/-!
DEFINITION. The line pool: sets, tags, states, replacement, the eviction buffer and the victim cache, versions and their limits: chapter 6 of the spec
(R190 to R201, R205, R209).
-/

namespace Sys2Proof.Machine

/-! ### Kinds of commands (R160) -/

/-- An I/O command: not of an admin queue, not Fabrics. -/
def HostCmd.io (k : HostCmd) : Bool := k.cls ≠ 4

/-- Dataset Management with the deallocate attribute. -/
def Sqe.deallocates (q : Sqe) : Bool := q.opc = 0x09 && bit q.cdw11 2

def Sqe.reservation (q : Sqe) : Bool := [0x0D, 0x0E, 0x11, 0x15].contains q.opc

/-- Write-class: Write, Write Zeroes, Dataset Management that deallocates, the reservation commands. -/
def Sqe.writeClass (q : Sqe) : Bool := q.opc = 0x01 || q.opc = 0x08 || q.deallocates || q.reservation

/-- Read-class: Read, Compare, Verify. -/
def Sqe.readClass (q : Sqe) : Bool := q.opc = 0x02 || q.opc = 0x05 || q.opc = 0x0C

/-- Blocks that a command covers. -/
def HostCmd.covers (k : HostCmd) (lba : Nat) : Bool :=
  if k.sqe.opc = 0x09 then k.ranges.any (fun r => decide (r.1 ≤ lba) && decide (lba < r.1 + r.2))
  else k.sqe.opc ≠ 0x00 && !k.sqe.reservation && decide (k.lba ≤ lba) && decide (lba < k.lba + k.count)

/-- An admitted write-class command that is still on the overlap list for a block: its version of the block does not exist yet (R171). -/
def HostCmd.owes (k : HostCmd) (lba : Nat) : Bool :=
  k.io && k.sqe.writeClass && k.covers lba && (k.st = .admitted || k.st = .waitLearn || (k.st = .waitRoom && k.need.contains (lba - k.lba)))

/-! ### Places (R190) -/

def Chip.setsPerStack (c : Chip) : Nat := if c.oneStack then 303104 else 311296

def Chip.setOf (c : Chip) (v lba : Nat) : Nat := crc32c (le 2 v ++ le 8 lba) % c.setsPerStack

/-- The key of a block's set. -/
def Chip.setKey (c : Chip) (v lba : Nat) : Nat := c.stackOf v lba * 2 ^ 20 + c.setOf v lba

/-- The key of a stack's set overflow table. -/
def overflowKey (stack : Nat) : Nat := 2 ^ 21 + stack

def overflowSize : Nat := 16384

/-- The stack of a set key. -/
def stackOfKey (k : Nat) : Nat := if 2 ^ 21 ≤ k then k - 2 ^ 21 else k / 2 ^ 20

def Chip.cacheSet (c : Chip) (k : Nat) : CacheSet := c.cache.sets.getD k ⟨[], 0⟩

/-- Put a line into a way, or free the way. -/
def Chip.putWay (c : Chip) (k w : Nat) (l : Option Line) : Chip :=
  let s := c.cacheSet k
  let ways := match l with
    | some l => s.ways.put w l
    | none => s.ways.del w
  let sets := if ways.isEmpty && s.plru = 0 then c.cache.sets.del k else c.cache.sets.put k { s with ways := ways }
  { c with cache := { c.cache with sets := sets } }

/-- Every line: (set, way, line). -/
def Chip.lines (c : Chip) : List (Nat × Nat × Line) := c.cache.sets.flatMap (fun s => s.2.ways.map (fun w => (s.1, w.1, w.2)))

/-- The lines of one block: its set and the overflow table are searched together (R194). -/
def Chip.blockLines (c : Chip) (v lba : Nat) : List (Nat × Nat × Line) :=
  let ks := [c.setKey v lba, overflowKey (c.stackOf v lba)]
  ks.flatMap (fun k => (c.cacheSet k).ways.filterMap (fun w => if w.2.volume = v && w.2.lba = lba then some (k, w.1, w.2) else none))

/-- Does an earlier write of the volume still owe its version of a block (R171), an earlier learn its fill (R144), or the partner a damaged version's data (R208)? -/
def Chip.owedBelow (c : Chip) (v lba r : Nat) : Bool :=
  c.intake.cmds.any (fun e => e.2.volume = some v && decide (0 < e.2.seq) && decide (e.2.seq < r) && e.2.owes lba) ||
  c.cache.waiting.any (fun l => l.volume = v && l.lba = lba && decide (l.seq < r)) ||
  (c.blockLines v lba).any (fun e => decide (0 < e.2.2.seq) && decide (e.2.2.seq < r) && (e.2.2.st = .filling || (e.2.2.poisoned && e.2.2.data = [])))

/-- A test dump stops admissions and commits; a dump for a loss of power stops everything (R211, R212). -/
def Chip.dumpBusy (c : Chip) : Bool := c.cache.dump.phase ≠ 0

/-! ### What the registers show (R200, R205, R209, R218) -/

def isDirty (l : Line) : Bool := l.st = .dirty || l.st = .committing
/-- A line that holds a version of this chip's own, Filling included. -/
def isVersion (l : Line) : Bool := isDirty l || (l.st = .filling && l.seq ≠ 0)

def Chip.showLines (c : Chip) : Chip :=
  let ls := c.lines
  let n := fun (s : Nat) (p : Line → Bool) => (ls.filter (fun e => stackOfKey e.1 = s && p e.2.2)).length
  let c := (List.range 2).foldl (fun c s =>
    (((c.set CACHE_LINE_STAT_clean (n s (fun l => l.st = .clean)) s).set CACHE_LINE_STAT_dirty (n s isDirty) s).set
      CACHE_LINE_STAT2_mirror (n s (fun l => l.st = .mirror)) s).set CACHE_LINE_STAT2_overflow ((c.cacheSet (overflowKey s)).ways.length) s) c
  let own := (n 0 isDirty + n 1 isDirty)
  let mir := (n 0 (fun l => l.st = .mirror) + n 1 (fun l => l.st = .mirror))
  ((c.set CACHE_DIRTY_STAT_own_mib (ceilDiv own 256)).set CACHE_DIRTY_STAT_mirror_mib (ceilDiv mir 256)).set
    CACHE_DIRTY_STAT_waiting (min c.cache.waiting.length 0xFFFF)

/-- Lines that count as dirty bytes, those being filled included. -/
def Chip.dirtyLines (c : Chip) : Nat := (c.lines.filter (fun e => isVersion e.2.2 || e.2.2.st = .mirror)).length

/-- The grade's dirty region in MiB. -/
def Chip.regionMib (c : Chip) : Nat := if c.oneStack then 4096 else 8192

/-- The hold-up bound in MiB (R209). -/
def holdupBound (joules watts mbps quiesceMs : Nat) : Nat :=
  let mj := joules * 1000 - 20000 - 315 * (quiesceMs - 30)
  mj * mbps * 1000 / max 50 watts / 1048576

/-- The effective limit (R200, R213): the least of the ceiling, the bound, the grade's region and what the image slot holds; 0 while the dump is off. -/
def Chip.limitMib (c : Chip) : Nat :=
  if !c.flag CACHE_DUMP_CFG_dump_en then 0
  else min (min (min (c.get CACHE_DIRTY_CFG_ceiling_mib) (c.get CACHE_HOLDUP_bound_mib)) c.regionMib) (atLeast1 (c.get CACHE_DUMP_AREA_slot_gib) * 1024 - 256)

/-- Is write-through in force on a volume (R205)? -/
def Chip.throughNow (c : Chip) (v : Nat) : Bool :=
  c.flag CACHE_CTL_through || c.flag CACHE_VOL_MODE_mode v || c.get CACHE_DIRTY_STAT_limit_mib = 0 || c.flag STRIPE_CKPT_STAT_through

def Chip.showThrough (c : Chip) : Chip :=
  c.vols.keys.foldl (fun c v => c.setFlag CACHE_VOL_MODE_through_eff (c.throughNow v) v) c

/-- Compute bound and limit again, with their events: the bound below the ceiling, the limit lowered to fit the image slot. -/
def Chip.refreshLimit (c : Chip) : Chip :=
  let q := clamp 1 100 (c.get CACHE_DUMP_CFG_quiesce_ms)
  let b := min 0xFFFF (holdupBound (c.get CACHE_HOLDUP_holdup_j) (c.get CACHE_HOLDUP_dump_w) (c.get CACHE_HOLDUP_vault_mbps) q)
  let c := c.set CACHE_HOLDUP_bound_mib b
  let c := c.raiseIf (decide (b < c.get CACHE_DIRTY_CFG_ceiling_mib)) 0x304
  let free := min (min (c.get CACHE_DIRTY_CFG_ceiling_mib) b) c.regionMib
  let c := c.raiseIf (c.flag CACHE_DUMP_CFG_dump_en && decide (atLeast1 (c.get CACHE_DUMP_AREA_slot_gib) * 1024 - 256 < free)) 0x319
  (c.set CACHE_DIRTY_STAT_limit_mib c.limitMib).showThrough

/-- The bound on dirty lines that R201 uses. -/
def Chip.dirtyMax (c : Chip) : Nat :=
  let m := c.get CACHE_DIRTY_STAT_limit_mib
  (if m = 0 then c.regionMib else m) * 256

/-- How many Clean lines the read cache may hold (R205). -/
def Chip.cleanMax (c : Chip) : Nat := (if c.oneStack then 4849664 else 9961472) - c.get CACHE_DIRTY_STAT_limit_mib * 256

/-! ### Tree pseudo-LRU (R197): node i has children 2i + 1 and 2i + 2; a bit points to the right child when set -/

/-- Point every node on a way's path away from it. -/
def plruTouch (bits_ way : Nat) : Nat :=
  let go := fun (acc : Nat × Nat) (level : Nat) =>
    let right := bit way (3 - level)
    (setBit acc.1 acc.2 (!right), 2 * acc.2 + 1 + b2n right)
  ((List.range 4).foldl go (bits_, 0)).1

def Chip.touch (c : Chip) (k w : Nat) : Chip :=
  if 2 ^ 21 ≤ k then c
  else
    let s := c.cacheSet k
    { c with cache := { c.cache with sets := c.cache.sets.put k { s with plru := plruTouch s.plru w } } }

/-- Walk from the root: the pointed child where its subtree holds a replaceable way, else the other. -/
def plruWalk (bits_ : Nat) (ok : Nat → Bool) : Nat → Nat → Nat → Option Nat
  | 0, _, way => if ok way then some way else none
  | level + 1, node, way =>
    let inSub := fun (w : Nat) => (List.range (2 ^ level)).any (fun i => ok (w * 2 ^ level + i))
    let want := b2n (bit bits_ node)
    let side := if inSub (2 * way + want) then want else 1 - want
    if inSub (2 * way + side) then plruWalk bits_ ok level (2 * node + 1 + side) (2 * way + side) else none

/-- Move a Clean line that is replaced into the eviction buffer; what stood there goes on to the victim cache, first in first out (R198). -/
def Chip.evictLine (c : Chip) (stack : Nat) (l : Line) : Chip :=
  let old := (c.cache.evict.getD stack []).map (fun x => { x with st := LineSt.clean })
  let victim := c.cache.victim.getD stack [] ++ old
  let victim := victim.drop (victim.length - 1024)
  ({ c with cache := { c.cache with evict := c.cache.evict.put stack [{ l with st := .evicting }], victim := c.cache.victim.put stack victim } } : Chip).cntCache 8

/-- A way for a line (R194, R197): an Invalid one first, lowest index first, then a Clean unpinned one by the tree. A Clean install at the cap takes only a
Clean way. -/
def Chip.chooseWay (c : Chip) (k : Nat) (cleanOnly : Bool) : Option (Nat × Chip) :=
  let s := c.cacheSet k
  match (if cleanOnly then none else (List.range 16).find? (fun w => !s.ways.has w)) with
  | some w => some (w, c)
  | none =>
    match plruWalk s.plru (fun w => match s.ways.get? w with
        | some l => l.st = .clean && l.pins = 0
        | none => false) 4 0 0 with
    | some w => match s.ways.get? w with
      | some l => some (w, (c.putWay k w none).evictLine (stackOfKey k) l)
      | none => none
    | none => none

/-- Place a version or a Mirror line: a way of its set, else a slot of the overflow table (event 0x300 + stack when that is full). -/
def Chip.placeLine (c : Chip) (l : Line) : Option Chip :=
  let k := c.setKey l.volume l.lba
  match c.chooseWay k false with
  | some (w, c) => some ((c.putWay k w (some l)).touch k w)
  | none =>
    let o := overflowKey (c.stackOf l.volume l.lba)
    let w := (c.cacheSet o).ways.freeFrom overflowSize 0
    if overflowSize ≤ w then none else some ((c.putWay o w (some l)).cntCache 10)

/-- Create a version, or let it wait: at the dirty limit (R201) or for a place (R194). Mirror lines wait likewise. -/
def Chip.offerLine (c : Chip) (l : Line) : Chip :=
  let wait := fun (c : Chip) => { c with cache := { c.cache with waiting := c.cache.waiting ++ [l] } }
  if c.dirtyMax ≤ c.dirtyLines then ((wait c).cntCache 13).raiseLtd 0x302 0 second
  else match c.placeLine l with
    | some c => c
    | none => (wait c).raise (0x300 + c.stackOf l.volume l.lba)

/-- Change a line in place. -/
def Chip.setLine (c : Chip) (k w : Nat) (f : Line → Line) : Chip :=
  match (c.cacheSet k).ways.get? w with
  | some l => c.putWay k w (some (f l))
  | none => c

/-- What has been read of a block's drive state and is still on its way becomes no Clean line, since that state has changed (R193). -/
def Chip.spoilFills (c : Chip) (v lba : Nat) : Chip :=
  { c with
    intake := { c.intake with cmds := c.intake.cmds.mapVals (fun _ (k : HostCmd) =>
      if k.sqe.readClass && k.volume = some v && decide (k.lba ≤ lba) && k.need.contains (lba - k.lba) then { k with noFill := addNew (lba - k.lba) k.noFill } else k) },
    stripes := { c.stripes with drv := c.stripes.drv.mapVals (fun _ (d : DrvCmd) => if d.use = .prefetch v lba then { d with stale := true } else d) } }

/-- Drop the Clean copies of a block: the line, the eviction buffer's and the victim cache's (R193, R198). A pinned Clean line goes when its pins do. -/
def Chip.dropClean (c : Chip) (v lba : Nat) : Chip :=
  let c := c.spoilFills v lba
  let c := (c.blockLines v lba).foldl (fun c e =>
    if e.2.2.st = .clean && e.2.2.pins = 0 then c.putWay e.1 e.2.1 none
    else if e.2.2.st = .clean then c.setLine e.1 e.2.1 (fun l => { l with poisoned := true })
    else if e.2.2.st = .filling && e.2.2.seq = 0 then c.putWay e.1 e.2.1 none else c) c
  let keep := fun (l : List Line) => l.filter (fun x => !(x.volume = v && x.lba = lba))
  let s := c.stackOf v lba
  { c with cache := { c.cache with evict := c.cache.evict.updD s [] keep, victim := c.cache.victim.updD s [] keep } }

/-! ### Versions (R170, R171, R193) -/

/-- The epoch of a volume at an admission number (R236). -/
def Volume.epochAt (v : Volume) (seq : Nat) : Nat := v.epoch - (v.epochs.filter (fun e => decide (seq < e.2))).length

/-- The newest buffered version of a block below a number. One whose newer version below the number has committed is not the newest: the drive state is. -/
def Chip.newestBelow (c : Chip) (v lba r : Nat) : Option (Nat × Nat × Line) :=
  ((c.blockLines v lba).filter (fun e => isDirty e.2.2 && decide (e.2.2.seq < r) && (e.2.2.newer = 0 || decide (r ≤ e.2.2.newer)))).foldl
    (fun (best : Option (Nat × Nat × Line)) e => match best with
      | none => some e
      | some b => if b.2.2.seq < e.2.2.seq then some e else some b) none

/-- Is a version of this block above `s` and in the same epoch Dirty or Committing? Versions of other epochs lie in other physical acres. -/
def Chip.newerThan (c : Chip) (l : Line) : Bool :=
  (c.blockLines l.volume l.lba).any (fun e => isDirty e.2.2 && decide (l.seq < e.2.2.seq) &&
    (match c.vols.get? l.volume with
      | some v => v.epochAt l.seq = v.epochAt e.2.2.seq
      | none => true))

/-- A waiting read of the volume still has to choose a version of the block, and could choose this one (R171). -/
def Chip.wanted (c : Chip) (l : Line) : Bool :=
  c.intake.cmds.any (fun e => e.2.volume = some l.volume && e.2.st = .waitDep && decide (l.seq < e.2.seq) && (l.newer = 0 || decide (e.2.seq ≤ l.newer)) &&
    e.2.dep.any (fun b => e.2.lba + b = l.lba))

/-- Superseded versions become Invalid (R193). -/
def Chip.supersede (c : Chip) : Chip :=
  let out_ := c.lines.filter (fun e => e.2.2.st = .dirty && e.2.2.pins = 0 && (e.2.2.newer ≠ 0 || c.newerThan e.2.2) && !c.wanted e.2.2)
  out_.foldl (fun c e => (c.putWay e.1 e.2.1 none).cntCache 6) c

/-- Older Dirty versions of the epoch of a version that has committed stay for their readers alone (R193). -/
def Chip.markSuperseded (c : Chip) (v lba seq : Nat) : Chip :=
  let ep := fun (s : Nat) => (c.vols.get? v).map (fun x => x.epochAt s)
  (c.blockLines v lba).foldl (fun (c : Chip) e =>
    if e.2.2.st = .dirty && decide (e.2.2.seq < seq) && ep e.2.2.seq = ep seq then
      c.setLine e.1 e.2.1 (fun l => { l with newer := if l.newer = 0 then seq else min l.newer seq }) else c) c

/-- Do as many readers hold a line as may (R220: 65,534)? A further one waits, so that the count stays exact and below its sticking value (R191). -/
def Line.full (l : Line) : Bool := decide (65534 ≤ l.pins)

/-- Pin or unpin the version of a block. A version that has committed meanwhile is a Clean line; one that was to be Invalid goes with its last pin. -/
def Chip.pinVersion (c : Chip) (v lba seq : Nat) (up : Bool) : Chip :=
  match (c.blockLines v lba).find? (fun e => isVersion e.2.2 && e.2.2.seq = seq) with
  | some e => c.setLine e.1 e.2.1 (fun l => { l with pins := if up then l.pins + 1 else l.pins - 1 })
  | none =>
    match (c.blockLines v lba).find? (fun e => e.2.2.st = .clean && decide (0 < e.2.2.pins)) with
    | some e =>
      if up then c
      else if e.2.2.pins = 1 && e.2.2.poisoned then c.putWay e.1 e.2.1 none
      else c.setLine e.1 e.2.1 (fun l => { l with pins := l.pins - 1 })
    | none => c

/-- A Filling version has its data: it becomes Dirty and its mirror record is sent (R193, R202). The number of the record is answered. -/
def Chip.versionDirty (c : Chip) (k w : Nat) : Nat × Chip :=
  match (c.cacheSet k).ways.get? w with
  | none => (0, c)
  | some l =>
    let l := { l with st := .dirty, bornNs := c.clk }
    ((c.putWay k w (some l)).cntCache 5).mirrorPush (.line l)

/-! ### Reads of one block (R172, R195, R199) -/

/-- Where a block's entitled content is found in the buffers: a version with its pin, a Clean copy, or nothing. -/
inductive Found where
  | version (seq : Nat) (b : Blk) (poisoned : Bool)
  | clean (b : Blk)
  | miss

/-- A line's content as a block. A zero block that a learn fill wrote carries a mark above its application tag 0xFFFF (R185, R231). -/
def Line.blk (l : Line) : Blk := ⟨l.data, if l.fill && l.app = 0xFFFF then 0x1FFFF else l.app⟩

/-- Drive state from the Clean line, the eviction buffer or the victim cache; a victim hit is recalled into its set. Where the set has no way to
take, the read is served all the same and the copy is gone (DESIGN CHOICE, assumption 57: R198 does not say). -/
def Chip.findClean (c : Chip) (v lba : Nat) : Found × Chip :=
  match (c.blockLines v lba).find? (fun e => e.2.2.st = .clean && !e.2.2.poisoned) with
  | some e => (.clean e.2.2.blk, (c.touch e.1 e.2.1).cntCache 2)
  | none =>
    let s := c.stackOf v lba
    let hit := fun (x : Line) => x.volume = v && x.lba = lba
    match (c.cache.evict.getD s []).find? hit with
    | some l => (.clean l.blk, c.cntCache 3)
    | none =>
      match (c.cache.victim.getD s []).find? hit with
      | none => (.miss, c.cntCache 4)
      | some l =>
        let c := { c with cache := { c.cache with victim := c.cache.victim.updD s [] (fun x => x.filter (fun y => !hit y)) } }
        let c := c.cntCache 3
        let k := c.setKey v lba
        match c.chooseWay k (decide (c.cleanMax ≤ (c.lines.filter (fun e => e.2.2.st = .clean)).length)) with
        | some (w, c) => (.clean l.blk, ((c.putWay k w (some l)).touch k w).cntCache 9)
        | none => (.clean l.blk, c)

/-- Allocate a Filling line for drive data that is to become Clean (R193, R195). -/
def Chip.allocClean (c : Chip) (v lba paddock fold : Nat) : Chip :=
  let there := (c.blockLines v lba).any (fun e => e.2.2.st = .clean || (e.2.2.st = .filling && e.2.2.seq = 0))
  if there then c
  else
    let k := c.setKey v lba
    match c.chooseWay k (decide (c.cleanMax ≤ (c.lines.filter (fun e => e.2.2.st = .clean)).length)) with
    | some (w, c) => (c.putWay k w (some ⟨v, lba, .filling, 0, paddock, fold, 0, false, false, 0, [], c.clk, false, 0⟩)).touch k w
    | none => c

/-- Drive data is complete: a line still Filling becomes Clean; one that a commit has taken away meanwhile does not (R193). -/
def Chip.fillClean (c : Chip) (v lba : Nat) (b : Blk) : Chip :=
  match (c.blockLines v lba).find? (fun e => e.2.2.st = .filling && e.2.2.seq = 0) with
  | some e => (c.setLine e.1 e.2.1 (fun l => { l with st := .clean, data := b.data, app := b.app % 65536, fill := decide (b.app = 0x1FFFF) })).showLines
  | none => c

/-- Is drive data of the block that may become Clean still on its way? -/
def Chip.fillOwed (c : Chip) (v lba : Nat) : Bool :=
  c.intake.cmds.any (fun e => e.2.sqe.readClass && e.2.volume = some v && decide (e.2.lba ≤ lba) && e.2.need.contains (lba - e.2.lba) && !e.2.noFill.contains (lba - e.2.lba)) ||
    c.stripes.drv.any (fun d => d.2.use = .prefetch v lba && !d.2.stale)

/-- Drive data will not come: a Clean line that still waits for it goes, unless another read brings the block. -/
def Chip.dropFill (c : Chip) (v lba : Nat) : Chip :=
  if c.fillOwed v lba then c
  else ((c.blockLines v lba).foldl (fun c e => if e.2.2.st = .filling && e.2.2.seq = 0 then c.putWay e.1 e.2.1 none else c) c).showLines

/-- A line that has room at last is created (R194, R201); the versions and mirror lines behind it that fit follow, in order. -/
def Chip.admitWaiting : List Line → Chip → List Line × Chip
  | [], c => ([], c)
  | l :: ls, c =>
    if c.dirtyMax ≤ c.dirtyLines then (l :: ls, c)
    else match c.placeLine l with
      | some c => Chip.admitWaiting ls c
      | none =>
        let r := Chip.admitWaiting ls c
        (l :: r.1, r.2)

def Chip.retryLines (c : Chip) : Chip :=
  let r := Chip.admitWaiting c.cache.waiting c
  ({ r.2 with cache := { r.2.cache with waiting := r.1 } } : Chip).showLines

end Sys2Proof.Machine
end

