-- ==== Sys2Proof/Machine/Drive.lean ====
section
/-!
DEFINITION. Drive commands: lanes and their release (R286 to R288, R290, R294 to R297), drive tags, time-outs and the pen (R180 to R182), the crook gate at
the submission doorbell (R247).
-/

namespace Sys2Proof.Machine

/-! ### Time gates -/

/-- The minute of the day, and the ns of it that have passed (R286). -/
def Chip.dayMinute (c : Chip) : Nat × Nat :=
  if c.ports.srcInForce = 1 then (c.get PORT_PPS_SEC_seconds % 86400 / 60, c.get PORT_PPS_SEC_seconds % 60 * second)
  else
    let t := (c.now - c.ports.utcInForce * second) % (86400 * second)
    (t / (60 * second), t % (60 * second))

/-- Does a window of slot s cover minute m of the day? A window may run past midnight. -/
def Chip.minuteOpen (c : Chip) (s m : Nat) : Bool :=
  (List.range 8).any (fun w =>
    let len := min 1440 (c.get GOV_GATE_len_min s w)
    decide (0 < len) && decide ((m + 1440 - min 1439 (c.get GOV_GATE_start_min s w)) % 1440 < len))

/-- Is the gate of slot s in force? -/
def Chip.gated (c : Chip) (s : Nat) : Bool := c.flag GOV_CTL_gate_en && bit (c.get GOV_GATE_EN_slot_en) s

/-- How many minutes in a row from minute m on are open: 1,440 when the gate never closes. -/
def Chip.openMinutes (c : Chip) (s m : Nat) : Nat := ((List.range 1440).takeWhile (fun k => c.minuteOpen s ((m + k) % 1440))).length

/-- Is the gate of slot s open now (R286)? -/
def Chip.gateOpen (c : Chip) (s : Nat) : Bool := !c.gated s || c.minuteOpen s c.dayMinute.1

/-- May a background command of `est` µs begin (R288)? The guard band ends guard_mult ÷ 4 estimates before the close. -/
def Chip.guardOk (c : Chip) (s est : Nat) : Bool :=
  if !c.gated s then true
  else
    let n := c.openMinutes s c.dayMinute.1
    n = 1440 || decide (c.dayMinute.2 + est * 1000 * atLeast1 (c.get GOV_GATE_CFG_guard_mult) / 4 ≤ n * 60 * second)

/-! ### Slots and lanes -/

def slotRun0 : SlotRun :=
  { acc := List.replicate 8 0, lowSince := none, retryEnd := none, pgSince := none, goneSince := none, tj := 85000000000, tc := 85000000000,
    trainFails := 0, trainGen := 2, miFails := 0, removeAt := none, forcedAt := none, cooling := false, pulledSinceLock := false,
    offByRemoval := false, rearm := false, quiesced := false, offAsked := false, forcedOff := false, refusedAt := none, linkDownAt := none, failed := false, energyPj := 0 }

def Chip.run (c : Chip) (s : Nat) : SlotRun := c.slots.getD s slotRun0

def Chip.updRun (c : Chip) (s : Nat) (f : SlotRun → SlotRun) : Chip := { c with slots := c.slots.put s (f (c.run s)) }

/-- The slots of the grade. -/
def Chip.slotList (c : Chip) : List Nat := (List.range 34).filter (fun s => !slotAbsent c.id s)

def isVault (s : Nat) : Bool := decide (32 ≤ s)

/-- A drive has power when either path is on (chapter 10). -/
def Chip.powered (c : Chip) (s : Nat) : Bool := c.flag SLOT_CH_STAT_pg s || c.flag SLOT_CH_STAT_partner_on s

/-- A drive command not yet made out. -/
def drvCmd0 : DrvCmd :=
  { slot := 0, cid := 0, kind := 0, lba := 0, count := 1, use := .admin 0, issuedNs := 0, pen := 3, timedNs := 0, lateSeen := false, flock := 0, stripe := 0,
    pos := 0, blk := 0, lane := 2, cls := 12, paddock := 0xFFFF, fold := none, source := 0, wake := false, gated := false, tries := 0, data := [] }

/-- The cost class of a read or write of n blocks of 4 KiB (R290). -/
def costClass (kind n : Nat) : Nat :=
  let len := if n ≤ 1 then 0 else if n ≤ 4 then 1 else if n ≤ 16 then 2 else if n ≤ 64 then 3 else 4
  if kind = 0 then len else if kind = 1 then 5 + len else 12

def Chip.laneLevel (c : Chip) (s l : Nat) : Int := signedOf 32 (c.get GOV_DRV_E_level_uj s l)

def Chip.setLane (c : Chip) (s l : Nat) (v : Int) : Chip := c.set GOV_DRV_E_level_uj (ofSigned 32 (clampSigned 32 v)) s l

def Chip.cmdCost (c : Chip) (d : DrvCmd) : Nat := c.get GOV_DRV_COST_cost_uj d.slot d.cls

/-- Show what a slot holds: tags, pens, commands waiting by lane (R186, R312). -/
def Chip.showDrv (c : Chip) (s : Nat) : Chip :=
  let mine := c.stripes.drv.vals.filter (fun d => d.slot = s)
  let c := c.set CMDQ_DRV_STAT_inflight (mine.filter (fun d => d.pen ≠ 3)).length s
  let c := c.set CMDQ_DRV_STAT_penned (mine.filter (fun d => d.pen = 1 || d.pen = 2)).length s
  (List.range 5).foldl (fun c l => c.set GOV_DRV_E_waiting (min 0xFFFF (mine.filter (fun d => d.pen = 3 && d.lane = l)).length) s l) c

/-- Show the host commands that wait for a drive in low power (R182, R186). -/
def Chip.showWake (c : Chip) : Chip :=
  (List.range 4).foldl (fun c i => c.set CMDQ_ISL_STAT_wait_power
    ((c.intake.cmds.filter (fun e => e.1 / 16384 = i && c.stripes.drv.any (fun d => d.2.wake && (match d.2.use with
      | .host k _ => k = e.1
      | _ => false)))).length) i) c

def Chip.putDrv (c : Chip) (id_ : Nat) (d : DrvCmd) : Chip := { c with stripes := { c.stripes with drv := c.stripes.drv.put id_ d } }

/-- Free a drive tag, or take a command out of its lane. -/
def Chip.dropDrv (c : Chip) (id_ : Nat) : Chip :=
  match c.stripes.drv.get? id_ with
  | some d => ({ c with stripes := { c.stripes with drv := c.stripes.drv.del id_ } } : Chip).showDrv d.slot
  | none => c

/-- A drive command ended without its completion: what follows is settled at the end of the command in hand. -/
def Chip.fellOut (c : Chip) (d : DrvCmd) (how : DrvEnd) : Chip := { c with stripes := { c.stripes with fell := c.stripes.fell ++ [(d, how)] } }

def tagsPerDrive : Nat := 1024

/-- Free tags of a drive: penned tags count (R181). -/
def Chip.freeTags (c : Chip) (s : Nat) : Nat := tagsPerDrive - (c.stripes.drv.vals.filter (fun d => d.slot = s && d.pen ≠ 3)).length

/-- Tags of the chip (chapter 5): 16,384, on the SV1816 8,192. -/
def Chip.chipTagsFree (c : Chip) : Bool :=
  decide ((c.stripes.drv.vals.filter (fun d => d.pen ≠ 3)).length < (if c.id.half then 8192 else 16384))

/-- The least command identifier of a drive that is not in use. -/
def Chip.freeCid (c : Chip) (s : Nat) : Nat :=
  let used := (c.stripes.drv.vals.filter (fun d => d.slot = s && d.pen ≠ 3)).map (·.cid)
  ((List.range tagsPerDrive).find? (fun n => !used.contains n)).getD 0

/-- A command leaves its lane for the drive: charged to its lane and attributed (R295), under a free command identifier. -/
def Chip.issueDrv (c : Chip) (n : Nat) (d : DrvCmd) : Chip :=
  let cost := c.cmdCost d
  let c := c.setLane d.slot d.lane (c.laneLevel d.slot d.lane - cost)
  let c := (if d.paddock = 0xFFFF then c else c.tallyEnergy d.paddock cost).cntGov 2
  let c := { c with gov := { c.gov with charged := c.gov.charged.updD d.slot 0 (fun x => x + cost),
                                        released := c.gov.released.updD (d.slot * 8 + d.lane) 0 (fun x => x + cost) } }
  let cid := c.freeCid d.slot
  let out : Out := match d.use with
    | .admin k => if d.kind = 2 then .driveAdmin d.slot k d.count else .driveCmd d.slot cid d.kind d.lba d.count d.data
    | _ => .driveCmd d.slot cid d.kind d.lba d.count d.data
  ((c.putDrv n { d with pen := 0, cid := cid, issuedNs := c.clk }).send out).showDrv d.slot

/-- The chip sends a drive an admin or other command of its own: it holds a drive tag and times out as every drive command does (R180), of cost class 12 (R290). It is released at once in the
urgent lane of a vault and the medium lane of another drive, unless tags are short (DESIGN CHOICE, assumption 141: R294 names no lane for these commands). -/
def Chip.adminSend (c : Chip) (s kind arg : Nat) : Chip :=
  let d : DrvCmd := { drvCmd0 with slot := s, kind := 2, use := .admin kind, count := arg, lane := if isVault s then 0 else 2, cls := 12 }
  let n := c.stripes.drvId
  let c : Chip := { c with stripes := { c.stripes with drvId := n + 1, drv := c.stripes.drv.put n d } }
  if c.freeTags s = 0 || !c.chipTagsFree then c.showDrv s else c.issueDrv n d

/-- Ask for a power state (R299, R300): chip A sends the Set Features itself, chip B of a pair asks chip A. -/
def Chip.askPower (c : Chip) (s state : Nat) (np : Bool) : Chip :=
  if !c.flag GOV_CTL_ps_en || isVault s then c
  else if c.id.chipB && c.get TWIN_STATUS_pair_state = 1 then c.send (.psRequest s state np)
  else ({ c with gov := { c.gov with psWait := c.gov.psWait.put s (state, np, 1) } } : Chip).adminSend s 0 state

/-- Put a command into its lane (R295). A host command that comes to wait for a drive in low power is counted once (R186). For a drive in a non-operational state it waits until the governor has brought the drive back (R182). -/
def Chip.laneIn (c : Chip) (d : DrvCmd) : Chip :=
  let s := d.slot
  let asleep := c.flag GOV_DRV_PWR_np s
  let waits := decide (c.laneLevel s d.lane ≤ 0) || c.stripes.drv.any (fun e => e.2.slot = s && e.2.lane = d.lane && e.2.pen = 3)
  let c := if waits then c.cntGov 3 else c
  let was := fun (k : Nat) => c.stripes.drv.any (fun e => e.2.wake && (match e.2.use with
    | .host k' _ => k' = k
    | _ => false))
  let c := { c with stripes := { c.stripes with drvId := c.stripes.drvId + 1, drv := c.stripes.drv.put c.stripes.drvId { d with pen := 3, wake := asleep } },
                    gov := { c.gov with busy := addNew s c.gov.busy, lastCmd := c.gov.lastCmd.put s c.clk } }
  let counted := match d.use with
    | .host k _ => !was k
    | _ => false
  let c := (if asleep then (if counted then c.cntCmd 12 else c).askPower s (c.gov.ceiling.getD s 0) false else c).send (.driveActivity s)
  (c.showDrv s).showWake

/-- The command at the head of a lane. -/
def Chip.laneHead (c : Chip) (s l : Nat) : Option (Nat × DrvCmd) := c.stripes.drv.first? (fun _ d => d.slot = s && d.lane = l && d.pen = 3 && !d.wake)

/-- Does the lane's energy allow a release: a level above 0, the urgent lane down to what it may borrow, any level while energy is not enforced (R291, R295,
R296)? -/
def Chip.laneFree (c : Chip) (s l : Nat) : Bool :=
  !c.flag GOV_CTL_en || c.get GOV_CAP_shelf_cap_w = 0 && (match c.gov.partnerCap with
    | some (w, _) => !(c.flag GOV_STAT_cap_mismatch && decide (0 < w))
    | none => true) || decide (0 < c.laneLevel s l) || (l = 0 && decide (-(c.gov.borrow : Int) < c.laneLevel s 0))

/-- May the drive take commands now: its link up, its queues created, not quiesced? -/
def Chip.driveReady (c : Chip) (s : Nat) : Bool := c.flag DRV_LINK_STAT_up s && c.flag DRV_NVME_STAT_ready s && !(c.run s).quiesced

/-- Why a head command stays in its lane beside energy: the drive cannot take it, no registration for a member write (R510), a closed gate or its guard band (R287, R288). -/
def Chip.headHeld (c : Chip) (d : DrvCmd) : Bool :=
  (d.kind ≠ 2 && !c.driveReady d.slot) || (d.kind = 1 && d.fold.isSome && !c.flag DRV_NVME_STAT_rsv_held d.slot) ||
    (d.gated && (!c.gateOpen d.slot || !c.guardOk d.slot (c.get GOV_DRV_COST_est_us d.slot d.cls)))

/-- The crook gate refuses a member write at the doorbell (R247): the write is never sent; its entry stays open. -/
def Chip.gateRefuse (c : Chip) (id_ : Nat) (d : DrvCmd) : Chip :=
  let c := (c.dropDrv id_).cntStripe 10
  let c := if c.flag STRIPE_GATE_LAST_valid then c
    else (((c.set STRIPE_GATE_LAST_fold (d.fold.getD 0)).set STRIPE_GATE_LAST_slot d.slot).set STRIPE_GATE_LAST_source d.source).set STRIPE_GATE_LAST_valid 1
  c.raise 0x38B

/-- The lane of an operation's drive commands, and whether a time gate holds them (R260, R287). -/
def Chip.bgLane (c : Chip) (o : BgOp) : Nat × Bool :=
  if o.kind = 1 && o.step = 1 then (2, false) else if o.kind ≤ 3 then (4, !c.flag STRIPE_RB_CFG_gate_exempt) else (4, true)

/-- The operation that an entry belongs to: one that issued a repair, or the shearing that re-encrypts its stripe (R261, R274). -/
def Chip.entryOwner (c : Chip) (id_ : Nat) (e : JEntry) : Option BgOp :=
  if e.kind = 4 then e.args.head?.bind c.stripes.bg.get? else (c.stripes.bg.first? (fun _ o => o.kind = 5 && o.goals = [id_])).map (·.2)

/-- The class of an operation's traffic: C5 for step 1 of a rebuild, else C6 (R260, R274). -/
def BgOp.cls (o : BgOp) : Nat := if o.kind = 1 && o.step = 1 then 5 else 6

/-- The class in which the data of a drive command travels. -/
def Chip.drvClass (c : Chip) (d : DrvCmd) : Nat :=
  match d.use with
  | .background i _ => ((c.stripes.bg.get? i).map BgOp.cls).getD 6
  | .entryWrite id_ _ => (((c.stripes.entries.get? id_).bind (c.entryOwner id_)).map BgOp.cls).getD 5
  | .prefetch _ _ => 7
  | _ => 5

/-- A drive command on its way crosses the switch: a host read from its CMD island in C5 (R51, step 3b); what an entry writes by way of its cipher and stripe islands, in C5 (R50, step 10); a
block read ahead in C7 (R196); the reads of entries and reconstructions in C5, and background work in its own class, from their stripe's island. -/
def Chip.crossDrv (c : Chip) (d : DrvCmd) : Chip :=
  let strp := strpId (if c.id.half then d.stripe % 2 else d.stripe % 4)
  let cls := c.drvClass d
  match d.use with
  | .host k _ => c.cross (cmdId (k / 16384)) (drvId d.slot) 5
  | .entryWrite _ _ => ((c.cross (cacheId (if c.id.half then 0 else d.stripe % 2)) (ciphId none) cls).cross (ciphId none) strp cls).cross strp (drvId d.slot) cls
  | .prefetch v lba => c.cross (cacheId (c.stackOf v lba)) (drvId d.slot) cls
  | .background _ _ => c.cross strp (drvId d.slot) cls
  | .recon _ _ => c.cross strp (drvId d.slot) 5
  | .entryRead _ _ => c.cross strp (drvId d.slot) 5
  | .admin _ => c

/-- LANE_RELEASE (R295 to R297): the head of a lane goes to the drive's submission queue, is charged, and its charge attributed to its paddock. Free tags that are
short go to the higher lanes first. -/
def laneRelease (slot lane : Nat) (c : Chip) : Chip :=
  match c.laneHead slot lane with
  | none => c
  | some (n, d) =>
    if !c.laneFree slot lane then
      if lane = 0 then c.raiseLtd 0x603 0 second else c
    else if c.headHeld d then
      if d.gated && c.gateOpen slot && !c.guardOk slot (c.get GOV_DRV_COST_est_us slot d.cls) then (c.cntGov 8).raiseLtd 0x632 0 second else c
    else
      let above := ((List.range lane).filter (fun l => (c.laneHead slot l).isSome && c.laneFree slot l)).length
      if c.freeTags slot ≤ above || !c.chipTagsFree then c
      else if d.fold.isSome && d.kind = 1 && !c.flag TWIN_FOLD_STAT_gate_open (d.fold.getD 0) then c.gateRefuse n d
      else
        let c := if lane = 0 && decide (c.laneLevel slot 0 ≤ 0) then c.cntGov 4 else c
        (c.crossDrv d).issueDrv n d

/-- The command that holds a drive tag: a slot and a command identifier. -/
def Chip.tagOf (c : Chip) (slot cid : Nat) : Option (Nat × DrvCmd) := c.stripes.drv.first? (fun _ d => d.slot = slot && d.cid = cid && d.pen ≠ 3)

/-- Learn the service time of a completed command (R288). -/
def Chip.learnEst (c : Chip) (d : DrvCmd) : Chip :=
  let est := c.get GOV_DRV_COST_est_us d.slot d.cls
  let took := (c.clk - d.issuedNs) / 1000
  c.set GOV_DRV_COST_est_us (min 0xFFFF ((15 * est + took) / 16)) d.slot d.cls

/-! ### Time-outs and the pen (R180, R181) -/

/-- Reset a drive's controller to free its pens. -/
def Chip.resetDrive (c : Chip) (s : Nat) : Chip := ((c.raise 0x28B).cntCmd 11).send (.driveReset s)

def Chip.penned (c : Chip) (s : Nat) : Nat := (c.stripes.drv.vals.filter (fun d => d.slot = s && (d.pen = 1 || d.pen = 2))).length

/-- A time-out is counted and latched. -/
def Chip.countTimeout (c : Chip) (d : DrvCmd) : Chip :=
  let c := ((c.bump CMDQ_DRV_STAT_timeouts 1 d.slot).cntCmd 8).raise 0x288
  if c.flag CMDQ_TMO_LAST_valid then c
  else (((c.set CMDQ_TMO_LAST_slot d.slot).set CMDQ_TMO_LAST_drive_cid d.cid).set CMDQ_TMO_LAST_kind d.kind).set CMDQ_TMO_LAST_valid 1

/-- A command issued to a drive times out: its tag is penned, an Abort is sent, and the waiting work goes on without it. -/
def Chip.timeOut (c : Chip) (n : Nat) (d : DrvCmd) : Chip :=
  let c := (c.countTimeout d).putDrv n { d with pen := 1, timedNs := c.clk }
  let c := ((c.send (.driveAbort d.slot d.cid)).fellOut d .timedOut).showDrv d.slot
  if clamp 1 1024 (c.get CMDQ_DRV_CFG_pen_max) ≤ c.penned d.slot then c.resetDrive d.slot else c

/-- DRIVE_CMD_TIMEOUT (R180). -/
def driveCmdTimeout (slot cid : Nat) (c : Chip) : Chip :=
  match c.tagOf slot cid with
  | some (n, d) => if d.pen = 0 then c.timeOut n d else c
  | none => c

/-- DRIVE_ABORT_COMPLETE (R181). A tag whose late completion has come is freed with no more said. -/
def driveAbortComplete (slot cid : Nat) (aborted : Bool) (c : Chip) : Chip :=
  match c.tagOf slot cid with
  | none => c
  | some (n, d) =>
    if d.pen ≠ 1 then c
    else if d.lateSeen then c.dropDrv n
    else if aborted then
      let c := ((c.dropDrv n).raise 0x28A).cntCmd 10
      if d.kind = 1 then c.fellOut d .again else c
    else (c.putDrv n { d with pen := 2 }).showDrv slot

/-- LATE_DRIVE_COMPLETION (R181). `outcome` is 0 success, 1 error, 2 Reservation Conflict. -/
def lateDriveCompletion (slot cid outcome : Nat) (c : Chip) : Chip :=
  match c.tagOf slot cid with
  | none => c
  | some (n, d) =>
    if d.pen = 0 || d.lateSeen then c
    else
      let c := c.learnEst d
      let c := if d.pen = 2 then c.dropDrv n else c.putDrv n { d with lateSeen := true }
      if d.kind = 1 then c.fellOut d (.late outcome)
      else ((c.bump CMDQ_DRV_STAT_late_dropped 1 slot).cntCmd 9).raise 0x289

/-- PEN_LIMIT_EXPIRY (R181): pen_limit_ms since a time-out. -/
def penLimitExpiry (slot : Nat) (c : Chip) : Chip := if 0 < c.penned slot then c.resetDrive slot else c

/-- The commands of a drive in a given state, freed together. -/
def Chip.takeDrv (c : Chip) (s : Nat) (p : DrvCmd → Bool) : List DrvCmd × Chip :=
  let gone := c.stripes.drv.filter (fun e => e.2.slot = s && p e.2)
  (gone.map (·.2), (({ c with stripes := { c.stripes with drv := c.stripes.drv.filter (fun e => !(e.2.slot = s && p e.2)) } } : Chip).showDrv s).showWake)

/-- The drive is gone or failed: its tags and what waits in its lanes are freed, its commands resolved as for a member that becomes absent (R181, R245, R246). -/
def Chip.driveGone (c : Chip) (s : Nat) : Chip :=
  let r := c.takeDrv s (fun d => !(d.kind = 0 && (d.pen = 1 || d.pen = 2)))
  let c := r.1.foldl (fun c d => c.fellOut d .gone) r.2
  (c.takeDrv s (fun _ => true)).2

/-- A successful controller reset: pens are freed, commands issued and not completed no longer exist at the drive (R181). -/
def Chip.driveWasReset (c : Chip) (s : Nat) : Chip :=
  let r := c.takeDrv s (fun d => d.pen ≠ 3)
  r.1.foldl (fun c d =>
    let c := if d.pen = 0 then c.countTimeout d else c
    if d.kind = 1 && !d.lateSeen then c.fellOut d .again else if d.pen = 0 then c.fellOut d .timedOut else c) r.2

/-- DRIVE_WAKE_TIMEOUT (R182): reads that wait are reconstructed, writes stay queued. -/
def driveWakeTimeout (slot : Nat) (c : Chip) : Chip :=
  if !c.stripes.drv.any (fun e => e.2.slot = slot && e.2.wake) then c
  else
    let r := (c.raise 0x28D).takeDrv slot (fun d => d.wake && d.kind = 0)
    r.1.foldl (fun c d => c.fellOut d .timedOut) r.2

/-- The drive is operational again: its waiting commands may be released. -/
def Chip.driveAwake (c : Chip) (s : Nat) : Chip :=
  ({ c with stripes := { c.stripes with drv := c.stripes.drv.mapVals (fun _ (d : DrvCmd) => if d.slot = s then { d with wake := false } else d) } } : Chip).showWake

/-- DRIVE_TMO_SET (0x0610). -/
def driveTmoSet (h : Hdr) (slot tmo : Nat) : Chip → Chip :=
  runCommand ⟨0x0610, false, .w, paramBytes [1, 2]⟩ h [] (fun c =>
    Res.guard c [slotRefusal c slot 32] (fun c => Res.ok (c.set CMDQ_DRV_TMO_tmo_ms tmo slot)))

/-- CMDQ_TMO_LAST_REARM and CMDQ_TAGS_PEAK_CLR (R186). -/
def cmdqTmoLastRearm (c : Chip) : Chip := c.set CMDQ_TMO_LAST_valid 0

def cmdqTagsPeakClr (isl : Nat) (c : Chip) : Chip := if isl < 4 then c.set CMDQ_ISL_TAGS_peak_inflight 0 isl else c

end Sys2Proof.Machine
end

