-- ==== Sys2Proof/Machine/Governor.lean ====
section
/-!
DEFINITION. Shaping contracts and their division (R280, R284, R285), time gates (R286), the governor's budget and lanes (R290 to R294), drive power states
(R299, R300), island points and calibration (R301 to R307), power domains (R308, R309), temperature (R310, R311): chapter 9 of the spec.
-/

namespace Sys2Proof.Machine

/-! ### Shaping contracts -/

def Chip.cmdIslands (c : Chip) : List Nat := if c.id.half then [0, 1] else [0, 1, 2, 3]

/-- Divide a total in proportion to demands, none below a floor, the parts summing to the total (R284). Those whose proportional part lies below the floor
take the floor and the others share the rest; with no demand at all the parts are equal. What rounding leaves goes to the last part. `low` marks those on the floor. -/
def divideLow (total floor_ : Nat) (ds : List Nat) : Nat → List Bool → List Bool
  | 0, low => low
  | n + 1, low =>
    let rest := total - floor_ * (low.filter id).length
    let open_ := ((ds.zip low).map (fun p => if p.2 then 0 else p.1)).sum
    divideLow total floor_ ds n ((ds.zip low).map (fun p => p.2 || (open_ ≠ 0 && decide (rest * p.1 < floor_ * open_))))

def divideShares (total floor_ : Nat) (ds : List Nat) : List Nat :=
  let n := ds.length
  let ds := if ds.sum = 0 then ds.map (fun _ => 1) else ds
  let low := divideLow total floor_ ds n (ds.map (fun _ => false))
  let rest := total - floor_ * (low.filter id).length
  let open_ := ((ds.zip low).map (fun p => if p.2 then 0 else p.1)).sum
  let parts := (ds.zip low).map (fun p => if p.2 then floor_ else if open_ = 0 then 0 else rest * p.1 / open_)
  match parts.reverse with
  | [] => []
  | x :: xs => (xs.reverse) ++ [x + (total - parts.sum)]

/-- Divide each value of a contract; 0, no limit, stays 0. -/
def divideContract (t : Contract) (den : Nat) (ds : List Nat) : List Contract :=
  let part := fun (v : Nat) => if v = 0 then ds.map (fun _ => 0) else divideShares v (ceilDiv v den) ds
  let zips := ((part t.cr).zip (part t.pr)).zip ((part t.burst).zip (part t.peak))
  zips.map (fun q => ⟨q.1.1, q.1.2, q.2.1, q.2.2⟩)

/-- The cost that waits in a CMD island for a paddock: its commands not yet admitted (R284). -/
def Chip.waitingCost (c : Chip) (p : Nat) (isl : Option Nat) : Nat :=
  ((c.intake.cmds.filter (fun e => e.2.paddock = p && e.2.st = .queued && (match isl with
    | some i => e.1 / 16384 = i
    | none => true))).map (fun e => e.2.cost)).sum

/-- Put the queues of a paddock on the wheel or take them off, as its buckets now say. -/
def Chip.rewheelPad (c : Chip) (p : Nat) : Chip := (c.vols.filter (fun e => e.2.paddock = p)).foldl (fun c e => c.rewheel e.1) c

/-- Show how many queues each wheel holds (R312). -/
def Chip.showWheel (c : Chip) : Chip :=
  c.cmdIslands.foldl (fun c i =>
    let mine := c.shape.wheel.filter (fun e => match c.vols.get? e.1 with
      | some v => c.islandOf v.fold = i
      | none => false)
    (c.set GOV_WHEEL_STAT_fine (mine.filter (fun e => !e.2.2)).length i).set GOV_WHEEL_STAT_coarse (mine.filter (fun e => e.2.2)).length i) c

/-- Divide the chip's share of a paddock's contract among its CMD islands (R284). -/
def Chip.divideAmong (c : Chip) (p : Nat) : Chip :=
  match c.shape.pads.get? p with
  | none => c
  | some t =>
    let whole := t.fine
    let share := if c.get TWIN_STATUS_pair_state = 2 then whole
      else c.shape.chipPart.getD p ((divideContract whole 16 [1, 1]).getD (b2n c.id.chipB) whole)
    let isls := c.cmdIslands
    let ds := isls.map (fun i => c.shape.demandMs.getD (padPart p i) 0 + c.waitingCost p (some i))
    let parts := isls.zip (divideContract share 64 ds)
    let c := parts.foldl (fun c x =>
      let b := match c.shape.parts.get? (padPart p x.1) with
        | some b => b.retune x.2 c.clk
        | none => x.2.full c.clk
      { c with shape := { c.shape with parts := c.shape.parts.put (padPart p x.1) b } }) c
    c.rewheelPad p

/-- SHARE_DIVISION (R284): every 1 ms. -/
def shareDivision (c : Chip) : Chip :=
  let c := c.shape.pads.keys.foldl (fun c p => c.divideAmong p) c
  ({ c with shape := { c.shape with demandMs := [] } } : Chip).showWheel

/-- DEMAND_EXCHANGE (R284): every 100 ms this chip's demands go to the partner and, with the partner's, give each chip its part. -/
def demandExchange (theirs : List (Nat × Nat)) (c : Chip) : Chip :=
  let mine := c.shape.pads.keys.map (fun p => (p, c.shape.demand.getD p 0 + c.waitingCost p none))
  let c := if c.get TWIN_STATUS_pair_state = 1 then c.send (.demandExchange mine) else c
  let c := mine.foldl (fun c m =>
    match c.shape.pads.get? m.1 with
    | some t =>
      let other := ((theirs.find? (fun x => x.1 = m.1)).map (·.2)).getD 0
      let ds := if c.id.chipB then [other, m.2] else [m.2, other]
      let part := (divideContract t.fine 16 ds).getD (b2n c.id.chipB) t.fine
      { c with shape := { c.shape with chipPart := c.shape.chipPart.put m.1 part } }
    | none => c) c
  { c with shape := { c.shape with demand := [], partner := theirs.foldl (fun t x => Tab.put t x.1 x.2) [] } }

/-- The contract that parameters give: defaults for values given as 0 (R280). -/
def contractOf (cr pr burst peak : Nat) : Contract :=
  ⟨cr, pr, if burst = 0 then clamp 65536 0xFFFFFFFF (cr * 100) else burst, if peak = 0 then 131072 else peak⟩

/-- The number of a paddock (kind 0) or volume (kind 1) that is out of range or that the grade lacks (R5). -/
def shapedRefusal (c : Chip) (kind index : Nat) : Option (Nat × Nat) :=
  if kind = 0 then rangeRefusal c index 4096 2048 34 else if kind = 1 then rangeRefusal c index 65536 32768 34 else none

/-- SHAPE_SET (0x0700). -/
def shapeSet (h : Hdr) (kind index cr pr burst peakBurst : Nat) : Chip → Chip :=
  runPair ⟨0x0700, true, .w, paramBytes [1, 2, 4, 4, 4, 4]⟩ h (if kind = 0 then [index] else []) (.shapeSet kind index cr pr burst peakBurst) (fun c =>
    let bad := pr ≠ 0 && decide (pr < cr)
    let known := if kind = 0 then c.paddocks.has index else c.vols.has index
    Res.guard (c.raiseIf (decide (kind ≤ 1) && bad) 0x639) [refuseIf (decide (1 < kind)) 0x0102 32, refuseIf bad 0x0102 40,
        refuseIf (burst ≠ 0 && decide (burst < 65536)) 0x0102 44, refuseIf (peakBurst ≠ 0 && decide (peakBurst < 65536)) 0x0102 48,
        shapedRefusal c kind index, refuseIf (!known) 0x0201]
      (fun c =>
        let t := contractOf cr pr burst peakBurst
        if kind = 0 then
          Res.ok (({ c with shape := { c.shape with pads := c.shape.pads.put index t, chipPart := c.shape.chipPart.del index } } : Chip).divideAmong index).showWheel
        else
          let b := match c.shape.vols.get? index with
            | some b => b.retune t.fine c.clk
            | none => t.fine.full c.clk
          Res.ok (({ c with shape := { c.shape with vols := c.shape.vols.put index b } } : Chip).rewheel index).showWheel))

/-- SHAPE_CLEAR (0x0701): held queues become eligible at once (R285). -/
def shapeClear (h : Hdr) (kind index : Nat) : Chip → Chip :=
  runPair ⟨0x0701, true, .w, paramBytes [1, 2]⟩ h (if kind = 0 then [index] else []) (.shapeClear kind index) (fun c =>
    let known := if kind = 0 then c.shape.pads.has index else c.shape.vols.has index
    Res.guard c [refuseIf (decide (1 < kind)) 0x0102 32, shapedRefusal c kind index, refuseIf (!known) 0x0201]
      (fun c =>
        if kind = 0 then
          let c := { c with shape := { c.shape with
            pads := c.shape.pads.del index, chipPart := c.shape.chipPart.del index, parts := c.shape.parts.keep (fun k _ => k / 4 ≠ index) } }
          Res.ok (c.rewheelPad index).showWheel
        else Res.ok (({ c with shape := { c.shape with vols := c.shape.vols.del index } } : Chip).rewheel index).showWheel))

/-- SHAPE_OVERHEAD_SET (0x0702). -/
def shapeOverheadSet (h : Hdr) (paddock overhead : Nat) : Chip → Chip :=
  runPair ⟨0x0702, true, .w, paramBytes [2, 2]⟩ h [paddock] (.shapeOverheadSet paddock overhead) (fun c =>
    Res.guard c [rangeRefusal c paddock 4096 2048 32, refuseIf (!c.paddocks.has paddock) 0x0201]
      (fun c => Res.ok { c with shape := { c.shape with overhead := c.shape.overhead.put paddock overhead } }))

/-- GOV_SHAPE_SEL_WRITE (R312): a snapshot of a contract's buckets in an island. -/
def govShapeSelWrite (kind island index : Nat) (c : Chip) : Chip :=
  let c := ((c.set GOV_SHAPE_SEL_kind kind).set GOV_SHAPE_SEL_island island).set GOV_SHAPE_SEL_index index
  let b := if kind % 2 = 1 then c.shape.vols.get? index else c.shape.parts.get? (padPart index (island % 4))
  let b : Buckets := match b with
    | some b => b.refill c.clk
    | none => ⟨⟨0, 0, 0, 0⟩, ⟨0, c.clk⟩, ⟨0, c.clk⟩⟩
  let units := fun (x : Bucket) => ofSigned 32 (clampSigned 32 (x.level / (unitScale : Int)))
  let pad := if kind % 2 = 1 then (match c.vols.get? index with
    | some v => v.paddock
    | none => 0) else index
  let held := if kind % 2 = 1 then c.shape.wheel.get? index
    else (c.shape.wheel.first? (fun v _ => match c.vols.get? v with
      | some r => r.paddock = index && c.islandOf r.fold = island % 4
      | none => false)).map (·.2)
  let c := (c.set GOV_SHAPE_VIEW0_cr_k (b.terms.cr / 1000)).set GOV_SHAPE_VIEW0_pr_k (b.terms.pr / 1000)
  let c := (c.set GOV_SHAPE_VIEW1_burst b.terms.burst).set GOV_SHAPE_VIEW1_peak_burst b.terms.peak
  let c := (c.set GOV_SHAPE_VIEW2_tc (units b.tc)).set GOV_SHAPE_VIEW2_tp (units b.tp)
  let c := (c.set GOV_SHAPE_VIEW3_overhead (min 65535 (c.overheadOf pad))).setFlag GOV_SHAPE_VIEW3_on_wheel held.isSome
  let c := c.setFlag GOV_SHAPE_VIEW3_coarse ((held.map (·.2)).getD false)
  c.set GOV_SHAPE_VIEW3_wait_us (min 0xFFFFFFFF (match held with
    | some e => (e.1 - c.clk) / 1000
    | none => 0))

/-! ### Time gates -/

/-- Show a slot's gate; a change raises event 0x630 or 0x631 (R286, R289, R313). -/
def Chip.refreshGate (c : Chip) (s : Nat) : Chip :=
  let was := bit (c.get GOV_GATE_STAT_open) s
  let is := c.gateOpen s
  if was = is then c
  else
    let c := c.set GOV_GATE_STAT_open (setBit (c.get GOV_GATE_STAT_open) s is)
    if is then c.raise 0x630 else (c.raise 0x631).cntGov 9

/-- GATE_WINDOW_EDGE (R286). -/
def gateWindowEdge (slot : Nat) (c : Chip) : Chip := if slot < 34 && !slotAbsent c.id slot then c.refreshGate slot else c

/-- GATE_SET (0x0710): at once. A refusal raises event 0x633. -/
def gateSet (h : Hdr) (slot enable : Nat) (images : List Nat) : Chip → Chip :=
  runPair ⟨0x0710, true, .w, paramBytes [1, 1, 4, 4, 4, 4, 4, 4, 4, 4]⟩ h [] (.gateSet slot enable images) (fun c =>
    Res.guard (c.raiseIf (slotRefusal c slot 32).isSome 0x633) [slotRefusal c slot 32]
      (fun c =>
        let c := (List.range 8).foldl (fun c w => c.writeImage GOV_GATE (images.getD w 0) slot w) c
        let c := c.set GOV_GATE_EN_slot_en (setBit (c.get GOV_GATE_EN_slot_en) slot (decide (enable ≠ 0)))
        Res.ok (c.refreshGate slot)))

/-- GATE_CFG_SET (0x0711). -/
def gateCfgSet (h : Hdr) (image : Nat) : Chip → Chip :=
  runCommand ⟨0x0711, false, .w, paramBytes [8]⟩ h [] (fun c => Res.ok (c.writeImage GOV_GATE_CFG image))

/-! ### The cap (R291, R292) -/

def Chip.sharePct (c : Chip) : Nat := let p := c.get GOV_CAP_share_pct; if 1 ≤ p ∧ p ≤ 99 then p else 50

/-- The cap in force for this chip, in W: all of it while solo, else its share, or the share of the lower cap while the chips' settings disagree. -/
def Chip.capW (c : Chip) : Nat :=
  let w := c.get GOV_CAP_shelf_cap_w
  if c.get TWIN_STATUS_pair_state = 2 then w
  else match c.gov.partnerCap with
    | some (tw, ts) =>
      if c.flag GOV_STAT_cap_mismatch then
        let cap := if w = 0 then tw else if tw = 0 then w else min w tw
        cap * c.sharePct / (c.sharePct + ts)
      else w * c.sharePct / 100
    | none => w * c.sharePct / 100

/-- Is energy unenforced: no cap is in force (R291, R292)? -/
def Chip.energyOpen (c : Chip) : Bool :=
  c.get GOV_CAP_shelf_cap_w = 0 && !(c.flag GOV_STAT_cap_mismatch && (match c.gov.partnerCap with
    | some (w, _) => decide (0 < w)
    | none => false))

/-- Compare the two chips' cap settings (R292). -/
def Chip.judgeCap (c : Chip) : Chip :=
  match c.gov.partnerCap with
  | none => c
  | some (w, sh) =>
    let bad := w ≠ c.get GOV_CAP_shelf_cap_w || c.sharePct + sh ≠ 100
    (c.setFlag GOV_STAT_cap_mismatch bad).raiseIf bad 0x607

/-- GOV_CAP_SET (0x0720): triggers the exchange. -/
def govCapSet (h : Hdr) (image : Nat) : Chip → Chip :=
  runCommand ⟨0x0720, false, .w, paramBytes [8]⟩ h [] (fun c =>
    let c := c.writeImage GOV_CAP image
    if c.get TWIN_STATUS_pair_state = 1 then Res.ok (c.send (.capExchange (c.get GOV_CAP_shelf_cap_w) c.sharePct)).judgeCap else Res.ok c)

/-- CAP_EXCHANGE_RX (R292). -/
def capExchangeRx (cap share : Nat) (c : Chip) : Chip :=
  ({ c with gov := { c.gov with partnerCap := some (cap, if 1 ≤ share ∧ share ≤ 99 then share else 50) } } : Chip).judgeCap

/-- GOV_CLASS_SET (0x0721), GOV_COST_SET (0x0722), GOV_CTL_SET (0x0723). -/
def govClassSet (h : Hdr) (image : Nat) : Chip → Chip :=
  runCommand ⟨0x0721, false, .w, paramBytes [8]⟩ h [] (fun c => Res.ok (c.writeImage GOV_CLASS_W image))

def govCostSet (h : Hdr) (slot cls image : Nat) : Chip → Chip :=
  runCommand ⟨0x0722, false, .w, paramBytes [1, 1, 8]⟩ h [] (fun c =>
    Res.guard c [slotRefusal c slot 32, refuseIf (decide (16 ≤ cls)) 0x0102 33] (fun c => Res.ok (c.writeImage GOV_DRV_COST image slot cls)))

def govCtlSet (h : Hdr) (image : Nat) : Chip → Chip :=
  runCommand ⟨0x0723, false, .w, paramBytes [4]⟩ h [] (fun c =>
    let c := c.writeImage GOV_CTL image
    Res.ok ((c.slotList.foldl (fun c s => c.refreshGate s) (c.vols.keys.foldl (fun c v => c.rewheel v) c)).showWheel))

/-! ### The budget and the lanes (R291 to R296) -/

/-- Demand of a lane of a drive: cost waiting in it plus cost released from it in the previous interval. -/
def Chip.laneDemand (c : Chip) (s l : Nat) : Nat :=
  ((c.stripes.drv.vals.filter (fun d => d.slot = s && d.lane = l && d.pen = 3)).map c.cmdCost).sum + c.gov.released.getD (s * 8 + l) 0

/-- Water-fill `rest` over classes by weight, none above its demand (R294): classes whose share covers their demand take it and leave the rest to the
others; when none is left that is capped, the shares stand. `done` marks the classes that have their demand. -/
def waterFill (demand weight : List Nat) : Nat → Nat → List Bool → List Nat
  | 0, _, _ => demand.map (fun _ => 0)
  | n + 1, rest, done_ =>
    let rows := (demand.zip weight).zip done_
    let openW := (rows.map (fun x => if x.2 then 0 else x.1.2)).sum
    let share := fun (w : Nat) => if openW = 0 then 0 else rest * w / openW
    let full := rows.map (fun x => !x.2 && decide (x.1.1 ≤ share x.1.2))
    if full.any id then
      let taken := ((rows.zip full).map (fun x => if x.2 then x.1.1.1 else 0)).sum
      waterFill demand weight n (rest - taken) ((done_.zip full).map (fun x => x.1 || x.2))
    else rows.map (fun x => if x.2 then x.1.1 else share x.1.2)

/-- What an interval gives: credits of the five lanes, the surplus spread by weight, the level (R294). `d` are the five demands, `w` the weights. -/
structure Giving where
  give  : List Nat
  spread : Nat
  level : Nat
  deriving DecidableEq, Repr

def giving (e : Int) (d w : List Nat) (urgentMin floorPct : Nat) (bgStopped : Bool) : Giving :=
  let du := d.getD 0 0
  let gu := max du urgentMin
  let r := (e - gu).toNat
  let fg := d.getD 1 0 + d.getD 2 0 + d.getD 3 0
  let db := d.getD 4 0
  if e ≤ du then ⟨[gu, 0, 0, 0, 0], 0, 3⟩
  else
    let gb := if bgStopped then 0 else min db (max (r - fg) (floorPct * e.toNat / 100))
    let rest := r - gb
    if fg ≤ rest then ⟨[gu, d.getD 1 0, d.getD 2 0, d.getD 3 0, gb], rest - fg, if gb = db then 0 else 1⟩
    else
      let g := waterFill [d.getD 1 0, d.getD 2 0, d.getD 3 0] w 4 rest [false, false, false]
      ⟨[gu, g.getD 0 0, g.getD 1 0, g.getD 2 0, gb], 0, 2⟩

/-- The budget of an interval in µJ (R291): 100 µs at 1 W is 100 µJ. -/
def Chip.budget (c : Chip) : Int :=
  let on := c.slotList.filter c.powered
  let idle := (on.map (fun s => c.get GOV_DRV_PWR_idle_mw s)).sum
  let idle := if c.get TWIN_STATUS_pair_state = 1 then idle / 2 else idle
  (c.capW * 100 : Nat) - ((c.get GOV_STAT_chip_w * 100 + c.get GOV_CAP_other_w * 100 + idle / 10 : Nat) : Int)

/-- Credit the lanes of the powered drives: each class split by demand, the urgent minimum equally where no drive has urgent demand, the surplus by weight. -/
def Chip.creditLanes (c : Chip) (g : Giving) (d w : List Nat) (bgStopped : Bool) : Chip :=
  let on := c.slotList.filter c.powered
  let laneW := [w.getD 0 1, w.getD 0 1, w.getD 1 1, w.getD 2 1, if bgStopped then 0 else 1]
  let sumW := laneW.sum * on.length
  let cap := max 2000 (c.get GOV_CLASS_W_lane_cap_uj)
  on.foldl (fun c0 s => (List.range 5).foldl (fun c0 l =>
    let dem := c.laneDemand s l
    let share := if d.getD l 0 = 0 then g.give.getD l 0 / atLeast1 on.length else g.give.getD l 0 * dem / d.getD l 0
    let plus := share + (if sumW = 0 then 0 else g.spread * laneW.getD l 0 / sumW)
    (c0.setLane s l (min (cap : Int) (c0.laneLevel s l + plus))).set GOV_DRV_E_alloc_uj (min 0xFFFF plus) s l) c0) c

/-- GOV_CREDIT_INTERVAL (R291 to R296): every 100 µs. -/
def govCreditInterval (c : Chip) : Chip :=
  let c := if c.gov.samples = 0 then c else c.set GOV_STAT_chip_w (min 0xFFFF (c.gov.drawSum / c.gov.samples / 1000))
  let c := { c with gov := { c.gov with drawSum := 0, samples := 0 } }
  let solo := decide (c.get TWIN_STATUS_pair_state = 2)
  let c := (c.raiseIf (solo && !c.flag GOV_STAT_solo_cap) 0x606).setFlag GOV_STAT_solo_cap solo
  let c := c.set GOV_STAT_cap_chip_w c.capW
  let on := c.slotList.filter c.powered
  let d := (List.range 5).map (fun l => (on.map (fun s => c.laneDemand s l)).sum)
  let w := [atLeast1 (c.get GOV_CLASS_W_high_w), atLeast1 (c.get GOV_CLASS_W_med_w), atLeast1 (c.get GOV_CLASS_W_low_w)]
  let was := c.get GOV_STAT_level
  let stopped := decide (2 ≤ c.get GOV_TEMP_STAT_state)
  let r : Chip × Nat :=
    if c.energyOpen || !c.flag GOV_CTL_en then ((c.set GOV_STAT_deficit 0).set GOV_STAT_budget_w 0, 0)
    else
      let e := c.budget
      let g := giving e d w (c.get GOV_CAP_urgent_min_w * 100) (min 50 (c.get GOV_CAP_bg_floor_pct)) stopped
      let c := c.creditLanes g d w stopped
      let c := (c.setFlag GOV_STAT_deficit (decide (e < 0))).set GOV_STAT_budget_w (min 0xFFFF (e.toNat / 100))
      let c := { c with gov := { c.gov with borrow := max 2000 (e.toNat / atLeast1 on.length) } }
      (c.raiseIf (decide (e < 0)) 0x602, g.level)
  let c := { r.1 with gov := { r.1.gov with released := [] } }
  let c := c.set GOV_STAT_level r.2
  let c := if r.2 = 0 then c else c.cntGov (4 + r.2)
  let c := if r.2 = was then c else c.raiseLtd 0x600 0 second
  c.raiseIf (r.2 = 3 && was ≠ 3) 0x601

/-! ### Temperature and telemetry (R293, R310, R311) -/

/-- Begin to drain the lines of a volume, or of the chip (65,536) (R206). -/
def Chip.beginDrain (c : Chip) (v : Nat) : Chip :=
  let c := { c with cache := { c.cache with drains := addNew v c.cache.drains } }
  (if v = 65536 then c.set CACHE_STATUS_draining 1 else c.set CACHE_VOL_MODE_draining 1 v).showThrough

/-- The islands whose points firmware moves (R302). -/
def Chip.slowable (c : Chip) : List Nat :=
  ((List.range 36).filter (fun i => (decide (8 ≤ i) && decide (i < 18)) || (decide (20 ≤ i) && decide (i < 27)) || i = 35)).filter (fun i => !islandAbsent c.id i)

/-- A sensor reads 115 °C or more (R311): THERMTRIP_N, the trip goes into the ledger (as a failure of the present step; the spec states no reason for it) and is raised at the next start, every island clock but AON's stops; the whistle generator stops with MGMT. -/
def thermalTrip (c : Chip) : Chip :=
  if c.gov.tripped then c
  else
    let c := (({ c with gov := { c.gov with tripped := true } } : Chip).send .thermtrip).set TWIN_WHISTLE_STAT_gen_running 0
    let c : Chip := { c with evt := { c.evt with atStart := addNew 0x614 c.evt.atStart } }
    c.ledgerAppend (c.get GLB_START_step) 2 Config.tripReason 0

/-- The temperature state with its 3 °C of hysteresis. -/
def tempState (was : Nat) (t warn throttle crit : Int) : Nat :=
  if t > crit || (was = 3 && decide (t > crit - 3)) then 3
  else if t > throttle || (decide (2 ≤ was) && decide (t > throttle - 3)) then 2
  else if t > warn || (decide (1 ≤ was) && decide (t > warn - 3)) then 1 else 0

/-- TELEMETRY_SAMPLE (R293, R310): every 10 µs. `draw` is the draw that sensors and rail monitors show, in mW; `temps` the 64 readings, none for one
outside its range. -/
def telemetrySample (draw : Nat) (railFailed : Bool) (temps : List (Option Int)) (c : Chip) : Chip :=
  let c := c.raiseIf (temps.any (·.isNone)) 0x605
  let mw := if railFailed then (if c.id.half then 195000 else 315000) else draw
  let c := { c with gov := { c.gov with drawSum := c.gov.drawSum + mw, samples := c.gov.samples + 1 } }
  let best := temps.foldl (fun (b : Option (Int × Nat) × Nat) t => (match t, b.1 with
    | some x, some y => if y.1 < x then some (x, b.2) else some y
    | some x, none => some (x, b.2)
    | none, y => y, b.2 + 1)) (none, 0)
  match best.1 with
  | none => c
  | some (t, k) =>
    let c := (c.set GOV_TEMP_STAT_max_c (ofSigned 8 (clampSigned 8 t))).set GOV_TEMP_STAT_hot_sensor k
    let c := if signedOf 8 (c.get GOV_TEMP_STAT_peak_c) < t then c.set GOV_TEMP_STAT_peak_c (ofSigned 8 (clampSigned 8 t)) else c
    let was := c.get GOV_TEMP_STAT_state
    let st := tempState was t (c.get GOV_TEMP_CFG_warn_c) (c.get GOV_TEMP_CFG_throttle_c) (c.get GOV_TEMP_CFG_crit_c)
    let c := c.set GOV_TEMP_STAT_state st
    let c := (c.raiseIf (was = 0 && decide (0 < st)) 0x610).raiseIf (decide (was < 2) && decide (2 ≤ st)) 0x611
    let c := (c.raiseIf (decide (2 ≤ was) && decide (st < 2)) 0x612).raiseIf (decide (was < 3) && decide (st = 3)) 0x613
    let c := if was < 3 && st = 3 then
        let c := c.slowable.foldl (fun c i => if c.flag GOV_ISL_PT_pin i then c else c.set GOV_ISL_PT_point 7 i) c
        if c.get TWIN_STATUS_pair_state = 2 then (c.set CACHE_CTL_through 1).beginDrain 65536 else c
      else c
    if 115 ≤ t then thermalTrip c else c

/-- GOV_TEMP_PEAK_CLR (R312). -/
def govTempPeakClr (c : Chip) : Chip := c.set GOV_TEMP_STAT_peak_c 0

/-- THERMAL_SET (0x0750). -/
def thermalSet (h : Hdr) (warn throttle crit : Nat) : Chip → Chip :=
  runCommand ⟨0x0750, false, .w, paramBytes [1, 1, 1]⟩ h [] (fun c =>
    Res.guard c [refuseIf (decide (warn < 80) || decide (110 < warn)) 0x0102 32, refuseIf (decide (throttle < 85) || decide (110 < throttle)) 0x0102 33,
        refuseIf (decide (crit < 90) || decide (110 < crit)) 0x0102 34]
      (fun c => Res.ok (((c.set GOV_TEMP_CFG_warn_c warn).set GOV_TEMP_CFG_throttle_c throttle).set GOV_TEMP_CFG_crit_c crit)))

/-! ### Cost tables (R290) -/

/-- Scale an entry toward the measured energy: the ratio clamped to 0.5 to 2, an eighth of the difference. -/
def scaleCost (cost measured charged : Nat) : Nat :=
  let m := if charged < 2 * measured ∧ measured < 2 * charged then (cost * measured, charged) else if 2 * charged ≤ measured then (cost * 2, 1) else (cost, 2)
  min 0xFFFF ((7 * cost * m.2 + m.1) / (8 * m.2))

/-- COST_LEARN_INTERVAL (R290): every 100 ms. `measured` is the energy of each slot in µJ over the interval, both paths together; `theirs` the
charges that the partner reports and `busyThere` the slots it used. This chip's charges and the energy of its own paths go to the partner (R290, R324). -/
def costLearnInterval (measured theirs : List (Nat × Nat)) (busyThere : List Nat) (c : Chip) : Chip :=
  let energy := c.slotList.map (fun s => (s, (c.run s).energyPj))
  let c := if c.get TWIN_STATUS_pair_state = 1 then c.send (.costSums c.gov.charged c.gov.busy (energy.map (fun (e : Nat × Nat) => (e.1, (e.2 - c.gov.pathSent.getD e.1 0) / 1000000)))) else c
  let c := { c with gov := { c.gov with pathSent := energy.foldl (fun (t : Tab Nat) (e : Nat × Nat) => t.put e.1 e.2) [] } }
  let c := measured.foldl (fun c x =>
    let s := x.1
    if 34 ≤ s || slotAbsent c.id s then c
    else
      let c := c.set GOV_DRV_PWR_avg_mw (min 0xFFFF (x.2 / 100)) s
      let charged := c.gov.charged.getD s 0 + ((theirs.find? (fun t => t.1 = s)).map (·.2)).getD 0
      let busy := c.gov.busy.contains s || busyThere.contains s
      let above := x.2 - c.get GOV_DRV_PWR_idle_mw s * 100
      if c.gov.psChanged.contains s then c
      else if !busy then c.set GOV_DRV_PWR_idle_mw (min 0xFFFF (x.2 / 100)) s
      else if charged < 1000 then c
      else
        let c := c.raiseIf (decide (above * 2 < charged) || decide (2 * charged < above)) 0x604
        (List.range 16).foldl (fun c k => if c.flag GOV_DRV_COST_frozen s k then c
          else c.set GOV_DRV_COST_cost_uj (scaleCost (c.get GOV_DRV_COST_cost_uj s k) above charged) s k) c) c
  let lastCmd := busyThere.foldl (fun t s => Tab.put t s c.clk) c.gov.lastCmd
  { c with gov := { c.gov with charged := [], theirs := theirs, busy := [], partnerBusy := busyThere, psChanged := [], lastCmd := lastCmd } }

/-! ### Drive power states (R299, R300) -/

/-- DRIVE_PS_SET (0x0740). Vault slots stay in state 0 whatever is set. -/
def drivePsSet (h : Hdr) (slot lowest np idleMs : Nat) : Chip → Chip :=
  runPair ⟨0x0740, true, .w, paramBytes [1, 1, 1, 4]⟩ h [] (.drivePsSet slot lowest np idleMs) (fun c =>
    Res.guard c [slotRefusal c slot 32, refuseIf (decide (32 ≤ lowest)) 0x0102 33, refuseIf (decide (32 ≤ np)) 0x0102 34]
      (fun c =>
        let c := if idleMs = 0xFFFFFFFF then c else c.set GOV_DRV_PS_CFG_idle_np_ms idleMs
        let changed := c.gov.ceiling.getD slot 0 ≠ lowest
        let c := { c with gov := { c.gov with ceiling := c.gov.ceiling.put slot lowest, npState := c.gov.npState.put slot np } }
        Res.ok (if changed && !c.flag GOV_DRV_PWR_np slot && c.driveReady slot then c.askPower slot lowest false else c)))

/-- IDLE_NP_EXPIRY (R300): a member idle for idle_np_ms. Chip B of a pair leaves it to chip A. -/
def idleNpExpiry (slot : Nat) (c : Chip) : Chip :=
  let member := c.stripes.flocks.any (fun f => f.2.slots.contains slot)
  if c.get GOV_DRV_PS_CFG_idle_np_ms = 0 || !member || c.flag GOV_DRV_PWR_np slot || c.stripes.drv.any (fun d => d.2.slot = slot) ||
      (c.id.chipB && c.get TWIN_STATUS_pair_state = 1) then c
  else match c.gov.npState.get? slot with
    | some st => c.askPower slot st true
    | none => c

/-- The drive's power state is now this one: event 0x628. -/
def Chip.powerIs (c : Chip) (s state : Nat) (np : Bool) : Chip :=
  let c := (((c.set GOV_DRV_PWR_ps state s).setFlag GOV_DRV_PWR_np np s).raise 0x628).cntGov 14
  let c := { c with gov := { c.gov with psWait := c.gov.psWait.del s, psChanged := addNew s c.gov.psChanged } }
  if np then c else c.driveAwake s

/-- What the end of an admin command of the chip's own does: kind 0 Set Features Power Management, 1 the reservation registration, 2 the shutdown notification. -/
def Chip.adminEnded (slot kind : Nat) (ok : Bool) (c : Chip) : Chip :=
  if 34 ≤ slot || slotAbsent c.id slot then c
  else if kind = 0 then
    match c.gov.psWait.get? slot with
    | none => c
    | some (st, np, tries) =>
      if ok then c.powerIs slot st np
      else if tries < 2 then ({ c with gov := { c.gov with psWait := c.gov.psWait.put slot (st, np, tries + 1) } } : Chip).adminSend slot 0 st
      else ({ c with gov := { c.gov with psWait := c.gov.psWait.del slot } } : Chip).raise 0x629
  else if kind = 1 then c.setFlag DRV_NVME_STAT_rsv_held ok slot
  else if kind = 2 then (if ok then c.set DRV_NVME_STAT_shn 1 slot else c)
  else c

/-- The drive tag of an admin command of a kind: the one issued, or else none; and whether all that there are have timed out. -/
def Chip.adminTag (c : Chip) (slot kind : Nat) : Option Nat × Bool :=
  let ours := fun (d : DrvCmd) => decide (d.slot = slot) && decide (d.kind = 2) && decide (d.use = .admin kind)
  let tag := (c.stripes.drv.first? (fun _ d => ours d && d.pen = 0)).map (·.1)
  (tag, tag.isNone && c.stripes.drv.any (fun d => ours d.2 && (d.2.pen = 1 || d.2.pen = 2)))

/-- DRIVE_ADMIN_COMPLETE (R299, R300, R248, R338). The command's tag is free; the late completion of one that timed out is LATE_DRIVE_COMPLETION's (R181). A failed Set Features is sent
once more; a second failure leaves the state and raises event 0x629. -/
def driveAdminComplete (slot kind : Nat) (ok : Bool) (c : Chip) : Chip :=
  let t := c.adminTag slot kind
  if t.2 then c
  else
    let c := match t.1 with
      | some n => ((c.stripes.drv.get? n).elim c c.learnEst).dropDrv n
      | none => c
    c.adminEnded slot kind ok

/-- DRIVE_PS_REQUEST_RX (R299): chip B's activity, with the power state it asks for. -/
def drivePsRequestRx (slot : Nat) (request : Option (Nat × Bool)) (c : Chip) : Chip :=
  let c := { c with gov := { c.gov with lastCmd := c.gov.lastCmd.put slot c.clk, partnerBusy := addNew slot c.gov.partnerBusy } }
  match request with
  | some (st, np) => if c.id.chipB then c else c.askPower slot st np
  | none => c

/-! ### Island points and calibration (R301 to R307) -/

def Chip.headroom (c : Chip) : Nat := clamp 20 50 (c.get GOV_VF_CFG_headroom_mv)

/-- The voltage of point p of island i with its extra guard steps, 550 to 850 mV. -/
def Chip.pointMv (c : Chip) (i p : Nat) : Nat := clamp 550 850 (c.get GOV_ISL_CAL_mv i p + 5 * c.get GOV_ISL_PT_guard_extra i)

/-- The points that an island may use: from its fastest valid one to the last before the next invalid one (R304). -/
def Chip.validPoints (c : Chip) (i : Nat) : List Nat :=
  ((List.range 8).dropWhile (fun p => !c.flag GOV_ISL_CAL_valid i p)).takeWhile (fun p => c.flag GOV_ISL_CAL_valid i p)

/-- The rail that the islands need: the highest island voltage in use plus the headroom, at most 900 mV (R301). -/
def Chip.railNeed (c : Chip) : Nat :=
  let now_ := (List.range 37).map (fun i => c.get GOV_ISL_PT_mv i)
  let next := c.gov.moves.map (fun m => c.pointMv m.1 m.2)
  min 900 (maxOr 0 (now_ ++ next) + c.headroom)

/-- Set the core rail through PMBus. -/
def Chip.setRail (c : Chip) (mv : Nat) : Chip :=
  (({ c with gov := { c.gov with railSince := none } } : Chip).set GOV_VF_CFG_core_mv mv).send (.pmbusVout mv)

/-- Raise the rail when it is too low; lower it after 10 ms without the need. -/
def Chip.keepRail (c : Chip) : Chip :=
  let need := c.railNeed
  let core := c.get GOV_VF_CFG_core_mv
  if core < need then (if c.gov.railDead then c else c.setRail need)
  else if core = need then { c with gov := { c.gov with railSince := none } }
  else match c.gov.railSince with
    | none => { c with gov := { c.gov with railSince := some c.clk } }
    | some t => if t + 10000000 ≤ c.clk && !c.gov.railDead then c.setRail need else c

/-- Move an island to a point: slower at once, faster once the voltage has been reached (R303). While the core rail does not answer, no move that would need
it higher begins (R307). -/
def Chip.movePoint (c : Chip) (i p : Nat) : Chip :=
  let at_ := c.get GOV_ISL_PT_point i
  if p = at_ then { c with gov := { c.gov with moves := c.gov.moves.del i } }
  else if at_ < p then
    ((({ c with gov := { c.gov with moves := c.gov.moves.del i } } : Chip).set GOV_ISL_PT_point p i).set GOV_ISL_PT_mv (c.pointMv i p) i).cntGov 10
  else if c.gov.railDead && decide (c.get GOV_VF_CFG_core_mv < c.pointMv i p + c.headroom) then c
  else { c with gov := { c.gov with moves := c.gov.moves.put i p } }

/-- The point that an island of activity `act` (in % of point-0 capacity) takes next (R302, R310). -/
def Chip.choosePoint (c : Chip) (i act : Nat) : Nat :=
  let ok := c.validPoints i
  let fast := minOr 0 ok
  let slow := max fast (min (maxOr 0 ok) (c.get GOV_ISL_PT_max_point i))
  let at_ := c.get GOV_ISL_PT_point i
  let temp := c.get GOV_TEMP_STAT_state
  if c.flag GOV_ISL_PT_pin i then fast
  else if temp = 3 then maxOr 7 ok
  else if temp = 2 then (if at_ < 4 then min (at_ + 1) (max fast (min 4 (maxOr 0 ok))) else at_)
  else if 45 * (8 - at_) < 4 * act then fast
  else
    let q := maxOr fast ((List.range 8).filter (fun p => decide (fast ≤ p) && decide (p ≤ slow) && decide (act ≤ 10 * (8 - p))))
    if at_ < q then min (at_ + 1) slow else q

/-- The load rule (R305): one guard step, and a recalibration. -/
def Chip.loadRule (c : Chip) (i act : Nat) : Chip :=
  let p := c.get GOV_ISL_PT_point i
  let t := signedOf 8 (c.get GOV_TEMP_STAT_max_c)
  let mark := signedOf 8 (c.get GOV_ISL_CAL_cal_temp_c i p)
  let off := decide (6 * c.get GOV_ISL_CAL_cal_act i p < 5 * act) || decide (15 < (t - mark).natAbs)
  if c.flag GOV_ISL_CAL_valid i p && off && !c.flag GOV_ISL_PT_recal_pending i then
    let c := (((c.set GOV_ISL_PT_guard_extra (min 7 (c.get GOV_ISL_PT_guard_extra i + 1)) i).set GOV_ISL_PT_recal_pending 1 i).raise 0x61A).cntGov 13
    c.set GOV_ISL_PT_mv (c.pointMv i p) i
  else c

/-- ISLAND_POINT_INTERVAL (R302, R305, R310): every 1 ms. `acts` are the activities by island. -/
def islandPointInterval (acts : List Nat) (c : Chip) : Chip :=
  let c := c.slowable.foldl (fun c i =>
    let act := min 255 (acts.getD i 0)
    let c := (c.set GOV_ISL_PT_act_pct act i).loadRule i act
    if c.flag GOV_CTL_vf_en && decide (c.validPoints i ≠ []) then c.movePoint i (c.choosePoint i act) else c) c
  c.keepRail

/-- RAIL_SETTLED (R303): the voltage that an island's move needs stands, and the faster clock is switched. `core` says that the core rail had to be raised
for it, and so answered. -/
def railSettled (island : Nat) (core : Bool) (c : Chip) : Chip :=
  let c := if core then { c with gov := { c.gov with railDead := false } } else c
  match c.gov.moves.get? island with
  | none => c
  | some p =>
    let c := { c with gov := { c.gov with moves := c.gov.moves.del island } }
    ((c.set GOV_ISL_PT_point p island).set GOV_ISL_PT_mv (c.pointMv island p) island).cntGov 10

/-- CANARY_WARN_TRIP (R306). -/
def canaryWarnTrip (island : Nat) (c : Chip) : Chip :=
  if 37 ≤ island || islandAbsent c.id island then c
  else
    let c := c.set GOV_ISL_PT_mv (min 850 (c.get GOV_ISL_PT_mv island + 5)) island
    ((c.set GOV_ISL_PT_recal_pending 1 island).raise 0x618).cntGov 11

/-- CANARY_FAIL_TRIP (R306). -/
def canaryFailTrip (island : Nat) (c : Chip) : Chip :=
  if 37 ≤ island || islandAbsent c.id island then c
  else
    let c := c.set GOV_ISL_PT_mv (min 850 (c.get GOV_ISL_PT_mv island + 5 * atLeast1 (c.get GOV_VF_CFG_guard_steps))) island
    let c := c.set GOV_ISL_PT_point (min 7 (c.get GOV_ISL_PT_point island + 1)) island
    (c.set GOV_ISL_PT_recal_pending 1 island).raise 0x619

/-- Calibrate an island (R304): `trips` are the voltages at which the warn path tripped at each point, none where it does not pass at 850 mV. -/
def Chip.calibrate (c : Chip) (i act : Nat) (trips : List (Option Nat)) : Chip :=
  let guard_ := 5 * atLeast1 (c.get GOV_VF_CFG_guard_steps)
  let c := (List.range 8).foldl (fun c p =>
    match trips.getD p none with
    | some mv =>
      let c := (c.set GOV_ISL_CAL_mv (min 850 (mv + guard_)) i p).set GOV_ISL_CAL_cal_act (min 255 act) i p
      let c := (c.set GOV_ISL_CAL_cal_temp_c (c.get GOV_TEMP_STAT_max_c) i p).set GOV_ISL_CAL_valid 1 i p
      c.set GOV_ISL_CAL_cal_time_s ((c.clk - c.start.st00Ns) / second) i p
    | none => (c.set GOV_ISL_CAL_valid 0 i p).raise 0x61C) c
  let ok := c.validPoints i
  let c := ((c.set GOV_ISL_PT_guard_extra 0 i).set GOV_ISL_PT_recal_pending 0 i).cntGov 12
  let c := if ok = [] then c
    else
      let c := c.set GOV_ISL_PT_max_point (min (c.get GOV_ISL_PT_max_point i) (maxOr 0 ok)) i
      let p := clamp (minOr 0 ok) (maxOr 7 ok) (c.get GOV_ISL_PT_point i)
      (c.set GOV_ISL_PT_point p i).set GOV_ISL_PT_mv (c.pointMv i p) i
  c.raise 0x61B

/-- RECAL_TIMER (R304): the calibration of an island, every recal_s, as scheduled, or for VF_CALIBRATE, whose operation advances by the island's eight points. -/
def recalTimer (island act : Nat) (trips : List (Option Nat)) (c : Chip) : Chip :=
  if 37 ≤ island || islandAbsent c.id island then c
  else
    let c := (c.calibrate island act trips).keepRail
    match c.loRunning 0x0732 (fun op => op.args = [0xFF] || op.args = [island]) with
    | some i =>
      let c := c.loProgress i 8 0
      if c.get LONGOP_TOTAL_total i ≤ loDone (c.lo i) then c.loEnd i 4 0 else c
    | none => c

/-- PMBUS_NO_ACK (R307): the third attempt failed. -/
def pmbusNoAck (c : Chip) : Chip :=
  let moves := c.gov.moves.keep (fun i p => decide (c.pointMv i p + c.headroom ≤ c.get GOV_VF_CFG_core_mv))
  ({ c with gov := { c.gov with railDead := true, moves := moves } } : Chip).raise 0x61D

/-- An island number as a command's parameter. -/
def islandRefusal (c : Chip) (i offset : Nat) : Option (Nat × Nat) :=
  if 37 ≤ i then some (0x0102, offset) else if islandAbsent c.id i then some (0x0200, i) else none

/-- ISLAND_POINT_SET (0x0731). -/
def islandPointSet (h : Hdr) (island maxPoint pin : Nat) : Chip → Chip :=
  runCommand ⟨0x0731, false, .w, paramBytes [1, 1, 1]⟩ h [] (fun c =>
    Res.guard c [islandRefusal c island 32, refuseIf (decide (8 ≤ maxPoint)) 0x0102 33]
      (fun c => Res.ok ((c.set GOV_ISL_PT_max_point maxPoint island).setFlag GOV_ISL_PT_pin (decide (pin ≠ 0)) island)))

/-- VF_CALIBRATE (0x0732): a long operation of eight points an island. -/
def vfCalibrate (h : Hdr) (island : Nat) : Chip → Chip :=
  runCommand ⟨0x0732, false, .l, paramBytes [1]⟩ h [] (fun c =>
    let n := if island = 0xFF then ((List.range 37).filter (fun i => !islandAbsent c.id i)).length else 1
    Res.guard c [(if island = 0xFF then none else islandRefusal c island 32)] (fun c => longAccept c h 0x0732 (8 * n) [island] (fun _ c => c)))

/-- VF_CFG_SET (0x0733). -/
def vfCfgSet (h : Hdr) (image : Nat) : Chip → Chip :=
  runCommand ⟨0x0733, false, .w, paramBytes [8]⟩ h [] (fun c => Res.ok (c.writeImage GOV_VF_CFG image).keepRail)

/-! ### Power domains (R308, R309) -/

/-- Domains that R308 marks never gated, and those clock-gated when idle. -/
def neverGated (d : Nat) : Bool := (decide (26 ≤ d) && decide (d ≤ 29)) || (decide (48 ≤ d) && decide (d ≤ 51)) || (decide (56 ≤ d) && decide (d ≤ 60))

def clockGated (d : Nat) : Bool := (decide (16 ≤ d) && decide (d ≤ 25)) || (decide (30 ≤ d) && decide (d ≤ 33)) || (decide (40 ≤ d) && decide (d ≤ 43))

/-- The island that a domain belongs to (R15, R308). -/
def domainIsland (d : Nat) : Nat :=
  if d < 8 then d else if d < 16 then d - 8 else if d < 20 then d - 8 else if d < 22 then d - 8 else if d < 26 then d - 8 else if d < 28 then d - 8
  else if d < 30 then d - 10 else if d < 34 then d - 10 else if d < 40 then 24 + (d - 34) / 2 else if d < 44 then d - 13 else if d < 48 then d - 17
  else if d = 48 then 31 else if d < 51 then d - 17 else if d < 54 then 34 else if d < 57 then 35 else if d = 57 then 24 else if d < 60 then d - 46 else 36

/-- The domains with the logic of an island; the halves of a cipher island and the cores of MGMT are two each (R15, R308). -/
def logicDomains (island : Nat) : List Nat :=
  (List.range 62).filter (fun d => domainIsland d = island && (d < 8 || (16 ≤ d && d < 28) || (30 ≤ d && d < 44) || (48 ≤ d && d < 52) || d = 54 || d = 55))

/-- An island that does not run holds back-pressure at its stile from the switch (R20, R45): SWX_OUT_STAT.stalled shows it. An island with two halves runs while one does. -/
def Chip.showStall (c : Chip) (island : Nat) : Chip :=
  match attachPoint island with
  | some ap => c.setFlag SWX_OUT_STAT_stalled (!(logicDomains island).any (fun d => c.get GOV_PD_STAT_state d = 2)) ap
  | none => c

/-- Bring a domain to a state: 0 power-gated, 1 clock-gated, 2 running, 3 waking. -/
def Chip.gateDomain (c : Chip) (d st : Nat) : Chip :=
  let was := c.get GOV_PD_STAT_state d
  Chip.showStall (island := domainIsland d) <|
  if st = 3 then
    if was = 0 || was = 1 then
      let c := ((c.set GOV_PD_STAT_state 3 d).bump GOV_PD_STAT_wakes 1 d).cntGov 15
      if was = 0 then { c with gov := { c.gov with coldGated := addNew d c.gov.coldGated } } else c
    else c
  else if was = st then c
  else (c.set GOV_PD_STAT_state st d).raiseIf (st = 0) 0x620

/-- PD_SET (0x0730). -/
def pdSet (h : Hdr) (domain req : Nat) : Chip → Chip :=
  runCommand ⟨0x0730, false, .w, paramBytes [1, 1]⟩ h [] (fun c =>
    let bad := req = 3 && (neverGated domain || clockGated domain)
    Res.guard (c.raiseIf (decide (domain < 62) && bad) 0x622) [refuseIf (decide (62 ≤ domain)) 0x0102 32, refuseIf (domainAbsent c.id domain) 0x0200 domain,
        refuseIf (decide (4 ≤ req) || bad) 0x0102 33]
      (fun c =>
        let c := c.set GOV_PD_CTL_req req domain
        Res.ok (if req = 1 then c.gateDomain domain 3 else if req = 2 then c.gateDomain domain 1 else if req = 3 then c.gateDomain domain 0 else c)))

/-- May automatic control power-gate a domain now, by what the chip knows (R308)? Activity and cipher demand are the event's to say. -/
def Chip.mayGate (c : Chip) (d : Nat) : Bool :=
  if d < 16 then c.get PORT_CFG_sub_en (d % 8) = 0
  else if 44 ≤ d && d < 48 then (List.range 8).all (fun k => !c.powered ((d - 44) * 8 + k))
  else if d = 52 || d = 53 then c.get TWIN_PLINK_lanes_up = 0
  else if d = 61 then c.flag FUSE_STAT_debug_locked
  else d = 35 || d = 37 || d = 39 || d = 55

/-- DOMAIN_IDLE (R309): idle with empty stiles for 10 µs, or its gating condition met. -/
def domainIdle (domain : Nat) (c : Chip) : Chip :=
  if 62 ≤ domain || domainAbsent c.id domain || c.get GOV_PD_CTL_req domain ≠ 0 || c.get GOV_PD_STAT_state domain ≠ 2 || neverGated domain then c
  else if clockGated domain then c.gateDomain domain 1
  else if c.mayGate domain then c.gateDomain domain 0 else c

/-- DOMAIN_WAKE_REQUEST (R18 to R20, R309): an island writes into a stile toward a gated domain; behind an entry that waits, an entry for any domain waits. A domain forced to stay gated does not wake; the sender waits. -/
def domainWakeRequest (domain sender : Nat) (c : Chip) : Chip :=
  if 62 ≤ domain || domainAbsent c.id domain then c
  else
    let key := sender * 64 + domainIsland domain
    let waits := c.swx.waitsAt key
    let c := if c.get GOV_PD_STAT_state domain = 2 && waits.isEmpty then c
      else { c with swx := c.swx.putStile key (waits ++ [domain]) }
    if c.get GOV_PD_CTL_req domain < 2 then c.gateDomain domain 3 else c

/-- The entries that can leave the stiles do, from the front of each, as far as their domains run; what waited at a sender follows (R18, R19). -/
def Chip.drainStiles (c : Chip) : Chip :=
  let keys := c.swx.stiles.keys
  { c with swx := keys.foldl (fun w key => w.putStile key ((w.waitsAt key).dropWhile (fun d => c.get GOV_PD_STAT_state d = 2))) c.swx }

/-- DOMAIN_WAKE_DONE (R309): the back-pressure ends and the entries that waited are taken. -/
def domainWakeDone (domain : Nat) (c : Chip) : Chip :=
  if 62 ≤ domain || c.get GOV_PD_STAT_state domain ≠ 3 then c
  else
    let cold := c.gov.coldGated.contains domain
    let c := (c.set GOV_PD_STAT_state 2 domain).raiseIf cold 0x621
    let c := c.showStall (domainIsland domain)
    ({ c with gov := { c.gov with coldGated := c.gov.coldGated.erase domain } } : Chip).drainStiles

end Sys2Proof.Machine
end

