-- ==== Sys2Proof/Machine/Flock.lean ====
section
/-!
DEFINITION. Flocks: geometry and layout (R221 to R227), GF(2^8) parity and recovery (R228 to R230), where a strip stands (R225, R226), absent and failed
members (R244, R255, R256), the lost-block list and the record areas (R262, R263, R509).
-/

namespace Sys2Proof.Machine

/-! ### Arithmetic in GF(2^8), polynomial 0x11D, generator 0x02 (R228) -/

def gfDouble (a : Nat) : Nat := if 128 ≤ a then (a * 2) ^^^ 0x11D else a * 2

def gfMulN : Nat → Nat → Nat → Nat
  | 0, _, _ => 0
  | n + 1, a, b => (if b % 2 = 1 then a else 0) ^^^ gfMulN n (gfDouble a) (b / 2)

def gfMul (a b : Nat) : Nat := gfMulN 8 (a % 256) (b % 256)

def gfPow (a : Nat) : Nat → Nat
  | 0 => 1
  | n + 1 => gfMul a (gfPow a n)

/-- The inverse of a non-zero element: its 254th power. -/
def gfInv (a : Nat) : Nat := gfPow a 254

/-- g to the power i. -/
def gfG (i : Nat) : Nat := gfPow 2 (i % 255)

/-- Multiply every byte of a block by a constant. -/
def scaleBlock (k : Nat) (b : Bytes) : Bytes := if k = 1 then b else b.map (fun x => BitVec.ofNat 8 (gfMul k x.toNat))

/-- Add blocks byte by byte. -/
def addBlocks : Bytes → Bytes → Bytes
  | x :: xs, y :: ys => (x ^^^ y) :: addBlocks xs ys
  | [], ys => ys
  | xs, [] => xs

def memberBlock : Nat := 4112

/-- The blocks of the data positions, with zeros where one is not given. -/
def dataOf (w : Nat) (have_ : Tab Bytes) : List (Nat × Bytes) := (List.range w).map (fun i => (i, have_.getD i (zeros memberBlock)))

/-- P and Q over the data positions given (R228). -/
def parityP (w : Nat) (have_ : Tab Bytes) : Bytes := (dataOf w have_).foldl (fun acc d => addBlocks acc d.2) (zeros memberBlock)

def parityQ (w : Nat) (have_ : Tab Bytes) : Bytes := (dataOf w have_).foldl (fun acc d => addBlocks acc (scaleBlock (gfG d.1) d.2)) (zeros memberBlock)

/-- Recover data position x from the blocks given, by position; `byQ` takes the Q path where P and Q would both serve (R229, R234). -/
def recoverData (w : Nat) (have_ : Tab Bytes) (x : Nat) (byQ : Bool) : Option Bytes :=
  let others := (List.range w).filter (fun i => i ≠ x && !have_.has i)
  let known := have_.keep (fun k _ => decide (k < w) && k ≠ x)
  let pxy := (have_.get? w).map (fun p => addBlocks p (parityP w known))
  let qxy := (have_.get? (w + 1)).map (fun q => addBlocks q (parityQ w known))
  match others with
  | [] =>
    (match pxy, qxy with
    | some p, some q => some (if byQ then scaleBlock (gfInv (gfG x)) q else p)
    | some p, none => some p
    | none, some q => some (scaleBlock (gfInv (gfG x)) q)
    | none, none => none)
  | [y] =>
    (match pxy, qxy with
    | some p, some q =>
      let lo := min x y
      let hi := max x y
      let dHi := scaleBlock (gfInv (gfG lo ^^^ gfG hi)) (addBlocks q (scaleBlock (gfG lo) p))
      some (if x = hi then dHi else addBlocks p dHi)
    | _, _ => none)
  | _ => none

/-- Every data block of the stripe at one b, recovered where it is missing (R229). -/
def recoverAll (w : Nat) (have_ : Tab Bytes) : Option (Tab Bytes) :=
  (List.range w).foldl (fun acc i => match acc with
    | none => none
    | some t => if have_.has i then some t else (recoverData w have_ i false).map (fun d => Tab.put t i d)) (some have_)

/-- Recover any position (R229). -/
def recoverPos (w : Nat) (have_ : Tab Bytes) (pos : Nat) (byQ : Bool) : Option Bytes :=
  if pos < w then recoverData w have_ pos byQ
  else (recoverAll w have_).map (fun t => if pos = w then parityP w t else parityQ w t)

/-- The lost marker (R262). -/
def lostMarker : Bytes := List.replicate memberBlock 0xA5

/-! ### Geometry (R221 to R226) -/

def widthOf (code : Nat) : Nat := if code = 0 then 4 else if code = 1 then 8 else 16

def Flock.w (f : Flock) : Nat := widthOf f.width

def Flock.spa (f : Flock) : Nat := 64 / f.w

def Flock.l (f : Flock) : Nat := f.rows.length

/-- Physical acres of a flock (R225). -/
def Flock.acreCount (f : Flock) : Nat := f.cycles * f.l * f.w / 64

/-- Stripe, position and block within the strip of a block of a physical acre (R225). -/
def Flock.place (f : Flock) (pa blk : Nat) : Nat × Nat × Nat :=
  let t := blk / 16
  (pa * f.spa + t / f.w, t % f.w, blk % 16)

/-- The physical acre and the block in it of a data position of a stripe. -/
def Flock.unplace (f : Flock) (stripe j b : Nat) : Nat × Nat := (stripe / f.spa, ((stripe % f.spa) * f.w + j) * 16 + b)

def Flock.row (f : Flock) (stripe : Nat) : Nat := stripe % atLeast1 f.l

def Flock.cycle (f : Flock) (stripe : Nat) : Nat := stripe / atLeast1 f.l

/-- The member that a row names at a position. -/
def Flock.member (f : Flock) (r pos : Nat) : Nat := (f.rows.getD r []).getD pos 0

/-- Rows before r that hold a member. -/
def Flock.occ (f : Flock) (r m : Nat) : Nat := ((f.rows.take r).filter (fun x => x.contains m)).length

/-- The member strip that holds a position of a stripe, on the member the row names. -/
def Flock.strip (f : Flock) (stripe pos : Nat) : Nat :=
  f.cycle stripe * (f.k + f.s) + f.occ (f.row stripe) (f.member (f.row stripe) pos)

def stripLba (i b : Nat) : Nat := 16384 + 16 * i + b

/-- The relocation of a position (R226): target member and the strip on it. -/
def Flock.reloc (f : Flock) (stripe pos : Nat) : Option (Nat × Nat) :=
  (f.relocs.get? (f.row stripe * 32 + pos)).map (fun t => (t.1, f.cycle stripe * (f.k + f.s) + f.k + t.2))

/-- Is the strip of a returned member stale (R256)? -/
def Flock.isStale (f : Flock) (m i : Nat) : Bool := (f.stale.getD m []).contains (i / 1024)

/-- Where a position of a stripe is read: slot and first block of the strip, none while it is missing (R226, R244, R256, R267). -/
def Flock.readAt (f : Flock) (stripe pos : Nat) : Option (Nat × Nat) :=
  let m := f.member (f.row stripe) pos
  let i := f.strip stripe pos
  if f.home.contains (stripe, pos) || (!f.absent.contains m && !f.isStale m i) then some (f.slots.getD m 0xFF, stripLba i 0)
  else if f.absent.contains m && f.placed.contains (stripe, pos) then
    match f.reloc stripe pos with
    | some (t, i) => if f.absent.contains t || f.isStale t i then none else some (f.slots.getD t 0xFF, stripLba i 0)
    | none => none
  else none

/-- Where a position of a stripe is written: the member, the target of its relocation, or nowhere (R226, R245). -/
def Flock.writeAt (f : Flock) (stripe pos : Nat) : Option (Nat × Nat) :=
  let m := f.member (f.row stripe) pos
  if f.home.contains (stripe, pos) || !f.absent.contains m then some (f.slots.getD m 0xFF, stripLba (f.strip stripe pos) 0)
  else match f.reloc stripe pos with
    | some (t, i) => if f.absent.contains t then none else some (f.slots.getD t 0xFF, stripLba i 0)
    | none => none

/-- Positions of a stripe that cannot be read. -/
def Flock.missing (f : Flock) (stripe : Nat) : List Nat := (List.range (f.w + 2)).filter (fun p => (f.readAt stripe p).isNone)

/-- The flock and member of a slot. -/
def Chip.memberOf (c : Chip) (slot : Nat) : Option (Nat × Nat) :=
  (c.stripes.flocks.first? (fun _ f => f.slots.contains slot)).map (fun e => (e.1, e.2.slots.findIdx (fun s => s = slot)))

def Chip.flock? (c : Chip) (f : Nat) : Option Flock := c.stripes.flocks.get? f

def Chip.updFlock (c : Chip) (f : Nat) (g : Flock → Flock) : Chip := { c with stripes := { c.stripes with flocks := c.stripes.flocks.upd f g } }

/-- The acre record that covers a stripe. -/
def Flock.acreOf (f : Flock) (stripe : Nat) : Option AcreRec := f.acres.get? (stripe / f.spa)

/-- The fold that a stripe belongs to: that of its acre's group (R227). -/
def Flock.foldOf (f : Flock) (stripe : Nat) : Option Nat := f.groups.get? (stripe / f.spa / 1024)

/-! ### State of a flock (R244, R250) -/

/-- Members that count against the two that a flock can miss. -/
def Flock.missingCount (f : Flock) : Nat := (f.absent.filter (fun m => !f.rebuilt.contains m)).length

def Flock.state (f : Flock) : Nat := if 2 < f.missingCount then 3 else if f.absent = [] then 1 else 2

/-- Show a flock; becoming degraded or failed raises event 0x396 or 0x397. -/
def Chip.showFlock (c : Chip) (n : Nat) : Chip :=
  match c.flock? n with
  | none =>
    let c := ((c.set STRIPE_FLOCK_STAT_state 0 n).set STRIPE_FLOCK_STAT_absent 0 n).set STRIPE_FLOCK_STAT_cycles 0 n
    let c := (c.set STRIPE_FLOCK_ACRES_acres 0 n).set STRIPE_FLOCK_ACRES_free 0 n
    (List.range 32).foldl (fun c i => ((c.set STRIPE_FLOCK_SLOT_slot 0 n i).set STRIPE_FLOCK_SLOT_absent 0 n i).set STRIPE_FLOCK_SLOT_reloc 0 n i) c
  | some f =>
    let was := c.get STRIPE_FLOCK_STAT_state n
    let c := ((c.set STRIPE_FLOCK_STAT_state f.state n).set STRIPE_FLOCK_STAT_absent f.absent.length n).set STRIPE_FLOCK_STAT_cycles f.cycles n
    let c := (c.set STRIPE_FLOCK_ACRES_acres f.acreCount n).set STRIPE_FLOCK_ACRES_free (f.acreCount - f.acres.length) n
    let c := (List.range f.n).foldl (fun c i =>
      let rel := f.relocs.any (fun e => f.member (e.1 / 32) (e.1 % 32) = i)
      ((c.set STRIPE_FLOCK_SLOT_slot (f.slots.getD i 0) n i).setFlag STRIPE_FLOCK_SLOT_absent (f.absent.contains i) n i).setFlag STRIPE_FLOCK_SLOT_reloc rel n i) c
    (c.raiseIf (f.state = 2 && was ≠ 2 && was ≠ 3) 0x396).raiseIf (f.state = 3 && was ≠ 3) 0x397

/-- Rows that hold a failed member and have no target for it (R257). -/
def Flock.untargeted (f : Flock) : List Nat :=
  (List.range f.l).filter (fun r => (List.range (f.w + 2)).any (fun p => f.failed.contains (f.member r p) && !f.relocs.has (r * 32 + p)))

/-- Show counts of absent members, of rows without a target and of stale regions (R276). -/
def Chip.showBg (c : Chip) : Chip :=
  (List.range 4).foldl (fun c n => match c.flock? n with
    | some f =>
      let c := c.set STRIPE_BG_STAT_absent_cnt f.absent.length n
      let c := c.set STRIPE_BG_STAT_no_target_rows (min 255 f.untargeted.length) n
      c.set STRIPE_BG_STAT_stale_regions ((f.stale.map (fun e => e.2.length)).sum) n
    | none => ((c.set STRIPE_BG_STAT_absent_cnt 0 n).set STRIPE_BG_STAT_no_target_rows 0 n).set STRIPE_BG_STAT_stale_regions 0 n) c

/-- The layout table: the members of each row, packed. -/
def Flock.table (f : Flock) : Bytes := wholeBlocks (f.rows.flatMap (fun r => r.flatMap (fun m => le 1 m)))

/-- Bytes 0 to 127 of a member's label, with the digest after them. -/
def Flock.labelBytes (f : Flock) (n i : Nat) : Bytes :=
  let body := le 4 0x5356464C ++ le 2 1 ++ le 1 n ++ le 1 i ++ padTo 16 f.uuid ++ le 1 f.n ++ le 1 f.width ++ le 1 f.z ++ le 1 0 ++ le 2 f.l ++ le 2 f.k ++
    le 2 f.s ++ le 2 0 ++ le 4 f.cycles ++ le 8 f.labelGen ++ padTo 48 (Config.sha384 f.table) ++
    (List.range 32).flatMap (fun k => le 1 (if f.absent.contains k then 0xFF else f.slots.getD k 0xFF))
  body ++ padTo 48 (Config.sha384 body)

/-- A block of a label with its check field (R231): the guard, the block number as reference tag, application fields of 0. -/
def labelBlock (at_ : Nat) (b : Bytes) : Nat × Bytes := (at_, padTo 4096 b ++ le 8 (crc64 (padTo 4096 b)) ++ le 4 at_ ++ le 2 0 ++ le 2 0)

/-- Both copies of a member's label: the label block, then the layout table. -/
def Flock.labelBlocks (f : Flock) (n i : Nat) : List (Nat × Bytes) :=
  let t := f.table
  [0, 8192].flatMap (fun b => labelBlock b (f.labelBytes n i) :: (List.range (t.length / 4096)).map (fun j => labelBlock (b + 1 + j) ((t.drop (j * 4096)).take 4096)))

/-- Rewrite both label copies on every present member: label_gen rises by 1 (R223). -/
def Chip.writeLabels (c : Chip) (n : Nat) : Chip :=
  let c := c.updFlock n (fun f => { f with labelGen := f.labelGen + 1 })
  match c.flock? n with
  | none => c
  | some f => (List.range f.n).foldl (fun c i => if f.absent.contains i then c else c.send (.label (f.slots.getD i 0) (f.labelBlocks n i))) c

/-! ### Record areas and the lost-block list (R263, R509) -/

/-- The vaults that take writes now, as bits. -/
def Chip.vaults (c : Chip) : Nat := b2n (c.driveReady 32) + 2 * b2n (c.driveReady 33)

/-- The area header with the descriptors as they stand now, in the place of the older copy. -/
def Chip.areaBlock (c : Chip) : Nat × Bytes :=
  let seq := c.stripes.areaSeq + 1
  (seq % 2 * 16384, areaHeader c.id.chipB seq c.stripes.flocks)

/-- The blocks that a write rewrites (R509). The first mark of a member clears its map before the header makes the map valid; later marks leave the header, whose count is brought up to date when it is next
written (DESIGN CHOICE, assumption 143). A flock record holds member 0's label bytes; that of a flock that is gone reads 0 (DESIGN CHOICE, the same). -/
def Chip.recordBlocks (c : Chip) : RecWrite → List (Nat × Bytes)
  | .stale n m region _ =>
    let l := ((c.flock? n).bind (fun f => f.stale.get? m)).getD []
    let block := (staleMapAt n m + region / 32768 * 4096, staleBlock l region)
    if l.length = 1 then [(staleMapAt n m, zeros 524288), block, c.areaBlock] else [block]
  | .lost _ _ place _ =>
    let seq := c.stripes.listSeq + 1
    let at_ := 33 * 1048576
    [(at_ + 8192 + place / 128 * 4096, lostBlock c.stripes.lost (place / 128)), (at_ + seq % 2 * 4096, lostHeader seq c.stripes.lost.length)]
  | .maps => [c.areaBlock]
  | .flock n =>
    let at_ := 1048576 + n * 8388608
    match c.flock? n with
    | some f => [(at_, padTo 4096 ((f.labelBytes n 0).take 128)), (at_ + 4096, groupTable f f.acreCount)]
    | none => [(at_, zeros 4096)]

/-- Write to the record areas. -/
def Chip.record (c : Chip) (r : RecWrite) : Chip :=
  let o := Out.recordArea r (c.recordBlocks r)
  let header := match r with
    | .stale n m _ _ => ((c.flock? n).bind (fun f => f.stale.get? m)).any (fun l => l.length = 1)
    | .maps => true
    | _ => false
  let list := match r with
    | .lost _ _ _ _ => true
    | _ => false
  ({ c with stripes := { c.stripes with recQ := c.stripes.recQ ++ [r], areaSeq := c.stripes.areaSeq + b2n header, listSeq := c.stripes.listSeq + b2n list } } : Chip).send o

def Chip.showLost (c : Chip) : Chip := c.set STRIPE_LOST_STAT_listed c.stripes.lost.length

def Chip.isLost (c : Chip) (flock stripe pos blk : Nat) : Bool :=
  c.stripes.lost.any (fun r => r.flock = flock && r.stripe = stripe && r.pos = pos && r.blk = blk)

/-- List a lost block (R263) with event 0x387; a full list sets its overflow flag and raises event 0x414. -/
def Chip.listLost (c : Chip) (op flock stripe pos blk : Nat) (answers : List (Nat × Nat)) : Chip :=
  let c := (c.raise 0x387).cntStripe 9
  if c.isLost flock stripe pos blk then c
  else
    let acre := match c.flock? flock with
      | some f => stripe / f.spa
      | none => 0
    let r : LostRec := ⟨op, flock, pos, blk, stripe, acre, c.now⟩
    if 65536 ≤ c.stripes.lost.length then ((c.set STRIPE_LOST_STAT_overflow 1).raise 0x414).bump STRIPE_LOST_STAT_marked
    else ((({ c with stripes := { c.stripes with lost := c.stripes.lost ++ [r] } } : Chip).bump STRIPE_LOST_STAT_marked).showLost).record (.lost r true c.stripes.lost.length answers)

/-- Take a record off the list and say where it stood: the last record moves into its place (R509). -/
def dropLost (l : List LostRec) (r : LostRec) : List LostRec × Nat :=
  match l.findIdx? (fun x => x = r), l.getLast? with
  | some i, some z => (if i + 1 = l.length then l.dropLast else (l.set i z).dropLast, i)
  | _, _ => (l, 0)

/-- Take a record off the list and write the change. -/
def Chip.unlistOne (c : Chip) (r : LostRec) : Chip :=
  let d := dropLost c.stripes.lost r
  (({ c with stripes := { c.stripes with lost := d.1 } } : Chip).showLost).record (.lost r false d.2 [])

/-- Take blocks off the list here and at the partner. -/
def Chip.unlist (c : Chip) (p : LostRec → Bool) : Chip :=
  (c.stripes.lost.filter p).foldl (fun (c : Chip) r => (c.unlistOne r).send (.lostChange r false)) c

/-- Mark the region of an absent member's strip as stale, for a commit that waits for the mark to be written (R256). -/
def Chip.markStale (c : Chip) (flock m strip entry : Nat) : Chip × Nat :=
  match c.flock? flock with
  | none => (c, 0)
  | some f =>
    if f.failed.contains m || f.isStale m strip then (c, 0)
    else
      let c := c.updFlock flock (fun f => { f with
        staleGen := if f.stale.has m then f.staleGen else f.staleGen.put m f.labelGen,
        stale := f.stale.updD m [] (fun l => addNew (strip / 1024) l) })
      (((c.record (.stale flock m (strip / 1024) entry))).showBg, 1)

/-! ### Absent and failed members (R244, R255) -/

/-- A member is absent from now on. -/
def Chip.memberAbsent (c : Chip) (slot : Nat) : Chip :=
  match c.memberOf slot with
  | none => c
  | some (n, m) =>
    match c.flock? n with
    | none => c
    | some f =>
      if f.absent.contains m then c
      else ((c.updFlock n (fun f => { f with absent := f.absent ++ [m], sinceNs := f.sinceNs.put m c.clk })).showFlock n).showBg

/-- A member of the flock fails: relocations onto it are dropped with the strips they held (R257). -/
def Flock.failMember (f : Flock) (m : Nat) : Flock :=
  let onto := (f.relocs.filter (fun e => e.2.1 = m)).map (·.1)
  let rebuilt := f.rebuilt.filter (fun x => !(onto.any (fun k => f.member (k / 32) (k % 32) = x)))
  let placed := f.placed.filter (fun sp => !onto.contains (f.row sp.1 * 32 + sp.2))
  let home := f.home.filter (fun sp => f.member (f.row sp.1) sp.2 ≠ m)
  { f with
    absent := if f.absent.contains m then f.absent else f.absent ++ [m],
    failed := f.failed ++ [m],
    rebuilt := rebuilt,
    placed := placed,
    home := home,
    relocs := f.relocs.keep (fun _ t => t.1 ≠ m),
    stale := f.stale.del m,
    sinceNs := f.sinceNs.del m }

/-- A member is failed (R255): event 0x415; relocations onto it are dropped (R257); a rebuild is to start or be extended. -/
def Chip.memberFails (c : Chip) (n m : Nat) : Chip :=
  match c.flock? n with
  | none => c
  | some f =>
    if f.failed.contains m || f.n ≤ m then c
    else
      let c := c.updFlock n (fun f => f.failMember m)
      let c := if f.stale.has m then c.record .maps else c
      let c := { c with stripes := { c.stripes with newFailed := c.stripes.newFailed ++ [(n, m)] } }
      ((c.raise 0x415).showFlock n).showBg

/-- The drive of a slot has failed (R181, R246, R330): its member with it. -/
def Chip.driveFails (c : Chip) (slot : Nat) : Chip :=
  let c := (c.updRun slot (fun r => { r with failed := true })).driveGone slot
  match c.memberOf slot with
  | some (n, m) => c.memberFails n m
  | none => c

/-- A read error of a member counts toward rd_err_limit within one hour (R255). -/
def Chip.readError (c : Chip) (slot : Nat) : Chip :=
  match c.memberOf slot with
  | none => c
  | some (n, m) =>
    match c.flock? n with
    | none => c
    | some f =>
      let recent := (f.rdErrs.getD m []).filter (fun t => decide (c.clk < t + 3600 * second))
      let c := c.updFlock n (fun f => { f with rdErrs := f.rdErrs.put m (recent ++ [c.clk]) })
      if c.get STRIPE_RB_CFG_rd_err_limit < recent.length + 1 then c.driveFails slot else c

/-- CONTROLLER_RESET_DONE (R181, R320). -/
def controllerResetDone (slot : Nat) (ok : Bool) (c : Chip) : Chip :=
  if ok then c.driveWasReset slot else (c.raise 0x28C).driveFails slot

/-- MEMBER_FAIL (0x0414, R255). -/
def memberFail (h : Hdr) (flock member : Nat) : Chip → Chip :=
  runPair ⟨0x0414, true, .w, paramBytes [1, 1]⟩ h [] (.memberFail flock member) (fun c =>
    Res.guard c [refuseIf (decide (4 ≤ flock)) 0x0102 32, refuseIf (c.flock? flock).isNone 0x0201,
        refuseIf (match c.flock? flock with
          | some f => decide (f.n ≤ member)
          | none => false) 0x0102 33]
      (fun c =>
        let slot := match c.flock? flock with
          | some f => f.slots.getD member 0xFF
          | none => 0xFF
        Res.ok ((c.driveGone slot).memberFails flock member)))

/-- RB_DELAY_EXPIRY (R255): absent for rb_delay_s. -/
def rbDelayExpiry (flock member : Nat) (c : Chip) : Chip :=
  match c.flock? flock with
  | some f => if f.absent.contains member then c.memberFails flock member else c
  | none => c

/-- LOST_LIST_READ (0x0415). -/
def lostListRead (h : Hdr) (first : Nat) : Chip → Chip :=
  runCommand ⟨0x0415, false, .r, paramBytes [4]⟩ h [] (fun c =>
    let l := (c.stripes.lost.drop first).take 126
    Res.ok c (le 4 l.length ++ zeros 4 ++ l.flatMap (fun r =>
      le 1 1 ++ le 1 r.op ++ le 1 r.flock ++ le 1 r.pos ++ le 1 r.blk ++ zeros 3 ++ le 8 r.stripe ++ le 4 r.acre ++ zeros 4 ++ le 8 r.time)))

/-- LOST_OVERFLOW_CLEAR (R276). -/
def lostOverflowClear (c : Chip) : Chip := if c.stripes.lost.length < 65536 then c.set STRIPE_LOST_STAT_overflow 0 else c

/-- LOST_BLOCK_CHANGE_RX (R263): the partner's addition or removal enters this chip's own list and record areas. -/
def lostBlockChangeRx (add : Bool) (r : LostRec) (c : Chip) : Chip :=
  if add then
    if c.isLost r.flock r.stripe r.pos r.blk then c
    else if 65536 ≤ c.stripes.lost.length then (c.set STRIPE_LOST_STAT_overflow 1).raise 0x414
    else (({ c with stripes := { c.stripes with lost := c.stripes.lost ++ [r] } } : Chip).showLost).record (.lost r true c.stripes.lost.length [])
  else
    let gone := c.stripes.lost.filter (fun x => x.flock = r.flock && x.stripe = r.stripe && x.pos = r.pos && x.blk = r.blk)
    match gone with
    | [] => c
    | x :: _ => c.unlistOne x

/-! ### Creating and deleting (R221 to R227) -/

/-- L for a geometry: R224's table where it lists it, else what the construction gives. -/
def layoutL (n w z : Nat) : Nat :=
  match n, w, z with
  | 8, 4, 1 => 28
  | 10, 4, 1 => 15
  | 12, 8, 1 => 66
  | 16, 8, 2 => 56
  | 24, 16, 2 => 44
  | 32, 16, 2 => 80
  | _, _, _ => Config.layoutRows n w z

/-- A flock as created. -/
def newFlock (width z n : Nat) (slots : List Nat) (k s cycles : Nat) (uuid : Bytes) (rows : List (List Nat)) (now_ : Nat) : Flock :=
  { width := width, z := z, n := n, slots := slots, rows := rows, k := k, s := s, cycles := cycles, uuid := uuid, labelGen := 0, relocs := [], groups := [],
    acres := [], absent := [], failed := [], rebuilt := [], placed := [], home := [], stale := [], sinceNs := [], rdErrs := [], replayed := true,
    needScrub := false, scrubNs := now_ }

def flockCreateInfo : CmdInfo := ⟨0x0400, true, .w, 36⟩

/-- Create a flock: its flock_uuid comes from the DRBG (R348). `blocks` is the block count of its smallest drive. -/
def Chip.makeFlock (c : Chip) (flock width z n : Nat) (used : List Nat) (blocks : Nat) : Res :=
  let w := widthOf width
  let l := layoutL n w z
  let k := l * (w + 2) / atLeast1 n
  let s := k * z / atLeast1 (n - z)
  let cycles := (blocks - 16384) / atLeast1 (16 * (k + s))
  let drawn := c.freshBytes
  let f := newFlock width z n used k s cycles (padTo 16 drawn.1) ((List.range l).map (Config.layoutRow n w z)) c.clk
  let c := drawn.2
  let c := { c with stripes := { c.stripes with flocks := c.stripes.flocks.put flock f } }
  let c := ((c.set STRIPE_FLOCK_CFG_width width flock).set STRIPE_FLOCK_CFG_spare (z - 1) flock).set STRIPE_FLOCK_CFG_members n flock
  let c := ((c.set STRIPE_FLOCK_CFG_rows_m1 (l - 1) flock).set STRIPE_FLOCK_CFG_k_occ k flock).set STRIPE_FLOCK_CFG_s_spare s flock
  let c := (((c.writeLabels flock).record (.flock flock)).showFlock flock).showBg
  Res.ok c (le 2 l ++ le 2 k ++ le 2 s ++ zeros 2 ++ le 4 cycles ++ le 4 f.acreCount)

/-- Is a flock, or a slot, taken by a FLOCK_CREATE that waits for the DRBG (R349)? -/
def Chip.flockWaits (c : Chip) (flock : Nat) : Bool :=
  c.cipher.drbgWait.any (fun x => match x with
    | .flock _ f _ _ _ _ _ => f = flock
    | _ => false)
def Chip.slotWaits (c : Chip) (slot : Nat) : Bool :=
  c.cipher.drbgWait.any (fun x => match x with
    | .flock _ _ _ _ _ slots _ => slots.contains slot
    | _ => false)

/-- FLOCK_CREATE (0x0400). `qualified` are the slots whose drives meet R222 and R318, `blocks` the block count of the smallest of them. While the DRBG is stopped it waits (R349). -/
def flockCreate (h : Hdr) (flock width z n : Nat) (slots qualified : List Nat) (blocks : Nat) : Chip → Chip :=
  runPair flockCreateInfo h [] (.flockCreate flock width z n slots) (fun c =>
    let w := widthOf width
    let used := slots.take n
    let badSlot := used.any (fun s => decide (32 ≤ s) || slotAbsent c.id s || decide (1 < used.count s) || (c.memberOf s).isSome || c.slotWaits s)
    let unfit := used.any (fun s => !qualified.contains s)
    let l := layoutL n w z
    let k := l * (w + 2) / atLeast1 n
    let s := k * z / atLeast1 (n - z)
    let cycles := (blocks - 16384) / atLeast1 (16 * (k + s))
    let geo := decide (2 < width) || decide (n < 8) || decide (32 < n) || decide (n < w + 2 + z) || (c.id.half && (decide (16 < n) || width = 2))
    Res.guard (c.raiseIf (!geo && !badSlot && unfit) 0x39A)
      [refuseIf (decide (4 ≤ flock)) 0x0102 32, refuseIf (decide (2 < width) || (c.id.half && width = 2)) 0x0102 33,
        refuseIf (z = 0 || decide (2 < z)) 0x0102 34, refuseIf geo 0x0102 35, refuseIf (decide (used.length < n) || badSlot || unfit) 0x0102 36,
        refuseIf ((c.flock? flock).isSome || c.flockWaits flock) 0x0202, refuseIf (l = 0 || decide (4096 < l)) 0x0102 35,
        refuseIf (cycles = 0 || cycles * l * w / 64 = 0) 0x0102 36]
      (fun c => if c.drbgStopped then Res.wait (c.waitDrbg (.flock h flock width z n used blocks)) else c.makeFlock flock width z n used blocks))

/-- FLOCK_DELETE (0x0401): a flock that holds acres is in use. -/
def flockDelete (h : Hdr) (flock : Nat) : Chip → Chip :=
  runPair ⟨0x0401, true, .w, paramBytes [1]⟩ h [] (.flockDelete flock) (fun c =>
    Res.guard c [refuseIf (decide (4 ≤ flock)) 0x0102 32, refuseIf (c.flock? flock).isNone 0x0201,
        refuseIf (match c.flock? flock with
          | some f => decide (f.acres ≠ [])
          | none => false) 0x0203]
      (fun c =>
        let c := { c with stripes := { c.stripes with flocks := c.stripes.flocks.del flock } }
        let c := ((c.set STRIPE_FLOCK_CFG_width 0 flock).set STRIPE_FLOCK_CFG_spare 0 flock).set STRIPE_FLOCK_CFG_members 0 flock
        let c := ((c.set STRIPE_FLOCK_CFG_rows_m1 0 flock).set STRIPE_FLOCK_CFG_k_occ 0 flock).set STRIPE_FLOCK_CFG_s_spare 0 flock
        Res.ok (((c.record (.flock flock)).showFlock flock).showBg)))

/-- FLOCK_GET (0x0402). -/
def flockGet (h : Hdr) (flock : Nat) : Chip → Chip :=
  runCommand ⟨0x0402, false, .r, paramBytes [1]⟩ h [] (fun c =>
    Res.guard c [refuseIf (decide (4 ≤ flock)) 0x0102 32]
      (fun c => match c.flock? flock with
        | none => Res.no c 0x0201
        | some f => Res.ok c ((f.labelBytes flock 0).take 128 ++ c.image STRIPE_FLOCK_STAT flock ++ c.image STRIPE_FLOCK_ACRES flock)))

/-- ACRE_GROUP_SET (0x0404): an empty group only. -/
def acreGroupSet (h : Hdr) (flock fold group : Nat) : Chip → Chip :=
  runPair ⟨0x0404, true, .w, paramBytes [1, 1, 4]⟩ h [] (.acreGroupSet flock fold group) (fun c =>
    match c.flock? flock with
    | none => Res.guard c [refuseIf (decide (4 ≤ flock)) 0x0102 32] (fun c => Res.no c 0x0201)
    | some f =>
      Res.guard c [refuseIf (decide (8 ≤ fold) && fold ≠ 0xFF) 0x0102 33, refuseIf (decide (f.acreCount ≤ group * 1024)) 0x0102 36,
          refuseIf (f.acres.any (fun a => a.1 / 1024 = group)) 0x0203]
        (fun c => Res.ok ((c.updFlock flock (fun f => { f with groups := if fold = 0xFF then f.groups.del group else f.groups.put group fold })).record (.flock flock))))

/-- STRIPE_LAYOUT_SEL_WRITE (R250): a snapshot of a row. -/
def stripeLayoutSelWrite (flock row : Nat) (c : Chip) : Chip :=
  let c := (c.set STRIPE_LAYOUT_SEL_flock flock).set STRIPE_LAYOUT_SEL_row row
  let f := c.flock? (flock % 4)
  (List.range 18).foldl (fun c p =>
    let shown := match f with
      | some f => decide (row < f.l) && decide (p < f.w + 2)
      | none => false
    match f with
    | some f =>
      let rel := f.relocs.get? (row * 32 + p)
      let c := (c.set STRIPE_LAYOUT_VIEW_member (if shown then f.member row p else 0) p).set STRIPE_LAYOUT_VIEW_occ (if shown then f.occ row (f.member row p) else 0) p
      let c := c.setFlag STRIPE_LAYOUT_VIEW_reloc_valid (shown && rel.isSome) p
      (c.set STRIPE_LAYOUT_VIEW_reloc_member (if shown then (rel.map (·.1)).getD 0 else 0) p).set STRIPE_LAYOUT_VIEW_reloc_slot
        (if shown then (rel.map (·.2)).getD 0 else 0) p
    | none =>
      let c := ((c.set STRIPE_LAYOUT_VIEW_member 0 p).set STRIPE_LAYOUT_VIEW_occ 0 p).set STRIPE_LAYOUT_VIEW_reloc_valid 0 p
      (c.set STRIPE_LAYOUT_VIEW_reloc_member 0 p).set STRIPE_LAYOUT_VIEW_reloc_slot 0 p) c

/-- STRIPE_GATE_LAST_REARM, STRIPE_VERIFY_LAST_REARM, JNL_PEAK_CLR (R250). -/
def stripeGateLastRearm (c : Chip) : Chip := c.set STRIPE_GATE_LAST_valid 0

def stripeVerifyLastRearm (c : Chip) : Chip := c.set STRIPE_VERIFY_LAST_valid 0

def jnlPeakClr (c : Chip) : Chip := c.set STRIPE_JNL_STAT_peak 0

end Sys2Proof.Machine
end

