-- ==== Sys2Proof/Machine/Slots.lean ====
section
/-!
DEFINITION. Slots: the power path and its protection (R323 to R334), button, LEDs and removal (R335 to R340), the drive link (R316 to R320), the sideband (R321, R322):
chapter 10 of the spec. What a drive's return sets going stands in Machine/Members.lean.
-/

namespace Sys2Proof.Machine

/-! ### Common -/

def slotEvent (n k : Nat) : Nat := 0x500 + 4 * n + k

/-- Raise a shared slot event, whose slot SLOT_EVT_LAST latches (R343). -/
def Chip.slotShared (c : Chip) (s e : Nat) : Chip :=
  let c := if c.flag SLOT_EVT_LAST_valid then c else ((c.set SLOT_EVT_LAST_slot s).set SLOT_EVT_LAST_event e).set SLOT_EVT_LAST_valid 1
  c.raise e

def Chip.pathState (c : Chip) (s : Nat) : Nat := c.get SLOT_CH_STAT_state s

def Chip.slotOk (c : Chip) (s : Nat) : Bool := decide (s < 34) && !slotAbsent c.id s

/-- A vault slot whose privilege fuse is set is privileged (R332). -/
def Chip.privileged (c : Chip) (s : Nat) : Bool := isVault s && c.flag SLOT_CEIL_priv s

/-- Is this chip the sideband owner (R315)? -/
def Chip.sidebandOwner (c : Chip) : Bool := c.get TWIN_STATUS_pair_state = 2 || !c.id.chipB

/-- May the path start: the enable stands, or a privileged vault slot is seated and not inhibited (R330, R332)? -/
def Chip.startTrue (c : Chip) (s : Nat) : Bool :=
  c.flag SLOT_CH_STAT_present s &&
    (if c.privileged s then c.flag SLOT_CH_STAT_seated s && !c.flag SLOT_CH_CTL_seat_inhibit s else c.flag SLOT_CH_CTL_en s)

def Chip.setPath (c : Chip) (s st : Nat) : Chip := c.set SLOT_CH_STAT_state st s

def Chip.setPg (c : Chip) (s : Nat) (on : Bool) : Chip :=
  let c := c.setFlag SLOT_CH_STAT_pg on s
  let c := c.set SLOT_GLB_STAT_slots_on (setBit (c.get SLOT_GLB_STAT_slots_on) s on)
  c.updRun s (fun r => { r with pgSince := if on then some c.clk else none, lowSince := none })

/-- Assert or release this chip's PERST_N of a slot. -/
def Chip.perst (c : Chip) (s : Nat) (asserted : Bool) : Chip := (c.setFlag SLOT_CH_CTL_perst_rel (!asserted) s).send (.slotPerst s asserted)

/-- Assert or release SLOT_PWARN_N. -/
def Chip.pwarn (c : Chip) (s : Nat) (asserted : Bool) : Chip := (c.setFlag SLOT_CH_CTL_pwarn asserted s).send (.slotPwarn s asserted)

/-- The amber and green patterns of a slot (R337). Only the sideband owner drives patterns, but for those of forced removal, which AON drives on both chains. -/
def Chip.showLed (c : Chip) (s : Nat) : Chip :=
  let r := c.run s
  let owner := c.sidebandOwner
  let on := decide (1000 ≤ c.get SLOT_CH_STAT_vout_mv s) || c.powered s
  let green := if !on then 0 else if isVault s && !c.flag GLB_START_in_service && decide (c.get GLB_START_step < 5) then 1
    else if c.flag DRV_LINK_STAT_up s then 1 else 2
  let refused := match r.refusedAt with
    | some t => decide (c.clk < t + 3 * second)
    | none => false
  let failedMember := r.failed || (match c.memberOf s with
    | some (n, m) => ((c.flock? n).map (fun f => f.failed.contains m)).getD false
    | none => false)
  let amber := if r.forcedAt.isSome then 4
    else if r.removeAt.isSome && !r.offAsked then 3
    else if refused then 6
    else if r.offByRemoval || r.offAsked || (c.pathState s = 6 && !r.pulledSinceLock) then 1
    else if failedMember && on then 5
    else if c.flag SLOT_LED_ovr_en s then (let p := c.get SLOT_LED_amber_ovr s; if p = 7 then 0 else p)
    else if c.flag SLOT_LED_locate s then 2 else 0
  let c := c.set SLOT_LED_amber (if owner || r.forcedAt.isSome then amber else 0) s
  c.set SLOT_LED_green (if owner then green else 0) s

/-- Is a pattern lit at an instant of the timebase (R336)? Its phase is counted from the whole second, and it begins lit. -/
def patternLit (pattern now_ : Nat) : Bool :=
  let ms := now_ % second / 1000000
  match pattern with
  | 1 => true
  | 2 => decide (ms < 500)
  | 3 => decide (ms % 500 < 250)
  | 4 => decide (ms % 250 < 125)
  | 5 => decide (ms < 400) && decide (ms % 200 < 100)
  | 6 => decide (ms < 600) && decide (ms % 200 < 100)
  | _ => false

/-- The 72 bits of the LED chain: bit 2n the green and bit 2n + 1 the amber LED of slot n (R336). -/
def Chip.ledChain (c : Chip) : Nat :=
  ((List.range 34).map (fun s => b2n (patternLit (c.get SLOT_LED_green s) c.now) * 2 ^ (2 * s) + b2n (patternLit (c.get SLOT_LED_amber s) c.now) * 2 ^ (2 * s + 1))).sum

/-! ### The link and the drive behind it -/

/-- The link of this chip's port is down: nothing can be submitted to the drive by it. -/
def Chip.linkLost (c : Chip) (s : Nat) : Chip :=
  let was := c.flag DRV_LINK_STAT_up s
  let c := ((c.set DRV_LINK_STAT_up 0 s).set DRV_NVME_STAT_ready 0 s).set DRV_NVME_STAT_rsv_held 0 s
  let c := (c.set DRV_NVME_STAT_ioq 0 s).set DRV_LINK_STAT_width 0 s
  (if was then c.raise (slotEvent s 3) else c).updRun s (fun r => { r with linkDownAt := some c.clk })

/-- The drive is out of reach because its slot is failed, removed or powered off: its commands are resolved, its member is absent (R181, R244). -/
def Chip.driveOut (c : Chip) (s : Nat) : Chip := ((c.linkLost s).driveGone s).memberAbsent s

/-- DRIVE_LINK_DOWN (R320): the commands outstanding on the port are treated as timed out at once. -/
def driveLinkDown (slot : Nat) (c : Chip) : Chip :=
  if !c.slotOk slot || !c.flag DRV_LINK_STAT_up slot then c
  else
    let c := c.linkLost slot
    let c := if c.flag SLOT_CH_STAT_present slot && c.powered slot then c.slotShared slot 0x592 else c
    let c := c.updRun slot (fun r => { r with trainFails := 0, trainGen := min 2 (c.get DRV_LINK_CFG_max_gen slot) })
    let out := c.stripes.drv.filter (fun e => e.2.slot = slot && e.2.pen = 0)
    (out.foldl (fun c e => c.timeOut e.1 e.2) c).showLed slot

/-- LINK_FAIL_EXPIRY (R320): the controller reset is deemed failed. -/
def linkFailExpiry (slot : Nat) (c : Chip) : Chip :=
  if c.slotOk slot && !c.flag DRV_LINK_STAT_up slot && (c.run slot).linkDownAt.isSome && c.powered slot then (controllerResetDone slot false c).showLed slot else c

/-- LINK_TRAIN_TIMEOUT (R317): trains again at the same generation; after the allowed failures one generation lower; below Gen4 the drive is failed. -/
def linkTrainTimeout (slot : Nat) (c : Chip) : Chip :=
  if !c.slotOk slot || c.flag DRV_LINK_STAT_up slot then c
  else
    let c := c.bump DRV_LINK_STAT_retrains 1 slot
    let r := c.run slot
    let n := r.trainFails + 1
    if n < atLeast1 (c.get DRV_LINK_CFG_retries slot) then c.updRun slot (fun r => { r with trainFails := n })
    else if 0 < r.trainGen then c.updRun slot (fun r => { r with trainFails := 0, trainGen := r.trainGen - 1 })
    else ((c.slotShared slot 0x592).driveFails slot).showLed slot

/-- PERST_RELEASE_DELAY (R317): at least 100 ms after power good, from ST08 on for a vault slot and from ST10 on for a data slot; training starts at the highest generation allowed. -/
def perstReleaseDelay (slot : Nat) (c : Chip) : Chip :=
  let held := match (c.run slot).pgSince with
    | some t => decide (t + 100000000 ≤ c.clk)
    | none => false
  if c.slotOk slot && held && !c.flag SLOT_CH_CTL_perst_rel slot && decide ((if isVault slot then 8 else 10) ≤ c.get GLB_START_step) then
    (c.perst slot false).updRun slot (fun r => { r with trainFails := 0, trainGen := min 2 (c.get DRV_LINK_CFG_max_gen slot) })
  else c

/-! ### The power path (R325 to R332) -/

/-- The state that a start leads to: ramping, or at once power good where the partner's path already holds VOUT up (R325). -/
def Chip.startState (c : Chip) (s : Nat) : Nat := if c.get SLOT_CH_LIM_pg_mv s ≤ c.get SLOT_CH_STAT_vout_mv s then 3 else 2

/-- Start a path: the ramp begins. -/
def Chip.startPath (c : Chip) (s : Nat) : Chip :=
  let st := c.startState s
  let c := (((c.setPath s st).bump SLOT_CNT_starts 1 s).send (.slotGate s 1)).updRun s (fun r => { r with cooling := false })
  if st = 3 then c.setPg s true else c

/-- Turn a path's gate off at once, PERST_N asserted. -/
def Chip.gateOff (c : Chip) (s : Nat) : Chip :=
  let c := ((c.setPg s false).send (.slotGate s 0)).perst s true
  c.driveOut s

/-- A path fault (R329, R330): gate off, PERST_N, count, event, latch, retry timer; at the third the channel locks, which fails the member. -/
def Chip.pathFault (c : Chip) (s kind point : Nat) : Chip :=
  let amps := c.get SLOT_CH_STAT_i_ma s
  let c := (c.gateOff s).raise (slotEvent s 0)
  let n := min 3 (c.get SLOT_CH_STAT_fault_cnt s + 1)
  let c := (c.set SLOT_CH_STAT_fault_cnt n s).bump SLOT_CNT_faults 1 s
  let retry := clamp 100 60000 (c.get SLOT_CH_CFG_retry_ms s)
  let c := if c.flag SLOT_CH_FAULT_valid s then c
    else (((c.set SLOT_CH_FAULT_kind kind s).set SLOT_CH_FAULT_point point s).set SLOT_CH_FAULT_i_ma amps s).set SLOT_CH_FAULT_valid 1 s
  let c := c.set SLOT_CH_FAULT_retry_left_ms retry s
  let c := c.updRun s (fun r => { r with retryEnd := some (c.clk + retry * 1000000), acc := List.replicate 8 0, pulledSinceLock := false })
  let c := if n = 3 then
      let c := ((c.setPath s 6).set SLOT_CH_CTL_en 0 s).slotShared s 0x588
      match c.memberOf s with
      | some (f, m) => c.memberFails f m
      | none => c
    else c.setPath s 5
  c.showLed s

/-- Is the gate on: ramping, on, or ramping down? -/
def Chip.gateIsOn (c : Chip) (s : Nat) : Bool := [2, 3, 4].contains (c.pathState s)

/-- SHORT_CIRCUIT_TRIP (R326): the comparator works in every state. -/
def shortCircuitTrip (slot amps : Nat) (c : Chip) : Chip :=
  if c.slotOk slot && c.gateIsOn slot then (c.set SLOT_CH_STAT_i_ma amps slot).pathFault slot 1 0 else c

/-- POWER_GOOD (R325). -/
def powerGood (slot : Nat) (c : Chip) : Chip :=
  if c.slotOk slot && c.pathState slot = 2 then (((c.setPath slot 3).setPg slot true).showLed slot) else c

/-- RAMP_TIMEOUT (R325). -/
def rampTimeout (slot : Nat) (c : Chip) : Chip := if c.slotOk slot && c.pathState slot = 2 then c.pathFault slot 4 0 else c

/-- The junction temperature in whole degrees. -/
def Chip.tjC (c : Chip) (s : Nat) : Int := (c.run s).tj / 1000000000

/-- PATH_SAMPLE (R324, R327, R329): every 1 µs. The accumulator of point k rises while the current exceeds I_k and falls otherwise. -/
def pathSample (slot amps vout vin : Nat) (c : Chip) : Chip :=
  if !c.slotOk slot then c
  else
    let c := ((c.set SLOT_CH_STAT_i_ma (min 0xFFFF amps) slot).set SLOT_CH_STAT_vout_mv (min 0xFFFF vout) slot).set SLOT_GLB_STAT_vin_mv (min 0xFFFF vin)
    let acc := (List.range 8).map (fun k =>
      let a := (c.run slot).acc.getD k 0
      if c.get SLOT_CURVE_i_ma slot k < amps then a + 1 else a - 1)
    let uv := c.get SLOT_CH_LIM_uv_mv slot
    let low := c.pathState slot = 3 && decide (vout < uv) && decide (uv + 500 ≤ vin)
    let c := c.updRun slot (fun r => { r with acc := acc, energyPj := r.energyPj + amps * vout, lowSince := if !low then none else match r.lowSince with
      | some t => some t
      | none => some c.clk })
    let hit := (List.range 8).find? (fun k => decide (c.get SLOT_CURVE_t_us slot k ≤ acc.getD k 0) && decide (0 < acc.getD k 0))
    let lowLong := match (c.run slot).lowSince with
      | some t => decide (t + 100000 ≤ c.clk)
      | none => false
    (match hit with
    | some k => if c.gateIsOn slot then c.pathFault slot 2 k else c
    | none => if low && lowLong then c.pathFault slot 5 0 else c).showLed slot

/-- The restart limit: at most tj_max_c − 10 (R341). -/
def Chip.restartC (c : Chip) (s : Nat) : Nat := min (c.get SLOT_TH_CFG_tj_restart_c s) (clamp 100 175 (c.get SLOT_TH_CFG_tj_max_c s) - 10)

/-- THERMAL_MODEL_STEP (R328, R330): every 10 µs. `diode` is the diode's reading in 0.1 °C, on a vault slot that has one. In the model's units: power in µW, the
junction rises by 10,000 × P ÷ cj_ujk and the case by 10 × P ÷ cc_mjk in 10^-9 °C a step. -/
def thermalModelStep (slot : Nat) (diode : Option Int) (c : Chip) : Chip :=
  if !c.slotOk slot then c
  else
    let r := c.run slot
    let drop := (c.get SLOT_GLB_STAT_vin_mv : Int) - c.get SLOT_CH_STAT_vout_mv slot
    let p := (c.get SLOT_CH_STAT_i_ma slot : Int) * drop
    let jc := (r.tj - r.tc) / atLeast1 (c.get SLOT_TH_PARAM_rjc_mkw slot)
    let ca := (r.tc - signedOf 8 (c.get SLOT_TH_CFG_ta_c slot) * 1000000000) / (100 * atLeast1 (c.get SLOT_TH_PARAM_rca_dkw slot))
    let model := r.tj + (p - jc) * 10000 / atLeast1 (c.get SLOT_TH_PARAM_cj_ujk slot)
    let tc := r.tc + (jc - ca) * 10 / atLeast1 (c.get SLOT_TH_PARAM_cc_mjk slot)
    let tj := match diode with
      | some d => if isVault slot && c.flag SLOT_TH_CFG_src slot then d * 100000000 else model
      | none => model
    let c := c.updRun slot (fun r => { r with tj := tj, tc := tc })
    let c := (c.set SLOT_TH_STAT_tj_dc (ofSigned 16 (clampSigned 16 (tj / 100000000))) slot).set SLOT_TH_STAT_tc_dc (ofSigned 16 (clampSigned 16 (tc / 100000000))) slot
    let c := c.set SLOT_TH_STAT_p_dw (min 0xFFFF (p.toNat / 100000)) slot
    if (clamp 100 175 (c.get SLOT_TH_CFG_tj_max_c slot) : Int) * 1000000000 ≤ tj && c.gateIsOn slot then c.pathFault slot 3 0
    else if (c.run slot).cooling && decide (c.tjC slot < c.restartC slot) && c.pathState slot = 5 && c.startTrue slot then c.startPath slot else c

/-- RETRY_TIMER_EXPIRY (R330). -/
def retryTimerExpiry (slot : Nat) (c : Chip) : Chip :=
  if !c.slotOk slot || (c.run slot).retryEnd.isNone then c
  else
    let c := (c.updRun slot (fun r => { r with retryEnd := none })).set SLOT_CH_FAULT_retry_left_ms 0 slot
    if c.pathState slot ≠ 5 then c
    else if !c.startTrue slot then c.setPath slot 0
    else if c.tjC slot < c.restartC slot then c.startPath slot
    else c.updRun slot (fun r => { r with cooling := true })

/-- FAULT_COUNT_CLEAR (R330): 60 s of power good without a fault. -/
def faultCountClear (slot : Nat) (c : Chip) : Chip := if c.slotOk slot && c.pathState slot = 3 then c.set SLOT_CH_STAT_fault_cnt 0 slot else c

/-- INSERT_DELAY_EXPIRY (R331). -/
def insertDelayExpiry (slot : Nat) (c : Chip) : Chip :=
  if c.slotOk slot && c.pathState slot = 1 then (if c.startTrue slot then c.startPath slot else c.setPath slot 0) else c

/-- Presence or seating lost while the path is up: off at once, no fault (R331). -/
def Chip.lostContact (c : Chip) (s : Nat) : Chip :=
  let c := if c.pathState s = 2 || c.pathState s = 3 then (c.gateOff s).setPath s 0 else if c.pathState s = 1 then c.setPath s 0 else c
  c.showLed s

/-- PRESENCE_CHANGE (R330 to R332, R334, R337). -/
def presenceChange (slot : Nat) (present : Bool) (c : Chip) : Chip :=
  if !c.slotOk slot || c.flag SLOT_CH_STAT_present slot = present then c
  else
    let c := (c.setFlag SLOT_CH_STAT_present present slot).raise (slotEvent slot 1)
    if !present then
      let c := (c.set SLOT_LED_locate 0 slot).set SLOT_CH_CTL_seat_inhibit 0 slot
      let c := c.bump SLOT_CNT_removals 1 slot
      let c := c.updRun slot (fun r => { r with goneSince := some c.clk, offByRemoval := false, removeAt := none, offAsked := false, quiesced := false,
                                                failed := false, pulledSinceLock := c.pathState slot = 6 || r.pulledSinceLock })
      ((c.set SLOT_BTN_STAT_rm_state 0 slot).driveOut slot).lostContact slot
    else
      let long := match (c.run slot).goneSince with
        | some t => decide (t + 2 * second ≤ c.clk)
        | none => false
      let c := if long then c.set SLOT_CH_STAT_fault_cnt 0 slot else c
      let c := if c.pathState slot = 5 then ((c.set SLOT_CH_STAT_reinserted 1 slot).bump SLOT_CNT_reinsertions 1 slot).slotShared slot 0x589 else c
      let auto := (c.run slot).rearm && c.flag SLOT_CH_CFG_auto_on slot
      let c := (if auto then c.set SLOT_CH_CTL_en 1 slot else c).updRun slot (fun r => { r with goneSince := none, rearm := false })
      if c.pathState slot = 0 && c.startTrue slot && !c.privileged slot then c.setPath slot 1 else c.showLed slot

/-- SEAT_CHANGE (R331, R332): vault slots only. -/
def seatChange (slot : Nat) (seated : Bool) (c : Chip) : Chip :=
  if slot ≠ 32 && slot ≠ 33 then c
  else
    let c := c.setFlag SLOT_CH_STAT_seated seated slot
    if seated then c else c.lostContact slot

/-- VAULT_SEAT_START (R332): AON starts a privileged vault slot. -/
def vaultSeatStart (slot : Nat) (c : Chip) : Chip :=
  if c.slotOk slot && c.privileged slot && c.startTrue slot && c.pathState slot = 0 then (c.startPath slot).slotShared slot 0x590 else c

/-! ### Switching off (R333, R338) -/

/-- A controlled off: the warning first; on a vault slot seating starts are held off (R333). -/
def Chip.controlledOff (c : Chip) (s : Nat) : Chip :=
  let c := c.pwarn s true
  if isVault s then c.set SLOT_CH_CTL_seat_inhibit 1 s else c

/-- PERST_N asserted and the gate ramps down. -/
def Chip.rampDown (c : Chip) (s : Nat) : Chip :=
  if c.pathState s = 2 || c.pathState s = 3 then ((((c.perst s true).driveOut s).setPath s 4).setPg s false).send (.slotGate s 2) else c

/-- Is the removal a matter of both paths: a removal of this chip as owner, with a partner that was asked to switch off? -/
def Chip.waitsPartner (c : Chip) (s : Nat) : Bool := (c.run s).offAsked && c.get TWIN_STATUS_pair_state = 1 && c.sidebandOwner

/-- PWARN_LEAD_EXPIRY (R333): as owner of a paired removal the chip waits for the partner's report. -/
def pwarnLeadExpiry (slot : Nat) (c : Chip) : Chip :=
  if c.slotOk slot && c.flag SLOT_CH_CTL_pwarn slot && !c.waitsPartner slot then c.rampDown slot else c

/-- Quiesce the drive: no new submission, shutdown notification (R338). -/
def Chip.quiesce (c : Chip) (s : Nat) : Chip :=
  ((c.updRun s (fun r => { r with quiesced := true })).send (.driveAdmin s 2 0))

/-- Step 4 of R338: the partner is asked to switch off and the warning is asserted. -/
def Chip.switchOff (c : Chip) (s : Nat) : Chip :=
  let c := c.updRun s (fun r => { r with offAsked := true })
  let c := if c.get TWIN_STATUS_pair_state = 1 then c.send (.slotAsk s 1) else c
  ((c.set SLOT_BTN_STAT_rm_state 3 s).controlledOff s).showLed s

/-- REMOVAL_BLINK_EXPIRY (R338). -/
def removalBlinkExpiry (slot : Nat) (c : Chip) : Chip :=
  if c.slotOk slot && (c.run slot).removeAt.isSome && !(c.run slot).offAsked then c.switchOff slot else c

/-- RAMP_DOWN_DONE (R331, R338, R339): off; a removal ends with the enable cleared, event 0x58D and the slot safe to remove. As the owner's partner the chip
reports its path off. -/
def rampDownDone (slot : Nat) (c : Chip) : Chip :=
  if !c.slotOk slot || c.pathState slot ≠ 4 then c
  else
    let r := c.run slot
    let c := ((c.setPath slot 0).set SLOT_CH_STAT_vout_mv 0 slot).pwarn slot false
    let removal := r.offAsked || r.forcedOff
    let c := if removal then
        let c := ((c.set SLOT_CH_CTL_en 0 slot).set SLOT_BTN_STAT_rm_state 4 slot).slotShared slot 0x58D
        let c := if r.forcedOff && isVault slot then c.set SLOT_CH_CTL_seat_inhibit 1 slot else c
        c.updRun slot (fun r => { r with removeAt := none, forcedAt := none, offAsked := false, forcedOff := false, quiesced := false, offByRemoval := true, rearm := true })
      else c
    let c := if c.get TWIN_STATUS_pair_state = 1 && !c.sidebandOwner then c.send (.slotAsk slot 4) else c
    c.showLed slot

/-- PARTNER_OFF_REPORT (R338): the owner does the same. -/
def partnerOffReport (slot : Nat) (c : Chip) : Chip :=
  if !c.slotOk slot then c
  else
    let c := c.set SLOT_CH_STAT_partner_on 0 slot
    if (c.run slot).offAsked then c.rampDown slot else c

/-- A removal is given up: quiesce lifted, the warning released. -/
def Chip.liftRemoval (c : Chip) (s : Nat) : Chip :=
  let c := if c.flag SLOT_CH_CTL_pwarn s then c.pwarn s false else c
  let c := if c.get TWIN_STATUS_pair_state = 1 then c.send (.slotAsk s 2) else c
  (c.updRun s (fun r => { r with removeAt := none, offAsked := false, quiesced := false })).set SLOT_BTN_STAT_rm_state 0 s

/-- Removals that are pending are given up; a forced removal goes on (R340). -/
def Chip.dropRemovals (c : Chip) : Chip :=
  (c.slotList.filter (fun s => (c.run s).removeAt.isSome)).foldl (fun (c : Chip) s => (c.liftRemoval s).showLed s) c

/-- The sideband owner changes hands: SLOT_GLB_CFG.led_owner follows, pending removals are given up, the patterns go to the owner's chain (R315, R340). -/
def Chip.settleOwner (c : Chip) : Chip :=
  if c.flag SLOT_GLB_CFG_led_owner = c.sidebandOwner then c
  else
    let c := (c.setFlag SLOT_GLB_CFG_led_owner c.sidebandOwner).dropRemovals
    c.slotList.foldl (fun (c : Chip) s => c.showLed s) c

/-- PARTNER_OFF_TIMEOUT (R338): the owner's path stays on; amber 6 for 3 s; event 0x58E. -/
def partnerOffTimeout (slot : Nat) (c : Chip) : Chip :=
  if c.slotOk slot && (c.run slot).offAsked && c.waitsPartner slot then
    let c := (c.liftRemoval slot).updRun slot (fun r => { r with refusedAt := some c.clk })
    ((c.set SLOT_BTN_STAT_rm_state 2 slot).slotShared slot 0x58E).showLed slot
  else c

/-- Is a removal to be refused (R338)? -/
def Chip.removalRefused (c : Chip) (s : Nat) : Bool :=
  if isVault s then
    let other := 65 - s
    !(c.run s).failed && (!c.flag SLOT_CH_STAT_present other || !c.powered other || (c.run other).failed)
  else match c.memberOf s with
    | some (n, m) =>
      (match c.flock? n with
      | some f => !f.failed.contains m && !(c.run s).failed && decide (2 < (f.absent.filter (fun x => x ≠ m)).length + 1)
      | none => false)
    | none => false

/-- A removal is requested (R338): refused with event 0x58A, or confirmed, with the quiesce on both chips. Answers whether it is confirmed. -/
def Chip.requestRemoval (c : Chip) (s : Nat) : Bool × Chip :=
  if c.removalRefused s then
    let c := (c.updRun s (fun r => { r with refusedAt := some c.clk })).set SLOT_BTN_STAT_rm_state 2 s
    (false, (c.slotShared s 0x58A).showLed s)
  else
    let c := (c.quiesce s).updRun s (fun r => { r with removeAt := some c.clk })
    let c := if c.get TWIN_STATUS_pair_state = 1 then c.send (.slotAsk s 0) else c
    (true, (c.set SLOT_BTN_STAT_rm_state 1 s).showLed s)

/-- REMOVAL_REQUEST_RX (R338): the owner asks this chip to quiesce the drive (0), to switch its path off (1), or lifts the quiesce (2). -/
def removalRequestRx (slot kind : Nat) (c : Chip) : Chip :=
  if !c.slotOk slot then c
  else if kind = 0 then c.quiesce slot
  else if kind = 1 then (c.updRun slot (fun r => { r with offAsked := true })).controlledOff slot
  else (c.updRun slot (fun r => { r with quiesced := false, offAsked := false })).pwarn slot false

/-- PWARN_FOLLOW (R333): a chip whose dead-man timer has fired follows the joined warning line. -/
def pwarnFollow (slot : Nat) (c : Chip) : Chip :=
  if c.slotOk slot && c.twin.withdrawn && c.gateIsOn slot then (c.gateOff slot).setPath slot 0 else c

/-! ### The button (R335, R338, R339) -/

/-- Clear the lock and the count (R330): a start still waits for the end of the timer. -/
def Chip.unlockPath (c : Chip) (s : Nat) : Chip :=
  let c := c.set SLOT_CH_STAT_fault_cnt 0 s
  if c.pathState s = 6 then (c.setPath s (if (c.run s).retryEnd.isSome then 5 else 0)).showLed s else c

/-- A short press (R335, R338, R339, R340). -/
def Chip.shortPress (c : Chip) (s : Nat) : Chip :=
  let r := c.run s
  if r.forcedAt.isSome && !r.forcedOff then
    (((c.updRun s (fun r => { r with forcedAt := none })).set SLOT_BTN_STAT_rm_state 0 s).slotShared s 0x58B).showLed s
  else if !c.sidebandOwner then c
  else if c.pathState s = 6 then
    let out := match r.goneSince with
      | some t => decide (t + 2 * second ≤ c.clk)
      | none => r.pulledSinceLock
    if c.flag SLOT_CH_CFG_btn_unlock s && r.pulledSinceLock && out then c.unlockPath s else c
  else if !c.flag SLOT_CH_STAT_present s then c
  else if r.removeAt.isSome then
    if r.offAsked then c else ((c.liftRemoval s).slotShared s 0x58B).showLed s
  else if c.powered s then ((c.raise (slotEvent s 2)).requestRemoval s).2
  else if c.flag SLOT_CH_CFG_auto_on s && !c.privileged s then
    let c := c.set SLOT_CH_CTL_en 1 s
    if c.pathState s = 0 then c.startPath s else c
  else c

/-- BUTTON_RELEASE (R335). -/
def buttonRelease (slot heldMs : Nat) (c : Chip) : Chip :=
  if !c.slotOk slot then c
  else
    let c := c.set SLOT_CH_STAT_button 0 slot
    if heldMs < 20 then c
    else
      let c := (c.bump SLOT_BTN_STAT_presses 1 slot).set SLOT_BTN_STAT_last_press_ms (min 0xFFFF heldMs) slot
      if heldMs ≤ 2000 then c.shortPress slot
      else if heldMs < 5000 then c.slotShared slot 0x596
      else if c.flag SLOT_GLB_CFG_forced_en then c else c.shortPress slot

/-- BUTTON_LONG_PRESS (R335, R339, R340): held 5 s; with the forced-removal fuse set the forced removal starts, and takes over from a pending one. -/
def buttonLongPress (slot : Nat) (c : Chip) : Chip :=
  if !c.slotOk slot || !c.flag SLOT_CH_STAT_present slot then c
  else
    let c := c.set SLOT_CH_STAT_button 1 slot
    if !c.flag SLOT_GLB_CFG_forced_en then c
    else
      let c := if (c.run slot).removeAt.isSome then c.liftRemoval slot else c
      let c := c.updRun slot (fun r => { r with forcedAt := some c.clk })
      ((c.set SLOT_BTN_STAT_rm_state 5 slot).slotShared slot 0x58C).showLed slot

/-- FORCED_WARNING_EXPIRY (R339): the warning, PERST_N and the gate off, with no quiesce and no refusal. -/
def forcedWarningExpiry (slot : Nat) (c : Chip) : Chip :=
  if !c.slotOk slot || (c.run slot).forcedAt.isNone then c
  else
    let c := (c.pwarn slot true).updRun slot (fun r => { r with forcedOff := true })
    if c.gateIsOn slot then (c.gateOff slot).setPath slot 4
    else rampDownDone slot (c.setPath slot 4)

/-! ### Commands and register rows -/

/-- SLOT_POWER_SET (0x0600, R332, R333): off runs steps 2, 4 and 5 of the removal without blink and refusal. A slot held off by rule (R445) is not enabled by the shelf configuration record; on by a
host lifts its hold. -/
def slotPowerSet (h : Hdr) (slot on : Nat) : Chip → Chip :=
  runPair ⟨0x0600, true, .w, paramBytes [1, 1]⟩ h [] (.slotPowerSet slot on) (fun c =>
    Res.guard c [slotRefusal c slot 32]
      (fun c =>
        if on ≠ 0 && decide (h.src = .record) && bit c.flash.rules.holdSlots slot then Res.ok (c.raise 0x746)
        else if on ≠ 0 then
          let c := (({ c with flash := { c.flash with rules := { c.flash.rules with holdSlots := setBit c.flash.rules.holdSlots slot false } } } : Chip).showRules)
          let c := (if c.privileged slot then c else c.set SLOT_CH_CTL_en 1 slot).set SLOT_CH_CTL_seat_inhibit 0 slot
          Res.ok (if c.pathState slot = 0 && c.startTrue slot then c.startPath slot else c)
        else if c.pathState slot = 2 || c.pathState slot = 3 then Res.ok ((c.quiesce slot).switchOff slot)
        else
          let c := c.set SLOT_CH_CTL_en 0 slot
          Res.ok (if c.pathState slot = 1 then c.setPath slot 0 else c)))

/-- SLOT_OFF_REQ_WRITE (R333, R341). -/
def slotOffReqWrite (slot : Nat) (c : Chip) : Chip :=
  if c.slotOk slot && (c.pathState slot = 2 || c.pathState slot = 3) then c.controlledOff slot else c

/-- SLOT_UNLOCK (0x0603) and SLOT_UNLOCK_WRITE (R330). -/
def slotUnlock (h : Hdr) (slot : Nat) : Chip → Chip :=
  runPair ⟨0x0603, true, .w, paramBytes [1]⟩ h [] (.slotUnlock slot) (fun c => Res.guard c [slotRefusal c slot 32] (fun c => Res.ok (c.unlockPath slot)))

def slotUnlockWrite (slot : Nat) (c : Chip) : Chip := if c.slotOk slot then c.unlockPath slot else c

/-- SLOT_CURVE_SET (0x0601, R327): refused with event 0x58F against order and fuse ceilings; the old curve is kept. -/
def slotCurveSet (h : Hdr) (slot : Nat) (images : List Nat) : Chip → Chip :=
  runCommand ⟨0x0601, false, .w, paramBytes [1, 8, 8, 8, 8, 8, 8, 8, 8]⟩ h [] (fun c =>
    let i := fun k => SLOT_CURVE_i_ma.of (images.getD k 0)
    let t := fun k => SLOT_CURVE_t_us.of (images.getD k 0)
    let peak := c.get SLOT_CEIL_peak_ma slot
    let bad := (List.range 7).any (fun k => decide (i (k + 1) ≤ i k) || decide (t k ≤ t (k + 1))) || decide (c.get SLOT_CEIL_cont_ma slot < i 0) ||
      (List.range 8).any (fun k => decide (peak < i k)) || decide (peak < c.get SLOT_CH_CFG_ilim_ramp_ma slot) || decide (peak < c.get SLOT_CH_LIM_sc_ma slot)
    Res.guard (if (slotRefusal c slot 32).isNone && bad then c.slotShared slot 0x58F else c) [slotRefusal c slot 32, refuseIf bad 0x0102 40]
      (fun c => Res.ok ((List.range 8).foldl (fun c k => c.writeImage SLOT_CURVE (images.getD k 0) slot k) c)))

/-- SLOT_CFG_SET (0x0602): thresholds above the fuse peak ceiling are refused with event 0x58F. -/
def slotCfgSet (h : Hdr) (slot cfg lim thCfg thParam : Nat) : Chip → Chip :=
  runCommand ⟨0x0602, false, .w, paramBytes [1, 8, 8, 8, 8]⟩ h [] (fun c =>
    let peak := c.get SLOT_CEIL_peak_ma slot
    let bad := decide (peak < SLOT_CH_CFG_ilim_ramp_ma.of cfg) || decide (peak < SLOT_CH_LIM_sc_ma.of lim)
    Res.guard (if (slotRefusal c slot 32).isNone && bad then c.slotShared slot 0x58F else c)
      [slotRefusal c slot 32, refuseIf (decide (peak < SLOT_CH_CFG_ilim_ramp_ma.of cfg)) 0x0102 40, refuseIf (decide (peak < SLOT_CH_LIM_sc_ma.of lim)) 0x0102 48]
      (fun c =>
        let c := ((c.writeImage SLOT_CH_CFG cfg slot).writeImage SLOT_CH_LIM lim slot).writeImage SLOT_TH_CFG thCfg slot
        let c := if isVault slot then c else c.set SLOT_TH_CFG_src 0 slot
        Res.ok (c.writeImage SLOT_TH_PARAM thParam slot)))

/-- SLOT_LED_SET (0x0604, R337): applied by the sideband owner. -/
def slotLedSet (h : Hdr) (slot image : Nat) : Chip → Chip :=
  runPair ⟨0x0604, true, .w, paramBytes [1, 4]⟩ h [] (.slotLedSet slot image) (fun c =>
    Res.guard c [slotRefusal c slot 32] (fun c => Res.ok ((c.writeImage SLOT_LED image slot).showLed slot)))

/-- SLOT_REMOVE (0x0605, R338): confirmed, or refused with 0x0300. The chip that is not the sideband owner leaves the request to the owner. -/
def slotRemove (h : Hdr) (slot : Nat) : Chip → Chip :=
  runPair ⟨0x0605, true, .w, paramBytes [1]⟩ h [] (.slotRemove slot) (fun c =>
    Res.guard c [slotRefusal c slot 32]
      (fun c =>
        if !c.sidebandOwner then Res.ok c
        else if !c.powered slot || (c.run slot).removeAt.isSome then Res.no c 0x0300 (c.pathState slot)
        else
          let r := c.requestRemoval slot
          if r.1 then Res.ok r.2 else Res.no r.2 0x0300 (c.pathState slot)))

/-- SLOT_GLB_SET (0x0608), DRIVE_LINK_SET (0x0611). -/
def slotGlbSet (h : Hdr) (image : Nat) : Chip → Chip :=
  runCommand ⟨0x0608, false, .w, paramBytes [8]⟩ h [] (fun c => Res.ok (c.writeImage SLOT_GLB_CFG image))

def driveLinkSet (h : Hdr) (slot link cfg : Nat) : Chip → Chip :=
  runCommand ⟨0x0611, false, .w, paramBytes [1, 4, 8]⟩ h [] (fun c =>
    Res.guard c [slotRefusal c slot 32] (fun c => Res.ok ((c.writeImage DRV_LINK_CFG link slot).writeImage DRV_CFG cfg)))

/-- SLOT_STATUS_GET (0x0607). -/
def slotStatusGet (h : Hdr) (slot : Nat) : Chip → Chip :=
  runCommand ⟨0x0607, false, .r, paramBytes [1]⟩ h [] (fun c =>
    Res.guard c [slotRefusal c slot 32] (fun c => Res.ok c
      ([SLOT_CH_STAT, SLOT_CH_FAULT, SLOT_TH_STAT, SLOT_CNT, DRV_LINK_STAT, DRV_NVME_STAT, DRV_MI_STAT].flatMap (fun r => c.image r slot))))

/-- SLOT_MI_READ (0x0606, R322): the owner asks the drive over the sideband; `response` is its answer, none where it gives none. -/
def slotMiRead (h : Hdr) (slot kind type controller : Nat) (response : Option Bytes) : Chip → Chip :=
  runPair ⟨0x0606, true, .r, paramBytes [1, 1, 1, 2]⟩ h [] (.slotMiRead slot kind type controller) (fun c =>
    Res.guard c [slotRefusal c slot 32, refuseIf (decide (3 ≤ kind)) 0x0102 33]
      (fun c => match response with
        | some b => Res.ok (c.send (.miPoll slot kind type controller)) (le 2 b.length ++ b)
        | none => Res.no (c.send (.miPoll slot kind type controller)) 0x0201))

/-- MI_POLL_TIMER (R322): the composite temperature, whether a critical warning bit is set and whether the temperature has reached the drive's warning threshold; none
where the poll is not answered. -/
def miPollTimer (slot : Nat) (answer : Option (Int × Bool × Bool)) (c : Chip) : Chip :=
  if !c.slotOk slot || !c.sidebandOwner || c.get SLOT_GLB_CFG_mi_poll_ms = 0 || !c.flag SLOT_CH_STAT_present slot || !c.powered slot then c
  else
    let c := c.send (.miPoll slot 0 0 0)
    match answer with
    | some (t, crit, warm) =>
      let c := ((c.set DRV_MI_STAT_temp_c (ofSigned 8 (clampSigned 8 t)) slot).set DRV_MI_STAT_mi_ok 1 slot).setFlag DRV_MI_STAT_crit_warn crit slot
      let c := c.updRun slot (fun r => { r with miFails := 0 })
      if warm then c.slotShared slot 0x594 else c
    | none =>
      let n := (c.run slot).miFails + 1
      let c := ((c.set DRV_MI_STAT_mi_ok 0 slot).bump DRV_MI_STAT_poll_fail 1 slot).updRun slot (fun r => { r with miFails := n })
      if n = 3 then c.slotShared slot 0x593 else c

/-- SLOT_FAULT_REARM, SLOT_EVT_LAST_REARM (R341). -/
def slotFaultRearm (slot : Nat) (c : Chip) : Chip := if c.slotOk slot then c.set SLOT_CH_FAULT_valid 0 slot else c

def slotEvtLastRearm (c : Chip) : Chip := c.set SLOT_EVT_LAST_valid 0

end Sys2Proof.Machine
end

