-- ==== Sys2Proof/Machine/Stripes.lean ====
section
/-!
DEFINITION. Stripes: reads of member blocks, reconstruction and repair (R229, R234, R244), commits and their journal entries (R235 to R239), degraded commits (R245), member
write errors (R246), retirement, replay (R243), checkpoints (R241, R242).
-/

namespace Sys2Proof.Machine

/-! ### What a read must gather (R229, R237) -/

/-- The positions needed to recover position x while those of `unknown` cannot be read: P before Q. `none` when it cannot be recovered. -/
def reconNeeds (w : Nat) (unknown : List Nat) (x : Nat) : Option (List Nat) :=
  let p := w
  let q := w + 1
  let data := (List.range w).filter (fun i => i ≠ x && !unknown.contains i)
  let holes := ((List.range w).filter (fun i => i = x || unknown.contains i)).length
  let pOk := !unknown.contains p && x ≠ p
  let qOk := !unknown.contains q && x ≠ q
  if holes = 0 then some data
  else if holes = 1 then (if pOk then some (data ++ [p]) else if qOk then some (data ++ [q]) else none)
  else if holes = 2 && pOk && qOk && decide (x < w) then some (data ++ [p, q])
  else none

/-- Whether a commit changes P and Q by the differences (R230) at one block, and the positions whose present content it wants. `vers` are the positions with a version at the block,
`written` the data positions written, `wr` says which positions can be written. -/
def wantedAt (kind w : Nat) (unknown vers written : List Nat) (wr : Nat → Bool) : Bool × List Nat :=
  let delta := kind = 2 && !written.any unknown.contains && ! [w, w + 1].any (fun p => wr p && unknown.contains p)
  if delta then (true, written ++ [w, w + 1].filter (fun p => !unknown.contains p))
  else (false, (List.range w).filter (fun i => !vers.contains i))

/-- The positions to read at one block: those wanted that can be read, and what recovers the others. A replay recovers nothing from parity (R243). -/
def readsAt (kind w : Nat) (unknown vers written : List Nat) (wr : Nat → Bool) (replay : Bool) : List Nat :=
  let wanted := (wantedAt kind w unknown vers written wr).2
  let more := if replay then [] else (wanted.filter unknown.contains).flatMap (fun x => (reconNeeds w unknown x).getD [])
  (wanted.filter (fun p => !unknown.contains p) ++ more).eraseDups

/-- The blocks of a commit at one b (R237, R245): what is staged by position, and the data positions that are lost and take the lost marker. `old` is what was read, `new` the versions'
ciphertext. -/
def stageBlock (kind w : Nat) (unknown written : List Nat) (wr : Nat → Bool) (replay : Bool) (old new : Tab Bytes) : Tab Bytes × List Nat :=
  let plan := wantedAt kind w unknown new.keys written wr
  if plan.1 then
    let at_ := fun (i : Nat) => (new.get? i).getD (old.getD i (zeros memberBlock))
    let diff := written.foldl (fun (t : Tab Bytes) i => t.put i (addBlocks (old.getD i (zeros memberBlock)) (at_ i))) []
    let data := written.foldl (fun (t : Tab Bytes) i => if wr i then t.put i (at_ i) else t) []
    let data := if wr w then data.put w (addBlocks (old.getD w (zeros memberBlock)) (parityP w diff)) else data
    (if wr (w + 1) then data.put (w + 1) (addBlocks (old.getD (w + 1) (zeros memberBlock)) (parityQ w diff)) else data, [])
  else
    let lostAt := if replay then plan.2.filter (fun x => !old.has x)
      else plan.2.filter (fun x => !old.has x && (recoverData w old x false).isNone)
    let full := (List.range w).foldl (fun (t : Tab Bytes) i =>
      t.put i (match new.get? i with
        | some b => b
        | none => match old.get? i with
          | some b => b
          | none => if lostAt.contains i then lostMarker else (recoverData w old i false).getD lostMarker)) []
    let out_ := (List.range w).foldl (fun (t : Tab Bytes) i =>
      if wr i && (written.contains i || lostAt.contains i) then t.put i (full.getD i (zeros memberBlock)) else t) []
    let out_ := if wr w then out_.put w (parityP w full) else out_
    (if wr (w + 1) then out_.put (w + 1) (parityQ w full) else out_, lostAt)

/-! ### Opening a data block (R231 to R234, R262) -/

/-- What a data member block turned out to be. -/
inductive Seen where
  | good (p : Plain)
  | lost
  | bad
  deriving DecidableEq, Repr

/-- Decrypt and check a data member block that was read or reconstructed; `ref` is the block's LBA where the reader knows it. -/
def Chip.openAt (c : Chip) (flock stripe pos blk : Nat) (ct : Bytes) (ref : Option Nat) (slot : Nat) : Seen × Chip :=
  if ct = lostMarker then (.lost, c)
  else
    match (c.flock? flock).bind (fun f => (f.acreOf stripe).map (fun r => (f, r))) with
    | none => (.bad, c)
    | some (f, r) =>
      let at_ := f.unplace stripe pos blk
      let o := c.openBlock r.paddock r.lowGen r.highGen flock at_.1 at_.2 ct
      let miss := fun (c : Chip) (g rf a : Bool) =>
        let c := (c.raise (0x380 + flock)).cntStripe 7
        if c.flag STRIPE_VERIFY_LAST_valid then c
        else
          let c := ((c.set STRIPE_VERIFY_LAST_point 1).setFlag STRIPE_VERIFY_LAST_guard g).setFlag STRIPE_VERIFY_LAST_ref rf
          let c := ((c.setFlag STRIPE_VERIFY_LAST_app a).set STRIPE_VERIFY_LAST_slot slot).set STRIPE_VERIFY_LAST_flock flock
          (c.set STRIPE_VERIFY_LAST_stripe stripe).set STRIPE_VERIFY_LAST_valid 1
      match o.1 with
      | .good p _ => if ref.any (fun l => l % 2 ^ 32 ≠ p.ref) then (.bad, miss o.2 false true false) else (.good p, o.2)
      | .bad g a => (.bad, miss o.2 g false a)

/-! ### Answers to host commands -/

/-- Unrecovered Read Error, as status code type × 256 + code (R175). -/
def unrecovered : Nat := 0x281

def Plain.blk (p : Plain) : Blk := ⟨p.data, if p.fill && p.app = 0xFFFF then 0x1FFFF else p.app⟩

/-- A block of a host command has its data. -/
def Chip.giveHost (c : Chip) (key b : Nat) (x : Blk) : Chip :=
  match c.intake.cmds.get? key with
  | none => c
  | some k =>
    let c := { c with intake := { c.intake with cmds := c.intake.cmds.put key { k with got := k.got.put b x, need := k.need.erase b } } }
    match k.volume with
    | some v => if k.noFill.contains b then c else c.fillClean v (k.lba + b) x
    | none => c

/-- A block of a host command cannot be read: no line becomes Clean for it. -/
def Chip.failHost (c : Chip) (key b code : Nat) : Chip :=
  match c.intake.cmds.get? key with
  | none => c
  | some k =>
    let c := { c with intake := { c.intake with cmds := c.intake.cmds.put key { k with bad := if k.bad = 0 then code else k.bad, need := k.need.erase b } } }
    match k.volume with
    | some v => c.dropFill v (k.lba + b)
    | none => c

/-- A data position is lost, found by operation `op`: the host blocks that asked for it are answered once the record is written (R263). -/
def Chip.loseBlock (c : Chip) (op flock stripe pos blk : Nat) (answers : List (Nat × Nat)) : Chip :=
  if c.isLost flock stripe pos blk || decide (65536 ≤ c.stripes.lost.length) then
    answers.foldl (fun c a => c.failHost a.1 a.2 unrecovered) (c.listLost op flock stripe pos blk [])
  else c.listLost op flock stripe pos blk answers

/-! ### Journal entries: state, display, holds (R235 to R239) -/

def Chip.strpOf (c : Chip) (stripe : Nat) : Nat := if c.id.half then stripe % 2 else stripe % 4

/-- Is the entry open in the journal? Kind 5 entries are fences (R264). -/
def JEntry.isOpen (e : JEntry) : Bool := e.state = 1 || e.state = 2

/-- Does a commit or a repair hold the stripe? -/
def JEntry.holds (e : JEntry) (flock stripe : Nat) : Bool := e.isOpen && decide (e.kind ≤ 4) && e.flock = flock && e.stripe = stripe

/-- Is the stripe held by an entry, or by a background operation other than `but` (R235, R259)? -/
def Chip.stripeHeld (c : Chip) (flock stripe : Nat) (but : Option Nat) : Bool :=
  c.stripes.entries.any (fun e => e.2.holds flock stripe) ||
    c.stripes.bg.any (fun o => o.2.flock = flock && o.2.cur = some stripe && but ≠ some o.1)

/-- Is the entry held by the partner, or by a checkpoint (R238, R242)? -/
def Chip.entryHeld (c : Chip) (e : JEntry) : Bool :=
  e.recs = 0 && (if c.mirroring then c.heldPast e.mseq else c.flag STRIPE_CKPT_STAT_through || decide (e.ckpt ≤ c.stripes.ckptDone))

def stagingBlocks : Nat := 192 * 1048576 / 4112

def annexBlocks : Nat := 8160

/-- Blocks that an entry stages. -/
def JEntry.blocks (e : JEntry) : Nat := popCount e.written 18 * (e.hi + 1 - e.lo)

def Chip.staged (c : Chip) : Nat := ((c.stripes.entries.vals.filter (fun e => e.isOpen && decide (e.kind ≤ 4))).map JEntry.blocks).sum

/-- Show the journal (R250). -/
def Chip.showJnl (c : Chip) : Chip :=
  let es := c.stripes.entries.vals.filter JEntry.isOpen
  let c := ((c.set STRIPE_JNL_STAT_open es.length).peak STRIPE_JNL_STAT_peak es.length).set STRIPE_JNL_STAT_jgen_lo (c.stripes.jgen % 2 ^ 32)
  let c := c.set STRIPE_ANNEX_STAT_used c.stripes.annexUsed
  (List.range 4).foldl (fun c i =>
    let mine := es.filter (fun e => decide (e.kind ≤ 4) && c.strpOf e.stripe = i)
    let waits := c.stripes.offers.filter (fun o => c.strpOf o.2 = i && c.stripes.entries.any (fun e => e.2.holds o.1 o.2))
    let held := mine.filter (fun e => e.state = 1 && e.ckpt ≠ 0)
    ((c.set STRIPE_ISL_STAT_open mine.length i).set STRIPE_ISL_STAT_wait_stripe waits.length i).set STRIPE_ISL_STAT_wait_held held.length i) c

/-- Change an entry: jgen rises by 1 (R239). -/
def Chip.updEntry (c : Chip) (id_ : Nat) (f : JEntry → JEntry) : Chip :=
  let g := c.stripes.jgen + 1
  { c with stripes := { c.stripes with jgen := g, entries := c.stripes.entries.upd id_ (fun e => { f e with jgen := g }) } }

def Chip.addEntry (c : Chip) (e : JEntry) : Nat × Chip :=
  let g := c.stripes.jgen + 1
  let n := c.stripes.entryId
  (n, { c with stripes := { c.stripes with jgen := g, entryId := n + 1, entries := c.stripes.entries.put n { e with jgen := g } } })

/-- An entry with nothing in it. -/
def entry0 : JEntry :=
  { kind := 1, state := 1, flock := 0, annex := false, degraded := false, through := false, replayed := false, lo := 0, hi := 0, fold := 0, stripe := 0, jgen := 0,
    written := 0, done := 0, absent := 0, unknown := 0, volume := 0, openedNs := 0, versions := [], staged := [], old := [], reads := [], mseq := 0, ckpt := 0,
    errs := 0, recs := 0, bad := [], args := [] }

/-- Journal an entry: it enters the partner's mirror, or the next checkpoint (R238). -/
def Chip.journal (c : Chip) (id_ : Nat) : Chip :=
  match c.stripes.entries.get? id_ with
  | none => c
  | some e =>
    let e := { e with ckpt := c.stripes.ckptCover + 1, jgen := c.stripes.jgen + 1 }
    let r := c.mirrorPush (.journal id_ e)
    let c := r.2
    ({ c with stripes := { c.stripes with opened := c.stripes.opened + 1, jgen := c.stripes.jgen + 1, entries := c.stripes.entries.put id_ { e with mseq := r.1 } } } : Chip).showJnl

/-! ### Commits (R235 to R237, R245) -/

/-- Where a version is written: flock, stripe, position and block. The lookup shows the member's own entries only up to its epoch at the version's admission (R236). -/
def Chip.lineSpot (c : Chip) (l : Line) : Option (Nat × Nat × Nat × Nat) :=
  match c.vols.get? l.volume with
  | none => none
  | some v =>
    let ep := v.epochAt l.seq
    match (c.lookupAt v ep (acreOf l.lba)).1 with
    | some e =>
      if e.zero || !e.unshared v ep then none
      else match c.flock? e.flock with
        | some f => some (e.flock, f.place (e.acre (acreOf l.lba)) (l.lba % 1024))
        | none => none
    | none => none

/-- Must the newest version of a block wait: an earlier write of its volume still owes its version of the block (R170), or a read is still to take the drive state of the
place (R171, R507)? -/
def Chip.lineWaits (c : Chip) (flock stripe key : Nat) (f : Flock) (l : Line) : Bool :=
  let at_ := f.unplace stripe (key / 16) (key % 16)
  c.owedBelow l.volume l.lba l.seq || c.intake.cmds.any (fun e => e.2.sqe.readClass && e.2.need.any (fun b =>
    e.2.spots.get? b = some (flock, at_.1) && decide ((e.2.lba + b) % 1024 = at_.2)))

/-- The versions that a commit of a stripe takes: of each block the newest Dirty one, unless it has to wait, as (position × 16 + block, set, way, line). -/
def Chip.stripeLines (c : Chip) (flock stripe : Nat) : Tab (Nat × Nat × Line) :=
  let all := c.lines.foldl (fun (t : Tab (Nat × Nat × Line)) e =>
    if e.2.2.st ≠ .dirty || e.2.2.newer ≠ 0 then t
    else match c.lineSpot e.2.2 with
      | some (f, s, j, b) =>
        if f ≠ flock || s ≠ stripe then t
        else match t.get? (j * 16 + b) with
          | some x => if x.2.2.seq < e.2.2.seq then t.put (j * 16 + b) e else t
          | none => t.put (j * 16 + b) e
      | none => t) []
  match c.flock? flock with
  | none => []
  | some f => all.keep (fun k x => !x.2.2.poisoned && !c.lineWaits flock stripe k f x.2.2)

/-- Positions of an entry that cannot be read at block b. -/
def JEntry.unknownAt (e : JEntry) (f : Flock) (b : Nat) : List Nat :=
  (f.missing e.stripe ++ (e.bad.filter (fun k => k % 16 = b)).map (· / 16)).eraseDups

/-- Can a position of the stripe be written now? -/
def Flock.canWrite (f : Flock) (stripe p : Nat) : Bool := (f.writeAt stripe p).isSome

/-- The data positions that hold versions of the entry. -/
def JEntry.dataOfVersions (e : JEntry) (f : Flock) : List Nat :=
  (e.versions.map (fun v => (f.place 0 (v.2.1 % 1024)).2.1)).eraseDups

/-- Positions with a version at block b. -/
def JEntry.versAt (e : JEntry) (f : Flock) (b : Nat) : List Nat :=
  (e.versions.filter (fun v => v.2.1 % 16 = b)).map (fun v => (f.place 0 (v.2.1 % 1024)).2.1)

/-- Everything that an entry reads, position × 16 + block. A repair reads nothing, unless it is replayed. -/
def JEntry.planReads (e : JEntry) (f : Flock) : List Nat :=
  if e.kind = 4 && !e.replayed then []
  else (List.range (e.hi + 1 - e.lo)).flatMap (fun i =>
    let b := e.lo + i
    let vers := if e.replayed then [] else e.versAt f b
    (readsAt (if e.replayed then 3 else e.kind) f.w (e.unknownAt f b) vers (e.dataOfVersions f) (f.canWrite e.stripe) e.replayed).map (fun p => p * 16 + b))

/-- The lane of a commit's member commands: that of the waiting host write on a through volume, else medium (R294). -/
def Chip.commitLane (c : Chip) (e : JEntry) : Nat :=
  if e.through then minOr 2 ((c.intake.cmds.vals.filter (fun k => e.versions.any (fun v => k.volume = some v.1 && k.seq = v.2.2))).map (·.cls)) else 2

/-- The lane of an entry's member commands, and whether a time gate holds them: those of the operation that it belongs to, or of the commit. -/
def Chip.entryLane (c : Chip) (id_ : Nat) (e : JEntry) : Nat × Bool :=
  match c.entryOwner id_ e with
  | some o => c.bgLane o
  | none => (c.commitLane e, false)

/-- The paddock whose data a stripe holds. -/
def Chip.stripePaddock (c : Chip) (flock stripe : Nat) : Nat :=
  (((c.flock? flock).bind (fun f => f.acreOf stripe)).map (·.paddock)).getD 0xFFFF

/-- Send the reads that an entry still owes and has not sent. -/
def Chip.readEntry (c : Chip) (id_ : Nat) (keys : List Nat) : Chip :=
  match c.stripes.entries.get? id_ with
  | none => c
  | some e =>
    match c.flock? e.flock with
    | none => c
    | some f =>
      let lane := c.entryLane id_ e
      let pad := c.stripePaddock e.flock e.stripe
      let c := { c with stripes := { c.stripes with entries := c.stripes.entries.put id_ { e with reads := e.reads ++ keys } } }
      keys.foldl (fun (c : Chip) k => match f.readAt e.stripe (k / 16) with
        | some (slot, lba) => c.laneIn { drvCmd0 with
            slot := slot, kind := 0, lba := lba + k % 16, use := .entryRead id_ k, flock := e.flock, stripe := e.stripe, pos := k / 16, blk := k % 16,
            lane := lane.1, gated := lane.2, cls := costClass 0 1, paddock := pad, fold := some e.fold }
        | none => c) c

/-- Annex every staged block of an entry if there is room. -/
def Chip.annexEntry (c : Chip) (id_ : Nat) (e : JEntry) : Option Chip :=
  if annexBlocks < c.stripes.annexUsed + e.blocks then none
  else some ((({ c with stripes := { c.stripes with annexUsed := c.stripes.annexUsed + e.blocks } } : Chip).updEntry id_ (fun e => { e with annex := true })).cntStripe 12)

/-- Widen the acre's generation range to one just used, and tell the partner (R361, R508). -/
def Chip.widenAcre (c : Chip) (flock pa gen : Nat) : Chip :=
  match (c.flock? flock).bind (fun f => (f.acres.get? pa).map (fun r => (f, r))) with
  | none => c
  | some (f, r) =>
    if r.lowGen ≤ gen && gen ≤ r.highGen then c
    else
      let r := { r with lowGen := min r.lowGen gen, highGen := max r.highGen gen }
      let c := c.updFlock flock (fun f => { f with acres := f.acres.put pa r })
      (c.sendDelta r.fold r.paddock 0 0 (.acre flock pa r.paddock r.lowGen r.highGen)).2

/-- The ciphertext of a version for its place. -/
def Chip.encryptLine (c : Chip) (flock stripe key : Nat) (l : Line) : Bytes × Chip :=
  match c.flock? flock with
  | none => ([], c)
  | some f =>
    let at_ := f.unplace stripe (key / 16) (key % 16)
    let r := c.encryptBlock l.paddock flock at_.1 at_.2 ⟨l.data, l.app, l.lba % 2 ^ 32, l.fill⟩
    (r.1, r.2.2.widenAcre flock at_.1 r.2.1)

/-- The versions of an entry, by position × 16 + block, with their lines. -/
def Chip.entryLines (c : Chip) (e : JEntry) (f : Flock) : Tab Line :=
  e.versions.foldl (fun (t : Tab Line) v =>
    match (c.blockLines v.1 v.2.1).find? (fun x => isDirty x.2.2 && x.2.2.seq = v.2.2) with
    | some x => let p := f.place 0 (v.2.1 % 1024); t.put (p.2.1 * 16 + p.2.2) x.2.2
    | none => t) []

/-- Everything owed has been read: the entry's blocks are staged, lost blocks listed, stale regions marked, and it is journalled (R237, R238, R245, R256). A replay goes on to its writes
from the entry that is journalled already. -/
def Chip.stageEntry (c : Chip) (id_ : Nat) : Chip :=
  match c.stripes.entries.get? id_ with
  | none => c
  | some e =>
    match c.flock? e.flock with
    | none => c
    | some f =>
      let w := f.w
      let written := e.dataOfVersions f
      let ls := c.entryLines e f
      let ls := if e.replayed then ls.keep (fun k _ => (e.unknownAt f (k % 16)).contains (k / 16)) else ls
      let enc := ls.foldl (fun (acc : Tab Bytes × Chip) l => let r := acc.2.encryptLine e.flock e.stripe l.1 l.2; (acc.1.put l.1 r.1, r.2)) ([], c)
      let c := enc.2
      let bs := (List.range (e.hi + 1 - e.lo)).map (fun i => e.lo + i)
      let sel := fun (t : Tab Bytes) (b : Nat) => (t.keep (fun k _ => k % 16 = b)).foldl (fun (u : Tab Bytes) x => u.put (x.1 / 16) x.2) []
      let parts := bs.map (fun b => (b, stageBlock (if e.replayed then 3 else e.kind) w (e.unknownAt f b) (if e.replayed then [] else written) (f.canWrite e.stripe) e.replayed
        (sel e.old b) (sel enc.1 b)))
      let staged := parts.foldl (fun (t : Tab Bytes) p => p.2.1.foldl (fun (t : Tab Bytes) x => t.put (x.1 * 16 + p.1) x.2) t) []
      let lost_ := parts.flatMap (fun p => p.2.2.map (fun x => (x, p.1)))
      let c := lost_.foldl (fun c x => (c.loseBlock (if e.replayed then 8 else 7) e.flock e.stripe x.1 x.2 []).raiseIf e.replayed 0x394) c
      let places := maskOf (staged.keys.map (· / 16))
      let absent := f.missing e.stripe
      let touched := (written ++ [w, w + 1]).filter (fun p => f.absent.contains (f.member (f.row e.stripe) p))
      let marks := touched.foldl (fun (acc : Nat × Chip) p =>
        let r := acc.2.markStale e.flock (f.member (f.row e.stripe) p) (f.strip e.stripe p) id_
        (acc.1 + r.2, r.1)) (0, c)
      let marks := (written ++ [w, w + 1]).foldl (fun (acc : Nat × Chip) p => match f.writeAt e.stripe p, f.reloc e.stripe p with
        | none, some (t, i) =>
          let r := acc.2.markStale e.flock t i id_
          (acc.1 + r.2, r.1)
        | _, _ => acc) marks
      let e' := { e with staged := staged, written := places, recs := marks.1, absent := maskOf absent, degraded := decide (absent ≠ []) }
      let c := marks.2.updEntry id_ (fun _ => e')
      if e.replayed then c
      else
        let outside := absent.any (fun p => decide (p < w) && !bit places p)
        let c := if outside then (c.annexEntry id_ e').getD (c.raise 0x390) else c
        c.journal id_

/-- The reads of an entry are done when none is owed. -/
def Chip.entryGathered (c : Chip) (id_ : Nat) : Chip :=
  match c.stripes.entries.get? id_ with
  | some e => if e.isOpen && e.reads = [] && e.ckpt = 0 then c.stageEntry id_ else c
  | none => c

/-- Wait for a stripe, a gate or room. -/
def Chip.keepOffer (c : Chip) (flock stripe : Nat) : Chip :=
  if c.stripes.offers.contains (flock, stripe) then c else { c with stripes := { c.stripes with offers := c.stripes.offers ++ [(flock, stripe)] } }

/-- Kind of a commit (R237): every block of every data strip, few members, or many. -/
def commitKind (w blocks n : Nat) : Nat := if blocks = 16 * w then 1 else if n + 2 ≤ w - n then 2 else 3

/-- Why a commit of the stripe waits, with the event that says so: a dump runs (R212), the flock is not replayed, the gate is closed or the fold is being drained or taken over (R390, R394), the stripe is held, the paddock's counts stand at the hard limit, the
journal, the staging area or the annex is full. -/
def Chip.commitWaits (c : Chip) (flock stripe : Nat) (f : Flock) (ls : Tab (Nat × Nat × Line)) : Option Nat :=
  let isl := c.strpOf stripe
  let fold := (f.foldOf stripe).getD 0
  let n := ((ls.keys.map (· / 16)).eraseDups)
  let span := maxOr 0 (ls.keys.map (· % 16)) + 1 - minOr 0 (ls.keys.map (· % 16))
  let size := (n.length + 2) * span
  let open_ := (c.stripes.entries.vals.filter (fun e => e.isOpen && decide (e.kind ≤ 4) && c.strpOf e.stripe = isl)).length
  let outside := (f.missing stripe).any (fun p => decide (p < f.w) && !(n.contains p && f.canWrite stripe p))
  if c.dumpBusy || !f.replayed || !c.flag TWIN_FOLD_STAT_gate_open fold || c.get TWIN_FOLD_STAT_phase fold ≠ 0 || c.stripeHeld flock stripe none || c.hardStop (c.stripePaddock flock stripe) then some 0
  else if 4096 ≤ open_ then some 0x398
  else if stagingBlocks < c.staged + size then some 0x399
  else if outside && decide (annexBlocks < c.stripes.annexUsed + size) then some 0x390
  else none

/-- Show commits that wait for room. -/
def Chip.showWaits (c : Chip) : Chip :=
  let why := c.stripes.offers.map (fun o => match c.flock? o.1 with
    | some f => (o.2, (c.commitWaits o.1 o.2 f (c.stripeLines o.1 o.2)).getD 0)
    | none => (o.2, 0))
  let c := c.set STRIPE_ANNEX_STAT_waiting (why.filter (fun x => x.2 = 0x390)).length
  (List.range 4).foldl (fun c i => c.set STRIPE_ISL_STAT_wait_stage (why.filter (fun x => x.2 = 0x399 && c.strpOf x.1 = i)).length i) c

/-- Open a commit: the newest versions become Committing, the entry is opened and its reads are sent (R235, R237). -/
def Chip.openCommit (c : Chip) (flock stripe : Nat) (f : Flock) (ls : Tab (Nat × Nat × Line)) : Chip :=
  let n := (ls.keys.map (· / 16)).eraseDups.length
  let kind := commitKind f.w ls.length n
  let vs := ls.vals.map (fun x => (x.2.2.volume, x.2.2.lba, x.2.2.seq))
  let e : JEntry := { entry0 with
    kind := kind, flock := flock, stripe := stripe, fold := (f.foldOf stripe).getD 0, through := ls.vals.any (fun x => x.2.2.through),
    lo := minOr 0 (ls.keys.map (· % 16)), hi := maxOr 0 (ls.keys.map (· % 16)), volume := ((vs.head?).map (·.1)).getD 0, openedNs := c.now, versions := vs,
    written := maskOf ((ls.keys.map (· / 16)) ++ [f.w, f.w + 1]) }
  let c := ls.foldl (fun c x => c.setLine x.2.1 x.2.2.1 (fun l => { l with st := .committing })) c
  let r := c.addEntry e
  let c := (r.2.cntStripe (kind - 1)).readEntry r.1 (e.planReads f)
  ((c.entryGathered r.1).showLines).showJnl

/-- Offer a stripe for commit (R235, R247). -/
def Chip.offerStripe (c : Chip) (flock stripe : Nat) : Chip :=
  match c.flock? flock with
  | none => c
  | some f =>
    let ls := c.stripeLines flock stripe
    let c := { c with stripes := { c.stripes with offers := c.stripes.offers.filter (· ≠ (flock, stripe)) } }
    if ls.isEmpty || !c.flag STRIPE_CTL_en then c
    else match c.commitWaits flock stripe f ls with
      | some 0 => c.keepOffer flock stripe
      | some e => (c.keepOffer flock stripe).raise e
      | none => c.openCommit flock stripe f ls

/-- COMMIT_OFFER (R201, R235, R237): the assembler takes the Dirty runs of a stripe. -/
def commitOffer (flock stripe : Nat) (c : Chip) : Chip := ((c.offerStripe (flock % 4) stripe).showWaits).showJnl

/-- Offers that waited are made again (R235, R247); the events of a full journal, staging or annex are not repeated. -/
def Chip.retryOffers (c : Chip) : Chip :=
  c.stripes.offers.foldl (fun (c : Chip) o => match c.flock? o.1 with
    | some f =>
      let ls := c.stripeLines o.1 o.2
      if ls.isEmpty || (c.commitWaits o.1 o.2 f ls).isNone then c.offerStripe o.1 o.2 else c
    | none => { c with stripes := { c.stripes with offers := c.stripes.offers.filter (· ≠ o) } }) c

/-! ### Member writes (R238, R246) -/

/-- Runs of consecutive numbers: first and length. -/
def runsOf (l : List Nat) : List (Nat × Nat) :=
  (sortBy id l).foldl (fun (acc : List (Nat × Nat)) n => match acc.getLast? with
    | some (a, k) => if a + k = n then acc.dropLast ++ [(a, k + 1)] else acc ++ [(n, 1)]
    | none => [(n, 1)]) []

/-- Submit the write of one position of an entry where it stands now. -/
def Chip.writePos (c : Chip) (id_ pos : Nat) : Chip :=
  match c.stripes.entries.get? id_ with
  | none => c
  | some e =>
    match (c.flock? e.flock).bind (fun f => f.writeAt e.stripe pos) with
    | none => c
    | some (slot, lba) =>
      let lane := c.entryLane id_ e
      let pad := c.stripePaddock e.flock e.stripe
      let mine := e.staged.keep (fun k _ => k / 16 = pos)
      (runsOf (mine.keys.map (· % 16))).foldl (fun (c : Chip) r => c.laneIn { drvCmd0 with
        slot := slot, kind := 1, lba := lba + r.1, count := r.2, use := .entryWrite id_ pos, flock := e.flock, stripe := e.stripe, pos := pos, blk := r.1, lane := lane.1, gated := lane.2,
        cls := costClass 1 r.2, paddock := pad, fold := some e.fold, source := if e.replayed then 3 else if e.kind = 4 then 1 else 0,
        data := (List.range r.2).map (fun i => e.staged.getD (pos * 16 + r.1 + i) (zeros memberBlock)) }) c

/-- Submit the member writes of an entry. -/
def Chip.submitEntry (c : Chip) (id_ : Nat) : Chip :=
  match c.stripes.entries.get? id_ with
  | none => c
  | some e =>
    let c := c.updEntry id_ (fun e => { e with state := 2 })
    (bitList e.written 18).foldl (fun c p => if bit e.done p then c else c.writePos id_ p) c

/-- JOURNAL_HELD (R238): held by the partner or a checkpoint, its member writes are submitted. -/
def journalHeld (entry : Nat) (c : Chip) : Chip :=
  match c.stripes.entries.get? entry with
  | some e => if e.state = 1 && decide (e.kind ≤ 4) && e.ckpt ≠ 0 && c.entryHeld e then (c.submitEntry entry).showJnl else c
  | none => c

/-- Tell the partner of versions committed: runs of blocks of one seq (R202). -/
def Chip.sendRetires (c : Chip) (fold : Nat) (vs : List (Nat × Nat × Nat)) : Chip :=
  let sorted := sortBy (fun (v : Nat × Nat × Nat) => v.1 * 2 ^ 50 + v.2.1) vs
  let runs := sorted.foldl (fun (acc : List (Nat × Nat × Nat × Nat)) v => match acc.getLast? with
    | some (a, l, n, s) => if a = v.1 && l + n = v.2.1 && s = v.2.2 then acc.dropLast ++ [(a, l, n + 1, s)] else acc ++ [(v.1, v.2.1, 1, v.2.2)]
    | none => [(v.1, v.2.1, 1, v.2.2)]) []
  runs.foldl (fun c r => (c.mirrorPush (.retire r.1 fold r.2.1 r.2.2.1 r.2.2.2)).2) c

/-- Does the place that a version was written to hold the drive state of its block for its volume now? A version of an earlier epoch lies in the acre that a snapshot shares,
while the volume may have an acre of its own since. -/
def Chip.spotCurrent (c : Chip) (volume lba seq : Nat) : Bool :=
  match c.vols.get? volume with
  | none => true
  | some v => (c.lookupAt v (v.epochAt seq) (acreOf lba)).1 = c.entryOf v (acreOf lba)

/-- A committed version (R193): Clean when it is still the newest, else Invalid; the older Clean copies of its block go. A pinned line stays until its readers end. -/
def Chip.lineCommitted (c : Chip) (v : Nat × Nat × Nat) : Chip :=
  let current := c.spotCurrent v.1 v.2.1 v.2.2
  let c := { c with cache := { c.cache with ranges := c.cache.ranges.map (fun (r : RangeOp) => if r.volume = v.1 then { r with owed := r.owed.filter (· ≠ v.2.1) } else r) } }
  let c := (if current then c.dropClean v.1 v.2.1 else c).markSuperseded v.1 v.2.1 v.2.2
  match (c.blockLines v.1 v.2.1).find? (fun e => e.2.2.st = .committing && e.2.2.seq = v.2.2) with
  | none => c
  | some e =>
    let newer := (c.blockLines v.1 v.2.1).any (fun x => isVersion x.2.2 && decide (v.2.2 < x.2.2.seq)) || !current || e.2.2.poisoned
    let c := c.cntCache 7
    if newer then (if e.2.2.pins = 0 then c.putWay e.1 e.2.1 none else c.setLine e.1 e.2.1 (fun l => { l with st := .clean, seq := 0, poisoned := true }))
    else c.setLine e.1 e.2.1 (fun l => { l with st := .clean, seq := 0 })

/-- A through write learns that one of its versions stands on the drives, or a newer one of the same block and epoch: a version that is superseded before its commit never has an entry of its own, and the spec
does not say when its command completes (DESIGN CHOICE, assumption 59). -/
def Chip.throughDone (c : Chip) (v : Nat × Nat × Nat) : Chip :=
  let ep := fun (s : Nat) => (c.vols.get? v.1).map (fun x => x.epochAt s)
  { c with intake := { c.intake with cmds := c.intake.cmds.mapVals (fun _ (k : HostCmd) =>
      if k.volume = some v.1 && decide (k.seq ≤ v.2.2) && ep k.seq = ep v.2.2 then { k with open_ := k.open_.filter (fun b => k.lba + b ≠ v.2.1) } else k) } }

/-- The entry retires: every present written position is done (R238). Blocks written with data leave the lost-block list (R263); repairs of the same blocks that still wait are dropped. -/
def Chip.retireEntry (c : Chip) (id_ : Nat) : Chip :=
  match c.stripes.entries.get? id_ with
  | none => c
  | some e =>
    let c := { c with stripes := { c.stripes with
      jgen := c.stripes.jgen + 1,
      entries := c.stripes.entries.del id_,
      annexUsed := if e.annex then c.stripes.annexUsed - e.blocks else c.stripes.annexUsed } }
    let c := c.cntStripe 13
    let c := e.versions.foldl (fun c v => (c.lineCommitted v).throughDone v) c
    let c := c.sendRetires e.fold e.versions
    let c := (c.mirrorPush (.journal id_ { e with state := 3, jgen := c.stripes.jgen })).2
    let wrote : Nat → Bool := fun k => match e.staged.get? k with
      | some b => b ≠ lostMarker
      | none => false
    let c := c.unlist (fun r => r.flock = e.flock && r.stripe = e.stripe && wrote (r.pos * 16 + r.blk))
    let c := if e.kind = 4 && !e.replayed then (if (e.staged.vals.any (fun b => b ≠ lostMarker)) then (c.raise 0x386).cntStripe 8 e.staged.length else c)
      else { c with stripes := { c.stripes with entries := c.stripes.entries.mapVals (fun _ (x : JEntry) =>
        if x.state = 0 && x.flock = e.flock && x.stripe = e.stripe then { x with staged := x.staged.keep (fun k _ => !e.staged.has k) } else x) } }
    let c := if e.replayed then (c.raise (if e.annex then 0x393 else 0x392)).cntStripe 15 else c
    (c.showLines).showJnl

/-- Retire an entry that has nothing left to write. -/
def Chip.entryProgress (c : Chip) (id_ : Nat) : Chip :=
  match c.stripes.entries.get? id_ with
  | none => c
  | some e =>
    let busy := c.stripes.drv.any (fun d => match d.2.use with
      | .entryWrite n _ => n = id_
      | _ => false)
    if e.state = 2 && e.written &&& (e.done ^^^ (2 ^ 18 - 1)) = 0 && !busy then c.retireEntry id_ else c

/-- Does the entry still have a command out for a position? -/
def Chip.posBusy (c : Chip) (id_ pos : Nat) : Bool := c.stripes.drv.any (fun d => d.2.use = .entryWrite id_ pos)

/-- A write of an entry's position is done. -/
def Chip.writeDone (c : Chip) (id_ pos : Nat) : Chip :=
  if c.posBusy id_ pos then c
  else
    let c := c.updEntry id_ (fun e => { e with done := setBit e.done pos true, unknown := setBit e.unknown pos false })
    match c.stripes.entries.get? id_ with
    | some e => ((c.mirrorPush (.journal id_ e)).2).entryProgress id_
    | none => c

/-- A member write ended with an error (R246): once more, then the member fails. -/
def Chip.writeError (c : Chip) (d : DrvCmd) (id_ pos : Nat) : Chip :=
  let c := c.cntStripe 14
  match c.stripes.entries.get? id_ with
  | none => c
  | some e =>
    if bit e.errs pos then ((c.raise 0x389).fellOut d .gone).driveFails d.slot
    else ((c.raise 0x388).updEntry id_ (fun e => { e with errs := setBit e.errs pos true, unknown := setBit e.unknown pos false })).laneIn d

/-- The drive refused a member write for its reservation (R510). -/
def Chip.writeConflict (c : Chip) (slot : Nat) : Chip := (c.set DRV_NVME_STAT_rsv_held 0 slot).raise 0x39C

/-- A position of an open entry lost its member (R245): its blocks go into the annex, and its write is dropped, or goes to the relocation target. -/
def Chip.writeGone (c : Chip) (id_ pos : Nat) : Chip :=
  match c.stripes.entries.get? id_ with
  | none => c
  | some e =>
    let c := if e.annex then c else (c.annexEntry id_ e).getD (c.raise 0x391)
    let c := c.updEntry id_ (fun e => { e with absent := setBit e.absent pos true, unknown := setBit e.unknown pos false })
    if (c.flock? e.flock).any (fun f => f.canWrite e.stripe pos) then
      (if c.posBusy id_ pos then c else c.writePos id_ pos)
    else
      let c := c.updEntry id_ (fun e => { e with written := setBit e.written pos false })
      c.entryProgress id_

/-! ### Repairs (R234) -/

/-- A repair of blocks of a stripe (position × 16 + block): a kind 4 entry that waits for the stripe as a commit does. -/
def Chip.openRepair (c : Chip) (flock stripe : Nat) (blocks : Tab Bytes) (owner : Option Nat) : Chip :=
  match c.flock? flock with
  | none => c
  | some f =>
    let e : JEntry := { entry0 with
      kind := 4, state := 0, flock := flock, stripe := stripe, fold := (f.foldOf stripe).getD 0, openedNs := c.now, staged := blocks,
      lo := minOr 0 (blocks.keys.map (· % 16)), hi := maxOr 0 (blocks.keys.map (· % 16)), written := maskOf (blocks.keys.map (· / 16)),
      args := owner.toList }
    (c.addEntry e).2

/-- Repairs whose stripe is free are opened and journalled. -/
def Chip.startRepairs (c : Chip) : Chip :=
  (c.stripes.entries.keep (fun _ e => e.state = 0)).foldl (fun (c : Chip) x =>
    match c.stripes.entries.get? x.1 with
    | none => c
    | some e =>
      let open_ := (c.stripes.entries.vals.filter (fun y => y.isOpen && decide (y.kind ≤ 4) && c.strpOf y.stripe = c.strpOf e.stripe)).length
      if e.staged.isEmpty then { c with stripes := { c.stripes with entries := c.stripes.entries.del x.1 } }
      else if c.stripeHeld e.flock e.stripe e.args.head? || !c.flag STRIPE_CTL_en || decide (4096 ≤ open_) || !c.flag TWIN_FOLD_STAT_gate_open e.fold || c.get TWIN_FOLD_STAT_phase e.fold ≠ 0 ||
          stagingBlocks < c.staged + e.blocks then c
      else ((c.updEntry x.1 (fun e => { e with state := 1, written := maskOf (e.staged.keys.map (· / 16)) })).journal x.1)) c

/-! ### Reconstruction for a read (R234, R244) -/

/-- Issue the reads of a reconstruction. -/
def Chip.reconRead (c : Chip) (id_ : Nat) (r : Recon) (ps : List Nat) : Chip :=
  match c.flock? r.flock with
  | none => c
  | some f =>
    let cmd := match r.purpose with
      | .host k _ => c.intake.cmds.get? k
      | .repair => none
    let lane := (cmd.map (·.cls)).getD 2
    let c := { c with stripes := { c.stripes with recons := c.stripes.recons.put id_ { r with owed := r.owed ++ ps } } }
    ps.foldl (fun (c : Chip) p => match f.readAt r.stripe p with
      | some (slot, lba) => c.laneIn { drvCmd0 with
          slot := slot, kind := 0, lba := lba + r.blk, use := .recon id_ p, flock := r.flock, stripe := r.stripe, pos := p, blk := r.blk, lane := lane,
          cls := costClass 0 1, paddock := c.stripePaddock r.flock r.stripe, fold := f.foldOf r.stripe }
      | none => c) c

def Chip.dropRecon (c : Chip) (id_ : Nat) : Chip := { c with stripes := { c.stripes with recons := c.stripes.recons.del id_ } }

/-- The block cannot be recovered: listed as lost unless more than two members of its stripe are absent (R234). -/
def Chip.reconLost (c : Chip) (id_ : Nat) (r : Recon) : Chip :=
  let c := c.dropRecon id_
  let tooMany := (c.flock? r.flock).any (fun f => decide (2 < (f.missing r.stripe).length))
  match r.purpose with
  | .host k b => if tooMany then c.failHost k b unrecovered else c.loseBlock 6 r.flock r.stripe r.target r.blk [(k, b)]
  | .repair => if tooMany then c else c.loseBlock 6 r.flock r.stripe r.target r.blk []

/-- A block was reconstructed and has been checked: the read is answered, and the block rewritten in place when it is to be (R234). -/
def Chip.reconGood (c : Chip) (id_ : Nat) (r : Recon) (block : Bytes) (p : Plain) : Chip :=
  let c := (c.dropRecon id_).cntStripe 6
  let c := match r.purpose with
    | .host k b => c.giveHost k b p.blk
    | .repair => c
  if r.repair && c.flag STRIPE_CTL_repair_en then c.openRepair r.flock r.stripe [(r.target * 16 + r.blk, block)] none else c

/-- A reconstruction goes on: read what it needs, or recover, check, and try the other parity path once. -/
def Chip.reconGo (c : Chip) (id_ : Nat) : Chip :=
  match c.stripes.recons.get? id_ with
  | none => c
  | some r =>
    if r.owed ≠ [] then c
    else
      match c.flock? r.flock with
      | none => c.dropRecon id_
      | some f =>
        let w := f.w
        let unknown := (f.missing r.stripe ++ r.bad ++ [r.target]).eraseDups
        match reconNeeds w (unknown.filter (· ≠ r.target)) r.target with
        | none => c.reconLost id_ r
        | some ps =>
          let more := ps.filter (fun p => !r.have_.has p)
          if more ≠ [] then c.reconRead id_ r more
          else
            let both := r.have_.has w && r.have_.has (w + 1)
            let single := ((List.range w).filter unknown.contains).length = 1
            match recoverPos w r.have_ r.target (both && single) with
            | none => c.reconLost id_ r
            | some block =>
              let ref := match r.purpose with
                | .host k b => (c.intake.cmds.get? k).map (fun x => x.lba + b)
                | .repair => none
              let o := c.openAt r.flock r.stripe r.target r.blk block ref 0
              match o.1 with
              | .good p => o.2.reconGood id_ r block p
              | .lost => (match r.purpose with
                | .host k b => (o.2.dropRecon id_).failHost k b unrecovered
                | .repair => o.2.dropRecon id_)
              | .bad =>
                if single && !both && r.have_.has w && !unknown.contains (w + 1) then o.2.reconRead id_ r [w + 1]
                else o.2.reconLost id_ r

/-- Begin a reconstruction of a data block. -/
def Chip.startRecon (c : Chip) (use : ReconFor) (flock stripe blk target : Nat) (repair : Bool) : Chip :=
  let n := c.stripes.reconId
  let r : Recon := ⟨use, flock, stripe, blk, target, [], [], [], repair⟩
  ({ c with stripes := { c.stripes with reconId := n + 1, recons := c.stripes.recons.put n r } } : Chip).reconGo n

/-- A host command reads a block of a physical acre (R195, R226, R244, R263). -/
def Chip.hostRead (c : Chip) (key b flock pa blk : Nat) : Chip :=
  match c.intake.cmds.get? key, c.flock? flock with
  | some k, some f =>
    let at_ := f.place pa blk
    if c.isLost flock at_.1 at_.2.1 at_.2.2 then c.failHost key b unrecovered
    else match f.readAt at_.1 at_.2.1 with
      | some (slot, lba) => c.laneIn { drvCmd0 with
          slot := slot, kind := 0, lba := lba + at_.2.2, use := .host key b, flock := flock, stripe := at_.1, pos := at_.2.1, blk := at_.2.2, lane := k.cls,
          cls := costClass 0 1, paddock := k.paddock, fold := some k.fold }
      | none =>
        if 2 < (f.missing at_.1).length then c.failHost key b unrecovered
        else (c.cntStripe 5).startRecon (.host key b) flock at_.1 at_.2.2 at_.2.1 false
  | _, _ => c.failHost key b unrecovered

/-- A member read of a host command came back with a block: decrypted and checked (R234). -/
def Chip.hostBlock (c : Chip) (d : DrvCmd) (key b : Nat) (ct : Bytes) : Chip :=
  let ref := (c.intake.cmds.get? key).map (fun x => x.lba + b)
  let o := c.openAt d.flock d.stripe d.pos d.blk ct ref d.slot
  match o.1 with
  | .good p => o.2.giveHost key b p.blk
  | .lost => o.2.failHost key b unrecovered
  | .bad => o.2.startRecon (.host key b) d.flock d.stripe d.blk d.pos true

/-- A block read ahead came back (R196): it becomes Clean when it checks. -/
def Chip.prefetched (c : Chip) (d : DrvCmd) (v lba : Nat) (data : Option Bytes) : Chip :=
  match data with
  | none => if d.stale then c else c.dropFill v lba
  | some ct =>
    let o := c.openAt d.flock d.stripe d.pos d.blk ct (some lba) d.slot
    match o.1 with
    | .good p => if d.stale then o.2 else o.2.fillClean v lba p.blk
    | _ => if d.stale then o.2 else o.2.dropFill v lba

/-- A read of an entry came back, or cannot be made (R245): what the block then needs is read. -/
def Chip.entryBlock (c : Chip) (d : DrvCmd) (id_ key : Nat) (ct : Option Bytes) : Chip :=
  match c.stripes.entries.get? id_ with
  | none => c
  | some e =>
    match c.flock? e.flock with
    | none => c
    | some f =>
      let e := { e with reads := e.reads.erase key }
      let opened := match ct with
        | none => (none, c)
        | some b =>
          if f.w ≤ key / 16 then (some b, c)
          else
            let o := c.openAt e.flock e.stripe (key / 16) (key % 16) b none d.slot
            match o.1 with
            | .bad => (none, o.2)
            | _ => (some b, o.2)
      let c := opened.2
      match opened.1 with
      | some b => ({ c with stripes := { c.stripes with entries := c.stripes.entries.put id_ { e with old := e.old.put key b } } } : Chip).entryGathered id_
      | none =>
        let e := { e with bad := addNew key e.bad }
        let c := { c with stripes := { c.stripes with entries := c.stripes.entries.put id_ e } }
        let more := (e.planReads f).filter (fun k => !e.old.has k && !e.reads.contains k && !e.bad.contains k)
        (c.readEntry id_ more).entryGathered id_

/-! ### Replay (R243) -/

/-- Replay an open entry of a fold that this chip now owns: from its annex, or by recomputing parity. -/
def Chip.replayEntry (c : Chip) (id_ : Nat) : Chip :=
  match c.stripes.entries.get? id_ with
  | none => c
  | some e =>
    if !e.isOpen || 4 < e.kind then c
    else
      match c.flock? e.flock with
      | none => c
      | some f =>
        if e.annex then
          let keep := (bitList e.written 18).filter (f.canWrite e.stripe)
          let c := c.updEntry id_ (fun e => { e with replayed := true, done := 0, errs := 0, unknown := 0, written := maskOf keep })
          (c.submitEntry id_).entryProgress id_
        else
          let e' := { e with replayed := true, done := 0, errs := 0, unknown := 0, old := [], reads := [], bad := [], staged := [], state := 1, ckpt := 0 }
          let c := c.updEntry id_ (fun _ => e')
          let c := c.readEntry id_ (e'.planReads f)
          c.entryGathered id_

/-- A replay that has its blocks staged submits them: its entry is journalled already. -/
def Chip.submitReplays (c : Chip) : Chip :=
  (c.stripes.entries.keep (fun _ e => e.replayed && e.state = 1 && e.reads = [] && !e.annex)).foldl (fun c x => (c.submitEntry x.1).entryProgress x.1) c

/-! ### Checkpoints (R241, R242) -/

/-- Write-through for want of a checkpoint: no vault took the last one and the chip is solo. -/
def Chip.judgeCkpt (c : Chip) : Chip :=
  let through := !c.mirroring && c.get STRIPE_CKPT_STAT_vault_ok = 0 && decide (b2n c.stripes.ckptRun < c.stripes.ckptCover)
  let was := c.flag STRIPE_CKPT_STAT_through
  let c := c.setFlag STRIPE_CKPT_STAT_through through
  ((c.raiseIf (through && !was) 0x38E).raiseIf (!through && was) 0x38F).showThrough

/-- CHECKPOINT_TIMER (R241): the interval has passed, or enough entries have opened; the previous checkpoint must have ended. -/
def checkpointTimer (c : Chip) : Chip :=
  if c.stripes.ckptRun then c
  else
    let slot := if c.get STRIPE_CKPT_STAT_written = 0 then 0 else 1 - c.get STRIPE_CKPT_STAT_last_slot
    let open_ := c.stripes.entries.keep (fun _ e => e.isOpen)
    let c := { c with stripes := { c.stripes with ckptRun := true, ckptCover := c.stripes.ckptCover + 1, opened := 0 },
                      map := { c.map with logging := c.map.dseq, recentLogging := c.map.recent.length } }
    (c.send (.deltaLog (c.map.recent.map (·.bytes)))).send (.checkpoint slot (checkpointHeader (b2n c.id.chipB) slot c.stripes.jgen c.now open_) (journalBody open_))

/-- CHECKPOINT_WRITE_DONE (R242): which vaults took it. -/
def checkpointWriteDone (ok32 ok33 : Bool) (c : Chip) : Chip :=
  if !c.stripes.ckptRun then c
  else
    let slot := if c.get STRIPE_CKPT_STAT_written = 0 then 0 else 1 - c.get STRIPE_CKPT_STAT_last_slot
    let ok := b2n ok32 + 2 * b2n ok33
    let held := if ok = 0 then [] else c.map.recent.take c.map.recentLogging
    let c := { c with stripes := { c.stripes with ckptRun := false, ckptDone := if ok = 0 then c.stripes.ckptDone else c.stripes.ckptCover },
                      map := { c.map with
                        logged := if ok = 0 then c.map.logged else c.map.logging,
                        recent := if ok = 0 then c.map.recent else c.map.recent.drop c.map.recentLogging,
                        recentLogging := 0,
                        logTop := held.foldl (fun (t : Tab Nat) (r : DeltaRec) => t.updD r.volume 0 (fun n => max n r.admSeq)) c.map.logTop } }
    let c := (c.set STRIPE_CKPT_STAT_vault_ok ok).raiseIf (ok32 != ok33) 0x38C
    let c := if ok = 0 then c.raise 0x38D else ((c.set STRIPE_CKPT_STAT_last_slot slot).bump STRIPE_CKPT_STAT_written).cntStripe 11
    c.judgeCkpt

/-! ### The record areas (R256, R263, R509) -/

/-- RECORD_AREA_WRITE_DONE (R509): the oldest write ended, on these vaults. A stale mark must reach a vault; a change of the lost-block list that reached none was sent to the
partner, or is answered at once while solo, and stays to be written. -/
def recordAreaWriteDone (ok32 ok33 : Bool) (c : Chip) : Chip :=
  match c.stripes.recQ with
  | [] => c
  | r :: rest =>
    let ok := ok32 || ok33
    let c := { c with stripes := { c.stripes with recQ := rest } }
    let answer := fun (c : Chip) (l : List (Nat × Nat)) => l.foldl (fun (c : Chip) a => c.failHost a.1 a.2 unrecovered) c
    match r with
    | .stale _ _ _ e =>
      if ok then { c with stripes := { c.stripes with entries := c.stripes.entries.upd e (fun x => { x with recs := x.recs - 1 }) } } else c.record r
    | .lost x add place l =>
      if ok then answer c l
      else
        let c := (c.raise 0x417).send (.lostChange x add)
        (answer c l).record (.lost x add place [])
    | .maps => if ok then c else c.record r
    | .flock _ => if ok then c else c.record r

/-- MAP_REVERSE (0x0301, R361): the acre record of a physical acre. -/
def mapReverse (h : Hdr) (flock pa : Nat) : Chip → Chip :=
  runCommand ⟨0x0301, false, .r, paramBytes [1, 4]⟩ h [] (fun c =>
    Res.guard c [refuseIf (decide (4 ≤ flock)) 0x0102 32, refuseIf (c.flock? flock).isNone 0x0201]
      (fun c => match (c.flock? flock).bind (fun f => f.acres.get? pa) with
        | none => Res.no c 0x0201
        | some r => Res.ok c (le 2 r.paddock ++ le 2 r.lineage ++ le 1 r.fold ++ zeros 3 ++ le 4 r.lowGen ++ le 4 r.highGen)))

end Sys2Proof.Machine
end

