-- ==== Sys2Proof/Machine/Background.lean ====
section
/-!
DEFINITION. Rebuild, resync, copy-back and scrub (R253 to R269, R273): which stripes they visit, what they read and write, fences, results, ends. Shearing and detach stand in
Machine/Shear.lean, completions of drive commands in Machine/Members.lean.
-/

namespace Sys2Proof.Machine

def bg0 : BgOp :=
  { kind := 1, flock := 0, member := 0, slot := 0, step := 1, pos := 0, phase := 0, queued := false, folds := 0, entry := none, cur := none, have_ := [], owed := [],
    singles := [], bad := [], penned := [], writes := [], aside := [], sinceFence := 0, fenceNs := 0, mode := 0, again := false, goals := [], volume := 0, todo := [], acres := [] }

def Chip.updBg (c : Chip) (i : Nat) (f : BgOp → BgOp) : Chip := { c with stripes := { c.stripes with bg := c.stripes.bg.upd i f } }

/-- The header of an operation that firmware starts on its own. -/
def Chip.selfHdr (c : Chip) : Hdr := ⟨.record, 2, true, true, false, 1, 0xFFFF, 0, 0, 0, c.clk, 0⟩

/-- Does the operation run now: not queued, not paused? -/
def Chip.bgRuns (c : Chip) (o : BgOp) : Bool := !o.queued && [2, 8].contains (loState (c.lo o.slot))

/-- Operations of which one runs per flock (R254). -/
def exclusive (kind : Nat) : Bool := decide (1 ≤ kind) && decide (kind ≤ 3)

/-- Show what runs on each flock (R276). -/
def Chip.showOps (c : Chip) : Chip :=
  (List.range 4).foldl (fun c n =>
    let mine := c.stripes.bg.keep (fun _ o => o.flock = n && decide (o.kind ≤ 4))
    let run_ : Option (Nat × BgOp) := mine.first? (fun _ o => exclusive o.kind && !o.queued)
    let scrub : Option (Nat × BgOp) := mine.first? (fun _ o => o.kind = 4)
    let shown : Option BgOp := match run_ with
      | some x => some x.2
      | none => scrub.map (·.2)
    let c := c.set STRIPE_BG_STAT_op ((shown.map (·.kind)).getD 0) n
    let c := c.set STRIPE_BG_STAT_step ((shown.map (·.step)).getD 0) n
    c.setFlag STRIPE_BG_STAT_scrub_paused (run_.isSome && scrub.isSome) n) c

/-! ### Result records (R273) -/

def resultRec (kind op flock pos blk detail stripe acre count time : Nat) : Bytes :=
  le 1 kind ++ le 1 op ++ le 1 flock ++ le 1 pos ++ le 1 blk ++ le 1 detail ++ le 2 0 ++ le 8 stripe ++ le 4 acre ++ le 4 count ++ le 8 time

/-- Write a result record and count an error. -/
def Chip.bgError (c : Chip) (o : BgOp) (record : Bytes) : Chip := (c.loResult o.slot record).loProgress o.slot 0 1

/-- A block lost by an operation: record, list, counts (R261). -/
def Chip.bgLost (c : Chip) (o : BgOp) (f : Flock) (stripe pos blk : Nat) : Chip :=
  let c := c.bgError o (resultRec 1 o.kind o.flock pos blk 0 stripe (stripe / f.spa) 0 c.now)
  (c.loseBlock o.kind o.flock stripe pos blk []).cntBg 8

/-! ### Relocation targets (R226, R257) -/

/-- A target for a position of a row: a present member outside the row that holds no strip of it yet, with a free spare slot; the lowest of each. -/
def Flock.findTarget (f : Flock) (r : Nat) : Option (Nat × Nat) :=
  let taken := (f.relocs.filter (fun e => e.1 / 32 = r)).map (·.2.1)
  let row := f.rows.getD r []
  (List.range f.n).findSome? (fun m =>
    if f.absent.contains m || row.contains m || taken.contains m then none
    else ((List.range f.s).find? (fun j => !f.relocs.any (fun e => e.2 = (m, j)))).map (fun j => (m, j)))

/-- Assign targets to every row entry on an absent member that has none. -/
def Flock.assignTargets (f : Flock) : Flock :=
  (List.range f.l).foldl (fun (f : Flock) r => (List.range (f.w + 2)).foldl (fun (f : Flock) p =>
    if !f.absent.contains (f.member r p) || f.relocs.has (r * 32 + p) then f
    else match f.findTarget r with
      | some t => { f with relocs := f.relocs.put (r * 32 + p) t }
      | none => f) f) f

/-- Rows with an entry on an absent member and no target for it. -/
def Flock.stranded (f : Flock) : Bool :=
  (List.range f.l).any (fun r => (List.range (f.w + 2)).any (fun p => f.absent.contains (f.member r p) && !f.relocs.has (r * 32 + p)))

def Chip.assignRelocs (c : Chip) (n : Nat) : Chip :=
  let c := c.updFlock n Flock.assignTargets
  match c.flock? n with
  | some f => (((c.raiseIf f.stranded 0x406).writeLabels n).showFlock n).showBg
  | none => c

/-! ### Which stripes (R256, R258, R267, R268) -/

/-- Is the stripe's acre allocated, in a fold that this chip owns and that is not being handed or taken over? -/
def Chip.visits (c : Chip) (f : Flock) (stripe : Nat) : Bool :=
  (f.acreOf stripe).isSome && (match f.foldOf stripe with
    | some fold => c.flag TWIN_FOLD_STAT_gate_open fold && c.get TWIN_FOLD_STAT_phase fold = 0
    | none => false)

/-- Positions of a stripe that a rebuild can put at their targets. -/
def Flock.movable (f : Flock) (stripe : Nat) : List Nat := (f.missing stripe).filter (fun p => f.canWrite stripe p && f.absent.contains (f.member (f.row stripe) p))

/-- The positions that an operation is to write in a stripe; none where it has nothing to do. -/
def BgOp.goalsAt (o : BgOp) (f : Flock) (stripe : Nat) : List Nat :=
  if o.kind = 1 then
    let n := (f.missing stripe).length
    if n = 0 || 2 < n || (o.step = 1 && n ≠ 2) then [] else f.movable stripe
  else (List.range (f.w + 2)).filter (fun p => f.member (f.row stripe) p = o.member && (o.kind = 2 || !f.home.contains (stripe, p)) &&
    ((f.readAt stripe p).isSome || decide ((f.missing stripe).length ≤ 2)))

/-- The stripe that a strip of a member belongs to, with the position: the strip itself, or one relocated onto it (R225, R226). -/
def Flock.stripeOfStrip (f : Flock) (m i : Nat) : Option (Nat × Nat) :=
  let cyc := i / atLeast1 (f.k + f.s)
  let o := i % atLeast1 (f.k + f.s)
  if f.cycles ≤ cyc then none
  else if o < f.k then
    (((List.range f.l).filter (fun r => (f.rows.getD r []).contains m))[o]?).map (fun r => (cyc * f.l + r, (f.rows.getD r []).findIdx (fun x => x = m)))
  else (f.relocs.first? (fun _ t => t = (m, o - f.k))).map (fun e => (cyc * f.l + e.1 / 32, e.1 % 32))

/-- The next stripe at or after a position, in the allocated acres, that has work. -/
def Chip.nextStripe (c : Chip) (o : BgOp) (f : Flock) (from_ : Nat) : Option Nat :=
  f.acres.keys.findSome? (fun pa =>
    if pa * f.spa + f.spa ≤ from_ then none
    else (List.range f.spa).findSome? (fun t =>
      let s := pa * f.spa + t
      if s < from_ || !c.visits f s || (o.kind ≠ 4 && (o.goalsAt f s).isEmpty) then none else some s))

/-- The next stale strip of a returned member at or after a strip. -/
def Chip.nextStale (c : Chip) (f : Flock) (m from_ : Nat) : Option (Nat × Nat × Nat) :=
  (sortBy (fun (x : Nat) => x) (f.stale.getD m [])).findSome? (fun r => (List.range 1024).findSome? (fun k =>
    let i := r * 1024 + k
    if i < from_ then none
    else match f.stripeOfStrip m i with
      | some (s, p) => if c.visits f s then some (i, s, p) else none
      | none => none))

/-- Strips to rebuild in a flock (R253): the row entries on absent members, in every cycle. -/
def Flock.toRebuild (f : Flock) : Nat :=
  f.cycles * ((List.range f.l).map (fun r => ((f.rows.getD r []).filter f.absent.contains).length)).sum

/-! ### Fences (R264) -/

/-- Record a fence: the kind 5 entry takes the position, which does not pass a stripe set aside; an operation that was asked to cancel ends. -/
def Chip.fence (c : Chip) (i : Nat) : Chip :=
  match c.stripes.bg.get? i with
  | none => c
  | some o =>
    let at_ := minOr o.pos (o.aside ++ [o.pos])
    let c := c.updBg i (fun o => { o with sinceFence := 0, fenceNs := c.clk })
    let args := [o.kind, o.step, o.folds, at_, o.slot, loDone (c.lo o.slot), loErrs (c.lo o.slot), c.get LONGOP_TOTAL_total o.slot, o.mode, o.member,
      c.get LONGOP_INFO_handle o.slot, c.get LONGOP_RESULT_COUNT_count o.slot]
    let c := match o.entry with
      | some e => (c.updEntry e (fun e => { e with args := args })).journal e
      | none => c
    let c := if o.kind ≤ 4 then c.set STRIPE_BG_POS_position at_ o.flock else c
    c.loFence o.slot

/-- The operation's slot is cancelled: its entry and its place are given up, stripes passed keep what they have (R266). -/
def Chip.dropBg (c : Chip) (i : Nat) : Chip :=
  match c.stripes.bg.get? i with
  | none => c
  | some o =>
    let c := { c with stripes := { c.stripes with bg := c.stripes.bg.del i } }
    let c := { c with stripes := { c.stripes with drv := c.stripes.drv.filter (fun d => !(d.2.pen = 3 && (match d.2.use with
      | .background n _ => n = i
      | _ => false))) } }
    let c := match o.entry.bind (fun e => (c.stripes.entries.get? e).map (fun x => (e, x))) with
      | some (e, x) =>
        let c := { c with stripes := { c.stripes with entries := c.stripes.entries.del e, jgen := c.stripes.jgen + 1 } }
        (c.mirrorPush (.journal e { x with state := 3, jgen := c.stripes.jgen })).2
      | none => c
    (c.showJnl).showOps

/-! ### Beginning (R253, R254, R257, R258) -/

/-- The operations that stand first among those queued on a flock begin; a scrub is paused while one runs and goes on after it. -/
def Chip.settleQueue (c : Chip) : Chip :=
  (List.range 4).foldl (fun (c : Chip) n =>
    let mine := c.stripes.bg.keep (fun _ o => o.flock = n && exclusive o.kind)
    let c := match mine.first? (fun _ o => !o.queued), mine.first? (fun _ o => o.queued) with
      | none, some (i, o) =>
        let c := (c.updBg i (fun o => { o with queued := false })).loSetState o.slot 2
        if o.kind = 1 then ((c.raise 0x400).assignRelocs n).raise 0x401
        else c.raise (if o.kind = 2 then 0x40A else 0x408)
      | _, _ => c
    let busy := c.stripes.bg.any (fun x => x.2.flock = n && exclusive x.2.kind && !x.2.queued)
    match c.stripes.bg.first? (fun _ o => o.flock = n && o.kind = 4) with
    | some (i, o) =>
      if busy && !o.queued && [2, 8].contains (loState (c.lo o.slot)) then
        let again := match o.cur with
          | some s => s
          | none => o.pos
        (((c.updBg i (fun o => { o with queued := true, pos := again, cur := none, owed := [], singles := [], have_ := [], bad := [], penned := [], writes := [], phase := 0 })).loSetState
          o.slot 3).raise 0x40F)
      else if !busy && o.queued then (c.updBg i (fun o => { o with queued := false })).loSetState o.slot 2
      else c
    | none => c) c

/-- Add an operation with its slot, its fence entry and its number. -/
def Chip.addBg (c : Chip) (o : BgOp) : Chip :=
  let owned := maskOf ((List.range 8).filter (fun f => c.flag TWIN_FOLD_STAT_gate_open f))
  let e := c.addEntry { entry0 with kind := 5, flock := o.flock, openedNs := c.now }
  let c := e.2
  let n := c.stripes.bgId
  let o := { o with entry := if o.kind ≤ 4 then some e.1 else none, folds := owned, fenceNs := c.clk }
  let c := if o.kind ≤ 4 then c else { c with stripes := { c.stripes with entries := c.stripes.entries.del e.1 } }
  let c := { c with stripes := { c.stripes with bgId := n + 1, bg := c.stripes.bg.put n o } }
  let c := if o.queued then c.loSetState o.slot 1 else c
  ((c.fence n).settleQueue).showOps

/-- Units in total of an operation as it begins. -/
def Chip.bgTotal (c : Chip) (kind : Nat) (f : Flock) (m : Nat) : Nat :=
  if kind = 1 then f.toRebuild
  else if kind = 2 then (f.stale.getD m []).length * 1024
  else if kind = 3 then f.cycles * f.k
  else f.acres.length * f.spa

def bgOpcode (kind : Nat) : Nat := if kind = 1 then 0x0410 else if kind = 3 then 0x0411 else if kind = 4 then 0x0412 else if kind = 5 then 0x0413 else if kind = 6 then 0x0116 else 0

/-- Start an operation on a flock in a slot of long operations. -/
def Chip.beginBg (c : Chip) (kind n m pos mode i : Nat) : Chip :=
  let c := if kind = 4 then (c.updFlock n (fun f => { f with scrubNs := c.clk, needScrub := false })).raise 0x40C else c
  c.addBg { bg0 with kind := kind, flock := n, member := m, slot := i, pos := pos, mode := mode, queued := exclusive kind }

/-- Start an operation that firmware begins on its own. -/
def Chip.autoBg (c : Chip) (kind n m mode : Nat) : Chip :=
  match c.flock? n with
  | none => c
  | some f =>
    match c.loStart c.selfHdr (bgOpcode kind) (c.bgTotal kind f m) [n, m, mode] with
    | some (c, i, _) => c.beginBg kind n m 0 mode i
    | none => c.raise 0x730

/-- A member failed: the running rebuild is extended, or one starts when auto_en is set (R255, R258). -/
def Chip.rebuildFor (c : Chip) (n : Nat) : Chip :=
  match c.stripes.bg.first? (fun _ o => o.kind = 1 && o.flock = n) with
  | some (i, o) =>
    let c := ((c.raise 0x405).assignRelocs n).updBg i (fun o => { o with mode := 1 })
    (match c.flock? n with
    | some f => c.set LONGOP_TOTAL_total (max (c.get LONGOP_TOTAL_total o.slot) f.toRebuild) o.slot
    | none => c)
  | none => if c.flag STRIPE_RB_CFG_auto_en then c.autoBg 1 n 0 0 else c

/-! ### A stripe in hand: reading (R259, R261, R267, R268) -/

/-- Read a strip of the stripe in hand, whole or one block of it. -/
def Chip.bgRead (c : Chip) (i : Nat) (o : BgOp) (f : Flock) (stripe pos : Nat) (blk : Option Nat) : Chip :=
  match f.readAt stripe pos with
  | none => c
  | some (slot, lba) =>
    let lane := c.bgLane o
    let n := if blk.isSome then 1 else 16
    c.laneIn { drvCmd0 with
      slot := slot, kind := 0, lba := lba + blk.getD 0, count := n, use := .background i pos, flock := o.flock, stripe := stripe, pos := pos, blk := blk.getD 16,
      lane := lane.1, gated := lane.2, cls := costClass 0 n, paddock := c.stripePaddock o.flock stripe, fold := f.foldOf stripe }

def Chip.bgReadStrips (c : Chip) (i : Nat) (ps : List Nat) : Chip :=
  match c.stripes.bg.get? i with
  | none => c
  | some o =>
    match c.flock? o.flock, o.cur with
    | some f, some s =>
      let ps := ps.filter (fun p => (f.readAt s p).isSome && !o.owed.contains p)
      ps.foldl (fun c p => c.bgRead i o f s p none) (c.updBg i (fun o => { o with owed := o.owed ++ ps }))
    | _, _ => c

/-- The positions that a stripe's work reads first. -/
def BgOp.firstReads (o : BgOp) (f : Flock) (s : Nat) : List Nat :=
  let missing := f.missing s
  let ok := (List.range (f.w + 2)).filter (fun p => !missing.contains p)
  if o.kind = 4 then ok
  else if o.kind = 5 then ((List.range f.w).flatMap (fun p => if missing.contains p then (reconNeeds f.w (missing.filter (· ≠ p)) p).getD [] else [p])).eraseDups
  else (o.goals.flatMap (fun p => if missing.contains p then (reconNeeds f.w (missing.filter (· ≠ p)) p).getD [] else [p])).eraseDups

/-- The rate that an operation keeps to, by its place in STRIPE_BG_RATE, with its MB/s; a field of 0 acts as 1 (R260, R274, R276). -/
def Chip.bgRate (c : Chip) (o : BgOp) : Nat × Nat :=
  let r := if o.kind = 1 && o.step = 1 then (1, c.get STRIPE_BG_RATE_rb2_mbps) else if o.kind ≤ 3 then (0, c.get STRIPE_BG_RATE_rb_mbps)
    else if o.kind = 4 then (2, c.get STRIPE_BG_RATE_scrub_mbps) else (3, c.get STRIPE_BG_RATE_reenc_mbps)
  (r.1, atLeast1 r.2)

/-- Must the operation's next stripe wait for its rate? -/
def Chip.paced (c : Chip) (o : BgOp) : Bool := decide (c.clk < c.stripes.paceNs.getD (c.bgRate o).1 0)

/-- Charge a stripe to its operation's rate: the strips that are written, or the stripe's data read or encrypted again. -/
def Chip.pace (c : Chip) (o : BgOp) (f : Flock) : Chip :=
  let r := c.bgRate o
  let bytes := (if o.kind ≤ 3 then o.goals.length else f.w) * 65536
  { c with stripes := { c.stripes with paceNs := c.stripes.paceNs.updD r.1 0 (fun t => max t c.clk + bytes * 1000 / r.2) } }

/-- Take a stripe in hand. -/
def Chip.takeStripe (c : Chip) (i : Nat) (o : BgOp) (f : Flock) (s : Nat) (goals : List Nat) (again : Bool) : Chip :=
  let o := { o with cur := some s, phase := 0, have_ := [], owed := [], singles := [], bad := [], penned := [], writes := [], goals := goals, again := again }
  (({ c with stripes := { c.stripes with bg := c.stripes.bg.put i o } } : Chip).pace o f).bgReadStrips i (o.firstReads f s)

/-! ### A stripe in hand: settling its blocks (R259, R261, R262, R269) -/

/-- What has been read at block b, by position. -/
def BgOp.haveAt (o : BgOp) (b : Nat) : Tab Bytes := (o.have_.keep (fun k _ => k % 16 = b)).foldl (fun (u : Tab Bytes) x => u.put (x.1 / 16) x.2) []

/-- Positions that are unknown at block b: absent, unreadable or penned. -/
def BgOp.unknownAt (o : BgOp) (f : Flock) (s b : Nat) : List Nat :=
  (f.missing s ++ ((o.bad ++ o.penned).filter (fun k => k % 16 = b)).map (· / 16)).eraseDups

/-- Present positions whose block b cannot be read. -/
def BgOp.badAt (o : BgOp) (b : Nat) : List Nat := (o.bad.filter (fun k => k % 16 = b)).map (· / 16)

/-- The positions that are to be recovered at block b: the goals that are not read, and the unreadable present ones. -/
def BgOp.wantAt (o : BgOp) (f : Flock) (s b : Nat) : List Nat :=
  let miss := if o.kind = 5 then (List.range f.w).filter (f.missing s).contains else o.goals
  ((miss ++ o.badAt b ++ ((o.penned.filter (fun k => k % 16 = b)).map (· / 16)).filter o.goals.contains).filter (fun p => !(o.haveAt b).has p)).eraseDups

/-- What is still to be read at block b before it can be settled. A block that cannot be recovered needs all data that can be read: P and Q are computed again. -/
def BgOp.moreAt (o : BgOp) (f : Flock) (s b : Nat) : List Nat :=
  let unknown := o.unknownAt f s b
  let have_ := o.haveAt b
  let one := fun (p : Nat) => match reconNeeds f.w (unknown.filter (· ≠ p)) p with
    | some ps => ps
    | none => (List.range f.w).filter (fun x => !unknown.contains x)
  ((o.wantAt f s b).flatMap one).eraseDups.filter (fun p => !have_.has p && !unknown.contains p)

/-- A recovered data block with its check: by P, and where that fails by Q, when Q has been read too (R234). `none`: neither verifies. -/
def Chip.recoverSure (c : Chip) (o : BgOp) (f : Flock) (s b p : Nat) : Option Bytes × Chip :=
  let have_ := o.haveAt b
  match recoverPos f.w have_ p false with
  | none => (none, c)
  | some x =>
    if f.w ≤ p then (some x, c)
    else
      let r := c.openAt o.flock s p b x none 0
      match r.1 with
      | .bad =>
        let both := have_.has f.w && have_.has (f.w + 1)
        match (if both then recoverPos f.w have_ p true else none) with
        | none => (none, r.2)
        | some y =>
          let r := r.2.openAt o.flock s p b y none 0
          (match r.1 with
          | .bad => (none, r.2)
          | _ => (some y, r.2))
      | _ => (some x, r.2)

/-- The outcome of block b: blocks for the goals, blocks to rewrite in place, lost data positions. -/
structure Settled where
  strips : Tab Bytes
  repair : Tab Bytes
  lost   : List Nat

/-- Settle block b (R261): recover what is wanted; a data position that cannot be recovered takes the lost marker, and then P and Q are computed from what the members hold. -/
def Chip.settleBlock (c : Chip) (o : BgOp) (f : Flock) (s b : Nat) : Settled × Chip :=
  let want := o.wantAt f s b
  let have_ := o.haveAt b
  let unknown := o.unknownAt f s b
  let rec_ := want.foldl (fun (acc : Tab Bytes × List Nat × Chip) p =>
    let r := acc.2.2.recoverSure o f s b p
    match r.1 with
    | some x => (acc.1.put p x, acc.2.1, r.2)
    | none => (acc.1, acc.2.1 ++ [p], r.2)) ([], [], c)
  let c := rec_.2.2
  let penned := (o.penned.filter (fun k => k % 16 = b)).map (· / 16)
  let mine := fun (p : Nat) => o.goals.contains p
  if rec_.2.1.isEmpty then
    let strips := (o.goals.filter (fun p => have_.has p || rec_.1.has p)).foldl (fun (t : Tab Bytes) p => t.put p ((have_.get? p).getD (rec_.1.getD p []))) []
    (⟨strips, rec_.1.keep (fun p _ => !mine p && !penned.contains p && (o.badAt b).contains p), []⟩, c)
  else
    let lost_ := (List.range f.w).filter (fun p => unknown.contains p && !rec_.1.has p)
    let full := (List.range f.w).foldl (fun (t : Tab Bytes) p =>
      t.put p (if lost_.contains p then lostMarker else (have_.get? p).getD (rec_.1.getD p lostMarker))) []
    let all := (full.put f.w (parityP f.w full)).put (f.w + 1) (parityQ f.w full)
    let strips := o.goals.foldl (fun (t : Tab Bytes) p => t.put p (all.getD p lostMarker)) []
    let fix := ((o.badAt b).filter (fun p => !mine p) ++ [f.w, f.w + 1].filter (fun p => !mine p && (f.readAt s p).isSome)).eraseDups
    (⟨strips, fix.foldl (fun (t : Tab Bytes) p => t.put p (all.getD p lostMarker)) [], lost_⟩, c)

/-- Write the goals of the stripe in hand, whole strips (R259): to the relocation targets, or for a copy-back to the member's own strip. -/
def Chip.bgWrite (c : Chip) (i : Nat) (strips : Tab Bytes) : Chip :=
  match c.stripes.bg.get? i with
  | none => c
  | some o =>
    match c.flock? o.flock, o.cur with
    | some f, some s =>
      let place := fun (p : Nat) => if o.kind = 3 then some (f.slots.getD o.member 0xFF, stripLba (f.strip s p) 0) else f.writeAt s p
      let ps := o.goals.filter (fun p => (place p).isSome && (List.range 16).all (fun b => strips.has (p * 16 + b)))
      let c := c.updBg i (fun o => { o with phase := 1, writes := ps, goals := ps })
      let lane := c.bgLane o
      ps.foldl (fun (c : Chip) p => match place p with
        | none => c
        | some (slot, lba) => c.laneIn { drvCmd0 with
            slot := slot, kind := 1, lba := lba, count := 16, use := .background i p, flock := o.flock, stripe := s, pos := p, blk := 0, lane := lane.1, gated := lane.2,
            cls := costClass 1 16, paddock := c.stripePaddock o.flock s, fold := f.foldOf s, source := 2,
            data := (List.range 16).map (fun b => strips.getD (p * 16 + b) []) }) c
    | _, _ => c

/-- Put the stripe in hand aside until its pen resolves (R261). -/
def Chip.setAside (c : Chip) (i : Nat) : Chip :=
  c.updBg i (fun o => match o.cur with
    | some s => { o with cur := none, phase := 0, aside := addNew s o.aside, pos := if o.kind = 2 then o.pos + 1 else max o.pos (s + 1) }
    | none => o)

/-- Blocks of a rebuild, resync or copy-back are settled and written. -/
def Chip.settleStrips (c : Chip) (i : Nat) (o : BgOp) (f : Flock) (s : Nat) : Chip :=
  let outs := (List.range 16).foldl (fun (acc : Tab Bytes × Tab Bytes × Chip) b =>
    let r := acc.2.2.settleBlock o f s b
    let c := r.1.lost.foldl (fun c p => c.bgLost o f s p b) r.2
    (r.1.strips.foldl (fun (t : Tab Bytes) x => t.put (x.1 * 16 + b) x.2) acc.1, r.1.repair.foldl (fun (t : Tab Bytes) x => t.put (x.1 * 16 + b) x.2) acc.2.1, c)) ([], [], c)
  let c := outs.2.2
  let c := if outs.2.1.isEmpty then c else (c.openRepair o.flock s outs.2.1 (some i)).cntBg 7 outs.2.1.length
  c.bgWrite i outs.1

/-- Blocks of a scrubbed stripe are settled (R269): data that fails is recovered under R234, P and Q are compared, differing parity is rewritten in mode 1. -/
def Chip.settleScrub (c : Chip) (i : Nat) (o : BgOp) (f : Flock) (s : Nat) : Chip :=
  let whole := decide (f.missing s = [])
  let outs := (List.range 16).foldl (fun (acc : Tab Bytes × Chip) b =>
    let bad := (o.badAt b).filter (fun p => decide (p < f.w))
    let r := acc.2.settleBlock o f s b
    let c := r.1.lost.foldl (fun c p => c.bgLost o f s p b) r.2
    let have_ := o.haveAt b
    let c := ((List.range f.w).filter (fun p => have_.get? p = some lostMarker && !c.isLost o.flock s p b)).foldl (fun c p => c.loseBlock 4 o.flock s p b []) c
    let c := c.unlist (fun x => x.flock = o.flock && x.stripe = s && x.blk = b && decide (x.pos < f.w) &&
      (match have_.get? x.pos with
      | some y => decide (y ≠ lostMarker)
      | none => false))
    let data := (List.range f.w).foldl (fun (t : Tab Bytes) p => match (have_.get? p).orElse (fun _ => r.1.repair.get? p) with
      | some x => t.put p x
      | none => t) []
    let compare := whole && data.length = f.w && r.1.lost.isEmpty
    let p := parityP f.w data
    let q := parityQ f.w data
    let pBad := compare && decide (have_.get? f.w ≠ some p)
    let qBad := compare && decide (have_.get? (f.w + 1) ≠ some q)
    let fixData := if c.flag STRIPE_CTL_repair_en then r.1.repair.keep (fun x _ => decide (x < f.w)) else []
    let fixPar := if o.mode = 1 || !r.1.lost.isEmpty then (if r.1.lost.isEmpty then
        (if pBad then [(f.w, p)] else []) ++ (if qBad then [(f.w + 1, q)] else []) else r.1.repair.keep (fun x _ => decide (f.w ≤ x))) else []
    let c := if pBad || qBad || bad ≠ [] then
        let detail := b2n pBad + 2 * b2n qBad + 4 * b2n (decide (bad ≠ [])) + 8 * b2n (!(fixData.isEmpty && List.isEmpty fixPar))
        let c := (c.bgError o (resultRec 3 4 o.flock 0 b detail s (s / f.spa) 0 c.now)).raiseLtd 0x40D o.flock second
        let c := if pBad || qBad then c.cntBg 5 else c
        (if fixPar ≠ [] then c.cntBg 6 else c).cntBg 7 fixData.length
      else c
    ((fixData ++ fixPar).foldl (fun (t : Tab Bytes) x => t.put (x.1 * 16 + b) x.2) acc.1, c)) ([], c)
  let c := if outs.1.isEmpty then outs.2 else outs.2.openRepair o.flock s outs.1 (some i)
  let c := if whole then c else c.cntBg 4
  c.updBg i (fun o => { o with phase := 1, writes := [] })

/-- Re-encrypt the stripe in hand (R274): its data under the current generation, committed as a full-stripe entry in place. A block that cannot be read or opened keeps its
ciphertext, or the lost marker. -/
def Chip.settleReenc (c : Chip) (i : Nat) (o : BgOp) (f : Flock) (s : Nat) : Chip :=
  let outs := (List.range 16).foldl (fun (acc : Tab Bytes × Chip) b =>
    let r := acc.2.settleBlock o f s b
    let c := r.1.lost.foldl (fun c p => c.bgLost o f s p b) r.2
    let have_ := o.haveAt b
    let data := (List.range f.w).foldl (fun (u : Tab Bytes × Chip) p =>
      let ct := (have_.get? p).getD ((r.1.repair.get? p).getD ((r.1.strips.get? p).getD ((recoverPos f.w have_ p false).getD lostMarker)))
      let op := u.2.openAt o.flock s p b ct none 0
      match op.1 with
      | .good x =>
        let at_ := f.unplace s p b
        let e := op.2.encryptBlock (op.2.stripePaddock o.flock s) o.flock at_.1 at_.2 x
        (u.1.put p e.1, e.2.2.widenAcre o.flock at_.1 e.2.1)
      | _ => (u.1.put p ct, op.2)) ([], c)
    let all := (data.1.put f.w (parityP f.w data.1)).put (f.w + 1) (parityQ f.w data.1)
    (all.foldl (fun (t : Tab Bytes) x => if f.canWrite s x.1 then t.put (x.1 * 16 + b) x.2 else t) acc.1, data.2)) ([], c)
  let e : JEntry := { entry0 with
    kind := 1, flock := o.flock, stripe := s, fold := (f.foldOf s).getD 0, lo := 0, hi := 15, openedNs := c.now, staged := outs.1,
    written := maskOf (outs.1.keys.map (· / 16)), absent := maskOf (f.missing s) }
  let r := outs.2.addEntry e
  (r.2.journal r.1).updBg i (fun o => { o with phase := 1, writes := [], goals := [r.1] })

/-- Everything asked for has been read: read what is still missing, set the stripe aside for a pen, or settle it. -/
def Chip.bgGathered (c : Chip) (i : Nat) : Chip :=
  match c.stripes.bg.get? i with
  | none => c
  | some o =>
    match c.flock? o.flock, o.cur with
    | some f, some s =>
      if o.phase ≠ 0 || o.owed ≠ [] || o.singles ≠ [] then c
      else
        let more := ((List.range 16).flatMap (o.moreAt f s)).eraseDups
        if more ≠ [] then c.bgReadStrips i more
        else
          let stuck := (List.range 16).any (fun b => decide (2 < (o.unknownAt f s b).length) && o.penned.any (fun k => k % 16 = b))
          if stuck && !o.again then c.setAside i
          else if o.kind = 4 then c.settleScrub i o f s
          else if o.kind = 5 then c.settleReenc i o f s
          else c.settleStrips i o f s
    | _, _ => c

/-- A strip or block of the stripe in hand arrived, or failed. A strip with a media error is read again block by block (R261). -/
def Chip.bgArrived (c : Chip) (d : DrvCmd) (i pos : Nat) (data : Option (List Bytes)) : Chip :=
  match c.stripes.bg.get? i with
  | none => c
  | some o =>
    match c.flock? o.flock with
    | none => c
    | some f =>
      if o.cur ≠ some d.stripe || o.phase ≠ 0 then c
      else
        let whole := d.count = 16
        let o := if whole then { o with owed := o.owed.erase pos } else { o with singles := o.singles.erase (pos * 16 + d.blk) }
        match data with
        | some bs =>
          let r := (List.range d.count).foldl (fun (acc : BgOp × Chip) k =>
            let b := if whole then k else d.blk
            let x := bs.getD k (zeros memberBlock)
            let direct := o.kind = 3 && o.goals.contains pos
            if f.w ≤ pos || direct then ({ acc.1 with have_ := acc.1.have_.put (pos * 16 + b) x }, acc.2)
            else
              let v := acc.2.openAt o.flock d.stripe pos b x none d.slot
              match v.1 with
              | .bad => ({ acc.1 with bad := addNew (pos * 16 + b) acc.1.bad }, v.2)
              | .good _ => ({ acc.1 with have_ := acc.1.have_.put (pos * 16 + b) x },
                v.2.unlist (fun y => o.kind ≠ 4 && y.flock = o.flock && y.stripe = d.stripe && y.pos = pos && y.blk = b))
              | .lost => ({ acc.1 with have_ := acc.1.have_.put (pos * 16 + b) x }, v.2)) (o, c)
          ({ r.2 with stripes := { r.2.stripes with bg := r.2.stripes.bg.put i r.1 } } : Chip).bgGathered i
        | none =>
          if whole then
            let keys := (List.range 16).map (fun b => pos * 16 + b)
            let o := { o with singles := o.singles ++ keys }
            let c := { c with stripes := { c.stripes with bg := c.stripes.bg.put i o } }
            keys.foldl (fun c k => c.bgRead i o f d.stripe pos (some (k % 16))) c
          else
            let o := { o with bad := addNew (pos * 16 + d.blk) o.bad }
            ({ c with stripes := { c.stripes with bg := c.stripes.bg.put i o } } : Chip).bgGathered i

/-- A read of the stripe in hand timed out and is penned, or cannot be made any more. -/
def Chip.bgMissed (c : Chip) (d : DrvCmd) (i pos : Nat) (pen : Bool) : Chip :=
  match c.stripes.bg.get? i with
  | none => c
  | some o =>
    if o.cur ≠ some d.stripe || o.phase ≠ 0 then c
    else
      let keys := if d.count = 16 then (List.range 16).map (fun b => pos * 16 + b) else [pos * 16 + d.blk]
      let o := { o with owed := if d.count = 16 then o.owed.erase pos else o.owed, singles := o.singles.filter (fun k => !keys.contains k) }
      let o := if pen then { o with penned := keys.foldl (fun l k => addNew k l) o.penned } else o
      ({ c with stripes := { c.stripes with bg := c.stripes.bg.put i o } } : Chip).bgGathered i

/-! ### Passing a stripe, and the end (R258, R264, R267) -/

/-- After a stripe: the next fence when 256 stripes are done. -/
def Chip.passed (c : Chip) (i units : Nat) : Chip :=
  match c.stripes.bg.get? i with
  | none => c
  | some o =>
    let next := match o.cur with
      | some s => if o.kind = 2 then o.pos + 1 else if o.again then o.pos else s + 1
      | none => o.pos
    let c := (c.loProgress o.slot units 0 (some o.step)).updBg i (fun o => { o with
      pos := next, cur := none, phase := 0, have_ := [], bad := [], penned := [], goals := [], again := false, sinceFence := o.sinceFence + 1 })
    if 256 ≤ o.sinceFence + 1 then c.fence i else c

/-- The operation by its slot of long operations, when its stripe in hand is written. -/
def Chip.bgReady (c : Chip) (slot kind : Nat) : Option (Nat × BgOp × Nat) :=
  match c.stripes.bg.first? (fun _ o => o.slot = slot && o.kind = kind) with
  | some (i, o) => if o.phase = 1 && o.writes = [] then o.cur.map (fun s => (i, o, s)) else none
  | none => none

/-- REBUILD_STRIPE_DONE (R259): the rebuild has passed the stripe for R226. -/
def rebuildStripeDone (slot : Nat) (c : Chip) : Chip :=
  match c.bgReady slot 1 with
  | none => c
  | some (i, o, s) =>
    let c := c.updFlock o.flock (fun f => { f with placed := o.goals.foldl (fun l p => if l.contains (s, p) then l else l ++ [(s, p)]) f.placed })
    (c.cntBg 0 o.goals.length).passed i o.goals.length

/-- RESYNC_STRIPE_DONE (R256). -/
def resyncStripeDone (slot : Nat) (c : Chip) : Chip :=
  match c.bgReady slot 2 with
  | none => c
  | some (i, _, _) => (c.cntBg 1).passed i 1

/-- COPYBACK_STRIPE_DONE (R267): the stripe is read and written at the new member from now on. -/
def copybackStripeDone (slot : Nat) (c : Chip) : Chip :=
  match c.bgReady slot 3 with
  | none => c
  | some (i, o, s) =>
    let c := c.updFlock o.flock (fun f => { f with home := o.goals.foldl (fun l p => if l.contains (s, p) then l else l ++ [(s, p)]) f.home })
    (c.cntBg 2 o.goals.length).passed i o.goals.length

/-- SCRUB_STRIPE_DONE (R269). -/
def scrubStripeDone (slot : Nat) (c : Chip) : Chip :=
  match c.bgReady slot 4 with
  | none => c
  | some (i, _, _) => (c.cntBg 3).passed i 1

/-- The operation ends: state 4, or 5 with errors. -/
def Chip.endBg (c : Chip) (i : Nat) (o : BgOp) : Chip :=
  let errs := loErrs (c.lo o.slot)
  ((c.dropBg i).loEnd o.slot (if errs = 0 then 4 else 5) 0)

/-- The rebuild of a flock ends (R257, R258): lost rows are recorded, members whose every strip stands at its target are marked, labels rewritten. -/
def Chip.endRebuild (c : Chip) (i : Nat) (o : BgOp) (f : Flock) : Chip :=
  let failedRows := (List.range f.l).filter (fun r => decide (2 < ((List.range (f.w + 2)).filter (fun p => f.absent.contains (f.member r p) && !f.relocs.has (r * 32 + p))).length) ||
    decide (2 < ((f.rows.getD r []).filter (fun m => f.absent.contains m && !f.rebuilt.contains m)).length))
  let c := failedRows.foldl (fun (c : Chip) r => (c.bgError o (resultRec 2 1 o.flock 0 0 0 r 0 0 c.now)).cntBg 9) c
  let all := fun (m : Nat) => f.relocs.any (fun e => f.member (e.1 / 32) (e.1 % 32) = m) &&
    (List.range f.l).all (fun r => (List.range (f.w + 2)).all (fun p => f.member r p ≠ m || f.relocs.has (r * 32 + p))) &&
    f.acres.keys.all (fun pa => (List.range f.spa).all (fun t =>
      let s := pa * f.spa + t
      (List.range (f.w + 2)).all (fun p => f.member (f.row s) p ≠ m || (f.readAt s p).isSome || !c.visits f s)))
  let c := (c.updFlock o.flock (fun f => { f with rebuilt := f.absent.filter all })).updBg i (fun o => { o with step := 3 })
  let c := ((c.loProgress o.slot 0 0 (some 3)).writeLabels o.flock).showFlock o.flock
  let c := c.raise (if loErrs (c.lo o.slot) = 0 then 0x402 else 0x403)
  (c.raiseIf f.stranded 0x407).endBg i o

/-- The copy-back ends (R267): relocations of the member are cleared, labels rewritten, the member is present. -/
def Chip.endCopyback (c : Chip) (i : Nat) (o : BgOp) : Chip :=
  let marked := (c.flock? o.flock).any (fun f => f.stale.has o.member)
  let c := c.updFlock o.flock (fun f =>
    let mine := fun (k : Nat) => f.member (k / 32) (k % 32) = o.member
    { f with
      relocs := f.relocs.keep (fun k _ => !mine k)
      placed := f.placed.filter (fun x => f.member (f.row x.1) x.2 ≠ o.member)
      home := f.home.filter (fun x => f.member (f.row x.1) x.2 ≠ o.member)
      absent := f.absent.filter (· ≠ o.member)
      failed := f.failed.filter (· ≠ o.member)
      rebuilt := f.rebuilt.filter (· ≠ o.member)
      stale := f.stale.del o.member
      sinceNs := f.sinceNs.del o.member
      rdErrs := f.rdErrs.del o.member })
  let c := if marked then c.record .maps else c
  ((((c.writeLabels o.flock).showFlock o.flock).showBg).raise 0x409).endBg i o

/-- Let an operation without a stripe in hand take its next one, or end. A stripe that an entry or another operation holds is waited for. -/
def Chip.bgNext (c : Chip) (i : Nat) : Chip :=
  match c.stripes.bg.get? i with
  | none => c
  | some o =>
    match c.flock? o.flock with
    | none => c.dropBg i
    | some f =>
      if o.cur.isSome || !c.bgRuns o || 4 < o.kind || c.paced o then c
      else if o.kind = 2 then
        let left := (f.stale.getD o.member []).filter (fun r => match c.nextStale f o.member o.pos with
          | some (k, _, _) => decide (k / 1024 ≤ r)
          | none => false)
        let c := (c.updFlock o.flock (fun f => { f with stale := if left.isEmpty then f.stale.del o.member else f.stale.put o.member left })).showBg
        let c := if left.isEmpty && f.stale.has o.member then c.record .maps else c
        match c.nextStale f o.member o.pos with
        | some (k, s, p) =>
          if c.stripeHeld o.flock s (some i) || decide (2 < (f.missing s).length) then c
          else (c.loProgress o.slot (k - o.pos) 0).takeStripe i { o with pos := k } f s [p] false
        | none => if o.aside = [] then (c.raise 0x40B).endBg i o else c
      else
        match c.nextStripe o f o.pos with
        | some s =>
          if c.stripeHeld o.flock s (some i) then c
          else c.takeStripe i o f s (if o.kind = 4 then [] else o.goalsAt f s) false
        | none =>
          if o.aside ≠ [] then c
          else if o.kind = 1 && (o.step = 1 || o.mode = 1) then
            if o.mode = 1 then ((c.updBg i (fun o => { o with step := 1, pos := 0, mode := 0 })).fence i).raise 0x401
            else (c.updBg i (fun o => { o with step := 2, pos := 0 })).fence i
          else if o.kind = 1 then c.endRebuild i o f
          else if o.kind = 3 then c.endCopyback i o
          else (c.raise 0x40E).endBg i o

/-- Begin step 1 of a rebuild again at the fence after a further failure (R258). -/
def Chip.reclass (c : Chip) (i : Nat) : Chip :=
  match c.stripes.bg.get? i with
  | some o => if o.kind = 1 && o.mode = 1 && o.cur.isNone && c.bgRuns o then ((c.updBg i (fun o => { o with step := 1, pos := 0, mode := 0 })).fence i).raise 0x401 else c
  | none => c

/-- Drop operations whose long operation has ended (cancelled), let the others go on. One that is paused or queued stands at a fence while no stripe of it is under way, so that a cancellation ends it
(R431). -/
def Chip.settleBg (c : Chip) : Chip :=
  let c := c.stripes.bg.foldl (fun (c : Chip) x => if x.2.cur.isNone && !c.bgRuns x.2 then c.loFence x.2.slot else c) c
  let ended := c.stripes.bg.keep (fun _ o => finished (loState (c.lo o.slot)) || loState (c.lo o.slot) = 0)
  let c := ended.foldl (fun c x => c.dropBg x.1) c
  let c := c.settleQueue
  let c := c.stripes.bg.foldl (fun (c : Chip) x => ((((c.reclass x.1).bgNext x.1).bgNext x.1).bgNext x.1).bgGathered x.1) c
  c.showOps

/-- FENCE_TIMER (R264): 1 s since the last fence. -/
def fenceTimer (slot : Nat) (c : Chip) : Chip :=
  match c.stripes.bg.first? (fun _ o => o.slot = slot) with
  | some (i, o) => if c.bgRuns o then c.fence i else c
  | none => c

/-- PEN_RESOLVED_REVISIT (R261): the first stripe set aside is visited again once no command of it is penned. -/
def penResolvedRevisit (slot : Nat) (c : Chip) : Chip :=
  match c.stripes.bg.first? (fun _ o => o.slot = slot) with
  | none => c
  | some (i, o) =>
    match c.flock? o.flock, o.aside with
    | some f, s :: rest =>
      let pens := c.stripes.drv.any (fun d => d.2.flock = o.flock && d.2.stripe = s && (d.2.pen = 1 || d.2.pen = 2))
      if pens || o.cur.isSome || !c.bgRuns o || c.stripeHeld o.flock s (some i) then c
      else
        let goals := if o.kind = 4 then [] else o.goalsAt f s
        c.takeStripe i { o with aside := rest } f s goals true
    | _, _ => c

/-! ### Commands (R253) -/

def flockRefusals (c : Chip) (n : Nat) : List (Option (Nat × Nat)) := [refuseIf (decide (4 ≤ n)) 0x0102 32, refuseIf (c.flock? n).isNone 0x0201]

/-- REBUILD_START (0x0410). -/
def rebuildStart (h : Hdr) (flock : Nat) : Chip → Chip :=
  runCommand ⟨0x0410, false, .l, paramBytes [1]⟩ h [] (fun c =>
    Res.guard c (flockRefusals c flock)
      (fun c => match c.flock? flock with
        | none => Res.no c 0x0201
        | some f => longAccept c h 0x0410 (c.bgTotal 1 f 0) [flock, 0, 0] (fun i c => c.beginBg 1 flock 0 0 0 i)))

/-- COPYBACK_START (0x0411): the drive of a slot becomes the replacement of a failed member. -/
def copybackStart (h : Hdr) (flock member slot : Nat) : Chip → Chip :=
  runCommand ⟨0x0411, false, .l, paramBytes [1, 1, 1]⟩ h [] (fun c =>
    let f := c.flock? flock
    Res.guard c (flockRefusals c flock ++ [refuseIf (f.any (fun f => decide (f.n ≤ member))) 0x0102 33, slotRefusal c slot 34, refuseIf (decide (32 ≤ slot)) 0x0102 34,
        refuseIf (f.any (fun f => !f.failed.contains member)) 0x0300,
        refuseIf (c.stripes.flocks.any (fun x => (List.range x.2.n).any (fun m => x.2.slots.getD m 0xFF = slot && !(x.1 = flock && m = member)))) 0x0203])
      (fun c => match f with
        | none => Res.no c 0x0201
        | some f => longAccept c h 0x0411 (c.bgTotal 3 f member) [flock, member, slot] (fun i c =>
            let c := c.updFlock flock (fun f => { f with slots := f.slots.set member slot })
            ((c.adminSend slot 3 0).showFlock flock).beginBg 3 flock member 0 0 i)))

/-- SCRUB_START (0x0412): one scrub per flock (R278). -/
def scrubStart (h : Hdr) (flock mode first : Nat) : Chip → Chip :=
  runCommand ⟨0x0412, false, .l, paramBytes [1, 1, 8]⟩ h [] (fun c =>
    Res.guard c (flockRefusals c flock ++ [refuseIf (decide (2 ≤ mode)) 0x0102 33, refuseIf (c.stripes.bg.any (fun x => x.2.kind = 4 && x.2.flock = flock)) 0x0205])
      (fun c => match c.flock? flock with
        | none => Res.no c 0x0201
        | some f => longAccept c h 0x0412 (c.bgTotal 4 f 0) [flock, mode, first] (fun i c => c.beginBg 4 flock 0 first mode i)))

/-- SCRUB_PERIOD_EXPIRY (R268): period_days after the last scrub of the flock began. -/
def scrubPeriodExpiry (flock : Nat) (c : Chip) : Chip :=
  if c.get STRIPE_SCRUB_CFG_period_days = 0 || c.stripes.bg.any (fun x => x.2.kind = 4 && x.2.flock = flock) then c
  else c.autoBg 4 flock 0 (c.get STRIPE_SCRUB_CFG_mode)

end Sys2Proof.Machine
end

