-- ==== Sys2Proof/Machine/Members.lean ====
section
/-!
DEFINITION. Completions of drive commands, and commands that ended without one: what they mean for host reads, reconstructions, journal entries and background operations
(R180, R181, R234, R245, R246, R261, R510); members that failed (R255); a drive's link reaching L0 (R317, R318, R256, R267).
-/

namespace Sys2Proof.Machine

/-! ### Reads -/

/-- A reconstruction's block arrived, or cannot be read. -/
def Chip.reconBlock (c : Chip) (id_ pos : Nat) (data : Option Bytes) : Chip :=
  match c.stripes.recons.get? id_ with
  | none => c
  | some r =>
    let r := { r with owed := r.owed.erase pos }
    let r := match data with
      | some b => { r with have_ := r.have_.put pos b }
      | none => { r with bad := addNew pos r.bad }
    ({ c with stripes := { c.stripes with recons := c.stripes.recons.put id_ r } } : Chip).reconGo id_

/-- A read command came back with its blocks, or with a media error. -/
def Chip.readBack (c : Chip) (d : DrvCmd) (data : Option (List Bytes)) : Chip :=
  let one := data.map (fun bs => bs.getD 0 (zeros memberBlock))
  match d.use with
  | .host k b => (match one with
    | some x => c.hostBlock d k b x
    | none => c.startRecon (.host k b) d.flock d.stripe d.blk d.pos true)
  | .recon i p => c.reconBlock i p one
  | .entryRead e k => c.entryBlock d e k one
  | .background i p => c.bgArrived d i p data
  | .prefetch v l => c.prefetched d v l one
  | .entryWrite _ _ => c
  | .admin _ => c

/-- What a drive read brings crosses the switch: a host read's data to its cipher island in C5 and on to its DROVE island in the host class (R51, step 4), a block read ahead to its CACHE
island (R196), what entries, reconstructions and operations read to their stripe's island. -/
def Chip.crossBack (c : Chip) (d : DrvCmd) : Chip :=
  match d.use with
  | .host key _ => (match c.intake.cmds.get? key with
    | some k => (c.cross (drvId d.slot) (ciphId none) 5).cross (ciphId none) (if k.fwd.isSome then partId else droveId k.ctx) (c.hostCls k.ctx k.low)
    | none => c.cross (drvId d.slot) (ciphId none) 5)
  | .prefetch v lba => (c.cross (drvId d.slot) (ciphId none) (c.drvClass d)).cross (ciphId none) (cacheId (c.stackOf v lba)) (c.drvClass d)
  | _ => c.cross (drvId d.slot) (strpId (c.strpOf d.stripe)) (c.drvClass d)

/-- DRIVE_READ_COMPLETE (R234): a member read ended, with its blocks or with a media error. A read that timed out has its own commands. -/
def driveReadComplete (slot cid : Nat) (ok : Bool) (blocks : List Bytes) (c : Chip) : Chip :=
  match c.tagOf slot cid with
  | none => c
  | some (n, d) =>
    if d.pen ≠ 0 || d.kind ≠ 0 then c
    else
      let c := (((c.learnEst d).dropDrv n).cntStripe 4).crossBack d
      let c := if ok then c else c.readError slot
      c.readBack d (if ok then some blocks else none)

/-! ### Writes -/

/-- A background operation's write ended: done, an error once more and then the member's failure, or a reservation conflict. -/
def Chip.bgWritten (c : Chip) (d : DrvCmd) (i pos outcome : Nat) : Chip :=
  if outcome = 0 then c.updBg i (fun o => { o with writes := o.writes.erase pos })
  else if outcome = 2 then c.writeConflict d.slot
  else
    let c := c.cntStripe 14
    if d.tries = 0 then (c.raise 0x388).laneIn { d with tries := 1 }
    else ((c.raise 0x389).updBg i (fun o => { o with writes := o.writes.erase pos, goals := o.goals.erase pos })).driveFails d.slot

/-- A member write ended (R246, R510). -/
def Chip.writeBack (c : Chip) (d : DrvCmd) (outcome : Nat) : Chip :=
  match d.use with
  | .entryWrite e p => if outcome = 0 then c.writeDone e p else if outcome = 2 then c.writeConflict d.slot else c.writeError d e p
  | .background i p => c.bgWritten d i p outcome
  | .host _ _ => c
  | .recon _ _ => c
  | .entryRead _ _ => c
  | .prefetch _ _ => c
  | .admin _ => c

/-- MEMBER_WRITE_COMPLETE (R238, R246): the completion crosses to the stripe's island in C0 (R50, step 11); 0 success, 1 error, 2 Reservation Conflict. -/
def memberWriteComplete (slot cid outcome : Nat) (c : Chip) : Chip :=
  match c.tagOf slot cid with
  | none => c
  | some (n, d) =>
    if d.pen ≠ 0 || d.kind ≠ 1 then c
    else ((((c.learnEst d).dropDrv n).cntStripe 3).cross (drvId d.slot) (strpId (c.strpOf d.stripe)) 0).writeBack d outcome

/-! ### Commands that ended without a completion -/

/-- A command is submitted again as it was (R181, R246); an entry's position is no longer unknown. -/
def Chip.submitAgain (c : Chip) (d : DrvCmd) : Chip :=
  match d.use with
  | .entryWrite e p => if c.stripes.entries.has e then (c.updEntry e (fun e => { e with unknown := setBit e.unknown p false })).laneIn d else c
  | _ => c.laneIn d

/-- What follows a command that ended without a completion. -/
def Chip.settleEnd (c : Chip) (d : DrvCmd) (how : DrvEnd) : Chip :=
  match how with
  | .again => c.submitAgain d
  | .late n => c.writeBack d n
  | .timedOut =>
    (match d.use with
    | .host k b => c.startRecon (.host k b) d.flock d.stripe d.blk d.pos false
    | .recon i p => c.reconBlock i p none
    | .entryRead e k => c.entryBlock d e k none
    | .entryWrite e p => (c.raise 0x38A).updEntry e (fun e => { e with unknown := setBit e.unknown p true })
    | .background i p => if d.kind = 0 then c.bgMissed d i p true else c
    | .prefetch v l => if d.stale then c else c.dropFill v l
    | .admin k => if d.kind = 2 then c.adminEnded d.slot k false else c)
  | .gone =>
    (match d.use with
    | .host k b => c.startRecon (.host k b) d.flock d.stripe d.blk d.pos false
    | .recon i p => c.reconBlock i p none
    | .entryRead e k => c.entryBlock d e k none
    | .entryWrite e p => c.writeGone e p
    | .prefetch v l => if d.stale then c else c.dropFill v l
    | .background i p =>
      if d.kind = 0 then c.bgMissed d i p false else c.updBg i (fun o => { o with writes := o.writes.erase p, goals := o.goals.erase p })
    | .admin _ => c)

/-- Settle the commands that ended so, those included that their settling brings. -/
def settleFell : Nat → Chip → Chip
  | 0, c => c
  | n + 1, c =>
    match c.stripes.fell with
    | [] => c
    | (d, how) :: rest => settleFell n (({ c with stripes := { c.stripes with fell := rest } } : Chip).settleEnd d how)

/-- Members that failed: their flocks' rebuilds start or are extended (R255). -/
def Chip.settleFailed (c : Chip) : Chip :=
  let ns := c.stripes.newFailed
  ns.foldl (fun c x => c.rebuildFor x.1) { c with stripes := { c.stripes with newFailed := [] } }

/-- All that the stripes have to settle at the end of a command. -/
def Chip.settleStripes (c : Chip) : Chip :=
  let c := (settleFell 4096 c).settleFailed
  let c := (c.startRepairs).submitReplays
  (c.settleBg).retryOffers

/-! ### A drive comes up -/

/-- A member that is present again (R256): its relocations are not needed any more; its stale regions are resynced. -/
def Chip.memberReturns (c : Chip) (n m : Nat) : Chip :=
  let c := c.updFlock n (fun f =>
    let mine := fun (k : Nat) => f.member (k / 32) (k % 32) = m
    { f with
      absent := f.absent.filter (· ≠ m)
      rebuilt := f.rebuilt.filter (· ≠ m)
      sinceNs := f.sinceNs.del m
      relocs := f.relocs.keep (fun k _ => !mine k)
      placed := f.placed.filter (fun x => f.member (f.row x.1) x.2 ≠ m) })
  let c := ((c.writeLabels n).showFlock n).showBg
  if (c.flock? n).any (fun f => f.stale.has m) then c.autoBg 2 n m 0 else c

/-- DRIVE_LINK_UP (R317, R318): the generation and width codes of the link, whether the drive meets R222 and R318, its controller identifier, and what its label says: 0 none, 1 this
flock and member with a label no older than the last written, 2 this flock and member but older, 3 another flock or member. -/
def driveLinkUp (slot gen width : Nat) (fit : Bool) (cntlid label : Nat) (c : Chip) : Chip :=
  let off := bits c.flash.rules.drvOff (2 * slot + 1) (2 * slot)
  if !c.slotOk slot || c.flag DRV_LINK_STAT_up slot || !c.powered slot || off = 3 || (off ≠ 0 && !c.flag DRV_LINK_CFG_x1_ok slot) then c
  else
    let width := if off = 0 then width else 1
    let c := ((c.set DRV_LINK_STAT_up 1 slot).set DRV_LINK_STAT_gen gen slot).set DRV_LINK_STAT_width width slot
    let c := c.updRun slot (fun r => { r with linkDownAt := none, trainFails := 0 })
    let c := if gen < 2 || width < 2 then c.slotShared slot 0x591 else c
    if !fit then (((c.set DRV_NVME_STAT_req_ok 0 slot).slotShared slot 0x595)).showLed slot
    else
      let c := ((c.set DRV_NVME_STAT_req_ok 1 slot).set DRV_NVME_STAT_cntlid cntlid slot).set DRV_NVME_STAT_shn 0 slot
      let up := fun (c : Chip) => ((c.set DRV_NVME_STAT_ready 1 slot).set DRV_NVME_STAT_ioq 8 slot).updRun slot (fun r => { r with failed := false, quiesced := false })
      let reg := fun (c : Chip) => if isVault slot then c else c.adminSend slot 1 1
      let c := match c.memberOf slot with
        | none => reg (up c)
        | some (n, m) =>
          match c.flock? n with
          | none => reg (up c)
          | some f =>
            if !f.absent.contains m then reg (up c)
            else if label = 3 then c.raise 0x416
            else if f.failed.contains m then
              let c := reg (up c)
              let c := if label = 0 then c else c.adminSend slot 3 0
              if c.flag STRIPE_RB_CFG_copyback_auto then c.autoBg 3 n m 0 else c
            else if label = 1 then (reg (up c)).memberReturns n m
            else reg (up c)
      c.showLed slot

end Sys2Proof.Machine
end

