-- ==== Sys2Proof/Machine/Shear.lean ====
section
/-!
DEFINITION. Shearing (R270 to R272, R274), the freeing of acres (R271), detach (R275), and the retirement of key generations (R362).
-/

namespace Sys2Proof.Machine

/-! ### Acres removed from the map (R271) -/

/-- Does an entry of the map name a physical acre? -/
def Chip.acreMapped (c : Chip) (flock pa : Nat) : Bool := c.allEntries.any (fun x => !x.zero && x.flock = flock && decide (x.pbase ≤ pa) && decide (pa < x.pbase + 2 ^ x.k))

/-- Mark the physical acre of an entry's acre address as removed from the map, unless another entry still names it. -/
def Chip.dropAcre (c : Chip) (e : Entry) (a : Nat) : Chip :=
  if e.zero || c.acreMapped e.flock (e.acre a) then c
  else
    let seqs := c.vols.foldl (fun (t : Tab Nat) v => if v.2.lineage = e.lineage then t.put v.1 v.2.nextSeq else t) []
    let gone : AcreGone := ⟨c.intake.order, c.stripes.drvId, seqs⟩
    c.updFlock e.flock (fun f => { f with acres := f.acres.upd (e.acre a) (fun r => { r with removed := some gone }) })

/-- The acre records of an entry's acres name its lineage. -/
def Chip.nameAcres (c : Chip) (e : Entry) : Chip :=
  if e.zero then c
  else c.updFlock e.flock (fun f => { f with acres := f.acres.mapVals (fun pa (r : AcreRec) => if decide (e.pbase ≤ pa) && decide (pa < e.pbase + 2 ^ e.k) then { r with lineage := e.lineage } else r) })

/-- Remove an entry and all its acres. -/
def Chip.dropEntry (c : Chip) (e : Entry) (fold paddock volume adm : Nat) : Chip :=
  (List.range (2 ^ e.k)).foldl (fun c i => c.dropAcre e (e.start + i)) (c.mapRemove e fold paddock volume adm)

/-- May a removed acre become free: every host and drive command of that moment has ended, and no version admitted before it remains? -/
def Chip.mayFree (c : Chip) (r : AcreRec) (g : AcreGone) : Bool :=
  c.intake.cmds.all (fun k => decide (g.order ≤ k.2.order)) && c.intake.held.all (fun k => decide (g.order ≤ k.2.order)) &&
    c.stripes.drv.all (fun d => decide (g.drvId ≤ d.1)) &&
    !c.lines.any (fun l => isVersion l.2.2 && (match g.seqs.get? l.2.2.volume with
      | some n => decide (l.2.2.seq < n)
      | none => false))

/-- ACRE_FREE (R271, R227): the acre is free; its group returns to unassigned with its last acre, its lost blocks leave the list. -/
def acreFree (flock pa : Nat) (c : Chip) : Chip :=
  match (c.flock? flock).bind (fun f => (f.acres.get? pa).map (fun r => (f, r))) with
  | none => c
  | some (f, r) =>
    match r.removed with
    | none => c
    | some g =>
      if !c.mayFree r g then c
      else
        let last := !(f.acres.any (fun a => a.1 / 1024 = pa / 1024 && a.1 ≠ pa))
        let c := c.updFlock flock (fun f => { f with acres := f.acres.del pa, groups := if last then f.groups.del (pa / 1024) else f.groups })
        let c := (c.sendDelta r.fold r.paddock 0 0 (.freed flock pa 1)).2
        let c := (c.unlist (fun x => x.flock = flock && x.acre = pa)).cntBg 13
        let c := if last then c.record (.flock flock) else c
        let c := match c.stripes.bg.first? (fun _ o => o.kind = 5) with
          | some (_, o) => (c.loResult o.slot (resultRec 4 5 flock 0 0 0 0 pa 1 c.now)).raise 0x411
          | none => c
        c.showFlock flock

/-! ### Which entries (R270) -/

/-- The fold that an entry belongs to: that of its acre's group, or for a zero entry that of a volume of its lineage. -/
def Chip.entryFold (c : Chip) (e : Entry) : Option Nat :=
  if e.zero then (c.vols.first? (fun _ v => v.lineage = e.lineage)).map (fun v => v.2.fold)
  else (c.flock? e.flock).bind (fun f => f.groups.get? (e.pbase / 1024))

def Chip.ownsEntry (c : Chip) (e : Entry) : Bool := (c.entryFold e).any (fun f => c.flag TWIN_FOLD_STAT_gate_open f)

/-- Live members of a lineage. -/
def Chip.membersOf (c : Chip) (lineage : Nat) : List Volume := c.vols.vals.filter (fun v => v.lineage = lineage)

/-- Is an acre of an entry needed: does some live member's lookup of it give this entry? -/
def Chip.acreNeeded (c : Chip) (e : Entry) (a : Nat) : Bool :=
  (c.membersOf e.lineage).any (fun v => (e.rank v v.epoch).isSome && c.entryOf v a = some e)

/-- Does R145 allow an entry of length k at a start: no shorter visible entry inside its range, but for some that are being replaced? -/
def Chip.extentAllowed (c : Chip) (e : Entry) (but : List Entry) : Bool :=
  match c.memberVol e.lineage e.owner with
  | none => true
  | some (_, v) => !c.allEntries.any (fun x => x.lineage = e.lineage && decide (x.k < e.k) && decide (e.start ≤ x.start) && decide (x.start < e.start + 2 ^ e.k) &&
      !but.contains x && (x.rank v v.epoch).isSome)

/-- The largest extents within an entry's range that cover its needed acres (R270, R145). -/
def Chip.coverNeeded (c : Chip) (e : Entry) : Nat → Nat → List Entry
  | 0, start => if c.acreNeeded e start then [{ e with k := 0, start := start, pbase := if e.zero then e.pbase else e.acre start }] else []
  | k + 1, start =>
    let x := { e with k := k + 1, start := start, pbase := if e.zero then e.pbase else e.acre start }
    if (List.range (2 ^ (k + 1))).all (fun i => c.acreNeeded e (start + i)) && c.extentAllowed x [e] then [x]
    else c.coverNeeded e k start ++ c.coverNeeded e k (start + 2 ^ k)

def Chip.entryPaddock (c : Chip) (e : Entry) : Nat := ((c.membersOf e.lineage).head?.map (·.paddock)).getD 0

/-- Step 1: a dead entry is removed, one with some acres not needed is replaced (R270). An entry that is gone, or whose fold this chip no longer owns (R150), is left. Answers whether the pass may go on:
it waits while a rehash makes room for a replacement (R148). -/
def Chip.shearEntry (c : Chip) (e : Entry) : Bool × Chip :=
  if !c.allEntries.contains e || !c.ownsEntry e then (true, c)
  else
    let needed := (List.range (2 ^ e.k)).filter (fun i => c.acreNeeded e (e.start + i))
    let fold := (c.entryFold e).getD 0
    let pad := c.entryPaddock e
    if needed = [] then (true, (c.dropEntry e fold pad 0 0).cntBg 10)
    else if needed.length = 2 ^ e.k then (true, c)
    else
      match Chip.insertAll fold pad 0 0 (c.coverNeeded e e.k e.start) c with
      | (some x, c) =>
        let r := c.insertFailed x
        (!r.1, r.2)
      | (none, c) =>
        let c := c.mapRemove e fold pad 0 0
        (true, ((List.range (2 ^ e.k)).foldl (fun (c : Chip) i => if needed.contains i then c else c.dropAcre e (e.start + i)) c).cntBg 11)

/-- May two entries merge (R272)? -/
def Chip.mayMerge (c : Chip) (a b : Entry) : Bool :=
  let cuts := (c.membersOf a.lineage).flatMap (fun v => (v.ancestry.filter (fun x => x.1 = a.owner)).map (·.2))
  let now_ := (c.memberVol a.lineage a.owner).map (fun v => v.2.epoch)
  decide (a.k < 20) && a.k = b.k && a.start % 2 ^ (a.k + 1) = 0 && b.start = a.start + 2 ^ a.k && a.lineage = b.lineage && a.owner = b.owner && a.flock = b.flock &&
    a.zero = b.zero && b.pbase = a.pbase + 2 ^ a.k && cuts.all (fun x => decide (a.birth ≤ x) == decide (b.birth ≤ x)) &&
    (match now_ with
    | some ep => (a.birth = ep && b.birth = ep) || (decide (a.birth < ep) && decide (b.birth < ep))
    | none => true)

/-- Step 2: merge an entry with its neighbour, and upward while it goes (R272). Answers whether the pass may go on. -/
def Chip.mergeUp : Nat → Chip → Entry → Bool × Chip
  | 0, c, _ => (true, c)
  | n + 1, c, e =>
    let all := c.allEntries
    if !all.contains e || !c.ownsEntry e then (true, c)
    else
      let pair := (all.find? (fun x => c.mayMerge e x)).map (fun x => (e, x)) |>.orElse (fun _ => (all.find? (fun x => c.mayMerge x e)).map (fun x => (x, e)))
      match pair with
      | none => (true, c)
      | some (a, b) =>
        let m := { a with k := a.k + 1, birth := max a.birth b.birth }
        let fold := (c.entryFold a).getD 0
        let pad := c.entryPaddock a
        if !c.extentAllowed m [a, b] then (true, c)
        else match c.mapInsert m fold pad 0 0 with
          | (none, c) =>
            let r := c.insertFailed m
            (!r.1, r.2)
          | (some _, c) => Chip.mergeUp n (((c.mapRemove a fold pad 0 0).mapRemove b fold pad 0 0).cntBg 12) m

/-- Steps 1 and 2 over the next entries, until one has to wait for room. Answers how many are done. -/
def Chip.shearRun (step : Nat) : List Entry → Chip → Nat × Chip
  | [], c => (0, c)
  | e :: es, c =>
    let r := if step = 1 then c.shearEntry e else if step = 2 then Chip.mergeUp 20 c e else (true, c)
    if !r.1 then (0, r.2)
    else
      let rest := Chip.shearRun step es r.2
      (rest.1 + 1, rest.2)

/-- Step 3: bits of filters and region masks whose count is 0 are cleared; a filter-only lineage whose regions all find room loses its flag (R272). -/
def Chip.recount (c : Chip) (lineage : Nat) : Chip :=
  let es := c.allEntries.filter (fun e => e.lineage = lineage)
  let vs := c.vols.filter (fun v => v.2.lineage = lineage)
  let fold := ((vs.head?).map (fun v => v.2.fold)).getD 0
  let pad := ((vs.head?).map (fun v => v.2.paddock)).getD 0
  let c := vs.foldl (fun (c : Chip) v =>
    let dead := maskOf ((List.range 21).filter (fun k => bit v.2.filter k && !es.any (fun e => e.k = k && (e.rank v.2 v.2.epoch).isSome)))
    if dead = 0 then c else ((c.filterBits lineage v.2.member dead false).sendDelta fold pad 0 0 (.bits lineage v.2.member none false dead)).2) c
  let mine := c.map.regions.vals.filter (fun x => x.1 = lineage)
  let c := mine.foldl (fun (c : Chip) x =>
    let dead := maskOf ((List.range 14).filter (fun k => bit x.2.2 k && !es.any (fun e => e.k = k && e.start / 16384 = x.2.1)))
    if dead = 0 then c
    else match c.rgnBits lineage x.2.1 dead false with
      | some c => (c.sendDelta fold pad 0 0 (.bits lineage 0xFF (some x.2.1) false dead)).2
      | none => c) c
  if !c.map.filterOnly.contains lineage then c
  else
    let regions := ((es.filter (fun e => decide (e.k ≤ 13))).map (fun e => e.start / 16384)).eraseDups
    let r := regions.foldl (fun (acc : Option Chip) g => acc.bind (fun c =>
      let mask := maskOf ((es.filter (fun e => decide (e.k ≤ 13) && e.start / 16384 = g)).map (·.k)).eraseDups
      (c.rgnBits lineage g mask true).map (fun c => (c.sendDelta fold pad 0 0 (.bits lineage 0xFF (some g) true mask)).2))) (some c)
    match r with
    | some c => ((c.setFilterOnly lineage false).sendDelta fold pad 0 0 (.filterOnly lineage false)).2
    | none => c

/-! ### The pass (R270, R274) -/

/-- The acres that step 4 re-encrypts: allocated, owned, with a superseded generation. -/
def Chip.staleGens (c : Chip) : List (Nat × Nat) :=
  c.stripes.flocks.flatMap (fun f => (f.2.acres.filter (fun a =>
    (match c.cipher.pads.get? a.2.paddock with
    | some k => decide (a.2.lowGen < k.gCur)
    | none => false) && c.flag TWIN_FOLD_STAT_gate_open a.2.fold)).map (fun a => (f.1, a.1)))

/-- The next step chosen at or after a step; 5 when none is left. -/
def nextShearStep (mask s : Nat) : Nat := (((List.range 5).filter (fun k => decide (s ≤ k) && decide (1 ≤ k) && bit mask (k - 1))).head?).getD 5

/-- A generation that no acre of its paddock holds any longer is reported (R274). -/
def Chip.reportGens (c : Chip) (slot : Nat) : Chip :=
  c.cipher.pads.foldl (fun (c : Chip) p =>
    let held := c.stripes.flocks.any (fun f => f.2.acres.any (fun a => a.2.paddock = p.1 && decide (a.2.lowGen ≤ p.2.gLo)))
    if p.2.unusedHere || p.2.gCur ≤ p.2.gLo || held then c
    else ((c.updPad p.1 (fun k => { k with unusedHere := true })).loResult slot (resultRec 5 5 0 0 0 0 0 0 p.2.gLo c.now)).raise 0x412) c

/-- Enter a step of the pass, or end it. -/
def Chip.enterShear (c : Chip) (i s : Nat) : Chip :=
  match c.stripes.bg.get? i with
  | none => c
  | some o =>
    if s = 5 then
      let c := c.reportGens o.slot
      ({ c with stripes := { c.stripes with shearNs := c.clk } } : Chip).raise 0x410 |>.endBg i o
    else
      let c := c.loProgress o.slot 0 0 (some s)
      if s = 4 then
        let l := c.staleGens
        (c.updBg i (fun o => { o with step := 4, acres := l, pos := 0 })).set LONGOP_TOTAL_total (loDone (c.lo o.slot) + l.length) o.slot
      else c.updBg i (fun o => { o with step := s, todo := c.allEntries.filter c.ownsEntry })

/-- SHEAR_START (0x0413): one shearing runs per chip (R254). -/
def shearStart (h : Hdr) (steps : Nat) : Chip → Chip :=
  runCommand ⟨0x0413, false, .l, paramBytes [1]⟩ h [] (fun c =>
    Res.guard c [refuseIf (decide (16 ≤ steps) || steps = 0) 0x0102 32, refuseIf (c.stripes.bg.any (fun o => o.2.kind = 5)) 0x0205]
      (fun c => longAccept c h 0x0413 (c.allEntries.filter c.ownsEntry).length [steps] (fun i c =>
        let n := c.stripes.bgId
        (c.addBg { bg0 with kind := 5, slot := i, mode := steps }).enterShear n (nextShearStep steps 1))))

/-- SHEAR_INTERVAL_EXPIRY (R270): interval_s after the last pass, when automatic shearing is on. -/
def shearIntervalExpiry (c : Chip) : Chip :=
  if !c.flag STRIPE_SHEAR_CFG_en || c.stripes.bg.any (fun o => o.2.kind = 5) then c
  else
    let steps := 1 + 2 * b2n (c.flag STRIPE_SHEAR_CFG_merge_en) + 4 + 8 * b2n (c.flag STRIPE_SHEAR_CFG_reenc_en)
    match c.loStart c.selfHdr 0x0413 (c.allEntries.filter c.ownsEntry).length [steps] with
    | none => c.raise 0x730
    | some (c, i, _) =>
      let n := c.stripes.bgId
      (c.addBg { bg0 with kind := 5, slot := i, mode := steps }).enterShear n 1

/-- Step 4 goes on: a stripe committed is passed; with its last stripe the acre holds the current generation alone. -/
def Chip.reencrypt (c : Chip) (i : Nat) (o : BgOp) : Chip :=
  match o.acres with
  | [] => c.enterShear i 5
  | (n, pa) :: rest =>
    match c.flock? n with
    | none => c.updBg i (fun o => { o with acres := rest, pos := 0, cur := none, phase := 0 })
    | some f =>
      if !((f.acres.get? pa).any (fun r => c.flag TWIN_FOLD_STAT_gate_open r.fold)) && o.cur.isNone then c.updBg i (fun o => { o with acres := rest, pos := 0 })
      else if o.cur.isSome then
        if o.phase = 1 && !(o.goals.any (fun e => c.stripes.entries.has e)) then
          c.updBg i (fun o => { o with cur := none, phase := 0, goals := [], have_ := [], bad := [], penned := [], pos := o.pos + 1 })
        else c
      else if f.spa ≤ o.pos then
        let g := ((f.acres.get? pa).bind (fun r => (c.cipher.pads.get? r.paddock).map (fun k => (r, k.gCur))))
        let c := match g with
          | some (r, gen) =>
            let low := if f.acres.has pa && !c.stripes.lost.any (fun x => x.flock = n && x.acre = pa) then max r.lowGen (min gen r.highGen) else r.lowGen
            ((c.updFlock n (fun f => { f with acres := f.acres.put pa { r with lowGen := low } })).sendDelta r.fold r.paddock 0 0
              (.acre n pa r.paddock low r.highGen)).2
          | none => c
        ((c.cntBg 14).loProgress o.slot 1 0).updBg i (fun o => { o with acres := rest, pos := 0 })
      else
        let s := pa * f.spa + o.pos
        if !(f.acres.has pa) then c.updBg i (fun o => { o with acres := rest, pos := 0 })
        else if c.stripeHeld n s (some i) || !f.replayed || decide (2 < (f.missing s).length) then c
        else (c.takeStripe i { o with flock := n } f s [] false).bgGathered i

/-- SHEAR_PROGRESS (R270, R272, R274): the next n entries are examined, merged or counted, or re-encryption goes on. -/
def shearProgress (n : Nat) (c : Chip) : Chip :=
  match c.stripes.bg.first? (fun _ o => o.kind = 5) with
  | none => c
  | some (i, o) =>
    if !c.bgRuns o || (c.enginePaused && (o.step = 1 || o.step = 2)) then c
    else if o.step = 4 then (if o.cur.isNone && c.paced o then c else c.reencrypt i o)
    else
      let r := Chip.shearRun o.step (o.todo.take n) c
      let c := (r.2.loProgress o.slot r.1 0).updBg i (fun o => { o with todo := o.todo.drop r.1, sinceFence := o.sinceFence + r.1 })
      if (o.todo.drop r.1).isEmpty then
        let c := if o.step = 3 then ((c.vols.vals.filter (fun v => c.flag TWIN_FOLD_STAT_gate_open v.fold)).map (·.lineage)).eraseDups.foldl (fun c l => c.recount l) c else c
        (c.loFence o.slot).enterShear i (nextShearStep o.mode (o.step + 1))
      else c.loFence o.slot

/-! ### Detach (R275) -/

/-- VOLUME_DETACH (0x0116): of a clone that is nobody's source. A chip that does not own the fold has nothing to do. -/
def volumeDetach (h : Hdr) (volume : Nat) : Chip → Chip :=
  runPair ⟨0x0116, true, .l, paramBytes [2]⟩ h [] (.volumeDetach volume) (fun c =>
    match c.vols.get? volume with
    | none => Res.guard c [rangeRefusal c volume 65536 32768 32] (fun c => Res.no c 0x0201)
    | some v =>
      let source := (c.membersOf v.lineage).any (fun x => x.ancestry.any (fun y => y.1 = v.member))
      Res.guard c [refuseIf (v.ancestry = [] || !v.writable || source) 0x0203, refuseIf (c.stripes.bg.any (fun o => o.2.kind = 6 && o.2.volume = volume)) 0x0205]
        (fun c => longAccept c h 0x0116 v.acres [volume] (fun i c =>
          if c.flag TWIN_FOLD_STAT_gate_open v.fold then
            c.addBg { bg0 with kind := 6, flock := v.flock, slot := i, volume := volume }
          else c.loEnd i 4 0)))

/-- A learn that no command waits for: the whole acre is copied (R275), as of a number of its own. Answers whether the learn queue had room. -/
def Chip.detachLearn (c : Chip) (volume : Nat) (v : Volume) (acre : Nat) : Bool × Chip :=
  let half := halfOf v.lineage acre
  if (c.openLearn? volume v.lineage acre).isSome then (true, c)
  else if c.ringFull half then (false, c.raise (0x200 + half))
  else
    let seq := ((c.vols.get? volume).map (·.nextSeq)).getD 0
    let c := { c with vols := c.vols.upd volume (fun v => { v with nextSeq := v.nextSeq + 1 }) }
    (true, (c.openLearn volume v acre 2 seq false [] []).2)

/-- Step 1 over the next n acres from one on, until a learn queue is full. Answers how many are passed. -/
def Chip.detachAcres (volume : Nat) (v : Volume) : Nat → Nat → Chip → Nat × Chip
  | 0, _, c => (0, c)
  | n + 1, a, c =>
    let r := match c.entryOf v a with
      | some e => if e.owner = v.member then (true, c) else c.detachLearn volume v a
      | none => (true, c)
    if !r.1 then (0, r.2)
    else
      let rest := Chip.detachAcres volume v n (a + 1) r.2
      (rest.1 + 1, rest.2)

/-- Step 2 over the next entries: each is inserted under the clone's own lineage, as member 0, until one finds no room. Answers how many are done, and the entry that failed. -/
def Chip.detachEntries (volume : Nat) (v : Volume) : List Entry → Chip → Nat × Option Entry × Chip
  | [], c => (0, none, c)
  | e :: es, c =>
    let x := { e with lineage := volume, owner := 0, birth := 0 }
    match c.mapInsert x v.fold v.paddock volume 0 with
    | (none, c) => (0, some x, c)
    | (some _, c) =>
      let rest := Chip.detachEntries volume v es (c.cntBg 15)
      (rest.1 + 1, rest.2)

/-- The record of a volume that has left its lineage (R275). -/
def Volume.detached (v : Volume) (volume : Nat) : Volume :=
  { v with lineage := volume, member := 0, ancestry := [], epoch := 0, epochs := [], marks := v.marks.filter (fun (m : Mark) => m.what ≠ MarkWhat.detach) }

/-- DETACH_PROGRESS (R275): step 1 makes the next n acres private; step 2, a barrier in the clone's ordering stage, inserts its next n entries under a lineage of their own; with the last
the record changes, and the old entries are removed. Only the fold's owner does so (R150). A rehash that makes room is waited for; where none is possible the detach fails, and what it has inserted is removed (DESIGN
CHOICE, assumption 84). -/
def detachProgress (volume n : Nat) (c : Chip) : Chip :=
  match c.stripes.bg.first? (fun _ o => o.kind = 6 && o.volume = volume), c.vols.get? volume with
  | some (i, o), some v =>
    if !c.bgRuns o || !c.flag TWIN_FOLD_STAT_gate_open v.fold then c
    else if o.step = 1 then
      let r := Chip.detachAcres volume v (min v.acres (o.pos + n) - o.pos) o.pos c
      let c := r.2
      let stop := o.pos + r.1
      let c := (c.loProgress o.slot (stop - o.pos) 0 (some 1)).updBg i (fun o => { o with pos := stop })
      let c := c.loFence o.slot
      let learning := c.map.learns.any (fun l => l.2.volume = volume)
      if stop = v.acres && !learning && c.stripes.bg.has i then
        let es := c.allEntries.filter (fun e => e.lineage = v.lineage && e.owner = v.member)
        let c := { c with vols := c.vols.upd volume (fun v => { v with marks := v.marks ++ [(⟨v.nextSeq, .detach, c.selfHdr⟩ : Mark)], nextSeq := v.nextSeq + 1 }) }
        (c.updBg i (fun o => { o with step := 2, todo := es })).set LONGOP_TOTAL_total (v.acres + es.length) o.slot
      else c
    else
      let early := c.intake.cmds.any (fun k => k.2.volume = some volume && k.2.st ≠ .queued)
      if early || c.enginePaused then c
      else
        let r := Chip.detachEntries volume v (o.todo.take n) c
        let c := (r.2.2.loProgress o.slot r.1 0 (some 2)).updBg i (fun o => { o with todo := o.todo.drop r.1 })
        match r.2.1 with
        | some x =>
          let f := c.insertFailed x
          if f.1 then f.2
          else
            let c := (f.2.allEntries.filter (fun e => e.lineage = volume)).foldl (fun (c : Chip) e => c.mapRemove e v.fold v.paddock volume 0) f.2
            let c := { c with vols := c.vols.upd volume (fun v => { v with marks := v.marks.filter (fun m => m.what ≠ MarkWhat.detach) }) }
            (c.dropBg i).loEnd o.slot 6 0x0204
        | none =>
          if !(o.todo.drop r.1).isEmpty then c
          else
            let old := c.allEntries.filter (fun e => e.lineage = v.lineage && e.owner = v.member)
            let c := (c.allEntries.filter (fun e => e.lineage = volume)).foldl (fun (c : Chip) e => c.nameAcres e) c
            let c := { c with vols := c.vols.put volume (v.detached volume) }
            let c := old.foldl (fun (c : Chip) e => c.mapRemove e v.fold v.paddock volume 0) c
            (c.raise 0x413).endBg i o
  | _, _ => c

/-! ### Retiring a generation (R362) -/

/-- Does a request that names g_lo remain (R362, step 2): a read of a member block of the paddock whose acre's range reaches down to it? -/
def Chip.namesLow (c : Chip) (p : Nat) (k : PadKey) : Bool :=
  c.stripes.drv.any (fun d => d.2.paddock = p && d.2.kind = 0 && decide (d.2.lane ≤ 4) &&
    (((c.flock? d.2.flock).bind (fun f => f.acreOf d.2.stripe)).elim true (fun a => decide (a.lowGen ≤ k.gLo))))

/-- Steps 2 to 4 of R362: the key record is rewritten without a closed g_lo once no request names it. -/
def Chip.retireClosed (c : Chip) (p : Nat) : Chip :=
  match c.cipher.pads.get? p with
  | some k => if k.closed && !c.cipher.waiting.contains (.retire p) && !c.namesLow p k then c.recordChange (.retire p) else c
  | none => c

/-- Closed generations whose last request has ended. -/
def Chip.settleRetire (c : Chip) : Chip := (c.cipher.pads.keep (fun _ k => k.closed)).keys.foldl (fun (c : Chip) p => c.retireClosed p) c

/-- GEN_RETIRE (R362): `there` says that the partner reports g_lo unused. g_lo is closed; it rises when the record without it is written. -/
def genRetire (paddock : Nat) (there : Bool) (c : Chip) : Chip :=
  match c.cipher.pads.get? paddock with
  | none => c
  | some k =>
    let k := { k with unusedThere := k.unusedThere || there }
    let c := c.updPad paddock (fun _ => k)
    if k.closed || !c.flag CIPH_CTL_auto_retire || !k.unusedHere || (c.pairedNow && !k.unusedThere) || k.gCur ≤ k.gLo then c
    else (c.updPad paddock (fun k => { k with closed := true })).retireClosed paddock

end Sys2Proof.Machine
end

