-- ==== Sys2Proof/Machine/Intake.lean ====
section
/-!
DEFINITION. Command intake and completion records (chapter 5 of the spec, R160 to R163, R174 to R176, R79; forwarding, R386 and R387). A status is
held as status code type × 256 + status code (R175).
-/

namespace Sys2Proof.Machine

/-! ### Statuses (R175) -/

def stInvalidOpcode : Nat := 0x001
def stInvalidField : Nat := 0x002
def stInternal : Nat := 0x006
def stAborted : Nat := 0x007
def stBadNamespace : Nat := 0x00B
def stSequence : Nat := 0x00C
def stPreempted : Nat := 0x01E
def stWriteProtected : Nat := 0x020
def stInterrupted : Nat := 0x021
def stOutOfRange : Nat := 0x080
def stCapacity : Nat := 0x081
def stConflict : Nat := 0x083
def stPathError : Nat := 0x300

/-! ### Where a command goes (R161, R371, R386) -/

/-- Does the chip admit commands of a fold now? Its gate is open and no takeover or handover is under way (R371, R374, R390, R394). -/
def Chip.foldServes (c : Chip) (f : Nat) : Bool := c.flag TWIN_FOLD_STAT_gate_open f && c.get TWIN_FOLD_STAT_phase f = 0

/-- Is the partner suspect: both whistle paths lost (R380)? -/
def Chip.suspect (c : Chip) : Bool := !c.flag TWIN_WHISTLE_STAT_link_ok && !c.flag TWIN_WHISTLE_STAT_wire_ok

/-- Are commands of a fold forwarded to the partner, its owner (R386, R388)? -/
def Chip.forwardsFold (c : Chip) (f : Nat) : Bool :=
  c.get TWIN_STATUS_pair_state = 1 && !c.flag TWIN_FOLD_STAT_gate_open f && c.flag TWIN_FOLD_STAT_partner_line f && c.get TWIN_FOLD_STAT_phase f = 0 && !c.suspect

/-- Does the chip end commands of a fold that it does not own because the pair is split, or refused for its grade or version (R383, R384)? -/
def Chip.splitFold (c : Chip) (f : Nat) : Bool :=
  let s := c.get TWIN_STATUS_pair_state
  !c.flag TWIN_FOLD_STAT_gate_open f && (s = 3 || (s = 4 && c.get TWIN_STATUS_refuse_reason ≠ 3))

/-- The CMD island of a command. -/
def Chip.cmdIsland (c : Chip) (k : HostCmd) : Nat := if !k.io || k.volume.isNone then 0 else c.islandOf k.fold

def cmdTags : Nat := 16384

def cmdKey (isl tag : Nat) : Nat := isl * cmdTags + tag

/-! ### Registers of the islands (R186) -/

def Chip.showIsl (c : Chip) (i : Nat) : Chip :=
  let mine := c.intake.cmds.keep (fun k _ => k / cmdTags = i)
  let n := mine.length
  let c := ((c.set CMDQ_ISL_STAT_inflight n i).set CMDQ_ISL_STAT_wait_learn (mine.keep (fun _ k => k.st = .waitLearn)).length i).set
    CMDQ_ISL_STAT_wait_dep (mine.keep (fun _ k => k.st = .waitDep)).length i
  (c.set CMDQ_ISL_TAGS_free_tags (cmdTags - n) i).peak CMDQ_ISL_TAGS_peak_inflight n i

/-- Show the islands, and the commands held for each fold (R399). -/
def Chip.showCmds (c : Chip) : Chip :=
  let c := c.cmdIslands.foldl (fun c i => c.showIsl i) c
  (List.range 8).foldl (fun c f =>
    let n := if c.foldServes f then 0 else (c.intake.cmds.keep (fun _ k => k.io && k.st = .queued && k.volume.isSome && k.fold = f)).length
    c.set TWIN_FOLD_STAT_held (min n 0xFFFF) f) c

/-! ### Completion records (R174, R175, R480) -/

def Chip.updCmd (c : Chip) (key : Nat) (f : HostCmd → HostCmd) : Chip := { c with intake := { c.intake with cmds := c.intake.cmds.upd key f } }

/-- Does the keyed data block descriptor of a command ask for remote invalidation (R75): subtype Fh of type 4h (PRESUMED, assumption 9)? -/
def Sqe.invalidates (q : Sqe) : Bool := q.sgl = 0x4F

/-- Hand a completion record to the DROVE island, or to the forwarder; read data goes before it (R51, steps 3a and 6; R50, step 9). -/
def Chip.complete (c : Chip) (k : HostCmd) (code dw0 : Nat) (data : List Bytes) (close : Bool) : Chip :=
  if k.silent then c
  else match k.fwd with
    | some t =>
      let c := if data.isEmpty then c else c.send (FwdRec.out k.fwdHead (.data t 0 data.flatten))
      c.send (FwdRec.out k.fwdHead (.completion t (code / 256) (code % 256) dw0))
    | none =>
      let v := k.volume.getD 0
      let cls := c.hostCls k.ctx k.low
      let c := if data.isEmpty || k.hbm = 0 then c else c.cross (cacheId (c.stackOf v k.lba)) (droveId k.ctx) cls
      let c := c.cross (cmdId (c.cmdIsland k)) (droveId k.ctx) cls
      let d : Completion := ⟨k.ctx, k.sqe.cid, code / 256, code % 256, dw0, k.sqe.key, data, close, k.sqe.invalidates⟩
      { c with intake := { c.intake with done := c.intake.done ++ [d] } }

/-- Meters of a command that ends (R480). -/
def Chip.meterEnd (c : Chip) (k : HostCmd) (code : Nat) : Chip :=
  if !k.io then c.meterAdd k.paddock 15 1
  else
    let c := if k.seq = 0 && k.st = .queued then c else c.meterAdd k.paddock (2 + k.cls) 1
    if code ≠ 0 then c.meterAdd k.paddock 12 1
    else if k.sqe.opc = 0x02 then c.meterAdd k.paddock 0 (k.count * 4096)
    else if k.sqe.opc = 0x01 then c.meterAdd k.paddock 1 (k.count * 4096) else c

/-- Receive units of a command go back; a forwarded command's stand with its forwarder, and those of a command whose connection is gone go to the pool (R114). -/
def Chip.freeCmdUnits (c : Chip) (k : HostCmd) : Chip := if k.fwd.isSome then c else if k.silent then c.poolReturn k.units else c.freeUnits k.ctx k.units

/-- The drive reads and reconstructions of a command that has left run to their end; what they bring is discarded (R176, R177). -/
def Chip.orphanReads (c : Chip) (key : Nat) : Chip :=
  { c with stripes := { c.stripes with
      drv := c.stripes.drv.mapVals (fun _ (d : DrvCmd) => match d.use with
        | .host k _ => if k = key then { d with use := .admin 0 } else d
        | _ => d),
      recons := c.stripes.recons.mapVals (fun _ (r : Recon) => match r.purpose with
        | .host k _ => if k = key then { r with purpose := .repair } else r
        | .repair => r),
      recQ := c.stripes.recQ.map (fun w => match w with
        | .lost r add place answers => .lost r add place (answers.filter (fun a => a.1 ≠ key))
        | x => x) } }

/-- A command leaves its island: pins, learns, tag and receive units are let go. -/
def Chip.dropCmd (c : Chip) (key : Nat) (k : HostCmd) : Chip :=
  let c := k.pinned.foldl (fun (c : Chip) p => c.pinVersion p.1 p.2.1 p.2.2 false) c
  let c := { c with intake := { c.intake with cmds := c.intake.cmds.del key },
                    map := { c.map with learns := c.map.learns.mapVals (fun _ l => { l with waiting := l.waiting.filter (· ≠ key) }) } }
  let c := if k.sqe.readClass then (match k.volume with
    | some v => k.need.foldl (fun (c : Chip) b => c.dropFill v (k.lba + b)) (c.orphanReads key)
    | none => c) else c
  c.freeCmdUnits k

/-- A failed command goes into its controller's Error Information log of 64 entries (R184). -/
def Chip.logError (c : Chip) (k : HostCmd) (code : Nat) : Chip :=
  match (c.conns.get? k.ctx).filter (·.connected) with
  | some n => { c with ctrls := c.ctrls.upd n.ctrl (fun t => { t with errors := ((n.qid * 65536 + k.sqe.cid, code) :: t.errors).take 64, errorNo := t.errorNo + 1 }) }
  | none => c

/-- A command ends with a status (R174, R175): its completion record is sent and its tag is free (R162). -/
def Chip.finishCmd (c : Chip) (key code : Nat) (dw0 : Nat := 0) (data : List Bytes := []) (close : Bool := false) : Chip :=
  match c.intake.cmds.get? key with
  | none => c
  | some k =>
    let c := (c.dropCmd key k).meterEnd k code
    let c := if code = stInternal then (c.cntCmd 14).raiseLtd 0x292 0 second else c
    let c := if code = 0 then c else c.logError k code
    c.complete k code dw0 data close

/-! ### Taking a command in -/

/-- The parts of a byte string, `size` bytes each. -/
def slices (size : Nat) : Nat → Bytes → Nat → Tab Blk
  | 0, _, _ => []
  | n + 1, b, i => (i, ⟨b.take size, 0⟩) :: slices size n (b.drop size) (i + 1)

/-- The ranges of a Dataset Management command: attributes, length in blocks and first block of each. -/
def dsmRanges : Nat → Bytes → List (Nat × Nat)
  | 0, _ => []
  | n + 1, b => (unle ((b.drop 8).take 8), unle ((b.drop 4).take 4)) :: dsmRanges n (b.drop 16)

/-- The grant of a host for an NSID (R127). -/
def grantKey (host nsid : Nat) : Nat := host * 65536 + nsid

/-- A command as its capsule gives it, routed by the directory (R161). The submission queue's connection gives host and paddock. -/
def Chip.newCmd (c : Chip) (ctx : Nat) (q : Sqe) (data : Bytes) (units colour : Nat) : HostCmd :=
  let n := c.conns.get? ctx
  let host := (n.bind (·.host)).getD 0xFFFF
  let pad := ((n.filter (·.connected)).map (·.paddock)).getD 0xFFFF
  let admin := q.opc = 0x7F || !(n.any (·.connected)) || n.any (fun n => n.qid = 0)
  let g := if admin || q.nsid = 0xFFFFFFFF then none else c.grants.get? (grantKey host q.nsid)
  let vol := g.bind (fun g => (c.vols.get? g.volume).map (fun v => (g.volume, v)))
  let red := decide (colour = 2)
  let low := red && c.ports.redAction.getD pad 0 = 0
  let count := q.cdw12 % 65536 + 1
  let bs := if [0x01, 0x05].contains q.opc && !admin then slices (data.length / count) (if data.length % count = 0 then count else 0) data 0 else [(0, ⟨data, 0⟩)]
  { ctx := ctx, sqe := q, blocks := bs, ranges := if q.opc = 0x09 && !admin then dsmRanges (q.cdw10 % 256 + 1) data else [], dataLen := data.length, units := units,
    host := host, ident := (n.map (·.hostIdent)).getD 0, paddock := pad, volume := vol.map (·.1), grant := (g.map (·.serial)).getD 0,
    fold := (vol.map (fun v => v.2.fold)).getD 0, cls := if admin then 4 else if low then 3 else (n.map (·.cls)).getD 2, red := red, low := low, order := 0, st := .queued,
    seq := 0, lba := if q.opc = 0x09 then 0 else q.cdw10 + q.cdw11 * 2 ^ 32, count := count, learns := [], got := [], dep := [], need := [], spots := [], pinned := [],
    open_ := [], multi := [], fwd := none, bad := 0, lastMseq := 0, lastDelta := 0, silent := false, cost := 0 }

/-- Commands of a session and of a paddock in an island that hold a tag (R163). -/
def Chip.sessionHolds (c : Chip) (ctx : Nat) : Nat := (c.intake.cmds.keep (fun _ k => k.ctx = ctx)).length
def Chip.paddockHolds (c : Chip) (isl p : Nat) : Nat := (c.intake.cmds.keep (fun key k => key / cmdTags = isl && k.paddock = p)).length

def Chip.sessionCap (c : Chip) (ctx : Nat) : Nat :=
  let cap := atLeast1 (c.get CMDQ_LIMIT_sess_cap)
  match c.conns.get? ctx with
  | some n => if n.connected then min (atLeast1 (n.qsize - 1)) cap else cap
  | none => cap

/-- The submission queue head of a session moves past a command that the chip has taken (R174). -/
def Chip.advanceSq (c : Chip) (ctx : Nat) : Chip :=
  c.updConn ctx (fun m => { m with sqHead := if m.qsize = 0 then m.sqHead + 1 else (m.sqHead + 1) % m.qsize })

/-- A command's payload crosses into the receive buffer and its capsule to its CMD island, in its host class (R50, steps 3 and 4; R51, step 1); a forwarded one comes by PART (R386). -/
def Chip.crossIn (c : Chip) (k : HostCmd) : Chip :=
  let cls := c.hostCls k.ctx k.low
  let src := if k.fwd.isSome then partId else droveId k.ctx
  let c := if k.dataLen = 0 then c else c.cross src (cacheId (c.stackOf (k.volume.getD 0) k.lba)) cls
  c.cross src (cmdId (c.cmdIsland k)) cls

/-- Try to enter a command: intake enabled, a tag free, session and paddock below their caps (R162, R163, R186). A command preempted while it was kept at intake takes no tag: it ends (R129). -/
def Chip.enterCmd (c : Chip) (k : HostCmd) : Bool × Chip :=
  let isl := c.cmdIsland k
  let key := c.intake.cmds.freeFrom cmdTags (cmdKey isl 0)
  if k.bad ≠ 0 then (true, (((c.freeCmdUnits k).meterEnd k k.bad).advanceSq k.ctx).complete k k.bad 0 [] false)
  else if !c.flag CMDQ_CTL_en then (false, c)
  else if cmdKey (isl + 1) 0 ≤ key then (false, c.raiseLtd (0x280 + isl) 0 second)
  else if c.sessionCap k.ctx ≤ c.sessionHolds k.ctx then (false, c)
  else if decide (k.paddock < 4096) && decide (clamp 1 16384 (c.get CMDQ_LIMIT_pad_cap) ≤ c.paddockHolds isl k.paddock) then (false, c.raiseLtd 0x293 k.paddock second)
  else
    let n := c.intake.order
    let c := { c with intake := { c.intake with cmds := c.intake.cmds.put key { k with order := n }, order := n + 1 } }
    (true, (c.crossIn k).advanceSq k.ctx)

/-- Forward a command to the partner (R386, R387). -/
def Chip.forwardCmd (c : Chip) (k : HostCmd) : Chip :=
  let t := c.intake.fwdNext
  let c := { c with intake := { c.intake with forwards := c.intake.forwards.put t { k with st := .forwarded, order := c.intake.order }, fwdNext := (t + 1) % 2 ^ 32,
                                              order := c.intake.order + 1 } }
  let data := (k.blocks.map (fun b => b.2.data)).flatten
  let low := k.low
  ((c.cross (droveId k.ctx) partId (c.hostCls k.ctx k.low)).send (FwdRec.out k.fwdHead (.command t k.fold (fwdClass k.cls) k.host k.paddock (k.volume.getD 0) k.ctx k.ident low k.sqe data))).cntTwin 7

/-- Keep a command at intake, and count it when it is for want of a tag (R162, R186: the count sticks at 0xFFFF). -/
def Chip.keepHeld (c : Chip) (msn : Nat) (k : HostCmd) : Chip :=
  let isl := c.cmdIsland k
  let full := decide (cmdTags ≤ (c.intake.cmds.keep (fun key _ => key / cmdTags = isl)).length)
  let c := if full then c.bump CMDQ_ISL_TAGS_intake_held 1 isl else c
  { c with intake := { c.intake with held := c.intake.held ++ [(msn, k)] } }

/-- Take in a complete capsule with its data (R160 to R163, R79): red with action 1, it completes without effect; for a fold of the partner it is forwarded; else it enters its
island. Answers whether it went; if not, it waits at intake, after what its session has waiting there (R167). -/
def Chip.takeIn (c : Chip) (ctx : Nat) (q : Sqe) (data : Bytes) (units colour msn : Nat) : Bool × Chip :=
  let k := c.newCmd ctx q data units colour
  let c := if k.red then c.meterAdd k.paddock 11 1 else c
  if k.red && c.ports.redAction.getD k.paddock 0 = 1 then
    (true, (((c.freeCmdUnits k).meterEnd k stInterrupted).advanceSq ctx).complete k stInterrupted 0 [] false)
  else if k.io && k.volume.isSome && c.splitFold k.fold then
    (true, ((((c.freeCmdUnits k).meterEnd k stPathError).advanceSq ctx).complete k stPathError 0 [] false).raiseLtd 0x69A 0 second)
  else if k.io && k.volume.isSome && c.forwardsFold k.fold then (true, (c.advanceSq ctx).forwardCmd k)
  else
    if c.intake.held.any (fun h => h.2.ctx = ctx) then (false, c.keepHeld msn k)
    else
      let r := c.enterCmd k
      if r.1 then (true, r.2) else (false, r.2.keepHeld msn k)

/-- Commands kept at intake that fit now enter, none before an earlier one of its session (R162, R167). Answers the connections and message numbers whose commands went in. -/
def Chip.releaseHeld (c : Chip) : List (Nat × Nat) × Chip :=
  let r := c.intake.held.foldl (fun (acc : List (Nat × HostCmd) × List (Nat × Nat) × Chip) h =>
    if acc.1.any (fun x => x.2.ctx = h.2.ctx) then (acc.1 ++ [h], acc.2.1, acc.2.2)
    else
      let e := acc.2.2.enterCmd h.2
      if e.1 then (acc.1, acc.2.1 ++ [(h.2.ctx, h.1)], e.2) else (acc.1 ++ [h], acc.2.1, e.2)) ([], [], c)
  (r.2.1, { r.2.2 with intake := { r.2.2.intake with held := r.1 } })

end Sys2Proof.Machine
end

