-- ==== Sys2Proof/Machine/Admit.lean ====
section
/-!
DEFINITION. Arbitration, admission, the checks of an admitted command, and what a read is entitled to (R126 to R129, R164 to R172, R279, R281, R507).
-/

namespace Sys2Proof.Machine

/-! ### Arbitration (R165, R166) -/

/-- Does a volume's stage hold its commands back: a snapshot, clone or detach marker or the barrier of an erasure waits (R132, R275, R366), or a reservation command has been admitted and not yet taken
effect (R129)? -/
def Chip.stageHeld (c : Chip) (v : Nat) (r : Volume) : Bool :=
  r.marks.any (fun m => match m.what with
    | .member _ _ _ => true
    | .detach => true
    | .erase => true
    | .remove => false) ||
  c.intake.cmds.any (fun e => e.2.volume = some v && e.2.st = .admitted && e.2.sqe.reservation)

/-- May the arbiter take a waiting I/O command now? -/
def Chip.eligible (c : Chip) (k : HostCmd) : Bool :=
  match k.volume with
  | none => true
  | some v =>
    match c.vols.get? v with
    | none => true
    | some r => c.foldServes k.fold && !c.shape.wheel.has v && !c.stageHeld v r

def Chip.urgCap (c : Chip) : Nat := atLeast1 (c.get CMDQ_URG_CFG_urg_cap)

/-- Is the urgent cap of an island reached in its window? -/
def Chip.urgFull (c : Chip) (isl : Nat) : Bool := c.flag CMDQ_CTL_urg_cap_en && decide (c.urgCap ≤ c.intake.urgent.getD isl 0)

/-- Weighted round robin at one level: the entity being served goes on for up to its weight, else the pointer moves to the next one. -/
def wrr (rr : Tab (Nat × Nat)) (level : Nat) (cands : List Nat) (weight : Nat → Nat) : Nat × Tab (Nat × Nat) :=
  let next := fun (p : Nat) =>
    let x := (cands.find? (fun y => decide (p < y))).getD (cands.headD 0)
    (x, rr.put level (x, 1))
  match rr.get? level with
  | none => let x := cands.headD 0; (x, rr.put level (x, 1))
  | some (p, n) => if cands.contains p && decide (n < weight p) then (p, rr.put level (p, n + 1)) else next p

def levelOf (isl level x : Nat) : Nat := (isl * 8 + level) * 2 ^ 32 + x

/-- The volume queue of a command: 65,536 where the directory knew none. -/
def HostCmd.queue (k : HostCmd) : Nat := k.volume.getD 65536

/-- The distinct values of a projection over commands, rising. -/
def valuesOf (f : HostCmd → Nat) (l : Tab HostCmd) : List Nat := sortBy (fun x => x) ((l.map (fun e => f e.2)).eraseDups)

/-- The oldest command of a list. -/
def oldest (l : Tab HostCmd) : Option (Nat × HostCmd) :=
  l.foldl (fun (best : Option (Nat × HostCmd)) e => match best with
    | none => some e
    | some b => if e.2.order < b.2.order then some e else some b) none

/-- One choice of the arbiter of an island: command, class in which it is arbitrated, pointers after it. -/
def Chip.choose (c : Chip) (isl : Nat) : Option (Nat × HostCmd × Nat × Tab (Nat × Nat)) :=
  let mine := c.intake.cmds.keep (fun key k => key / cmdTags = isl && k.st = .queued)
  match oldest (mine.keep (fun _ k => k.cls = 4 && !k.low)) with
  | some e => some (e.1, e.2, 4, c.intake.rr)
  | none =>
    let io := mine.keep (fun _ k => (k.cls ≠ 4 || k.low) && c.eligible k)
    let urgent := io.keep (fun _ k => k.cls = 0)
    if !urgent.isEmpty && !c.urgFull isl then
      let p := wrr c.intake.rr (levelOf isl 4 0) (valuesOf (·.paddock) urgent) (fun _ => 1)
      let l := urgent.keep (fun _ k => k.paddock = p.1)
      let v := wrr p.2 (levelOf isl 5 p.1) (valuesOf HostCmd.queue l) (fun _ => 1)
      let l := l.keep (fun _ k => k.queue = v.1)
      let s := wrr v.2 (levelOf isl 6 v.1) (valuesOf (·.ctx) l) (fun _ => 1)
      (oldest (l.keep (fun _ k => k.ctx = s.1))).map (fun e => (e.1, e.2, 0, s.2))
    else
      let cls := fun (k : HostCmd) => if k.low then 3 else if k.cls = 0 then 1 else k.cls
      if io.isEmpty then none
      else
        let p := wrr c.intake.rr (levelOf isl 0 0) (valuesOf (·.paddock) io) (fun p => c.get CMDQ_PADDOCK_ARB_pw p + 1)
        let l := io.keep (fun _ k => k.paddock = p.1)
        let w := fun (x : Nat) => 1 + (if x = 1 then c.get CMDQ_PADDOCK_ARB_hpw p.1 else if x = 2 then c.get CMDQ_PADDOCK_ARB_mpw p.1 else c.get CMDQ_PADDOCK_ARB_lpw p.1)
        let q := wrr p.2 (levelOf isl 1 p.1) (valuesOf cls l) w
        let l := l.keep (fun _ k => cls k = q.1)
        let v := wrr q.2 (levelOf isl 2 (p.1 * 8 + q.1)) (valuesOf HostCmd.queue l) (fun v => if v = 65536 then 1 else c.get CMDQ_VOL_ARB_vw v + 1)
        let l := l.keep (fun _ k => k.queue = v.1)
        let s := wrr v.2 (levelOf isl 3 (v.1 * 8 + q.1)) (valuesOf (·.ctx) l) (fun _ => 1)
        (oldest (l.keep (fun _ k => k.ctx = s.1))).map (fun e => (e.1, e.2, q.1, s.2))

/-! ### Checks at admission (R127, R128, R169, R175) -/

/-- Does a reservation conflict with a command of a host identifier (R128)? Types 1 to 6: write exclusive, exclusive access, the two for registrants only, the two for all
registrants; a Flush counts as a write. -/
def Volume.conflicts (v : Volume) (ident : Nat) (q : Sqe) : Bool :=
  let registered := v.registrants.any (fun r => r.1 = ident)
  let holder := if v.resvType = 5 || v.resvType = 6 then registered else v.holder = some ident
  let allowed := holder || (decide (3 ≤ v.resvType) && registered)
  let write := q.opc = 0x01 || q.opc = 0x08 || q.opc = 0x09 || q.opc = 0x00
  v.resvType ≠ 0 && !allowed && (write || (q.readClass && [2, 4, 6].contains v.resvType))

/-- Are the fields common to all commands supported ones (R175, R184): no fused operation, data by SGL, and, where data moves, a data block descriptor: no bit bucket, no segment, no
reserved type? The fields' places are those of the NVM Express specifications (assumption 9). -/
def Sqe.fieldsOk (q : Sqe) : Bool :=
  q.fuse = 0 && (q.psdt = 1 || q.psdt = 2) && (q.opc % 4 = 0 || [0, 4, 5].contains (q.sgl / 16))

/-- Why an I/O command of a volume fails its checks, if it does. -/
def Chip.judge (c : Chip) (k : HostCmd) (vol : Nat) (v : Volume) : Option Nat :=
  let q := k.sqe
  let g := c.grants.get? (grantKey k.host q.nsid)
  let limit := v.acres * 1024
  let size := if v.lbaf = 1 && !bit q.cdw12 29 then 4112 else 4096
  if v.marks.any (fun m => m.what = .remove) then some stBadNamespace
  else if !g.any (fun g => g.volume = vol && g.serial = k.grant) then some stBadNamespace
  else if ! [0x00, 0x01, 0x02, 0x05, 0x08, 0x09, 0x0C, 0x0D, 0x0E, 0x11, 0x15].contains q.opc then some stInvalidOpcode
  else if q.writeClass && g.any (·.readOnly) then some stWriteProtected
  else if !q.fieldsOk then some stInvalidField
  else if [0x01, 0x02, 0x05].contains q.opc && decide (256 < k.count) then some stInvalidField
  else if [0x01, 0x05].contains q.opc && k.dataLen ≠ k.count * size then some stInvalidField
  else if q.opc = 0x09 && k.dataLen < 16 * (q.cdw10 % 256 + 1) then some stInvalidField
  else if (q.readClass || q.opc = 0x01 || q.opc = 0x08) && decide (limit < k.lba + k.count) then some stOutOfRange
  else if q.deallocates && k.ranges.any (fun r => decide (limit < r.1 + r.2)) then some stOutOfRange
  else if v.conflicts k.ident q then some stConflict
  else none

/-- The cost of a command (R279). -/
def Chip.costOf (c : Chip) (k : HostCmd) : Nat :=
  c.overheadOf k.paddock + (if k.sqe.opc = 0x01 || k.sqe.readClass then k.count * 4096 else 0)

/-! ### What a read is entitled to (R171, R172, R195, R507) -/

/-- A zero block of a read (R185): its application tag 0xFFFF is marked as not checked. -/
def zeroBlk : Blk := ⟨zeros 4096, 0x1FFFF⟩

/-- A block's content is captured for a read, from a version that it pins. -/
def Chip.capture (c : Chip) (key b : Nat) (l : Line) : Chip :=
  let c := (c.pinVersion l.volume l.lba l.seq true).cntCache 1
  c.updCmd key (fun k => { k with got := k.got.put b l.blk, hbm := k.hbm + 1, pinned := k.pinned ++ [(l.volume, l.lba, l.seq)], bad := if l.poisoned && k.bad = 0 then stInternal else k.bad })

def Chip.gotBlock (c : Chip) (key b : Nat) (x : Blk) : Chip := c.updCmd key (fun k => { k with got := k.got.put b x })

/-- The version of an ancestor's block to which a member's read is entitled: the newest below the barrier that advanced the ancestor past the cut (R507). -/
def Chip.ancestorVersion (c : Chip) (v : Volume) (e : Entry) (lba : Nat) : Option Line :=
  match v.ancestry.find? (fun a => a.1 = e.owner), c.memberVol v.lineage e.owner with
  | some (_, cut), some (n, av) =>
    match av.epochs.find? (fun x => x.1 = cut + 1) with
    | some (_, barrier) => (c.newestBelow n lba barrier).map (fun x => x.2.2)
    | none => none
  | _, _ => none

/-- Drive state of a block: a Clean copy, or a drive read of its place. -/
def Chip.resolveDrive (c : Chip) (key b v lba : Nat) (e : Entry) : Chip :=
  let c := c.cntCache 0
  let f := c.findClean v lba
  let held := (c.blockLines v lba).any (fun e => e.2.2.st = .clean && !e.2.2.poisoned)
  match f.1 with
  | .clean x => (f.2.gotBlock key b x).updCmd key (fun k => { k with hbm := k.hbm + b2n held })
  | _ => f.2.updCmd key (fun k => { k with need := k.need ++ [b], spots := k.spots.put b (e.flock, e.acre (acreOf lba)) })

/-- Does a version of the volume's own still count beside the entry of its acre? One of an epoch before the entry's birth lies in an acre that the volume shared then; the
entry's acre was filled from it, or zeroed, since (R131, R144). -/
def Volume.countsFor (v : Volume) (found : Option Entry) (seq : Nat) : Bool :=
  match found with
  | some e => e.owner ≠ v.member || decide (e.birth ≤ v.epochAt seq)
  | none => true

/-- The buffered version to which a read's block is entitled: of its own volume (R171), else of the ancestor that owns the entry (R507). -/
def Chip.entitled (c : Chip) (n : Nat) (v : Volume) (lba seq : Nat) (found : Option Entry) : Option Line :=
  match (c.newestBelow n lba seq).filter (fun x => v.countsFor found x.2.2.seq) with
  | some x => some x.2.2
  | none => found.bind (fun e => if e.zero || e.owner = v.member then none else c.ancestorVersion v e lba)

/-- Does a block of a read wait: for an earlier write (R171), or for a pin of its version (R191)? -/
def Chip.blockWaits (c : Chip) (k : HostCmd) (b : Nat) : Bool :=
  let n := k.volume.getD 0
  let lba := k.lba + b
  c.owedBelow n lba k.seq || (match c.vols.get? n with
    | none => false
    | some v => (c.entitled n v lba k.seq (c.lookupAt v (v.epochAt k.seq) (acreOf lba)).1).any Line.full)

/-- Choose the source of one block of a read. -/
def Chip.resolveBlock (c : Chip) (key b : Nat) : Chip :=
  match c.intake.cmds.get? key with
  | none => c
  | some k =>
    match k.volume.bind (fun n => (c.vols.get? n).map (fun v => (n, v))) with
    | none => c
    | some (n, v) =>
      let lba := k.lba + b
      let found := (c.lookupAt v (v.epochAt k.seq) (acreOf lba)).1
      match (c.newestBelow n lba k.seq).filter (fun x => v.countsFor found x.2.2.seq) with
      | some x => (c.cntCache 0).capture key b x.2.2
      | none =>
        let c := c.countLookup v (acreOf lba)
        match found with
        | none => c.gotBlock key b zeroBlk
        | some e =>
          if e.zero then c.gotBlock key b zeroBlk
          else if e.owner = v.member then c.resolveDrive key b n lba e
          else match c.ancestorVersion v e lba with
            | some l => (c.cntCache 0).capture key b l
            | none => c.resolveDrive key b n lba e

/-- A read-class command at its admission: blocks that overlap an earlier open write wait, the others take their sources. -/
def Chip.resolveRead (c : Chip) (key : Nat) : Chip :=
  match c.intake.cmds.get? key with
  | none => c
  | some k =>
    let deps := (List.range k.count).filter (c.blockWaits k)
    let c := (List.range k.count).foldl (fun (c : Chip) b => if deps.contains b then c else c.resolveBlock key b) c
    if deps = [] then c else (c.updCmd key (fun k => { k with dep := deps, st := .waitDep })).cntCmd 5

/-- Reads whose earlier writes have their versions, or have ended without effect, take their sources (R171, R183). -/
def Chip.wakeReads (c : Chip) : Chip :=
  (c.intake.cmds.keep (fun _ k => k.st = .waitDep)).foldl (fun (c : Chip) e =>
    let k := e.2
    let still := k.dep.filter (c.blockWaits k)
    let free := k.dep.filter (fun b => !still.contains b)
    let c := c.updCmd e.1 (fun k => { k with dep := still, st := if still = [] then .admitted else .waitDep })
    free.foldl (fun (c : Chip) b => c.resolveBlock e.1 b) c) c

/-! ### Admission (R168, R169) -/

/-- Take a volume's next admission number. -/
def Chip.takeSeq (c : Chip) (v : Nat) : Nat × Chip :=
  match c.vols.get? v with
  | some r => (r.nextSeq, { c with vols := c.vols.put v { r with nextSeq := r.nextSeq + 1 } })
  | none => (0, c)

/-- Volumes granted to a host. -/
def Chip.grantedVols (c : Chip) (host : Nat) : List Nat := ((c.grants.filter (fun g => g.1 / 65536 = host)).map (fun g => g.2.volume)).eraseDups

/-- The number by which a Flush of all namespaces waits for the part that it forwarded: from 2^20 up, beside volume numbers. -/
def fwdMark (t : Nat) : Nat := 2 ^ 20 + t

/-- The marker of a Flush of all namespaces in one volume (R173): numbered in the stage that serves its fold here, forwarded to the partner for a fold of its own, ended with Internal
Path Error where the pair is split; where the fold is served nowhere now it waits without a number, which only the stage may give (R168). Answers the marker, and a status. -/
def Chip.flushMark (c : Chip) (k : HostCmd) (v : Nat) : List (Nat × Nat) × Nat × Chip :=
  match c.vols.get? v with
  | none => ([], 0, c)
  | some r =>
    if c.foldServes r.fold then
      let s := c.takeSeq v
      ([(v, s.1)], 0, s.2)
    else if c.forwardsFold r.fold then
      let t := c.intake.fwdNext
      ([(fwdMark t, 0)], 0, c.forwardCmd { k with volume := some v, fold := r.fold, units := 0, silent := true, sqe := { k.sqe with nsid := r.nsid } })
    else if c.splitFold r.fold then ([], stPathError, c)
    else ([(v, 0)], 0, c)

/-- A Flush of all namespaces: a marker in the stage of every granted volume (R173). -/
def Chip.flushAll (c : Chip) (key : Nat) (k : HostCmd) : Chip :=
  let r := (c.grantedVols k.host).foldl (fun (acc : List (Nat × Nat) × Nat × Chip) v =>
    let x := acc.2.2.flushMark k v
    (acc.1 ++ x.1, if acc.2.1 = 0 then x.2.1 else acc.2.1, x.2.2)) ([], 0, c)
  r.2.2.updCmd key (fun k => { k with st := .admitted, multi := r.1, bad := r.2.1 })

/-- Admit an I/O command, arbitrated in class `cls`: it takes its number, is charged and judged (R168, R169, R281); a read chooses its sources. -/
def Chip.admitIo (c : Chip) (key : Nat) (k : HostCmd) (cls isl : Nat) : Chip :=
  let demoted := k.cls = 0 && cls = 1
  let c := if cls = 0 then { c with intake := { c.intake with urgent := c.intake.urgent.updD isl 0 (fun n => n + 1) } } else c
  let c := if demoted then (c.cntCmd 13).raiseLtd 0x284 0 second else c
  let c := c.cntCmd 0
  match k.volume.bind (fun n => (c.vols.get? n).map (fun v => (n, v))) with
  | none =>
    if k.sqe.opc = 0x00 && k.sqe.nsid = 0xFFFFFFFF then (c.updCmd key (fun k => { k with cls := cls })).flushAll key k
    else (c.cntMap 11).finishCmd key stBadNamespace
  | some (n, v) =>
    let s := c.takeSeq n
    let cost := c.costOf k
    let c := s.2.chargeShape n k.paddock isl cost
    let c := c.updCmd key (fun k => { k with cls := cls, seq := s.1, cost := cost, st := .admitted })
    match c.judge k n v with
    | some st =>
      let c := if st = stConflict then (c.cntMap 12).raiseLtd 0x20D n second else if st = stBadNamespace || st = stWriteProtected then c.cntMap 11 else c
      c.finishCmd key st
    | none =>
      if k.sqe.readClass then (c.cntCmd 1).resolveRead key
      else if k.sqe.writeClass then c.cntCmd 2
      else c

/-- URGENT_WINDOW_EXPIRY (R165). -/
def urgentWindowExpiry (isl : Nat) (c : Chip) : Chip := { c with intake := { c.intake with urgent := c.intake.urgent.del isl } }

end Sys2Proof.Machine
end

