-- ==== Sys2Proof/Machine/Io.lean ====
section
/-!
DEFINITION. I/O commands (chapter 5, R170 to R174, R185; R142, R193, R196): reads, compares and verifies, writes, deallocations, flushes, and the
end of each once its blocks, versions, records and deltas are held.
-/

namespace Sys2Proof.Machine

/-! ### Protection information (R185): LBA format 1 -/

def unbe (b : Bytes) : Nat := unle b.reverse

/-- PRACT, and the PRCHK bits for guard, application tag and reference tag. -/
def Sqe.pract (q : Sqe) : Bool := bit q.cdw12 29
def Sqe.chkApp (q : Sqe) : Bool := bit q.cdw12 27
def Sqe.chkRef (q : Sqe) : Bool := bit q.cdw12 26

/-- The expected reference tag of a block of the command: the initial tag plus its offset, 48 bits. -/
def Sqe.refTag (q : Sqe) (b : Nat) : Nat := (q.cdw14 + q.lbtu % 65536 * 2 ^ 32 + b) % 2 ^ 48

/-- Does an application tag differ from the expected one under the mask? -/
def Sqe.appDiffers (q : Sqe) (app : Nat) : Bool := decide (app &&& (q.cdw15 / 65536) ≠ q.cdw15 % 65536 &&& (q.cdw15 / 65536))

/-- A block at host ingress: what is stored, or the status of its check. -/
def ingress (q : Sqe) (b : Nat) (x : Bytes) : Except Nat Blk :=
  if q.pract then .ok ⟨x.take 4096, q.cdw15 % 65536⟩
  else
    let data := x.take 4096
    let app := unbe ((x.drop 4104).take 2)
    if crc64 data ≠ unbe ((x.drop 4096).take 8) then .error 0x282
    else if q.chkApp && q.appDiffers app then .error 0x283
    else if q.chkRef && unbe ((x.drop 4106).take 6) ≠ q.refTag b then .error 0x284
    else .ok ⟨data, app⟩

/-- A block at egress: the status of its checks, and its bytes for the host. -/
def egress (lbaf : Nat) (q : Sqe) (lba b : Nat) (x : Blk) : Nat × Bytes :=
  if lbaf ≠ 1 then (0, x.data)
  else
    let app := x.app % 65536
    let st := if app = 0xFFFF then 0 else if q.chkApp && q.appDiffers app then 0x283 else if q.chkRef && lba % 2 ^ 48 ≠ q.refTag b then 0x284 else 0
    let ref := if x.app = 0x1FFFF then 2 ^ 48 - 1 else lba % 2 ^ 48
    (st, if q.pract then x.data else x.data ++ be 8 (crc64 x.data) ++ be 2 app ++ be 6 ref)

/-! ### Reads -/

/-- Read ahead of a run (R196): blocks that are mapped and not cached, in C7. -/
def Chip.prefetch (c : Chip) (n : Nat) (v : Volume) (k : HostCmd) : Chip :=
  let s := c.cache.streams.getD n (0, 0)
  let run := if s.1 = k.lba then s.2 + 1 else 1
  let c := { c with cache := { c.cache with streams := c.cache.streams.put n (k.lba + k.count, run) } }
  if run < 4 || !c.flag CACHE_CTL_prefetch_en || !c.flag CACHE_VOL_MODE_prefetch n then c
  else
    let ahead_ := c.get CACHE_CTL_prefetch_kib / 4
    (List.range ahead_).foldl (fun (c : Chip) i =>
      let lba := k.lba + k.count + i
      if v.acres * 1024 ≤ lba || !(c.blockLines n lba).isEmpty then c
      else match c.entryOf v (acreOf lba) with
        | none => c
        | some e =>
          if e.zero then c
          else match c.flock? e.flock with
            | none => c
            | some f =>
              let at_ := f.place (e.acre (acreOf lba)) (lba % 1024)
              match f.readAt at_.1 at_.2.1 with
              | none => c
              | some (slot, base) =>
                if c.isLost e.flock at_.1 at_.2.1 at_.2.2 then c
                else (c.allocClean n lba k.paddock k.fold).laneIn { drvCmd0 with
                  slot := slot, kind := 0, lba := base + at_.2.2, use := .prefetch n lba, flock := e.flock, stripe := at_.1, pos := at_.2.1, blk := at_.2.2, lane := 4,
                  cls := costClass 0 1, paddock := k.paddock, fold := some k.fold, source := 0 }) c

/-- An admitted command of an opcode, with its volume. -/
def Chip.admittedIo (c : Chip) (key opc : Nat) (f : HostCmd → Nat → Volume → Chip) : Chip :=
  match c.intake.cmds.get? key with
  | none => c
  | some k =>
    if !k.io || k.st ≠ .admitted || k.sqe.opc ≠ opc then c
    else match k.volume.bind (fun n => (c.vols.get? n).map (fun v => (n, v))) with
      | none => c
      | some (n, v) => f k n v

/-- Serve an admitted read-class command: its drive reads go out; with read_alloc a Read or Compare installs Clean lines (R195). -/
def Chip.serveRead (c : Chip) (key opc : Nat) : Chip :=
  c.admittedIo key opc (fun k n v =>
    let c := c.updCmd key (fun k => { k with st := .reading })
    let c := if opc ≠ 0x02 then c else if k.hbm = k.count then c.cntCmd 3 else if 0 < k.hbm then c.cntCmd 4 else c
    let c := k.need.foldl (fun (c : Chip) b => match k.spots.get? b with
      | none => c
      | some (flock, pa) =>
        let c := if opc ≠ 0x0C && c.flag CACHE_VOL_MODE_read_alloc n then c.allocClean n (k.lba + b) k.paddock k.fold else c
        c.hostRead key b flock pa ((k.lba + b) % 1024)) c
    if opc = 0x02 then c.prefetch n v k else c)

/-- NVME_READ, NVME_COMPARE, NVME_VERIFY (R171 to R173). -/
def nvmeRead (isl tag : Nat) (c : Chip) : Chip := c.serveRead (cmdKey isl tag) 0x02
def nvmeCompare (isl tag : Nat) (c : Chip) : Chip := c.serveRead (cmdKey isl tag) 0x05
def nvmeVerify (isl tag : Nat) (c : Chip) : Chip := c.serveRead (cmdKey isl tag) 0x0C

/-- A read-class command whose blocks are all gathered ends. -/
def Chip.endRead (c : Chip) (key : Nat) (k : HostCmd) : Chip :=
  let v := k.volume.getD 0
  let lbaf := ((c.vols.get? v).map (·.lbaf)).getD 0
  if k.bad ≠ 0 then c.finishCmd key k.bad
  else if k.sqe.opc = 0x05 then
    let same := (List.range k.count).all (fun b => decide ((k.got.getD b zeroBlk).data = ((k.blocks.getD b zeroBlk).data).take 4096))
    c.finishCmd key (if same then 0 else 0x285)
  else
    let bs := (List.range k.count).map (fun b => egress lbaf k.sqe (k.lba + b) b (k.got.getD b zeroBlk))
    match bs.find? (fun x => x.1 ≠ 0) with
    | some x => (c.raiseLtd 0x291 v second).finishCmd key x.1
    | none => c.finishCmd key 0 0 (if k.sqe.opc = 0x02 then bs.map (·.2) else [])

/-! ### Writes -/

/-- The kind of learn that a write of an acre needs (R141 to R143): none when it is mapped and private. -/
def Chip.learnKind (c : Chip) (v : Volume) (a : Nat) : Option Nat :=
  match c.entryOf v a with
  | none => some 1
  | some e => if e.unshared v v.epoch then (if e.zero then some 3 else none) else some 2

/-- The acres of a run of blocks, each with the blocks of it that the run covers (first and one past the last, within the acre). -/
def acresOf (lba count : Nat) : List (Nat × Nat × Nat) :=
  if count = 0 then []
  else (List.range (acreOf (lba + count - 1) + 1 - acreOf lba)).map (fun i =>
    let a := acreOf lba + i
    (a, max lba (a * 1024) - a * 1024, min (lba + count) (a * 1024 + 1024) - a * 1024))

/-- Create the versions of a command: each block's line is filling, or waits for room (R170, R193, R194, R201); the line goes to its CACHE island in the host class (R50, step 6). -/
def Chip.makeVersions (c : Chip) (key : Nat) (bs : List (Nat × Blk)) : Chip :=
  match c.intake.cmds.get? key with
  | none => c
  | some k =>
    let v := k.volume.getD 0
    let through := c.throughNow v
    let idx := bs.map (·.1)
    let c := c.updCmd key (fun k => { k with st := if idx = [] then .waitHeld else .waitRoom, need := idx, open_ := if through then idx else [] })
    let cls := c.hostCls k.ctx k.low
    (bs.foldl (fun (c : Chip) x =>
      (c.cross (cmdId (c.cmdIsland k)) (cacheId (c.stackOf v (k.lba + x.1))) cls).offerLine
        ⟨v, k.lba + x.1, .filling, k.seq, k.paddock, k.fold, x.2.app, false, through, 0, x.2.data, c.clk, false, 0⟩) c).showLines

/-- A command waits for a place in the learn queues of these halves; a queue that it newly finds full raises event 0x200 + half (R143). -/
def Chip.waitRing (c : Chip) (key : Nat) (halves : List Nat) : Chip :=
  let new := halves.filter (fun h => !c.map.learnWait.contains (key, h))
  let c := { c with map := { c.map with learnWait := c.map.learnWait.filter (fun x => x.1 ≠ key || halves.contains x.2) ++ new.map (fun h => (key, h)) } }
  new.foldl (fun (c : Chip) h => c.raise (0x200 + h)) c

/-- Raise the learns that a command's acres need, as far as the learn queues have room; the command waits. -/
def Chip.raiseLearns (c : Chip) (key : Nat) (k : HostCmd) (n : Nat) (v : Volume) (needs : List (Nat × Nat × Nat × Nat)) : Chip :=
  let r := needs.foldl (fun (acc : (List Nat × List Nat) × Chip) x =>
    let l := acc.2.raiseLearn key n v x.2.1 x.1 k.seq (x.2.2.1 = 0 && x.2.2.2 = 1024) [(x.2.2.1, x.2.2.2)]
    match l.1 with
    | some i => ((addNew i acc.1.1, acc.1.2), l.2)
    | none => ((acc.1.1, addNew (halfOf v.lineage x.2.1) acc.1.2), l.2)) (([], []), c)
  (r.2.waitRing key r.1.2).updCmd key (fun k => { k with st := .waitLearn, learns := r.1.1 })

/-- NVME_WRITE (R142, R170, R185): the data is checked, acres are learned where needed, then the versions are created. -/
def nvmeWrite (isl tag : Nat) (c : Chip) : Chip :=
  let key := cmdKey isl tag
  c.admittedIo key 0x01 (fun k n v =>
    let ins := if v.lbaf = 1 then k.blocks.map (fun b => (b.1, ingress k.sqe b.1 b.2.data)) else k.blocks.map (fun b => (b.1, .ok b.2))
    match ins.findSome? (fun x => match x.2 with
        | .error st => some st
        | .ok _ => none) with
    | some st => (c.raiseLtd 0x291 n second).finishCmd key st
    | none =>
      let bs : Tab Blk := ins.filterMap (fun x => match x.2 with
        | .ok b => some (x.1, b)
        | .error _ => none)
      let c := c.updCmd key (fun k => { k with blocks := bs })
      let needs := (acresOf k.lba k.count).filterMap (fun a => (c.learnKind v a.1).map (fun kind => (kind, a)))
      if needs = [] then c.makeVersions key bs else c.raiseLearns key k n v needs)

/-! ### Deallocation (R173, R142) -/

/-- The runs that a deallocating command covers. -/
def HostCmd.runs (k : HostCmd) : List (Nat × Nat) := if k.sqe.opc = 0x09 then k.ranges else [(k.lba, k.count)]

/-- Its whole acres, and its blocks in acres that it covers in part. -/
def HostCmd.wholeAcres (k : HostCmd) : List Nat :=
  ((k.runs.flatMap (fun r => (acresOf r.1 r.2).filterMap (fun a => if a.2.1 = 0 && a.2.2 = 1024 then some a.1 else none)))).eraseDups

def HostCmd.partialBlocks (k : HostCmd) : List Nat :=
  ((k.runs.flatMap (fun r => (acresOf r.1 r.2).flatMap (fun a =>
    if k.wholeAcres.contains a.1 then [] else (List.range (a.2.2 - a.2.1)).map (fun i => a.1 * 1024 + a.2.1 + i))))).eraseDups

/-- The largest extents of an entry's range that leave one acre out. -/
def Entry.without (e : Entry) (a : Nat) : Nat → Nat → List Entry
  | 0, start => if start = a then [] else [{ e with k := 0, start := start, pbase := if e.zero then e.pbase else e.acre start }]
  | k + 1, start =>
    if a < start || start + 2 ^ (k + 1) ≤ a then [{ e with k := k + 1, start := start, pbase := if e.zero then e.pbase else e.acre start }]
    else e.without a k start ++ e.without a k (start + 2 ^ k)

/-- Drop the versions of an acre below a number, and their Mirror copies (R202); the caches forget the acre. -/
def Chip.dropVersions (c : Chip) (n a fold seq : Nat) : Chip :=
  let mine := c.lines.filter (fun e => e.2.2.volume = n && acreOf e.2.2.lba = a && e.2.2.st = .dirty && decide (e.2.2.seq < seq))
  let c := mine.foldl (fun (c : Chip) e => c.putWay e.1 e.2.1 none) c
  let c := if mine = [] then c else (c.mirrorPush (.discard n fold (a * 1024) 1024)).2
  (List.range 1024).foldl (fun (c : Chip) i => c.dropClean n (a * 1024 + i)) c

/-- Deallocate one whole acre whose mapping is private: its entry goes, or a zero entry hides what an ancestor would show. Where the tables have no room (R148) the acre is written as
zeros, as it is where a later write already has a version there; the blocks to be written so are answered. -/
def Chip.deallocAcre (c : Chip) (k : HostCmd) (n a : Nat) : List Nat × Chip :=
  match c.vols.get? n with
  | none => ([], c)
  | some v =>
    match c.entryOf v a with
    | none => ([], c)
    | some e =>
      let all := (List.range 1024).map (fun i => a * 1024 + i)
      let later := c.lines.any (fun x => isVersion x.2.2 && x.2.2.volume = n && acreOf x.2.2.lba = a && decide (k.seq < x.2.2.seq)) ||
        c.cache.waiting.any (fun l => l.volume = n && acreOf l.lba = a && decide (k.seq < l.seq))
      if e.zero || !e.unshared v v.epoch then ([], c)
      else if later then (all, c)
      else
        let parts := e.without a e.k e.start
        match Chip.insertAll k.fold k.paddock n k.seq parts c with
        | (some x, c) => (all, (c.insertFailed x).2)
        | (none, c) =>
          let d := c.mapRemove e k.fold k.paddock n k.seq
          let hidden : Entry := ⟨v.lineage, 0, a, true, 0, 0, v.member, v.epoch⟩
          let r := if (d.entryOf v a).any (fun x => !x.zero) then Chip.insertAll k.fold k.paddock n k.seq [hidden] d else (none, d)
          match r.1 with
          | some x => (all, ((parts.foldl (fun (c : Chip) y => c.mapRemove y k.fold k.paddock n k.seq) c).insertFailed x).2)
          | none => ([], (r.2.dropAcre e a).dropVersions n a k.fold k.seq)

/-- Zero versions of blocks, numbered relative to the command. -/
def zeroVersions (v : Volume) (lbas : List Nat) (base : Nat) : List (Nat × Blk) := lbas.map (fun l => (l - base, ⟨zeros 4096, if v.lbaf = 1 then 0xFFFF else 0⟩))

/-- A deallocating command takes effect. -/
def Chip.runDealloc (c : Chip) (key : Nat) (k : HostCmd) (n : Nat) (v : Volume) : Chip :=
  let r := k.wholeAcres.foldl (fun (acc : List Nat × Chip) a => let x := acc.2.deallocAcre k n a; (acc.1 ++ x.1, x.2)) ([], c)
  let c := r.2.updCmd key (fun k => { k with lastMseq := max k.lastMseq (r.2.mirror.nextSeq - 1), lastDelta := if k.wholeAcres = [] then k.lastDelta else r.2.map.dseq })
  c.makeVersions key (zeroVersions v (k.partialBlocks ++ r.1) k.lba)

/-- Begin a deallocating command once no earlier write of the volume owes a version of its blocks and the map's write engines run: shared acres and partly covered ones that are not its own are learned. -/
def Chip.beginDealloc (c : Chip) (key : Nat) (k : HostCmd) (n : Nat) (v : Volume) : Chip :=
  let before := c.intake.cmds.any (fun e => e.2.volume = some n && decide (0 < e.2.seq) && decide (e.2.seq < k.seq) && e.2.io && e.2.sqe.writeClass &&
    e.2.runs.any (fun r => k.runs.any (fun s => decide (r.1 < s.1 + s.2) && decide (s.1 < r.1 + r.2))) && (e.2.st = .admitted || e.2.st = .waitLearn || e.2.st = .waitRoom))
  if before || c.enginePaused then c
  else
    let whole := k.wholeAcres.filterMap (fun a => match c.entryOf v a with
      | some e => if !e.zero && !e.unshared v v.epoch then some (4, a, 0, 1024) else none
      | none => none)
    let part := k.runs.flatMap (fun r => (acresOf r.1 r.2).filterMap (fun a => if k.wholeAcres.contains a.1 then none else (c.learnKind v a.1).map (fun kind => (kind, a))))
    if whole ++ part = [] then c.runDealloc key k n v else c.raiseLearns key k n v (whole ++ part)

/-- NVME_WRITE_ZEROES (R173). -/
def nvmeWriteZeroes (isl tag : Nat) (c : Chip) : Chip := c.admittedIo (cmdKey isl tag) 0x08 (fun k n v => c.beginDealloc (cmdKey isl tag) k n v)

/-- NVME_DSM (R173): without the deallocate attribute it takes no effect. -/
def nvmeDsm (isl tag : Nat) (c : Chip) : Chip :=
  c.admittedIo (cmdKey isl tag) 0x09 (fun k n v => if k.sqe.deallocates then c.beginDealloc (cmdKey isl tag) k n v else c.finishCmd (cmdKey isl tag) 0)

/-- The learns that a write needs as the map stands. -/
def Chip.writeNeeds (c : Chip) (k : HostCmd) (v : Volume) : List (Nat × Nat × Nat × Nat) := (acresOf k.lba k.count).filterMap (fun a => (c.learnKind v a.1).map (fun kind => (kind, a)))

/-- A command whose learns are done resumes (R144); what it joined may have left its acre to be learned again. -/
def Chip.resumeCmd (c : Chip) (key : Nat) : Chip :=
  match c.intake.cmds.get? key with
  | none => c
  | some k =>
    match k.volume.bind (fun n => (c.vols.get? n).map (fun v => (n, v))) with
    | none => c
    | some (n, v) =>
      if k.sqe.opc = 0x01 then
        let needs := c.writeNeeds k v
        if needs = [] then c.makeVersions key k.blocks else c.raiseLearns key k n v needs
      else (c.updCmd key (fun k => { k with st := .admitted })).beginDealloc key k n v

/-! ### Flush (R173) -/

/-- NVME_FLUSH: waits for the write-class commands below its number. -/
def nvmeFlush (isl tag : Nat) (c : Chip) : Chip :=
  match c.intake.cmds.get? (cmdKey isl tag) with
  | none => c
  | some k =>
    if !k.io || k.st ≠ .admitted || k.sqe.opc ≠ 0x00 then c
    else c.updCmd (cmdKey isl tag) (fun k => { k with st := .waitFlush, multi := match k.volume with
      | some v => [(v, k.seq)]
      | none => k.multi })

/-- Markers of Flushes of all namespaces that no stage has numbered, since their fold was served nowhere: they take their number, are forwarded, or end with the split, as the fold's
commands do (R173, R383, R386). -/
def Chip.numberFlushes (c : Chip) : Chip :=
  (c.intake.cmds.keep (fun _ k => k.multi.any (fun m => m.2 = 0 && decide (m.1 < 2 ^ 20)))).foldl (fun (c : Chip) e =>
    let r := e.2.multi.foldl (fun (acc : List (Nat × Nat) × Nat × Chip) m =>
      if m.2 ≠ 0 || 2 ^ 20 ≤ m.1 then (acc.1 ++ [m], acc.2)
      else
        let x := acc.2.2.flushMark e.2 m.1
        (acc.1 ++ x.1, if acc.2.1 = 0 then x.2.1 else acc.2.1, x.2.2)) ([], e.2.bad, c)
    r.2.2.updCmd e.1 (fun k => { k with multi := r.1, bad := r.2.1 })) c

/-- Does a Flush's marker in a volume, or its forwarded part, still wait? One without a number waits for its stage. -/
def Chip.flushWaits (c : Chip) (m : Nat × Nat) : Bool :=
  if 2 ^ 20 ≤ m.1 then c.intake.forwards.has (m.1 - 2 ^ 20)
  else if m.2 = 0 then c.vols.has m.1
  else c.intake.cmds.any (fun e => e.2.volume = some m.1 && e.2.io && e.2.sqe.writeClass && decide (0 < e.2.seq) && decide (e.2.seq < m.2))

/-! ### Ends (R174) -/

/-- Is a write-class command held: its lines Dirty here, their records and its map deltas acknowledged or, while solo, its deltas logged; and under write-through its entries retired
(R150, R203 to R205, R460)? -/
def Chip.writeHeld (c : Chip) (k : HostCmd) : Bool :=
  k.need = [] && k.open_ = [] && c.heldPast k.lastMseq && (k.lastDelta = 0 || c.mirroring || decide (k.lastDelta ≤ c.map.logged))

/-- End what can end: reads that have their data, writes that are held, flushes that wait for nothing more. -/
def Chip.endIo (c : Chip) : Chip :=
  let c := (c.intake.cmds.keep (fun _ k => k.st = .reading && k.need = [])).foldl (fun (c : Chip) e => c.endRead e.1 e.2) c
  let c := (c.intake.cmds.keep (fun _ k => k.st = .waitHeld)).foldl (fun (c : Chip) e => if c.writeHeld e.2 then c.finishCmd e.1 e.2.bad else c) c
  (c.intake.cmds.keep (fun _ k => k.st = .waitFlush)).foldl (fun (c : Chip) e => if e.2.multi.any c.flushWaits then c else c.finishCmd e.1 e.2.bad) c

/-- LINE_FILL_COMPLETE (R193): a version's data is in its line, which becomes Dirty; its record goes to the partner (R202), its CMD island hears of it in C0 (R50, step 8), and the receive units are free once the last line of the
command is filled (R114). -/
def lineFillComplete (volume lba seq : Nat) (c : Chip) : Chip :=
  if seq = 0 then c
  else match (c.blockLines volume lba).find? (fun e => e.2.2.st = .filling && e.2.2.seq = seq) with
    | none => c
    | some e =>
      let r := c.versionDirty e.1 e.2.1
      let isl := (c.vols.get? volume).elim 0 (fun v => c.islandOf v.fold)
      let r := (r.1, r.2.cross (cacheId (c.stackOf volume lba)) (cmdId isl) 0)
      (r.2.intake.cmds.keep (fun _ k => k.volume = some volume && k.seq = seq && k.st = .waitRoom)).foldl (fun (c : Chip) x =>
        let k := x.2
        let need := k.need.erase (lba - k.lba)
        let c := c.updCmd x.1 (fun k => { k with need := need, lastMseq := max k.lastMseq r.1, st := if need = [] then .waitHeld else k.st, units := if need = [] then 0 else k.units })
        if need = [] then c.freeCmdUnits k else c) r.2.showLines

end Sys2Proof.Machine
end

