-- ==== Sys2Proof/Machine/Resv.lean ====
section
/-!
DEFINITION. Asynchronous events (R184, R372), reservations (R128, R129), Abort (R177 to R179). What the NVM Express specifications add to the
spec's words (the fields of the commands, the rules of the reservation actions) is taken from them (assumption 9).
-/

namespace Sys2Proof.Machine

/-! ### Asynchronous events (R184) -/

def aenNamespace : Nat := 0x040002
def aenAna : Nat := 0x0C0302
def aenReservation : Nat := 0x800006

def Chip.updCtrl (c : Chip) (i : Nat) (f : Ctrl → Ctrl) : Chip := { c with ctrls := c.ctrls.upd i f }

/-- Is the event enabled in a controller's Asynchronous Event Configuration? -/
def Ctrl.wants (t : Ctrl) (e : Nat) : Bool := if e = aenNamespace then bit t.aenCfg 8 else if e = aenAna then bit t.aenCfg 11 else true

/-- Report an event to a controller: an outstanding request completes with it, or it waits for one. One that was reported is not reported again until its log page is read. -/
def Chip.asyncEvent (c : Chip) (i e : Nat) : Chip :=
  match c.ctrls.get? i with
  | none => c
  | some t =>
    if !t.wants e || t.aenSent.contains e then c
    else match t.aerHeld with
      | [] => c.updCtrl i (fun t => { t with aenWait := addNew e t.aenWait })
      | k :: rest => (c.updCtrl i (fun t => { t with aerHeld := rest, aenSent := addNew e t.aenSent })).finishCmd k 0 e

/-- An ANA change of a fold (R372): a controller's log page reports it, and every controller is told. -/
def Chip.anaChange (c : Chip) (fold : Nat) : Chip :=
  let c := c.send (.ana fold)
  c.ctrls.keys.foldl (fun (c : Chip) i => (c.updCtrl i (fun t => { t with anaChanges := t.anaChanges + 1 })).asyncEvent i aenAna) c

/-- A namespace of a host has come, gone or changed: its controllers' Changed Namespace Lists name it. -/
def Chip.nsChanged (c : Chip) (host nsid : Nat) : Chip :=
  (c.ctrls.keep (fun _ t => t.host = host)).keys.foldl (fun (c : Chip) i =>
    (c.updCtrl i (fun t => { t with changedNs := addNew nsid t.changedNs })).asyncEvent i aenNamespace) c

/-- A reservation notification: 1 registration preempted, 2 reservation released, 3 reservation preempted. -/
def Chip.resvNotify (c : Chip) (v : Volume) (idents : List Nat) (kind : Nat) : Chip :=
  (c.ctrls.keep (fun _ t => idents.contains t.hostIdent && t.paddock = v.paddock && c.grants.has (grantKey t.host v.nsid) && !bit t.resvMask kind)).keys.foldl
    (fun (c : Chip) i => (c.updCtrl i (fun t => { t with resvLog := t.resvLog ++ [(kind, v.nsid)] })).asyncEvent i aenReservation) c

/-! ### Reservations (R128, R129) -/

def maxRegistrants : Nat := 64

def Volume.keyOf (v : Volume) (ident : Nat) : Option Nat := (v.registrants.find? (fun r => r.1 = ident)).map (·.2)

/-- Is the identifier a holder: the one that acquired, or with the types for all registrants every registrant? -/
def Volume.holds (v : Volume) (ident : Nat) : Bool :=
  v.resvType ≠ 0 && (if v.resvType = 5 || v.resvType = 6 then v.registrants.any (fun r => r.1 = ident) else v.holder = some ident)

/-- A volume without one registrant: a reservation that it held goes, unless other registrants hold it too. -/
def Volume.unregister (v : Volume) (ident : Nat) : Volume :=
  let was := v.holds ident
  let v := { v with registrants := v.registrants.filter (fun r => r.1 ≠ ident) }
  if was && (v.resvType < 5 || v.registrants = []) then { v with holder := none, resvType := 0 } else v

/-- What a reservation command comes to: refused, or the volume after it, the action of its delta, who is preempted, and who is to be told what. -/
structure ResvEffect where
  vol     : Volume
  action  : Nat
  preempted : List Nat
  told    : List (Nat × List Nat)

def Volume.others (v : Volume) (ident : Nat) : List Nat := (v.registrants.map (·.1)).filter (· ≠ ident)

/-- Reservation Register: action 0 register, 1 unregister, 2 replace. -/
def Volume.doRegister (v : Volume) (ident : Nat) (q : Sqe) (data : Bytes) : Option ResvEffect :=
  let crkey := unle (data.take 8)
  let nrkey := unle ((data.drop 8).take 8)
  let ignore := bit q.cdw10 3
  let v := if q.cdw10 / 2 ^ 30 % 4 = 2 then { v with ptpl := false } else if q.cdw10 / 2 ^ 30 % 4 = 3 then { v with ptpl := true } else v
  let add := fun (key : Nat) => ({ v with registrants := v.registrants.filter (fun r => r.1 ≠ ident) ++ [(ident, key)], resvGen := v.resvGen + 1 } : Volume)
  match q.cdw10 % 8, v.keyOf ident with
  | 0, none => if maxRegistrants ≤ v.registrants.length then none else some ⟨add nrkey, 1, [], []⟩
  | 0, some k => if k = nrkey then some ⟨v, 1, [], []⟩ else none
  | 1, some k =>
    if ignore || k = crkey then
      let u := { v.unregister ident with resvGen := v.resvGen + 1 }
      some ⟨u, 2, [], if v.resvType ≠ 0 && u.resvType = 0 then [(2, u.others ident)] else []⟩
    else none
  | 2, some k => if ignore || k = crkey then some ⟨add nrkey, 1, [], []⟩ else none
  | 2, none => if ignore && decide (v.registrants.length < maxRegistrants) then some ⟨add nrkey, 1, [], []⟩ else none
  | _, _ => none

/-- Reservation Acquire: action 0 acquire, 1 preempt, 2 preempt and abort. -/
def Volume.doAcquire (v : Volume) (ident : Nat) (q : Sqe) (data : Bytes) : Option ResvEffect :=
  let crkey := unle (data.take 8)
  let prkey := unle ((data.drop 8).take 8)
  let rtype := q.cdw10 / 256 % 256
  let act := q.cdw10 % 8
  let keyOk := match v.keyOf ident with
    | some k => bit q.cdw10 3 || decide (k = crkey)
    | none => false
  if !keyOk || rtype = 0 || 6 < rtype then none
  else if act = 0 then
    if v.resvType = 0 then some ⟨{ v with holder := some ident, resvType := rtype }, 3, [], []⟩
    else if v.holds ident && v.resvType = rtype then some ⟨v, 3, [], []⟩ else none
  else
    let all := v.resvType = 5 || v.resvType = 6
    let named := (v.registrants.filter (fun r => r.2 = prkey && r.1 ≠ ident)).map (·.1)
    let drop := fun (l : List Nat) => ({ v with registrants := v.registrants.filter (fun r => !l.contains r.1), resvGen := v.resvGen + 1 } : Volume)
    let taken := fun (l : List Nat) => { drop l with holder := some ident, resvType := rtype }
    let changed := if v.resvType = rtype then [] else [(2, (drop []).others ident)]
    if all && prkey = 0 then some ⟨taken (v.others ident), 5, v.others ident, [(1, v.others ident)]⟩
    else if v.resvType ≠ 0 && !all && v.registrants.any (fun r => v.holder = some r.1 && r.2 = prkey) then
      some ⟨taken named, 5, named, [(3, named)] ++ changed⟩
    else if named = [] then none
    else some ⟨drop named, 5, named, [(1, named)]⟩

/-- Reservation Release: action 0 release, 1 clear. `none` is a conflict. -/
def Volume.doRelease (v : Volume) (ident : Nat) (q : Sqe) (data : Bytes) : Option ResvEffect :=
  let keyOk := match v.keyOf ident with
    | some k => bit q.cdw10 3 || decide (k = unle (data.take 8))
    | none => false
  if !keyOk then none
  else if q.cdw10 % 8 = 1 then
    some ⟨{ v with registrants := [], holder := none, resvType := 0, resvGen := v.resvGen + 1 }, 6, [], [(3, v.others ident)]⟩
  else if !v.holds ident then some ⟨v, 4, [], []⟩
  else some ⟨{ v with holder := none, resvType := 0 }, 4, [], if v.resvType = 1 || v.resvType = 2 then [] else [(2, v.others ident)]⟩

/-- Commands of the volume not yet admitted whose senders are preempted end with Command Aborted due to Preempt and Abort (R129); those kept at intake end when their turn to enter
comes. -/
def Chip.abortPreempted (c : Chip) (n : Nat) (idents : List Nat) : Chip :=
  let c := (c.intake.cmds.keep (fun _ k => k.volume = some n && k.st = .queued && idents.contains k.ident)).foldl (fun (c : Chip) e => c.finishCmd e.1 stPreempted) c
  { c with intake := { c.intake with held := c.intake.held.map (fun h => if h.2.volume = some n && idents.contains h.2.ident then (h.1, { h.2 with bad := stPreempted }) else h) } }

/-- An admitted reservation command takes effect; its delta must be held before it completes (R150, R203). -/
def Chip.reserve (c : Chip) (key opc : Nat) (act : Volume → Nat → Sqe → Bytes → Option ResvEffect) : Chip :=
  c.admittedIo key opc (fun k n v =>
    let data := (k.blocks.getD 0 ⟨[], 0⟩).data
    if opc = 0x15 && k.sqe.cdw10 % 8 = 0 && v.holds k.ident && v.resvType ≠ k.sqe.cdw10 / 256 % 256 then c.finishCmd key stInvalidField
    else if [0x0D, 0x11, 0x15].contains opc && (if opc = 0x15 then 1 else 2) < k.sqe.cdw10 % 8 then c.finishCmd key stInvalidField
    else match act v k.ident k.sqe data with
      | none => ((c.cntMap 12).raiseLtd 0x20D n second).finishCmd key stConflict
      | some e =>
        let c := { c with vols := c.vols.put n e.vol }
        let r := c.sendDelta k.fold k.paddock n k.seq (.resv n k.ident (if e.action = 5 then unle ((data.drop 8).take 8) else (e.vol.keyOf k.ident).getD 0) e.action e.vol.resvType)
        let c := if opc = 0x11 && k.sqe.cdw10 % 8 = 2 then r.2.abortPreempted n e.preempted else r.2
        let c := e.told.foldl (fun (c : Chip) x => c.resvNotify v x.2 x.1) c
        c.updCmd key (fun k => { k with st := .waitHeld, lastMseq := r.1 }))

def resvRegister (isl tag : Nat) (c : Chip) : Chip := c.reserve (cmdKey isl tag) 0x0D Volume.doRegister
def resvAcquire (isl tag : Nat) (c : Chip) : Chip := c.reserve (cmdKey isl tag) 0x11 Volume.doAcquire
def resvRelease (isl tag : Nat) (c : Chip) : Chip := c.reserve (cmdKey isl tag) 0x15 Volume.doRelease

/-- The reservation status of a volume in the extended format. -/
def Volume.resvStatus (v : Volume) (cntlid : Nat → Nat) : Bytes :=
  padTo 64 (le 4 v.resvGen ++ le 1 v.resvType ++ le 2 v.registrants.length ++ zeros 2 ++ le 1 (b2n v.ptpl)) ++
    v.registrants.flatMap (fun r => padTo 64 (le 2 (cntlid r.1) ++ le 1 (b2n (v.holds r.1)) ++ zeros 5 ++ le 8 r.2 ++ le 16 r.1))

/-- RESV_REPORT (R128): the extended format alone carries 128-bit host identifiers. -/
def resvReport (isl tag : Nat) (c : Chip) : Chip :=
  let key := cmdKey isl tag
  c.admittedIo key 0x0E (fun k _ v =>
    if !bit k.sqe.cdw11 0 then c.finishCmd key 0x018
    else
      let ctl := fun (ident : Nat) => ((c.ctrls.first? (fun _ t => t.hostIdent = ident && t.paddock = v.paddock)).map (·.1)).getD 0xFFFF
      c.finishCmd key 0 0 [(v.resvStatus ctl).take ((k.sqe.cdw10 + 1) * 4)])

/-! ### Abort (R177 to R179) -/

/-- May a command that an Abort names be aborted: not yet admitted, an admitted Flush, or an admitted read-class command? -/
def HostCmd.abortable (k : HostCmd) : Bool := k.io && (k.st = .queued || k.sqe.opc = 0x00 || k.sqe.readClass)

/-- The parts of a Flush of all namespaces that were forwarded are withdrawn with it (R177). -/
def Chip.withdrawParts (c : Chip) (k : HostCmd) : Chip :=
  (k.multi.filter (fun m => decide (2 ^ 20 ≤ m.1) && c.intake.forwards.has (m.1 - 2 ^ 20))).foldl (fun (c : Chip) m =>
    let t := c.intake.fwdNext
    let abort : Sqe := { k.sqe with opc := 0x08, cdw10 := k.sqe.cid * 65536 }
    let part : HostCmd := { k with st := .forwarded, units := 0, silent := true, multi := [], cls := 4, sqe := abort }
    let c : Chip := { c with intake := { c.intake with forwards := (c.intake.forwards.del (m.1 - 2 ^ 20)).put t part, fwdNext := (t + 1) % 2 ^ 32 } }
    (c.send (FwdRec.out k.fwdHead (.abort t k.ctx abort))).cntTwin 7) c

/-- Evaluate an Abort of a command: whether the abort wins, and the target's end. -/
def Chip.abortTarget (c : Chip) (ctx cid : Nat) (fwd : Bool) : Bool × Chip :=
  match c.intake.cmds.first? (fun _ k => k.ctx = ctx && k.sqe.cid = cid && k.fwd.isSome = fwd) with
  | some (key, k) => if k.abortable then (true, ((c.cntCmd 6).withdrawParts k).finishCmd key stAborted) else (false, c.cntCmd 7)
  | none => (false, c.cntCmd 7)

/-- NVME_ABORT: one of the admin commands of CMD0. Beyond the Abort Command Limit it completes so (event 0x28E); the Abort of a forwarded command is forwarded (R386). -/
def nvmeAbort (tag : Nat) (c : Chip) : Chip :=
  let key := cmdKey 0 tag
  match c.intake.cmds.get? key with
  | none => c
  | some k =>
    if k.io || k.st ≠ .admitted || k.sqe.opc ≠ 0x08 then c
    else match c.conns.get? k.ctx with
      | none => c.finishCmd key stSequence
      | some n =>
        if !n.connected then c.finishCmd key stSequence
        else
        let mine := fun (x : HostCmd) => !x.io && x.sqe.opc = 0x08 && decide (x.order < k.order) && (c.conns.get? x.ctx).any (fun m => m.ctrl = n.ctrl)
        let open_ := (c.intake.cmds.keep (fun _ x => mine x)).length + (c.intake.forwards.keep (fun _ x => mine x)).length
        if c.get CMDQ_LIMIT_acl + 1 ≤ open_ then (c.raise 0x28E).finishCmd key 0x103
        else
          let target := c.conns.first? (fun _ m => m.connected && m.ctrl = n.ctrl && m.qid = k.sqe.cdw10 % 65536)
          match target with
          | none => (c.cntCmd 7).finishCmd key 0 1
          | some (ctx, _) =>
            if !c.intake.cmds.any (fun e => e.2.ctx = ctx && e.2.sqe.cid = k.sqe.cdw10 / 65536 && e.2.fwd.isNone) &&
                c.intake.forwards.any (fun e => !e.2.silent && e.2.ctx = ctx && e.2.sqe.cid = k.sqe.cdw10 / 65536) then
              let t := c.intake.fwdNext
              let c := c.dropCmd key k
              let c := { c with intake := { c.intake with forwards := c.intake.forwards.put t { k with st := .forwarded, units := 0 }, fwdNext := (t + 1) % 2 ^ 32 } }
              (c.send (FwdRec.out { k.fwdHead with ctx := ctx } (.abort t ctx k.sqe))).cntTwin 7
            else
              let r := c.abortTarget ctx (k.sqe.cdw10 / 65536) false
              r.2.finishCmd key 0 (b2n (!r.1))

end Sys2Proof.Machine
end

