-- ==== Sys2Proof/Machine/Volumes.lean ====
section
/-!
DEFINITION. The commands on paddocks, volumes, hosts and grants (R124 to R127, R130, R132, R164, R165, R435), and the markers that they place in
a volume's ordering stage (R169, R236).
-/

namespace Sys2Proof.Machine

def paddockRefusal (c : Chip) (p offset : Nat) : Option (Nat × Nat) := rangeRefusal c p 4096 2048 offset
def volumeRefusal (c : Chip) (v offset : Nat) : Option (Nat × Nat) := rangeRefusal c v 65536 32768 offset
def hostRefusal (c : Chip) (x offset : Nat) : Option (Nat × Nat) := rangeRefusal c x 8192 4096 offset

/-! ### Paddocks (R124) -/

/-- PADDOCK_CREATE (0x0100). -/
def paddockCreate (h : Hdr) (paddock : Nat) (nqn : Bytes) : Chip → Chip :=
  runPair ⟨0x0100, true, .w, paramBytes [2, 2] + 4 + nqn.length⟩ h [paddock] (.paddockCreate paddock nqn) (fun c =>
    Res.guard c [paddockRefusal c paddock 32, refuseIf (nqn.length = 0 || decide (223 < nqn.length)) 0x0102 34, refuseIf (c.paddocks.has paddock) 0x0202,
        refuseIf (c.paddocks.any (fun p => p.2.nqn = nqn)) 0x0202]
      (fun c => Res.ok { c with paddocks := c.paddocks.put paddock ⟨nqn⟩ }))

/-- PADDOCK_DELETE (0x0101). -/
def paddockDelete (h : Hdr) (paddock : Nat) : Chip → Chip :=
  runPair ⟨0x0101, true, .w, paramBytes [2]⟩ h [paddock] (.paddockDelete paddock) (fun c =>
    Res.guard c [paddockRefusal c paddock 32, refuseIf (!c.paddocks.has paddock) 0x0201,
        refuseIf (c.vols.any (fun v => v.2.paddock = paddock) || c.hosts.any (fun x => x.2.paddock = paddock)) 0x0203]
      (fun c => Res.ok { c with paddocks := c.paddocks.del paddock }))

/-- PADDOCK_ARB_SET (0x0102). -/
def paddockArbSet (h : Hdr) (paddock image : Nat) : Chip → Chip :=
  runPair ⟨0x0102, true, .w, paramBytes [2, 4]⟩ h [paddock] (.paddockArbSet paddock image) (fun c =>
    Res.guard c [paddockRefusal c paddock 32, refuseIf (!c.paddocks.has paddock) 0x0201] (fun c => Res.ok (c.writeImage CMDQ_PADDOCK_ARB image paddock)))

/-- PADDOCK_GET (0x0104). -/
def paddockGet (h : Hdr) (paddock : Nat) : Chip → Chip :=
  runCommand ⟨0x0104, false, .r, paramBytes [2]⟩ h [paddock] (fun c =>
    Res.guard c [paddockRefusal c paddock 32, refuseIf (!c.paddocks.has paddock) 0x0201]
      (fun c =>
        let vs := (c.vols.filter (fun v => v.2.paddock = paddock)).length
        let hs := (c.hosts.filter (fun x => x.2.paddock = paddock)).length
        let k := c.cipher.pads.get? paddock
        Res.ok c (le 2 vs ++ le 2 hs ++ le 1 (c.ports.redAction.getD paddock 0) ++ zeros 1 ++ le 2 (c.overheadOf paddock) ++ le 8 ((k.map (·.keyId)).getD 0) ++
          le 4 ((k.map (·.gLo)).getD 0) ++ le 4 ((k.map (·.gCur)).getD 0))))

/-! ### Markers (R169) -/

/-- Does this chip hold the ordering stage of a volume's fold? It does unless the partner owns the fold. -/
def Chip.stageHere (c : Chip) (fold : Nat) : Bool :=
  c.flag TWIN_FOLD_STAT_gate_open fold || !(c.get TWIN_STATUS_pair_state = 1 && c.flag TWIN_FOLD_STAT_partner_line fold)

/-- A marker that takes effect at once takes a number of its own. -/
def Chip.markNow (c : Chip) (volume : Nat) : Chip :=
  match c.vols.get? volume with
  | some v => if c.flag TWIN_FOLD_STAT_gate_open v.fold then (c.takeSeq volume).2 else c
  | none => c

/-- Place a marker that waits, with its number; while no stage serves the volume's fold here it has none (0), for only the stage issues numbers (R168). -/
def Chip.placeMark (c : Chip) (volume : Nat) (what : MarkWhat) (h : Hdr) : Chip :=
  match c.vols.get? volume with
  | some v =>
    if c.flag TWIN_FOLD_STAT_gate_open v.fold then { c with vols := c.vols.put volume { v with marks := v.marks ++ [(⟨v.nextSeq, what, h⟩ : Mark)], nextSeq := v.nextSeq + 1 } }
    else { c with vols := c.vols.put volume { v with marks := v.marks ++ [(⟨0, what, h⟩ : Mark)] } }
  | none => c

/-- Markers that wait without a number take theirs once the stage serves the fold. -/
def Volume.numberMarks (v : Volume) : Volume :=
  v.marks.foldl (fun (acc : Volume) m =>
    if m.seq = 0 then { acc with marks := acc.marks ++ [{ m with seq := acc.nextSeq }], nextSeq := acc.nextSeq + 1 } else { acc with marks := acc.marks ++ [m] }) { v with marks := [] }

/-- Hosts that have a grant on a volume hear of a change of it. -/
def Chip.volumeChanged (c : Chip) (volume : Nat) : Chip :=
  (c.grants.filter (fun g => g.2.volume = volume)).foldl (fun (c : Chip) g => c.nsChanged (g.1 / 65536) (g.1 % 65536)) c

/-! ### Volumes (R125) -/

/-- The snapshots and clones whose barriers wait: (source's paddock, source's lineage, volume, NSID). Their IDs are held from the acceptance of the command on. -/
def Chip.pendingMembers (c : Chip) : List (Nat × Nat × Nat × Nat) :=
  c.vols.flatMap (fun v => v.2.marks.filterMap (fun m => match m.what with
    | .member volume nsid _ => some (v.2.paddock, v.2.lineage, volume, nsid)
    | _ => none))

def Chip.volumeHeld (c : Chip) (volume : Nat) : Bool := c.vols.has volume || c.pendingMembers.any (fun x => x.2.2.1 = volume)

/-- Is a volume ID the lineage of a live member, or do entries of that lineage remain? -/
def Chip.lineageInUse (c : Chip) (volume : Nat) : Bool := c.vols.any (fun v => v.2.lineage = volume) || c.allEntries.any (fun e => e.lineage = volume)

def Chip.nsidHeld (c : Chip) (paddock nsid : Nat) : Bool := c.vols.any (fun v => v.2.paddock = paddock && v.2.nsid = nsid) || c.pendingMembers.any (fun x => x.1 = paddock && x.2.2.2 = nsid)

/-- A volume as it is created. -/
def newVolume (paddock nsid fold flock acres volume lbaf : Nat) : Volume :=
  { paddock := paddock, nsid := nsid, fold := fold, flock := flock, acres := acres, lineage := volume, member := 0, epoch := 0, ancestry := [], filter := 0,
    writable := true, lbaf := lbaf, nextSeq := 1, epochs := [], marks := [], registrants := [], holder := none, resvType := 0, resvGen := 0, ptpl := false }

/-- VOLUME_CREATE (0x0110). -/
def volumeCreate (h : Hdr) (volume paddock nsid fold flock acres : Nat) : Chip → Chip :=
  runPair ⟨0x0110, true, .w, paramBytes [2, 2, 2, 1, 1, 8]⟩ h [paddock] (.volumeCreate volume paddock nsid fold flock acres) (fun c =>
    Res.guard c [volumeRefusal c volume 32, paddockRefusal c paddock 34, refuseIf (nsid = 0 || decide (65535 < nsid)) 0x0102 36, refuseIf (decide (8 ≤ fold)) 0x0102 38,
        refuseIf (decide (4 ≤ flock)) 0x0102 39, refuseIf (acres = 0 || decide (2 ^ 40 ≤ acres)) 0x0102 40, refuseIf (!c.paddocks.has paddock) 0x0201,
        refuseIf (c.flock? flock).isNone 0x0201, refuseIf (!c.cipher.pads.has paddock) 0x0206 paddock, refuseIf (c.volumeHeld volume) 0x0202,
        refuseIf (c.lineageInUse volume) 0x0203, refuseIf (c.nsidHeld paddock nsid) 0x0202]
      (fun c => Res.ok ({ c with vols := c.vols.put volume (newVolume paddock nsid fold flock acres volume 0) } : Chip).showThrough))

/-- VOLUME_DELETE (0x0111): a marker; the reply follows the removal. The chip that does not hold the stage removes its record at once. -/
def volumeDelete (h : Hdr) (volume : Nat) : Chip → Chip :=
  runPair ⟨0x0111, true, .w, paramBytes [2]⟩ h [] (.volumeDelete volume) (fun c =>
    Res.guard c [volumeRefusal c volume 32, refuseIf (!c.vols.has volume) 0x0201, refuseIf (c.grants.any (fun g => g.2.volume = volume)) 0x0203]
      (fun c => match c.vols.get? volume with
        | none => Res.no c 0x0201
        | some v => if c.stageHere v.fold then Res.wait (c.placeMark volume .remove h) else Res.ok { c with vols := c.vols.del volume }))

/-- VOLUME_RESIZE (0x0112). -/
def volumeResize (h : Hdr) (volume acres : Nat) : Chip → Chip :=
  runPair ⟨0x0112, true, .w, paramBytes [2, 8]⟩ h [] (.volumeResize volume acres) (fun c =>
    match c.vols.get? volume with
    | none => Res.guard c [volumeRefusal c volume 32] (fun c => Res.no c 0x0201)
    | some v =>
      Res.guard c [refuseIf (acres = 0 || decide (2 ^ 40 ≤ acres)) 0x0102 40,
          refuseIf (decide (acres < v.acres) && c.allEntries.any (fun e => e.lineage = v.lineage && decide (acres < e.start + 2 ^ e.k))) 0x0203]
        (fun c =>
          let c := c.markNow volume
          Res.ok (({ c with vols := c.vols.upd volume (fun v => { v with acres := acres }) } : Chip).volumeChanged volume)))

/-! ### Snapshots and clones (R130, R132) -/

/-- The ancestry of a new member: the source in front of the source's own, unless the source is a snapshot, which owns no entries. -/
def Volume.childAncestry (v : Volume) : List (Nat × Nat) := if v.writable then (v.member, v.epoch) :: v.ancestry else v.ancestry

/-- The member indices of a lineage that no member, no ancestry and no entry uses, and the lowest of them. -/
def Chip.freeMembers (c : Chip) (lineage : Nat) : List Nat :=
  let vs := c.membersOf lineage
  let used := vs.map (·.member) ++ vs.flatMap (fun v => v.ancestry.map (·.1)) ++ (c.allEntries.filter (fun e => e.lineage = lineage)).map (·.owner)
  (List.range 64).filter (fun i => !used.contains i)

def Chip.freeMember (c : Chip) (lineage : Nat) : Option Nat := (c.freeMembers lineage).head?

/-- Advances of a volume's epoch that its waiting barriers will make. -/
def Volume.advances (v : Volume) : Nat := (v.marks.filter (fun m => match m.what with
  | .member _ _ _ => true
  | _ => false)).length

/-- Create the member record. -/
def Chip.addMember (c : Chip) (v : Volume) (volume nsid : Nat) (writable : Bool) : Chip :=
  match c.freeMember v.lineage with
  | none => c
  | some m =>
    let n : Volume := { v with
      nsid := nsid, member := m, epoch := 0, ancestry := v.childAncestry, writable := writable, nextSeq := 1, epochs := [], marks := [], registrants := [],
      holder := none, resvType := 0, resvGen := 0, ptpl := false }
    ({ c with vols := c.vols.put volume n } : Chip).showThrough

def memberInfo (writable : Bool) : CmdInfo := ⟨if writable then 0x0114 else 0x0113, true, .w, paramBytes [2, 2, 2]⟩

/-- The barrier takes effect: the member is created, the source's epoch advances, and the advance is recorded and sent (R132, R236). One that no longer finds an epoch or a member index fails (R130). -/
def Chip.runBarrier (c : Chip) (source : Nat) (v : Volume) (m : Mark) (volume nsid : Nat) (writable : Bool) : Chip :=
  if 2 ^ 20 - 1 ≤ v.epoch || (c.freeMember v.lineage).isNone then Chip.finishLater (memberInfo writable) m.hdr (Res.no c 0x0204)
  else
  let c := c.addMember v volume nsid writable
  let c := { c with vols := c.vols.upd source (fun v => { v with epoch := v.epoch + 1, epochs := ((v.epoch + 1, m.seq) :: v.epochs).take 16 }) }
  let c := (c.sendDelta v.fold v.paddock source m.seq (.epoch source (v.epoch + 1) m.seq)).2
  Chip.finishLater (memberInfo writable) m.hdr (Res.ok c (le 4 v.epoch))

/-- The barrier of a stage that the partner holds has taken effect, for its advance arrives (R508): the member that waits for it is created here from the same source (R132). -/
def Chip.foreignBarrier (c : Chip) (source : Nat) : Chip :=
  match c.vols.get? source with
  | none => c
  | some v =>
    match v.marks.find? (fun m => match m.what with
        | .member _ _ _ => true
        | _ => false) with
    | some m =>
      let v := { v with marks := v.marks.erase m }
      let c := { c with vols := c.vols.put source v }
      (match m.what with
      | .member volume nsid writable => Chip.finishLater (memberInfo writable) m.hdr (Res.ok (c.addMember v volume nsid writable) (le 4 v.epoch))
      | _ => c)
    | none => c

/-- SNAPSHOT_CREATE and CLONE_CREATE: a barrier in the source's stage; the reply, with the cut epoch, follows it. A chip that does not hold the stage waits for the advance, of which it
hears by a delta. -/
def memberCreate (writable : Bool) (h : Hdr) (source volume nsid : Nat) : Chip → Chip :=
  runPair (memberInfo writable) h [] (if writable then .cloneCreate source volume nsid else .snapshotCreate source volume nsid) (fun c =>
    match c.vols.get? source with
    | none => Res.guard c [volumeRefusal c source 32] (fun c => Res.no c 0x0201)
    | some v =>
      Res.guard c [volumeRefusal c volume 34, refuseIf (nsid = 0 || decide (65535 < nsid)) 0x0102 36, refuseIf (c.volumeHeld volume) 0x0202,
          refuseIf (c.lineageInUse volume) 0x0203, refuseIf (c.nsidHeld v.paddock nsid) 0x0202, refuseIf (decide (2 ^ 20 - 1 ≤ v.epoch + v.advances)) 0x0204,
          refuseIf (decide (8 < v.childAncestry.length)) 0x0204,
          refuseIf (decide ((c.freeMembers v.lineage).length ≤ (c.pendingMembers.filter (fun x => x.2.1 = v.lineage)).length)) 0x0204]
        (fun c => Res.wait (c.placeMark source (.member volume nsid writable) h)))

def snapshotCreate (h : Hdr) (source volume nsid : Nat) : Chip → Chip := memberCreate false h source volume nsid
def cloneCreate (h : Hdr) (source volume nsid : Nat) : Chip → Chip := memberCreate true h source volume nsid

/-- Has every write-class command below a number its mapping and its versions, or ended (R132)? -/
def Chip.writesMade (c : Chip) (volume seq : Nat) : Bool :=
  !c.intake.cmds.any (fun e => e.2.volume = some volume && e.2.io && e.2.sqe.writeClass && decide (0 < e.2.seq) && decide (e.2.seq < seq) &&
    (e.2.st = .admitted || e.2.st = .waitLearn || e.2.st = .waitRoom))

/-- Versions of a volume, those that wait for room included, below a number. -/
def Chip.bufferedBelow (c : Chip) (volume seq : Nat) : Bool :=
  c.lines.any (fun l => isVersion l.2.2 && !l.2.2.poisoned && l.2.2.volume = volume && decide (l.2.2.seq < seq)) || c.cache.waiting.any (fun l => l.volume = volume && decide (l.seq < seq))

/-- One marker at the front of a volume's stage: it takes effect when its condition holds. A barrier that would discard the record of an advance below which versions remain waits
for them (event 0x39B). A volume is removed once its commands have ended (R125); where other members of its lineage live, its versions, which they may be entitled to (R507), stand on the drives
first, and else they go with it (DESIGN CHOICE, assumption 33). -/
def Chip.tryMark (c : Chip) (i : Nat) (v : Volume) : Chip :=
  match v.marks with
  | [] => c
  | m :: rest =>
    let done := fun (c : Chip) => { c with vols := c.vols.upd i (fun v => { v with marks := rest }) }
    match m.what with
    | .member volume nsid writable =>
      if !c.writesMade i m.seq then c
      else
        let lost := if 16 ≤ v.epochs.length then (v.epochs.getLast?).map (·.2) else none
        if lost.any (fun n => c.bufferedBelow i n) then c.raiseLtd 0x39B i (2 ^ 63) else (done c).runBarrier i { v with marks := rest } m volume nsid writable
    | .remove =>
      let alone := (c.membersOf v.lineage).length ≤ 1
      if c.intake.cmds.any (fun e => e.2.volume = some i && decide (0 < e.2.seq)) || (!alone && c.bufferedBelow i v.nextSeq) then c
      else
        let dead := c.lines.filter (fun l => l.2.2.volume = i && l.2.2.st ≠ .mirror)
        let c := dead.foldl (fun (c : Chip) l => c.putWay l.1 l.2.1 none) c
        let c := c.sendRetires v.fold ((dead.filter (fun l => isVersion l.2.2)).map (fun l => (i, l.2.2.lba, l.2.2.seq)))
        let c := { c with vols := c.vols.del i, cache := { c.cache with streams := c.cache.streams.del i, waiting := c.cache.waiting.filter (fun l => l.volume ≠ i) } }
        Chip.finishLater ⟨0x0111, true, .w, paramBytes [2]⟩ m.hdr (Res.ok (c.rewheel i))
    | .detach => c
    | .erase => c

def Chip.runMarks (c : Chip) : Chip := c.vols.foldl (fun (c : Chip) e => match c.vols.get? e.1 with
  | some v =>
    let c := if v.marks.any (fun m => m.seq = 0) && c.flag TWIN_FOLD_STAT_gate_open v.fold then { c with vols := c.vols.put e.1 v.numberMarks } else c
    (match c.vols.get? e.1 with
    | some v => if (v.marks.head?).any (fun m => m.seq = 0) then c else c.tryMark e.1 v
    | none => c)
  | none => c) c

/-- VOLUME_ARB_SET (0x0115). -/
def volumeArbSet (h : Hdr) (volume image : Nat) : Chip → Chip :=
  runPair ⟨0x0115, true, .w, paramBytes [2, 4]⟩ h [] (.volumeArbSet volume image) (fun c =>
    Res.guard c [volumeRefusal c volume 32, refuseIf (!c.vols.has volume) 0x0201] (fun c => Res.ok (c.writeImage CMDQ_VOL_ARB image volume)))

/-- VOLUME_GET (0x0117): the items of R125 in order. -/
def volumeGet (h : Hdr) (volume : Nat) : Chip → Chip :=
  runCommand ⟨0x0117, false, .r, paramBytes [2]⟩ h [] (fun c =>
    match c.vols.get? volume with
    | none => Res.guard c [volumeRefusal c volume 32] (fun c => Res.no c 0x0201)
    | some v =>
      let pairs := (List.range 8).flatMap (fun i => let x := v.ancestry.getD i (0, 0); le 1 x.1 ++ zeros 3 ++ le 4 x.2)
      Res.ok c (le 2 v.paddock ++ le 2 v.nsid ++ le 1 v.fold ++ le 1 v.flock ++ zeros 2 ++ le 8 v.acres ++ le 2 v.lineage ++ le 1 v.member ++ zeros 1 ++ le 4 v.epoch ++
        pairs ++ le 4 v.filter ++ le 1 (b2n v.writable)))

/-! ### Hosts (R126, R164) -/

/-- A prefix length outside its range (R126). -/
def HostPrefix.bad (p : HostPrefix) : Bool := if isV4 p.address then decide (32 < p.length) else decide (128 < p.length)

def prefixRefusal (ps : List HostPrefix) : Option (Nat × Nat) :=
  ((List.range ps.length).find? (fun i => (ps.getD i ⟨0, 0⟩).bad)).map (fun i => (0x0102, 48 + 24 * i + 16))

/-- HOST_SET (0x0200). -/
def hostSet (h : Hdr) (host paddock connLimit prefixes nqnHash : Nat) (pfx : List HostPrefix) (identity : Bytes) : Chip → Chip :=
  runPair ⟨0x0200, true, .w, paramBytes [2, 2, 2, 1, 1, 8] + 96 + identity.length⟩ h [paddock]
    (.hostSet host paddock connLimit prefixes nqnHash pfx identity) (fun c =>
    Res.guard c [hostRefusal c host 32, paddockRefusal c paddock 34, refuseIf (decide (4 < prefixes)) 0x0102 38, refuseIf (decide (128 < identity.length)) 0x0102 39,
        prefixRefusal (pfx.take prefixes), refuseIf (!c.paddocks.has paddock) 0x0201]
      (fun c =>
        let e : HostEntry := ⟨paddock, connLimit, nqnHash, if identity = [] then none else some identity, pfx.take prefixes⟩
        Res.ok { c with hosts := c.hosts.put host e }))

/-- HOST_CLEAR (0x0201). -/
def hostClear (h : Hdr) (host : Nat) : Chip → Chip :=
  runPair ⟨0x0201, true, .w, paramBytes [2]⟩ h [] (.hostClear host) (fun c =>
    Res.guard c [hostRefusal c host 32, refuseIf (!c.hosts.has host) 0x0201] (fun c => Res.ok { c with hosts := c.hosts.del host }))

/-- HOST_GET (0x0202): laid out as the parameters of HOST_SET. -/
def hostGet (h : Hdr) (host : Nat) : Chip → Chip :=
  runCommand ⟨0x0202, false, .r, paramBytes [2]⟩ h [] (fun c =>
    match c.hosts.get? host with
    | none => Res.guard c [hostRefusal c host 32] (fun c => Res.no c 0x0201)
    | some e =>
      let ident := e.identity.getD []
      Res.ok c (le 2 host ++ le 2 e.paddock ++ le 2 e.connLimit ++ le 1 e.prefixes.length ++ le 1 ident.length ++ le 8 e.nqnHash ++
        (List.range 4).flatMap (fun i => let p := e.prefixes.getD i ⟨0, 0⟩; be 16 p.address ++ le 1 p.length ++ zeros 7) ++ ident))

/-- HOST_CLASS_SET (0x0204): the bands apply to queues created afterwards. -/
def hostClassSet (h : Hdr) (host band image : Nat) : Chip → Chip :=
  runPair ⟨0x0204, true, .w, paramBytes [2, 1, 4]⟩ h [] (.hostClassSet host band image) (fun c =>
    Res.guard c [hostRefusal c host 32, refuseIf (decide (4 ≤ band)) 0x0102 34] (fun c => Res.ok (c.writeImage CMDQ_HOST_CLASS image host band)))

/-! ### Grants (R127) -/

def Chip.maxGrants (c : Chip) : Nat := if c.id.half then 131072 else 262144

/-- Join a host and NSID to a volume. A grant that already joins them keeps its identity and takes the mode. -/
def Chip.putGrant (c : Chip) (host nsid volume : Nat) (ro : Bool) : Chip :=
  let key := grantKey host nsid
  let c := c.markNow volume
  match c.grants.get? key with
  | some g => { c with grants := c.grants.put key { g with readOnly := ro } }
  | none => ({ c with grants := c.grants.put key ⟨volume, ro, c.grantNo⟩, grantNo := c.grantNo + 1 } : Chip).nsChanged host nsid

def Chip.dropGrant (c : Chip) (host nsid : Nat) : Chip :=
  match c.grants.get? (grantKey host nsid) with
  | none => c
  | some g =>
    let c := c.markNow g.volume
    ({ c with grants := c.grants.del (grantKey host nsid) } : Chip).nsChanged host nsid

/-- GRANT_SET (0x0210). -/
def grantSet (h : Hdr) (host nsid volume mode : Nat) : Chip → Chip :=
  runPair ⟨0x0210, true, .w, paramBytes [2, 2, 2, 1]⟩ h [] (.grantSet host nsid volume mode) (fun c =>
    match c.hosts.get? host, c.vols.get? volume with
    | some e, some v =>
      Res.guard c [refuseIf (nsid ≠ v.nsid) 0x0102 34, refuseIf (v.paddock ≠ e.paddock) 0x0102 36, refuseIf (decide (2 ≤ mode) || (!v.writable && mode ≠ 1)) 0x0102 38,
          refuseIf ((c.grants.get? (grantKey host nsid)).any (fun g => g.volume ≠ volume)) 0x0202,
          refuseIf (!c.grants.has (grantKey host nsid) && decide (c.maxGrants ≤ c.grants.length)) 0x0204]
        (fun c => Res.ok (c.putGrant host nsid volume (mode = 1)))
    | _, _ => Res.guard c [hostRefusal c host 32, volumeRefusal c volume 36] (fun c => Res.no c 0x0201))

/-- GRANT_CLEAR (0x0211): affects commands admitted after it. -/
def grantClear (h : Hdr) (host nsid : Nat) : Chip → Chip :=
  runPair ⟨0x0211, true, .w, paramBytes [2, 2]⟩ h [] (.grantClear host nsid) (fun c =>
    Res.guard c [hostRefusal c host 32, refuseIf (!c.grants.has (grantKey host nsid)) 0x0201] (fun c => Res.ok (c.dropGrant host nsid)))

/-- GRANT_LIST (0x0212). -/
def grantList (h : Hdr) (host first : Nat) : Chip → Chip :=
  runCommand ⟨0x0212, false, .r, paramBytes [2, 2]⟩ h [] (fun c =>
    Res.guard c [hostRefusal c host 32]
      (fun c =>
        let gs := (c.grants.filter (fun g => g.1 / 65536 = host && decide (first ≤ g.1 % 65536))).take 500
        Res.ok c (le 2 gs.length ++ gs.flatMap (fun g => le 2 (g.1 % 65536) ++ le 2 g.2.volume ++ le 1 (b2n g.2.readOnly) ++ zeros 3))))

end Sys2Proof.Machine
end

