-- ==== Sys2Proof/Machine/Nvme.lean ====
section
/-!
DEFINITION. Controllers: Fabrics commands, lost queue pairs, the admin commands of R184 (chapter 5 of the spec; R126, R164, R175, R176). The fields that the NVM
Express specifications give these commands and structures are taken from them (assumption 9).
-/

namespace Sys2Proof.Machine

/-! ### Lost queue pairs (R176) -/

/-- A fresh identifier from 1 up, below a bound, that is not in use: the value the chip draws, or the next free one after it. -/
def Chip.freshId (c : Chip) (bound : Nat) (used : Nat → Bool) (tries : Nat) : Nat × Chip :=
  let r := c.fresh
  let first := r.1 % (bound - 1) + 1
  let x := (List.range tries).foldl (fun (x : Nat) _ => if used x then x % (bound - 1) + 1 else x) first
  (x, r.2)

/-- Connection manager messages that the chip sends: 0 reply, 1 reject, 2 disconnect request, 3 disconnect reply. -/
def cmRep : Nat := 0
def cmRej : Nat := 1
def cmDreq : Nat := 2
def cmDrep : Nat := 3

/-- Close the connection of a queue pair that is lost otherwise than by its connection. -/
def Chip.closeQueue (c : Chip) (ctx : Nat) : Chip :=
  match c.conns.get? ctx with
  | none => c
  | some n => match n.transport with
    | .drove => c.closeDrove ctx 0x0012
    | .tcp => ((c.loseQueue ctx).emitFrame ctx n.sub (.tcpClose ctx false) []).freeContext ctx
    | .roce => ((c.loseQueue ctx).emitFrame ctx n.sub (.roceCm ctx cmDreq) []).freeContext ctx

/-- The association of a controller is lost, and with it every queue pair. -/
def Chip.loseAssoc (c : Chip) (ctrl : Nat) : Chip :=
  let c := (c.conns.keep (fun _ n => n.connected && n.ctrl = ctrl)).keys.foldl (fun (c : Chip) i => c.closeQueue i) c
  { c with ctrls := c.ctrls.del ctrl }

/-- A command of a lost queue pair: discarded if it was not admitted; else it runs on and its completion is discarded. -/
def Chip.loseCmd (c : Chip) (key : Nat) (k : HostCmd) : Chip :=
  if k.st = .queued || k.st = .event || !k.io then (c.dropCmd key k).cntCmd 15 else c.updCmd key (fun k => { k with silent := true })

/-- Settle the commands of one lost queue pair. -/
def Chip.settleCmds (c : Chip) (ctx : Nat) (q : Option (Nat × Nat)) : Chip :=
  let mine := c.intake.cmds.keep (fun _ k => k.ctx = ctx && k.fwd.isNone)
  let held := (c.intake.held.filter (fun h => h.2.ctx = ctx)).length
  let c := mine.foldl (fun (c : Chip) e => c.loseCmd e.1 e.2) c
  let c := { c with
    intake := { c.intake with
      held := c.intake.held.filter (fun h => h.2.ctx ≠ ctx),
      done := c.intake.done.filter (fun d => d.ctx ≠ ctx),
      forwards := c.intake.forwards.mapVals (fun _ k => if k.ctx = ctx then { k with silent := true } else k) } }
  let c := if held = 0 then c else c.cntCmd 15 held
  let c := c.raiseIf (mine.any (fun e => e.2.st ≠ .queued && e.2.st ≠ .event)) 0x28F
  let c := c.updConn ctx (fun n => { n with connected := false })
  match q with
  | none => c
  | some (ctrl, qid) =>
    if qid = 0 then c.loseAssoc ctrl
    else c.updCtrl ctrl (fun t => { t with aerHeld := t.aerHeld.filter (fun key => c.intake.cmds.has key) })

/-- Settle every queue pair lost in the command in hand; the loss of an admin queue loses more. -/
def Chip.settleLost : Nat → Chip → Chip
  | 0, c => c
  | fuel + 1, c =>
    match c.lost with
    | [] => c
    | x :: rest => Chip.settleLost fuel (({ c with lost := rest } : Chip).settleCmds x.1 x.2)

/-! ### Connect (R126, R163, R164, R176, R184) -/

def stConnectFormat : Nat := 0x180
def stConnectParams : Nat := 0x182
def stConnectHost : Nat := 0x184

/-- A name in a 256-byte field: up to its first 0. -/
def nameAt (data : Bytes) (off : Nat) : Bytes := ((data.drop off).take 256).takeWhile (fun b => decide (b ≠ 0))

/-- The NQN hash (R126): the first 8 digest bytes, least significant first. -/
def nqnHashOf (nqn : Bytes) : Nat := unle ((Config.sha384 nqn).take 8)

def discoveryNqn : Bytes := ascii "nqn.2014-08.org.nvmexpress.discovery"

/-- Is an address within a prefix (R126)? -/
def HostPrefix.covers (p : HostPrefix) (a : Nat) : Bool :=
  let w := if isV4 p.address then 32 else 128
  isV4 p.address == isV4 a && decide (a / 2 ^ (w - p.length) = p.address / 2 ^ (w - p.length))

/-- The four conditions of R126. -/
def HostEntry.admits (e : HostEntry) (n : Conn) (paddock hash : Nat) : Bool :=
  decide (e.paddock = paddock) && decide (e.nqnHash = hash) &&
    (match e.identity with
      | none => true
      | some i => n.transport ≠ .roce && decide (n.identity = some i)) &&
    (e.prefixes.isEmpty || e.prefixes.any (fun p => p.covers n.srcAddr))

/-- The class of a queue (R164): the first valid band that holds it, else medium. -/
def Chip.queueClass (c : Chip) (host qid : Nat) : Nat :=
  match (List.range 4).find? (fun b => c.flag CMDQ_HOST_CLASS_valid host b && decide (c.get CMDQ_HOST_CLASS_q_lo host b ≤ qid) &&
      decide (qid ≤ c.get CMDQ_HOST_CLASS_q_hi host b)) with
  | some b => c.get CMDQ_HOST_CLASS_cls host b
  | none => 2

/-- A Keep Alive time-out in force (R184). -/
def katoOf (ms : Nat) : Nat := if ms = 0 then 0 else ceilDiv (clamp 1000 3600000 ms) 100 * 100

/-- A new controller. By default the namespace and ANA events are enabled. -/
def newCtrl (host ident paddock kato now_ hash : Nat) (discovery : Bool) : Ctrl :=
  { host := host, hostIdent := ident, paddock := paddock, kato := kato, kaAt := now_, cc := 0, csts := 0, aerHeld := [], aenWait := [], aenSent := [], aenCfg := 0x900,
    resvMask := 0, resvLog := [], changedNs := [], anaChanges := 0, aborts := 0, errors := [], errorNo := 0, nqnHash := hash, discovery := discovery }

/-- Where a Connect leads: a host and paddock, or a discovery controller, or the status that refuses it. -/
inductive Access where
  | host (host paddock : Nat)
  | discovery
  | refused (status : Nat)
  deriving DecidableEq, Repr

/-- Judge a Connect by the access table (R126). The discovery subsystem is offered on the standard transports (R184). -/
def Chip.access (c : Chip) (n : Conn) (subnqn : Bytes) (hash : Nat) : Access :=
  if subnqn = discoveryNqn && n.transport ≠ .drove then .discovery
  else if n.transport = .tcp && n.tcp.disc then .refused stConnectParams
  else match c.paddocks.first? (fun _ p => p.nqn = subnqn) with
    | none => .refused stConnectHost
    | some (p, _) =>
      match c.hosts.first? (fun _ e => e.admits n p hash) with
      | none => .refused stConnectHost
      | some (h, e) =>
        let open_ := (c.conns.keep (fun _ m => m.connected && m.host = some h)).length
        if e.connLimit ≠ 0 && decide (e.connLimit ≤ open_) then .refused stConnectParams else .host h p

/-- An admitted admin or Fabrics command of an opcode (and Fabrics type) with its connection. -/
def Chip.adminCmd (c : Chip) (tag opc : Nat) (fctype : Option Nat) (f : HostCmd → Conn → Chip) : Chip :=
  match c.intake.cmds.get? (cmdKey 0 tag) with
  | none => c
  | some k =>
    if k.io || k.st ≠ .admitted || k.sqe.opc ≠ opc || fctype.any (fun t => k.sqe.fctype ≠ t) then c
    else match c.conns.get? k.ctx with
      | none => c.finishCmd (cmdKey 0 tag) stSequence
      | some n => f k n

/-- The same for a command that needs the controller of an admin queue. -/
def Chip.ctrlCmd (c : Chip) (tag opc : Nat) (fctype : Option Nat) (f : HostCmd → Conn → Ctrl → Chip) : Chip :=
  c.adminCmd tag opc fctype (fun k n =>
    match c.ctrls.get? n.ctrl with
    | none => c.finishCmd (cmdKey 0 tag) stSequence
    | some t => if !n.connected then c.finishCmd (cmdKey 0 tag) stSequence else if n.qid ≠ 0 then c.finishCmd (cmdKey 0 tag) stInvalidField else f k n t)

/-- Bind a connection to its queue. -/
def Chip.bindQueue (c : Chip) (ctx host ident paddock ctrl qid qsize cls : Nat) : Chip :=
  c.updConn ctx (fun n => { n with
    host := if host = 0xFFFF then none else some host,
    hostIdent := ident, paddock := paddock, ctrl := ctrl, qid := qid, qsize := qsize, cls := cls, connected := true, sqHead := n.sqHead % atLeast1 qsize })

/-- FABRICS_CONNECT. -/
def fabricsConnect (tag : Nat) (c : Chip) : Chip :=
  let key := cmdKey 0 tag
  c.adminCmd tag 0x7F (some 0x01) (fun k n =>
    let data := (k.blocks.getD 0 ⟨[], 0⟩).data
    let ident := unle (data.take 16)
    let cntlid := unle ((data.drop 16).take 2)
    let hash := nqnHashOf (nameAt data 512)
    let qid := k.sqe.cdw10 / 65536
    let qsize := k.sqe.cdw11 % 65536 + 1
    if n.connected then c.finishCmd key stSequence
    else if k.sqe.cdw10 % 65536 ≠ 0 then c.finishCmd key stConnectFormat
    else if k.dataLen < 1024 then c.finishCmd key stInvalidField
    else match c.access n (nameAt data 256) hash with
      | .refused st =>
        let c := if st = stConnectHost then (c.raise 0x20C).cntMap 11 else c
        c.finishCmd key st
      | .discovery =>
        if qid ≠ 0 || qsize < 2 || 32 < qsize || cntlid ≠ 0xFFFF then c.finishCmd key stConnectParams
        else
          let i := c.freshId 65520 (fun x => c.ctrls.has x) c.ctrls.length
          let c := { i.2 with ctrls := i.2.ctrls.put i.1 (newCtrl 0xFFFF ident 0xFFFF (katoOf k.sqe.cdw12) c.clk hash true) }
          (c.bindQueue k.ctx 0xFFFF ident 0xFFFF i.1 0 qsize 2).finishCmd key 0 i.1
      | .host h p =>
        if qid = 0 then
          if qsize < 2 || 32 < qsize || cntlid ≠ 0xFFFF then c.finishCmd key stConnectParams
          else
            let i := c.freshId 65520 (fun x => c.ctrls.has x) c.ctrls.length
            let c := { i.2 with ctrls := i.2.ctrls.put i.1 (newCtrl h ident p (katoOf k.sqe.cdw12) c.clk hash false) }
            (c.bindQueue k.ctx h ident p i.1 0 qsize 2).finishCmd key 0 i.1
        else match c.ctrls.get? cntlid with
          | none => c.finishCmd key stConnectParams
          | some t =>
            if t.discovery || t.paddock ≠ p || t.hostIdent ≠ ident || t.nqnHash ≠ hash || 128 < qid || qsize < 2 || 1024 < qsize then c.finishCmd key stConnectParams
            else if c.conns.any (fun e => e.2.connected && e.2.ctrl = cntlid && e.2.qid = qid) then c.finishCmd key stSequence
            else (c.bindQueue k.ctx h ident p cntlid qid qsize (c.queueClass h qid)).finishCmd key 0 cntlid)

/-- FABRICS_DISCONNECT: the queue pair is lost once the completion is sent. -/
def fabricsDisconnect (tag : Nat) (c : Chip) : Chip :=
  c.adminCmd tag 0x7F (some 0x08) (fun _ n => if n.connected then c.finishCmd (cmdKey 0 tag) 0 0 [] true else c.finishCmd (cmdKey 0 tag) stSequence)

/-! ### Properties (R184) -/

/-- CAP: 1,024 entries, contiguous queues, weighted round robin with urgent, the NVM command set. -/
def capValue : Nat := 1023 + 2 ^ 16 + 2 ^ 17 + Config.capTo % 256 * 2 ^ 24 + 2 ^ 37

def propertyGet (tag : Nat) (c : Chip) : Chip :=
  let key := cmdKey 0 tag
  c.ctrlCmd tag 0x7F (some 0x04) (fun k _ t =>
    match k.sqe.cdw11, k.sqe.cdw10 % 8 with
    | 0x00, 1 => c.finishCmd key 0 capValue
    | 0x08, 0 => c.finishCmd key 0 0x20000
    | 0x14, 0 => c.finishCmd key 0 t.cc
    | 0x1C, 0 => c.finishCmd key 0 t.csts
    | _, _ => c.finishCmd key stInvalidField)

/-- Property Set of CC: ready follows enable, shutdown completes at once. -/
def propertySet (tag : Nat) (c : Chip) : Chip :=
  let key := cmdKey 0 tag
  c.ctrlCmd tag 0x7F (some 0x00) (fun k n _ =>
    if k.sqe.cdw11 ≠ 0x14 || k.sqe.cdw10 % 8 ≠ 0 then c.finishCmd key stInvalidField
    else
      let v := k.sqe.cdw12 % 2 ^ 32
      let csts := b2n (bit v 0) + (if bits v 15 14 = 0 then 0 else 8)
      (c.updCtrl n.ctrl (fun t => { t with cc := v, csts := csts })).finishCmd key 0)

/-! ### Keep Alive (R176, R184) -/

def keepAlive (tag : Nat) (c : Chip) : Chip :=
  c.ctrlCmd tag 0x18 none (fun _ n _ => (c.updCtrl n.ctrl (fun t => { t with kaAt := c.clk })).finishCmd (cmdKey 0 tag) 0)

/-- KEEP_ALIVE_EXPIRY: the time-out of a controller has passed since its last Keep Alive. -/
def keepAliveExpiry (cntlid : Nat) (c : Chip) : Chip :=
  match c.ctrls.get? cntlid with
  | some t => if t.kato = 0 then c else c.loseAssoc cntlid
  | none => c

/-! ### Identify (R184) -/

/-- Lay fields over a structure. -/
def overlay (b : Bytes) (fs : List (Nat × Bytes)) : Bytes := fs.foldl (fun b f => b.take f.1 ++ f.2 ++ b.drop (f.1 + f.2.length)) b

/-- Volumes that a host sees in its paddock, by NSID. -/
def Chip.activeNs (c : Chip) (t : Ctrl) : List (Nat × Nat) := (c.grants.filter (fun g => g.1 / 65536 = t.host)).map (fun g => (g.1 % 65536, g.2.volume))

/-- Every namespace of a subsystem. -/
def Chip.allNs (c : Chip) (paddock : Nat) : List (Nat × Nat) :=
  sortBy (fun (x : Nat × Nat) => x.1) ((c.vols.filter (fun v => v.2.paddock = paddock)).map (fun v => (v.2.nsid, v.1)))

def nsList (l : List (Nat × Nat)) (above : Nat) : Bytes := padTo 4096 (((l.filter (fun x => decide (above < x.1))).take 1024).flatMap (fun x => le 4 x.1))

/-- Identify Namespace of a volume: size, LBA formats, protection, reservation types, deallocation, ANA group. -/
def Volume.identify (v : Volume) (ns : Nat) : Bytes :=
  overlay (padTo 4096 (Config.identifyBase 0x00 ns)) [(0, le 8 (v.acres * 1024)), (8, le 8 (v.acres * 1024)), (25, le 1 1), (26, le 1 (if v.lbaf = 1 then 0x11 else 0)), (27, le 1 1),
    (28, le 1 0x19), (29, le 1 (if v.lbaf = 1 then 1 else 0)), (30, le 1 1), (31, le 1 0x7F), (33, le 1 1), (92, le 4 (v.fold + 1)), (128, le 4 0x000C0000), (132, le 4 0x000C0010)]

/-- Identify Controller. -/
def Chip.identifyCtrl (c : Chip) (id_ : Nat) (t : Ctrl) : Bytes :=
  let nqn := if t.discovery then discoveryNqn else ((c.paddocks.get? t.paddock).map (·.nqn)).getD []
  overlay (padTo 4096 (Config.identifyBase 0x01 id_)) [(76, le 1 0x0B), (77, le 1 8), (78, le 2 id_), (80, le 4 0x20000), (92, le 4 0x900), (96, le 4 1),
    (111, le 1 (if t.discovery then 2 else 1)), (256, le 2 0x0008), (258, le 1 (c.get CMDQ_LIMIT_acl)), (259, le 1 (Config.aerLimit % 256)), (262, le 1 63), (320, le 2 1),
    (343, le 1 0x03), (344, le 4 8), (348, le 4 8), (516, le 4 65535), (520, le 2 0xAD), (525, le 1 0), (536, le 4 0x100005), (768, padTo 256 nqn)]

/-- IDENTIFY_CMD: the CNS values of R184. -/
def identifyCmd (tag : Nat) (c : Chip) : Chip :=
  let key := cmdKey 0 tag
  c.ctrlCmd tag 0x06 none (fun k n t =>
    let q := k.sqe
    let cns := q.cdw10 % 256
    let vol := fun (l : List (Nat × Nat)) => ((l.find? (fun x => x.1 = q.nsid)).map (·.2)).bind (fun v => c.vols.get? v)
    let give := fun (b : Bytes) => c.finishCmd key 0 0 [padTo 4096 b]
    let mine := c.activeNs t
    let all := c.allNs t.paddock
    if t.discovery then (if cns = 0x01 then give (c.identifyCtrl n.ctrl t) else c.finishCmd key stInvalidField)
    else if cns = 0x01 then give (c.identifyCtrl n.ctrl t)
    else if cns = 0x02 then give (nsList mine q.nsid)
    else if cns = 0x10 then give (nsList all q.nsid)
    else if cns = 0x00 || cns = 0x11 then
      match vol (if cns = 0 then mine else all) with
      | some v => give (v.identify q.nsid)
      | none => if cns = 0 && all.any (fun x => x.1 = q.nsid) then give [] else c.finishCmd key stBadNamespace
    else if cns = 0x03 || cns = 0x05 then
      match vol mine with
      | none => c.finishCmd key stBadNamespace
      | some _ => give (if cns = 3 then Config.identifyBase 0x03 q.nsid else overlay (padTo 4096 []) [(8, le 1 0), (12, le 4 0), (16, le 4 0x100)])
    else if cns = 0x06 then give (Config.identifyBase 0x06 n.ctrl)
    else if cns = 0x12 then
      match all.find? (fun x => x.1 = q.nsid) with
      | none => c.finishCmd key stBadNamespace
      | some _ =>
        let ids := (c.ctrls.keep (fun i t' => !t'.discovery && t'.paddock = t.paddock && c.grants.has (grantKey t'.host q.nsid) && decide (q.cdw10 / 65536 ≤ i))).keys
        give (le 2 ids.length ++ ids.flatMap (fun i => le 2 i))
    else c.finishCmd key stInvalidField)

/-! ### Log pages (R184, R372) -/

/-- One error log entry: its number, queue, command, status with the phase bit's place below it. -/
def errorEntry (no : Nat) (e : Nat × Nat) : Bytes := padTo 64 (le 8 no ++ le 2 (e.1 / 65536) ++ le 2 (e.1 % 65536) ++ le 2 (e.2 * 2))

/-- The ANA log: a group per fold that holds a namespace of the subsystem, optimized where this chip owns it (R372). -/
def Chip.anaLog (c : Chip) (t : Ctrl) (groupsOnly : Bool) : Bytes :=
  let mine := c.activeNs t
  let foldOf := fun (v : Nat) => ((c.vols.get? v).map (·.fold)).getD 0
  let folds := (List.range 8).filter (fun f => (c.allNs t.paddock).any (fun x => foldOf x.2 = f))
  let group := fun (f : Nat) =>
    let ns := (mine.filter (fun x => foldOf x.2 = f)).map (·.1)
    le 4 (f + 1) ++ le 4 (if groupsOnly then 0 else ns.length) ++ le 8 t.anaChanges ++ le 1 (if c.flag TWIN_FOLD_STAT_gate_open f then 1 else 2) ++ zeros 15 ++
      (if groupsOnly then [] else ns.flatMap (fun x => le 4 x))
  le 8 t.anaChanges ++ le 2 folds.length ++ zeros 6 ++ folds.flatMap group

/-- Commands that R184 supports: admin opcodes, and I/O opcodes with whether they change data. -/
def adminOpcodes : List Nat := [0x02, 0x06, 0x08, 0x09, 0x0A, 0x0C, 0x0D, 0x15, 0x18]
def ioOpcodes : List (Nat × Nat) := [(0x00, 1), (0x01, 3), (0x02, 1), (0x05, 1), (0x08, 3), (0x09, 3), (0x0C, 1), (0x0D, 1), (0x0E, 1), (0x11, 1), (0x15, 1)]

def effectsLog : Bytes :=
  (List.range 256).flatMap (fun o => le 4 (if adminOpcodes.contains o then 1 else 0)) ++
    (List.range 256).flatMap (fun o => le 4 (((ioOpcodes.find? (fun x => x.1 = o)).map (·.2)).getD 0)) ++ zeros 2048

def digits (n : Nat) : Bytes := ascii (toString n)

/-- An address as text: dotted for IPv4, eight groups of hexadecimal digits for IPv6. -/
def addrText (a : Nat) : Bytes :=
  let hex := fun (d : Nat) => BitVec.ofNat 8 (if d < 10 then 48 + d else 87 + d)
  if isV4 a then digits (a / 2 ^ 24 % 256) ++ ascii "." ++ digits (a / 2 ^ 16 % 256) ++ ascii "." ++ digits (a / 2 ^ 8 % 256) ++ ascii "." ++ digits (a % 256)
  else ((List.range 8).map (fun i => let g := a / 2 ^ (112 - 16 * i) % 65536; [hex (g / 4096), hex (g / 256 % 16), hex (g / 16 % 16), hex (g % 16)])).intersperse (ascii ":") |>.flatten

/-- A discovery entry: transport 1 RDMA, 3 TCP. -/
def discoveryEntry (trtype addr port : Nat) (nqn : Bytes) : Bytes :=
  overlay (padTo 1024 (Config.logBase 0x71)) [(0, le 1 trtype), (1, le 1 (if isV4 addr then 1 else 2)), (2, le 1 2), (6, le 2 0xFFFF), (8, le 2 32), (32, padTo 32 (digits port)),
    (256, padTo 256 nqn), (512, padTo 256 (addrText addr))]

/-- The subsystems that a host may reach, at every address of this chip, by TCP and by RDMA. -/
def Chip.discoveryLog (c : Chip) (hash : Nat) : Bytes :=
  let pads := c.paddocks.filter (fun p => c.hosts.any (fun e => e.2.paddock = p.1 && e.2.nqnHash = hash))
  let addrs := c.ports.subs.flatMap (fun s => s.2.ipv4.map (fun a => 0xFFFF * 2 ^ 32 + a) ++ s.2.ipv6.map (·.address))
  let ways := [(3, c.get DROVE_TCP_CFG_io_port), (1, 4420)]
  let es := pads.flatMap (fun p => addrs.flatMap (fun a => ways.map (fun w => discoveryEntry w.1 a w.2 p.2.nqn)))
  overlay (padTo 1024 (Config.logBase 0x70)) [(8, le 8 es.length), (16, le 2 0)] ++ es.flatten

/-- The log pages of R184, each with the controller after it is read (without Retain Asynchronous Event). -/
def Chip.logPage (c : Chip) (lid lsp : Nat) (t : Ctrl) : Option (Bytes × Ctrl) :=
  let heard := fun (e : Nat) (t : Ctrl) => { t with aenSent := t.aenSent.filter (· ≠ e) }
  if t.discovery then (if lid = 0x70 then some (c.discoveryLog t.nqnHash, t) else none)
  else if lid = 0x01 then
    some (((List.range t.errors.length).flatMap (fun i => errorEntry (t.errorNo - i) (t.errors.getD i (0, 0)))) ++ zeros ((64 - t.errors.length) * 64), t)
  else if lid = 0x02 then some (padTo 512 (Config.logBase 0x02), t)
  else if lid = 0x04 then
    let l := if t.changedNs.length ≤ 1024 then t.changedNs else [0xFFFFFFFF]
    some (padTo 4096 ((sortBy (fun (x : Nat) => x) l).flatMap (fun x => le 4 x)), { heard aenNamespace t with changedNs := [] })
  else if lid = 0x05 then some (effectsLog, t)
  else if lid = 0x0C then some (c.anaLog t (bit lsp 0), heard aenAna t)
  else if lid = 0x80 then
    match t.resvLog with
    | [] => some (zeros 64, heard aenReservation t)
    | x :: rest => some (padTo 64 (le 8 (1 : Nat) ++ le 1 x.1 ++ le 1 rest.length ++ zeros 2 ++ le 4 x.2), { heard aenReservation t with resvLog := rest })
  else none

/-- GET_LOG_PAGE. -/
def getLogPage (tag : Nat) (c : Chip) : Chip :=
  let key := cmdKey 0 tag
  c.ctrlCmd tag 0x02 none (fun k n t =>
    let q := k.sqe
    let len := (q.cdw10 / 65536 + q.cdw11 % 65536 * 65536 + 1) * 4
    let off := q.cdw12 + q.cdw13 * 2 ^ 32
    match c.logPage (q.cdw10 % 256) (q.cdw10 / 256 % 128) t with
    | none => c.finishCmd key stInvalidField
    | some (b, t') =>
      if b.length < off || off % 4 ≠ 0 then c.finishCmd key stInvalidField
      else
        let c := if bit q.cdw10 15 then c else c.updCtrl n.ctrl (fun _ => t')
        c.finishCmd key 0 0 [(b.drop off).take len])

/-! ### Features (R184) -/

/-- The volumes that a feature of a namespace names. -/
def Chip.featureVols (c : Chip) (t : Ctrl) (nsid : Nat) : List Nat := ((c.activeNs t).filter (fun x => nsid = 0xFFFFFFFF || x.1 = nsid)).map (·.2)

/-- SET_FEATURES. -/
def setFeatures (tag : Nat) (c : Chip) : Chip :=
  let key := cmdKey 0 tag
  c.ctrlCmd tag 0x09 none (fun k n t =>
    let q := k.sqe
    match q.cdw10 % 256 with
    | 0x01 => c.finishCmd key 0x10E
    | 0x07 => c.finishCmd key 0 (127 + 127 * 65536)
    | 0x0B => (c.updCtrl n.ctrl (fun t => { t with aenCfg := q.cdw11 })).finishCmd key 0
    | 0x0F => (c.updCtrl n.ctrl (fun t => { t with kato := katoOf q.cdw11, kaAt := c.clk })).finishCmd key 0
    | 0x81 => c.finishCmd key stSequence
    | 0x82 => (c.updCtrl n.ctrl (fun t => { t with resvMask := q.cdw11 })).finishCmd key 0
    | 0x83 =>
      let vs := c.featureVols t q.nsid
      if vs = [] then c.finishCmd key stBadNamespace
      else (vs.foldl (fun (c : Chip) v => { c with vols := c.vols.upd v (fun v => { v with ptpl := bit q.cdw11 0 }) }) c).finishCmd key 0
    | _ => c.finishCmd key stInvalidField)

/-- GET_FEATURES: the current values. -/
def getFeatures (tag : Nat) (c : Chip) : Chip :=
  let key := cmdKey 0 tag
  c.ctrlCmd tag 0x0A none (fun k _ t =>
    let q := k.sqe
    match q.cdw10 % 256 with
    | 0x01 => c.finishCmd key 0 (Config.arbBurst % 8 + c.get CMDQ_PADDOCK_ARB_lpw t.paddock * 2 ^ 8 + c.get CMDQ_PADDOCK_ARB_mpw t.paddock * 2 ^ 16 + c.get CMDQ_PADDOCK_ARB_hpw t.paddock * 2 ^ 24)
    | 0x07 => c.finishCmd key 0 (127 + 127 * 65536)
    | 0x0B => c.finishCmd key 0 t.aenCfg
    | 0x0F => c.finishCmd key 0 t.kato
    | 0x81 => c.finishCmd key 0 0 [le 16 t.hostIdent]
    | 0x82 => c.finishCmd key 0 t.resvMask
    | 0x83 =>
      match (c.featureVols t q.nsid).head?.bind (fun v => c.vols.get? v) with
      | some v => c.finishCmd key 0 (b2n v.ptpl)
      | none => c.finishCmd key stBadNamespace
    | _ => c.finishCmd key stInvalidField)

/-! ### Asynchronous Event Request (R184) -/

/-- ASYNC_EVENT_REQUEST: completes with an event that waits, else stays outstanding. -/
def asyncEventRequest (tag : Nat) (c : Chip) : Chip :=
  let key := cmdKey 0 tag
  c.ctrlCmd tag 0x0C none (fun _ n t =>
    match t.aenWait with
    | e :: rest => (c.updCtrl n.ctrl (fun t => { t with aenWait := rest, aenSent := addNew e t.aenSent })).finishCmd key 0 e
    | [] =>
      if Config.aerLimit % 256 < t.aerHeld.length then c.finishCmd key 0x105
      else (c.updCmd key (fun k => { k with st := .event })).updCtrl n.ctrl (fun t => { t with aerHeld := t.aerHeld ++ [key] }))

/-! ### Namespaces by command of a host (R184) -/

/-- The header of a change that answers nobody. -/
def noHdr (c : Chip) : Hdr := ⟨.record, 2, true, true, false, 1, 0xFFFF, 0, 0, 0, c.clk, 0⟩

/-- Tell the partner of a change made here (R417). -/
def Chip.tellPartner (c : Chip) (cmd : PairCmd) : Chip :=
  if c.get TWIN_STATUS_pair_state = 1 then c.send (.partnerCommand cmd) else { c with mgmt := { c.mgmt with carried := c.mgmt.carried ++ [cmd] } }

/-- Create a namespace: the least free NSID and volume number, the fold of the ANA group named (else one of the chip's choice), a flock of the chip's choice, and the size in whole acres. -/
def Chip.createNs (c : Chip) (key : Nat) (t : Ctrl) (data : Bytes) : Chip :=
  let r := c.fresh
  let acres := ceilDiv (unle (data.take 8)) 1024
  let lbaf := unle ((data.drop 26).take 1) % 16
  let grp := unle ((data.drop 92).take 4)
  let fold := if grp = 0 then r.1 % 8 else grp - 1
  let flocks := c.stripes.flocks.keys
  let vol := ((List.range 65536).find? (fun i => !c.volumeHeld i)).getD 65536
  let nsid := ((List.range 65535).find? (fun i => !c.nsidHeld t.paddock (i + 1))).map (· + 1)
  if 8 < grp || 1 < lbaf || acres = 0 || 2 ^ 40 ≤ acres then c.finishCmd key stInvalidField
  else if flocks = [] || !c.cipher.pads.has t.paddock then c.finishCmd key 0x115
  else match nsid with
    | none => c.finishCmd key 0x116
    | some ns =>
      if (if c.id.half then 32768 else 65536) ≤ vol || c.lineageInUse vol then c.finishCmd key 0x116
      else
        let flock := flocks.getD (r.1 / 8 % flocks.length) 0
        let c := ({ r.2 with vols := r.2.vols.put vol (newVolume t.paddock ns fold flock acres vol lbaf) } : Chip).showThrough
        (c.tellPartner (.namespaceCreate vol t.paddock ns fold flock acres lbaf)).finishCmd key 0 ns

/-- Delete a namespace: its grants go, then it is removed as by VOLUME_DELETE. -/
def Chip.deleteNs (c : Chip) (ns vol : Nat) : Chip :=
  let gs := c.grants.filter (fun g => g.2.volume = vol)
  let c := gs.foldl (fun (c : Chip) g => (c.dropGrant (g.1 / 65536) (g.1 % 65536)).tellPartner (.grantClear (g.1 / 65536) (g.1 % 65536))) c
  let c := c.tellPartner (.volumeDelete vol)
  match c.vols.get? vol with
  | some v => if c.stageHere v.fold then c.placeMark vol .remove (noHdr c) else { c with vols := c.vols.del vol }
  | none => c

/-- NAMESPACE_MANAGEMENT. -/
def namespaceManagement (tag : Nat) (c : Chip) : Chip :=
  let key := cmdKey 0 tag
  c.ctrlCmd tag 0x0D none (fun k _ t =>
    let sel := k.sqe.cdw10 % 16
    if t.discovery || !Config.hostPermitsNs t.host || 2 ≤ sel then c.finishCmd key stInvalidField
    else if sel = 0 then c.createNs key t (k.blocks.getD 0 ⟨[], 0⟩).data
    else
      let ns := (c.allNs t.paddock).filter (fun x => k.sqe.nsid = 0xFFFFFFFF || x.1 = k.sqe.nsid)
      if ns = [] && k.sqe.nsid ≠ 0xFFFFFFFF then c.finishCmd key stBadNamespace
      else (ns.foldl (fun (c : Chip) x => c.deleteNs x.1 x.2) c).finishCmd key 0)

/-- NAMESPACE_ATTACHMENT: an attachment to a controller is a grant of its host. -/
def namespaceAttachment (tag : Nat) (c : Chip) : Chip :=
  let key := cmdKey 0 tag
  c.ctrlCmd tag 0x15 none (fun k _ t =>
    let q := k.sqe
    let sel := q.cdw10 % 16
    let data := (k.blocks.getD 0 ⟨[], 0⟩).data
    let ids := (List.range (min 2047 (unle (data.take 2)))).map (fun i => unle ((data.drop (2 + 2 * i)).take 2))
    let hosts := (ids.filterMap (fun i => ((c.ctrls.get? i).filter (fun x => !x.discovery && x.paddock = t.paddock)).map (·.host)))
    match (c.allNs t.paddock).find? (fun x => x.1 = q.nsid) with
    | none => c.finishCmd key (if t.discovery || !Config.hostPermitsNs t.host then stInvalidField else stBadNamespace)
    | some (ns, vol) =>
      let ro := !((c.vols.get? vol).map (·.writable)).getD true
      if t.discovery || !Config.hostPermitsNs t.host || 2 ≤ sel then c.finishCmd key stInvalidField
      else if ids = [] || hosts.length ≠ ids.length then c.finishCmd key 0x11C
      else if sel = 0 then
        if hosts.any (fun h => c.grants.has (grantKey h ns)) then c.finishCmd key 0x118
        else (hosts.foldl (fun (c : Chip) h => (c.putGrant h ns vol ro).tellPartner (.grantSet h ns vol (b2n ro))) c).finishCmd key 0
      else if hosts.any (fun h => !c.grants.has (grantKey h ns)) then c.finishCmd key 0x11A
      else (hosts.foldl (fun (c : Chip) h => (c.dropGrant h ns).tellPartner (.grantClear h ns)) c).finishCmd key 0)

/-! ### Judging admin commands at admission (R175, R184) -/

/-- Why an admin or Fabrics command is refused as such, if it is. -/
def Chip.judgeAdmin (c : Chip) (k : HostCmd) : Option Nat :=
  match c.conns.get? k.ctx with
  | none => none
  | some n =>
    let q := k.sqe
    if q.opc = 0x7F then
      if ! [0x00, 0x01, 0x04, 0x08].contains q.fctype then some stInvalidOpcode
      else if !n.connected && q.fctype ≠ 0x01 then some stSequence else none
    else if !n.connected then some stSequence
    else if !adminOpcodes.contains q.opc then some stInvalidOpcode
    else if !q.fieldsOk then some stInvalidField else none

/-- COMMAND_ADMIT (R165, R168): the arbiter of an island chooses one command; nothing changes where none is eligible. -/
def commandAdmit (isl : Nat) (c : Chip) : Chip :=
  if !c.cmdIslands.contains isl || c.dumpBusy then c
  else match c.choose isl with
    | none => c
    | some (key, k, cls, rr) =>
      let c := { c with intake := { c.intake with rr := rr } }
      if k.io then c.admitIo key k cls isl
      else
        let c := (c.updCmd key (fun k => { k with st := .admitted })).cntCmd 0
        match c.judgeAdmin k with
        | some st => c.finishCmd key st
        | none => c

end Sys2Proof.Machine
end

