-- ==== Sys2Proof/Machine/Learn.lean ====
section
/-!
DEFINITION. Completing a learn: its acre, its fill, its entry, the commands that it releases (R144, R148, R227, R361, R507), and the progress of a rehash (R149).
-/

namespace Sys2Proof.Machine

/-! ### Allocating an acre (R227, R361) -/

/-- The lowest free acre in the lowest group of the fold that has one; else the first acre of the lowest unassigned group, which the fold takes. -/
def Flock.freeAcre (f : Flock) (fold : Nat) : Option (Nat × Flock) :=
  let n := f.acreCount
  let mine := (f.groups.keep (fun _ x => x = fold)).keys
  let inGroup := fun (g : Nat) => ((List.range 1024).find? (fun i => decide (g * 1024 + i < n) && !f.acres.has (g * 1024 + i))).map (fun i => g * 1024 + i)
  match mine.findSome? inGroup with
  | some a => some (a, f)
  | none => ((List.range (ceilDiv n 1024)).find? (fun g => !f.groups.has g)).map (fun g => (g * 1024, { f with groups := f.groups.put g fold }))

/-- Allocate an acre for a volume: its record, and the deltas that tell the partner. -/
def Chip.takeAcre (c : Chip) (v : Volume) : Option (Nat × Chip) :=
  match c.flock? v.flock with
  | none => none
  | some f =>
    match f.freeAcre v.fold with
    | none => none
    | some (pa, f') =>
      let gen := ((c.cipher.pads.get? v.paddock).map (·.gCur)).getD 0
      let r : AcreRec := ⟨v.paddock, v.lineage, v.fold, gen, gen, none⟩
      let c := c.updFlock v.flock (fun _ => { f' with acres := f'.acres.put pa r })
      let c := if f'.groups = f.groups then c else c.record (.flock v.flock)
      let c := (c.sendDelta v.fold v.paddock 0 0 (.acre v.flock pa v.paddock gen gen)).2
      some (pa, (c.meterAdd v.paddock 13 1).showFlock v.flock)

/-- Give an acre back that no entry has named. -/
def Chip.dropNewAcre (c : Chip) (v : Volume) (pa : Nat) : Chip :=
  let c := c.updFlock v.flock (fun f => { f with
    acres := f.acres.del pa,
    groups := if f.acres.any (fun a => a.1 / 1024 = pa / 1024 && a.1 ≠ pa) then f.groups else f.groups.del (pa / 1024) })
  ((c.sendDelta v.fold v.paddock 0 0 (.freed v.flock pa 1)).2).showFlock v.flock

/-! ### The fill (R144, R185, R231) -/

def Learn.coversBlk (l : Learn) (b : Nat) : Bool := l.covered.any (fun r => decide (r.1 ≤ b) && decide (b < r.2))

/-- One block of the old acre as of the learn's number: a version of the volume's own or of the ancestor's, a cached copy, or what the drive read gave. -/
def Chip.oldBlock (c : Chip) (l : Learn) (v : Volume) (old : Tab Blk) (b : Nat) : Option (Blk × Bool) :=
  let lba := l.acre * 1024 + b
  match (c.newestBelow l.volume lba l.admSeq).filter (fun x => v.countsFor l.found x.2.2.seq) with
  | some x => some (x.2.2.blk, x.2.2.poisoned)
  | none =>
    let owner := (l.found.map (·.owner)).getD v.member
    match (if owner = v.member then none else l.found.bind (fun e => c.ancestorVersion v e lba)) with
    | some x => some (x.blk, x.poisoned)
    | none =>
      match (c.findClean l.volume lba).1 with
      | .clean x => some (x, false)
      | _ => (old.get? b).map (fun x => (x, false))

/-- The lines of a fill: zero blocks for kinds 1 and 3, the old acre's blocks for kind 2; a block that cannot be had is poisoned. -/
def Chip.fillLines (c : Chip) (l : Learn) (v : Volume) (old : Tab Blk) : List Line :=
  let mk := fun (b : Nat) (x : Blk) (bad : Bool) =>
    (⟨l.volume, l.acre * 1024 + b, .filling, l.admSeq, v.paddock, v.fold, x.app % 65536, bad, false, 0, x.data, c.clk, true, 0⟩ : Line)
  if l.whole then []
  else (List.range 1024).filterMap (fun b =>
    if l.coversBlk b then none
    else if l.kind = 2 then
      match c.oldBlock l v old b with
      | some (x, bad) => some (mk b x bad)
      | none => some (mk b zeroBlk true)
    else some (mk b zeroBlk false))

/-- Write the fill into the write buffer; a line that has room is Dirty at once. -/
def Chip.writeFill (c : Chip) (ls : List Line) : Chip :=
  (ls.foldl (fun (c : Chip) l =>
    let c := c.offerLine l
    match (c.blockLines l.volume l.lba).find? (fun e => e.2.2.fill && e.2.2.st = .filling && e.2.2.seq = l.seq) with
    | some e => (c.versionDirty e.1 e.2.1).2
    | none => c) c).showLines

/-! ### Release (R144) -/

/-- Commands that wait on a learn, in admission order. -/
def Learn.waiters (c : Chip) (l : Learn) : List Nat := sortBy (fun key => ((c.intake.cmds.get? key).map (·.seq)).getD 0) l.waiting

/-- Every command that waits on a learn ends with Capacity Exceeded. -/
def Chip.failLearn (c : Chip) (i : Nat) (l : Learn) : Chip :=
  let keys := l.waiters c
  keys.foldl (fun (c : Chip) key => c.finishCmd key stCapacity) (c.closeLearn i)

/-- The learn is done: its commands resume once they wait on no other learn. They complete only when the delta is held (R150). -/
def Chip.doneLearn (c : Chip) (i : Nat) (l : Learn) (mseq : Nat) : Chip :=
  let keys := l.waiters c
  let dseq := c.map.dseq
  keys.foldl (fun (c : Chip) key =>
    let c := c.updCmd key (fun k => { k with learns := k.learns.filter (· ≠ i), lastMseq := max k.lastMseq mseq, lastDelta := dseq })
    match c.intake.cmds.get? key with
    | some k => if k.st = .waitLearn && k.learns = [] then c.resumeCmd key else c
    | none => c) (c.closeLearn i)

/-- The same entry that a private zero extent of one acre holds is taken out before the new one hides it. -/
def Chip.clearZero (c : Chip) (l : Learn) (v : Volume) : Chip :=
  match l.found with
  | some e => if l.kind = 3 && e.k = 0 && e.owner = l.member && e.birth = l.epoch then c.mapRemove e v.fold v.paddock l.volume l.admSeq else c
  | none => c

/-- A learn whose entry can find no room fails: its acre is given back. -/
def Chip.failPlacing (c : Chip) (i : Nat) (l : Learn) (v : Volume) (e : Entry) : Chip := (if e.zero then c else c.dropNewAcre v e.pbase).failLearn i l

/-- Insert the entry of a learn, then fill and release; while the write engine is paused the entry waits for it. Where no room is found the learn stays open and a rehash is started; where none is
possible its commands fail (R148). -/
def Chip.placeLearn (c : Chip) (i : Nat) (l : Learn) (v : Volume) (e : Entry) : Chip :=
  if c.enginePaused then c.setPlacing i l e
  else
    let r := (c.clearZero l v).mapInsert e v.fold v.paddock l.volume l.admSeq
    match r.1 with
    | some m =>
      let c := if l.kind = 4 then r.2.dropVersions l.volume l.acre v.fold l.admSeq else r.2.writeFill (r.2.fillLines l v l.data)
      c.doneLearn i l m
    | none =>
      let f := ((if l.kind = 3 then c else r.2).setPlacing i l e).insertFailed e
      if f.1 then f.2 else f.2.failPlacing i l v e

/-! ### What waits for room, for the engine, or for the ring -/

/-- Entries of learns that wait, and whose table is not being rehashed, are inserted. -/
def Chip.settlePlacing (c : Chip) : Chip :=
  if c.enginePaused then c
  else (c.map.learns.keep (fun _ l => l.placing.isSome)).foldl (fun (c : Chip) e =>
    if c.rehashDue e.2.half 0 then c
    else match e.2.placing, c.vols.get? e.2.volume with
      | some x, some v => c.placeLearn e.1 e.2 v x
      | _, _ => c) c

/-- The entry that the mirror record at the head would insert. -/
def Chip.headInsert (c : Chip) : Option Entry :=
  match c.mirror.rxWait.find? (fun x => x.1 = c.mirror.rxNext) with
  | some (_, .delta _ _ _ _ _ (.insert e)) => some e
  | _ => none

/-- A rehash that waited to begin turns out to have no space: event 0x206, and the learns that need it fail (R148). A record of the partner goes on waiting for it. -/
def Chip.rehashHopeless (c : Chip) (h k : Nat) : Chip :=
  if c.headInsert.any (fun e => halfOf e.lineage e.start = h && e.k = k) then c
  else
    let c := (c.unwantRehash h k).raise 0x206
    (c.map.learns.keep (fun _ l => l.half = h && k = 0 && l.placing.isSome)).foldl (fun (c : Chip) e =>
      match e.2.placing, c.vols.get? e.2.volume with
      | some x, some v => c.failPlacing e.1 e.2 v x
      | _, _ => c.failLearn e.1 e.2) c

/-- Rehashes that waited for their half, or for an operation slot, begin. -/
def Chip.nextRehash (c : Chip) : Chip :=
  c.map.rehashWant.foldl (fun (c : Chip) x =>
    match c.startRehash x.1 x.2 with
    | none => c
    | some (some d) => d.unwantRehash x.1 x.2
    | some none => c.rehashHopeless x.1 x.2) c

/-- Commands that waited for a place in a learn queue go on, oldest first (R143). -/
def Chip.wakeLearns (c : Chip) : Chip :=
  c.map.learnWait.foldl (fun (c : Chip) x =>
    if c.ringFull x.2 || !c.map.learnWait.contains x then c
    else
      let c := match c.intake.cmds.get? x.1 with
        | some k => if k.st = .waitLearn then c.resumeCmd x.1 else c
        | none => c
      if (c.intake.cmds.get? x.1).any (fun k => k.st = .waitLearn) then c
      else { c with map := { c.map with learnWait := c.map.learnWait.filter (fun y => y.1 ≠ x.1) } }) c

/-- LEARN_COMPLETE (R144): `old` are the blocks of the old acre that were read from the drives, by index in the acre. -/
def learnComplete (id_ : Nat) (old : Tab Blk) (c : Chip) : Chip :=
  match c.map.learns.get? id_ with
  | none => c
  | some l =>
    match c.vols.get? l.volume with
    | none => c.failLearn id_ l
    | some v =>
      if !l.queued || l.placing.isSome || !c.flag TWIN_FOLD_STAT_gate_open v.fold then c
      else if l.kind = 4 then c.placeLearn id_ l v ⟨l.lineage, 0, l.acre, true, 0, 0, l.member, l.epoch⟩
      else match c.takeAcre v with
        | none => (c.raise 0x20A).failLearn id_ l
        | some (pa, c) =>
          let l := { l with data := old }
          ({ c with map := { c.map with learns := c.map.learns.put id_ l } } : Chip).placeLearn id_ l v ⟨l.lineage, 0, l.acre, false, pa, v.flock, l.member, l.epoch⟩

/-- REHASH_PROGRESS (R149): n more old buckets are swept, unless the write engine is paused; once the rehash is done, entries that wait for room are inserted. -/
def rehashProgress (half n : Nat) (c : Chip) : Chip :=
  match c.map.rehash.get? half with
  | none => c
  | some r =>
    if ! [2, 8].contains (loState (c.lo r.slot)) || c.enginePaused then c
    else
      let c := c.rehashSweep half n
      if c.map.rehash.has half then c
      else (c.map.learns.keep (fun _ l => l.half = half && l.placing.isSome)).foldl (fun (c : Chip) e =>
        match e.2.placing, c.vols.get? e.2.volume with
        | some x, some v => c.placeLearn e.1 e.2 v x
        | _, _ => c) c

end Sys2Proof.Machine
end

