-- ==== Sys2Proof/Machine/Cache.lean ====
section
/-!
DEFINITION. The write buffer toward the partner and the host: room, limits, mirror records received and acknowledged (R201 to R204, R508), modes and drains (R205,
R206), the range engine (R207), HBM errors (R208), hold-up and vault areas (R209, R213).
-/

namespace Sys2Proof.Machine

/-! ### The dirty limit (R200, R201) -/

/-- Follow flush_hi_pct and flush_lo_pct of the effective limit: above the one event 0x303 and flushing, below the other its end. -/
def Chip.settleFlush (c : Chip) : Chip :=
  let hi := clamp 1 100 (c.get CACHE_DIRTY_CFG_flush_hi_pct)
  let lo := min (c.get CACHE_DIRTY_CFG_flush_lo_pct) (hi - 1)
  let n := c.dirtyLines * 100
  let lim := c.get CACHE_DIRTY_STAT_limit_mib * 256
  if lim = 0 then { c with cache := { c.cache with flushing := false } }
  else if !c.cache.flushing && decide (lim * hi < n) then ({ c with cache := { c.cache with flushing := true } } : Chip).raise 0x303
  else if c.cache.flushing && decide (n < lim * lo) then { c with cache := { c.cache with flushing := false } }
  else c

/-- DIRTY_AGE_EXPIRY (R201): a Dirty line older than age_ms is offered for commit. -/
def dirtyAgeExpiry (volume lba seq : Nat) (c : Chip) : Chip :=
  match (c.blockLines volume lba).find? (fun e => e.2.2.st = .dirty && e.2.2.seq = seq) with
  | none => c
  | some e => match c.lineSpot e.2.2 with
    | some (flock, stripe, _, _) => ((c.offerStripe flock stripe).showWaits).showJnl
    | none => c

/-- For a version that waits because its set and the overflow table are full, the oldest Dirty version of the set is offered for commit (R194). -/
def Chip.commitCrowded (c : Chip) : Chip :=
  let head := match c.mirror.rxWait.find? (fun x => x.1 = c.mirror.rxNext) with
    | some (_, .line l) => [l]
    | _ => []
  (c.cache.waiting ++ head).foldl (fun (c : Chip) l =>
    if c.dirtyMax ≤ c.dirtyLines || (c.placeLine l).isSome then c
    else
      let ls := (c.cacheSet (c.setKey l.volume l.lba)).ways.vals.filter (fun x => x.st = .dirty && x.newer = 0)
      match (sortBy (fun (x : Line) => x.bornNs) ls).head?.bind c.lineSpot with
      | some (flock, stripe, _, _) => if c.stripes.offers.contains (flock, stripe) then c else ((c.offerStripe flock stripe).showWaits).showJnl
      | none => c) c

/-! ### Mirror records received (R202, R508) -/

/-- A partner's delta of reservation state is the action itself, done again (R128, R508). -/
def Volume.applyResv (v : Volume) (ident key action type : Nat) : Volume :=
  let q : Sqe := { opc := 0, cid := 0, nsid := 0, cdw10 := 8 + atLeast1 type * 256, cdw11 := 0, cdw12 := 0, cdw13 := 0, cdw14 := 0, cdw15 := 0, fctype := 0, lbtu := 0, key := 0, len := 0, sgl := 0 }
  let data := zeros 8 ++ le 8 key
  let act := fun (n : Nat) => { q with cdw10 := q.cdw10 + n }
  let e := if action = 1 then v.doRegister ident (act 2) data else if action = 2 then v.doRegister ident (act 1) data else if action = 3 then v.doAcquire ident (act 0) data
    else if action = 4 then v.doRelease ident (act 0) data else if action = 5 then v.doAcquire ident (act 1) data else v.doRelease ident (act 1) data
  (e.map (·.vol)).getD v

/-- A volume whose entries the fold's owner has moved to a lineage of their own takes that lineage (R275): all of them are inserted before the first is removed. -/
def Chip.followDetach (c : Chip) (e : Entry) (removed : Bool) : Chip :=
  match c.vols.first? (fun n v => v.lineage ≠ n && (if removed then e.lineage = v.lineage && e.owner = v.member else e.lineage = n)) with
  | none => c
  | some (n, v) =>
    let all := c.allEntries
    if all.any (fun x => x.lineage = n) && (removed || !all.any (fun x => x.lineage = v.lineage && x.owner = v.member)) then { c with vols := c.vols.put n (v.detached n) } else c

/-- Are the region masks of a lineage whole? -/
def Chip.masksWhole (c : Chip) (lineage : Nat) : Bool :=
  c.allEntries.all (fun e => e.lineage ≠ lineage || decide (13 < e.k) || bit (c.regionMask lineage (e.start / 16384)) e.k)

/-- A partner's change of the map (R508), made in this chip's tables under its own seeds. Where this chip's region table has no room for a mask it sets the lineage filter-only itself (R138). An entry that
is there already stays, as in a transfer of the whole map. Answers whether an insertion found room; one that finds none, or finds the write engine paused, waits (R147, R148, R150). -/
def Chip.makeChange (c : Chip) (fold : Nat) (d : Delta) : Bool × Chip :=
  match d with
  | .insert e =>
    if c.enginePaused then (false, c)
    else if c.allEntries.contains e then (true, c)
    else
      let r := c.insertEntry e
      (r.1, if r.1 then (r.2.nameAcres e).followDetach e false else r.2)
  | .remove e => if c.enginePaused then (false, c) else (true, (c.removeEntry e).followDetach e true)
  | .acre flock pa paddock low high =>
    (true, (c.updFlock flock (fun f =>
      let was := f.acres.get? pa
      { f with acres := f.acres.put pa ⟨paddock, (was.map (·.lineage)).getD 0, fold, low, high, was.bind (·.removed)⟩, groups := f.groups.put (pa / 1024) fold })).showFlock flock)
  | .freed flock pa count =>
    (true, (c.updFlock flock (fun f =>
      let acres := f.acres.keep (fun a _ => !(decide (pa ≤ a) && decide (a < pa + count)))
      { f with acres := acres, groups := f.groups.keep (fun g _ => acres.any (fun a => a.1 / 1024 = g)) })).showFlock flock)
  | .bits lineage member region on mask => match region with
    | some g => (true, match c.rgnBits lineage g mask on with
      | some c => c
      | none => (c.setFilterOnly lineage true).raiseIf (!c.map.filterOnly.contains lineage) 0x20B)
    | none => (true, c.filterBits lineage member mask on)
  | .filterOnly lineage on => (true, c.setFilterOnly lineage (on || !c.masksWhole lineage))
  | .epoch volume epoch barrier =>
    (true, ({ (c.foreignBarrier volume) with vols := (c.foreignBarrier volume).vols.upd volume (fun v => { v with epoch := epoch, epochs := ((epoch, barrier) :: v.epochs).take 16 }) }))
  | .resv volume ident key action type => (true, { c with vols := c.vols.upd volume (fun v => v.applyResv ident key action type) })

/-- Apply a delta; one that has taken effect stands among those that no delta log holds yet. Answers whether it has. -/
def Chip.applyDelta (c : Chip) (r : DeltaRec) : Bool × Chip :=
  let x := c.makeChange r.fold r.change
  (x.1, if x.1 then { x.2 with map := { x.2.map with recent := x.2.map.recent ++ [r] } } else x.2)

/-- Drop the Mirror lines of a run of blocks at or below a number. -/
def Chip.dropMirror (c : Chip) (volume lba count : Nat) (upTo : Option Nat) : Chip :=
  let gone := c.lines.filter (fun e => e.2.2.st = .mirror && e.2.2.volume = volume && decide (lba ≤ e.2.2.lba) && decide (e.2.2.lba < lba + count) &&
    upTo.all (fun n => decide (e.2.2.seq ≤ n)))
  gone.foldl (fun (c : Chip) e => c.putWay e.1 e.2.1 none) c

/-- Apply one record. Answers whether it has taken effect; else it has to wait: a line at the dirty limit or without a place, a delta without room. -/
def Chip.applyMirror (c : Chip) (r : MirRec) : Bool × Chip :=
  match r with
  | .line l =>
    let old := (c.blockLines l.volume l.lba).find? (fun e => e.2.2.st = .mirror && e.2.2.seq = l.seq)
    let l := { l with st := .mirror, pins := 0, bornNs := c.clk }
    match old with
    | some e => (true, c.putWay e.1 e.2.1 (some l))
    | none => if c.dirtyMax ≤ c.dirtyLines then (false, c) else match c.placeLine l with
      | some c => (true, c)
      | none => (false, c)
  | .retire volume _ lba count seq => (true, c.dropMirror volume lba count (some seq))
  | .journal id_ e =>
    let j := if e.state = 3 then c.mirror.journal.del id_ else c.mirror.journal.put id_ e
    (true, { c with mirror := { c.mirror with journal := j } })
  | .delta fold paddock volume admSeq dseq d => c.applyDelta ⟨fold, paddock, volume, admSeq, dseq, d⟩
  | .discard volume _ lba count => (true, c.dropMirror volume lba count none)

/-- Apply the records that have come, in mseq order, as far as they can be. -/
def Chip.drainMirror : Nat → Chip → Chip
  | 0, c => c
  | fuel + 1, c =>
    match c.mirror.rxWait.find? (fun x => x.1 = c.mirror.rxNext) with
    | none => c
    | some (m, r) =>
      let a := c.applyMirror r
      if !a.1 then a.2
      else
        Chip.drainMirror fuel (({ a.2 with
          mirror := { a.2.mirror with rxNext := m + 1, rxWait := a.2.mirror.rxWait.filter (fun x => x.1 ≠ m), ackDue := true } } : Chip).cntCache 12)

def Chip.takeMirror (c : Chip) : Chip := (Chip.drainMirror c.mirror.rxWait.length c).showLines

/-- Why the record at the head waits: at the limit event 0x302, without a place 0x300 + stack, without room in a table a rehash (R148, R194, R201). -/
def Chip.mirrorWaits (c : Chip) : Chip :=
  match c.mirror.rxWait.find? (fun x => x.1 = c.mirror.rxNext) with
  | some (_, .line l) =>
    if c.dirtyMax ≤ c.dirtyLines then (c.cntCache 13).raiseLtd 0x302 0 second else c.raise (0x300 + c.stackOf l.volume l.lba)
  | some (_, .delta _ _ _ _ _ (.insert e)) =>
    if c.enginePaused then c
    else
      let r := c.insertFailed e
      if r.1 then r.2 else r.2.wantRehash (halfOf e.lineage e.start) e.k
  | _ => c

/-- Try again the record at the head that waits, and those behind it. -/
def Chip.retryMirror (c : Chip) : Chip :=
  let d := c.takeMirror
  if d.mirror.rxNext = c.mirror.rxNext then d else d.mirrorWaits

/-- A delta at the head that waits for its table or for the engine is tried again once the rehash is over, the fall-back memory has room, or the engine runs. -/
def Chip.retryDelta (c : Chip) : Chip :=
  match c.mirror.rxWait.find? (fun x => x.1 = c.mirror.rxNext) with
  | some (_, .delta _ _ _ _ _ d) =>
    let stuck := match d with
      | .insert e => c.rehashDue (halfOf e.lineage e.start) e.k && decide (c.fallbackSize ≤ (c.map.fallback.getD (halfOf e.lineage e.start) []).length)
      | _ => false
    if c.enginePaused || stuck then c else c.takeMirror.mirrorWaits
  | _ => c

/-- A record of the partner arrives (R202). Records after step 4 of a dump for a loss of power are discarded (R217). While the record at the head waits, those behind it wait with it. -/
def Chip.mirrorRx (c : Chip) (mseq : Nat) (r : MirRec) : Chip :=
  if (c.cache.dump.gated && c.cache.dump.test.isNone) || mseq < c.mirror.rxNext || c.mirror.rxWait.any (fun x => x.1 = mseq) then c
  else
    let d := { c with mirror := { c.mirror with rxWait := c.mirror.rxWait ++ [(mseq, r)] } }
    if c.mirror.rxWait.any (fun x => x.1 = c.mirror.rxNext) then d else (d.takeMirror).mirrorWaits

def mirrorLineRx (mseq : Nat) (l : Line) (c : Chip) : Chip := c.mirrorRx mseq (.line l)
def retireRx (mseq volume fold lba count seq : Nat) (c : Chip) : Chip := c.mirrorRx mseq (.retire volume fold lba count seq)
def journalEntryRx (mseq entry : Nat) (e : JEntry) (c : Chip) : Chip := c.mirrorRx mseq (.journal entry e)
def mapDeltaRx (mseq : Nat) (r : DeltaRec) (c : Chip) : Chip := c.mirrorRx mseq (.delta r.fold r.paddock r.volume r.admSeq r.dseq r.change)
def discardRx (mseq volume fold lba count : Nat) (c : Chip) : Chip := c.mirrorRx mseq (.discard volume fold lba count)

/-- VERSION_ROOM_FREED (R194) and LIMIT_ROOM_FREED (R201): what waits and now fits is created, mirrored lines included. -/
def versionRoomFreed (c : Chip) : Chip := c.retryLines.retryMirror
def limitRoomFreed (c : Chip) : Chip := c.retryLines.retryMirror

/-! ### Acknowledgements (R203, R219) -/

/-- MIRROR_ACK_SEND: held_mseq, below which every record is held here. -/
def mirrorAckSend (c : Chip) : Chip :=
  if !c.mirror.ackDue then c
  else ({ c with mirror := { c.mirror with ackDue := false } } : Chip).send (.mirrorAck c.mirror.rxNext)

/-- MIRROR_ACK_RX: what the partner holds, told to the CMD islands of the versions in C0 (R50, step 8); during the resync of a pairing it does not count (R204, R392). -/
def mirrorAckRx (held : Nat) (c : Chip) : Chip :=
  let left := c.mirror.unacked.filter (fun x => decide (held ≤ x.1))
  let was := c.mirror.unacked.length
  let c := if c.mirror.resyncing then c.set TWIN_RESYNC_remaining (min (left.filter (fun x => decide (x.1 < c.mirror.resyncTo))).length 0xFFFFFFFF) else c
  let freed := c.mirror.unacked.filterMap (fun x => match x.2 with
    | .line l => if x.1 < held then some (c.islandOf l.fold) else none
    | _ => none)
  let c : Chip := { c with mirror := { c.mirror with
      unacked := left,
      heldSeq := if c.mirror.resyncing then c.mirror.heldSeq else max c.mirror.heldSeq held,
      oldestNs := if left.length < was then c.clk else c.mirror.oldestNs } }
  freed.foldl (fun (c : Chip) isl => c.cross partId (cmdId isl) 0) c

/-- MIRROR_ACK_OVERDUE: an acknowledgement outstanding for longer than 1 ms. -/
def mirrorAckOverdue (c : Chip) : Chip := c.raiseIf (c.mirroring && !c.mirror.unacked.isEmpty) 0x305

/-! ### Modes and drains (R205, R206) -/

def chipScope : Nat := 65536

def inScope (scope : Nat) (v : Nat) : Bool := scope = chipScope || scope = v

def Chip.setDraining (c : Chip) (scope : Nat) (on : Bool) : Chip :=
  let c := { c with cache := { c.cache with drains := if on then addNew scope c.cache.drains else c.cache.drains.filter (· ≠ scope) } }
  if scope = chipScope then c.setFlag CACHE_STATUS_draining on else c.setFlag CACHE_VOL_MODE_draining on scope

/-- A change of mode of a scope: to write-through it starts a drain; back to write-back it ends one that runs. -/
def Chip.modeChange (c : Chip) (scope : Nat) (was is : Bool) : Chip :=
  let c := c.showThrough
  if !was && is then (c.setDraining scope true).raise 0x30C
  else if was && !is && c.cache.drains.contains scope then (c.setDraining scope false).raise 0x30D
  else c

/-- CACHE_MODE_SET (0x0131). -/
def cacheModeSet (h : Hdr) (scope volume image : Nat) : Chip → Chip :=
  runPair ⟨0x0131, true, .w, paramBytes [1, 1, 2, 4]⟩ h [] (.cacheModeSet scope volume image) (fun c =>
    Res.guard c [refuseIf (decide (2 ≤ scope)) 0x0102 32, if scope = 0 then rangeRefusal c volume 65536 32768 34 else none, refuseIf (scope = 0 && !c.vols.has volume) 0x0201]
      (fun c =>
        if scope = 1 then
          let was := c.flag CACHE_CTL_through
          let is := CACHE_VOL_MODE_mode.of image ≠ 0
          Res.ok ((c.setFlag CACHE_CTL_through is).modeChange chipScope was is)
        else
          let was := c.flag CACHE_VOL_MODE_mode volume
          let c := c.writeImage CACHE_VOL_MODE image volume
          Res.ok (c.modeChange volume was (c.flag CACHE_VOL_MODE_mode volume))))

/-- DRAIN_COMPLETE: the scope holds no Dirty or Committing line, and none waits to be made. -/
def drainComplete (scope : Nat) (c : Chip) : Chip :=
  if !c.cache.drains.contains scope then c
  else if c.lines.any (fun e => isVersion e.2.2 && inScope scope e.2.2.volume) || c.cache.waiting.any (fun l => inScope scope l.volume) then c
  else (c.setDraining scope false).raise 0x30D

/-! ### The range engine (R207) -/

def Chip.showRanges (c : Chip) : Chip :=
  (List.range 2).foldl (fun c s =>
    let mine := c.cache.ranges.filter (fun r => r.stackSet.contains s)
    ((c.setFlag CACHE_RANGE_STAT_busy (!mine.isEmpty) s).set CACHE_RANGE_STAT_queued mine.length s).set CACHE_RANGE_STAT_volume ((mine.head?.map (·.volume)).getD 0) s) c

/-- The stacks that hold blocks of a range. -/
def Chip.rangeStacks (c : Chip) (volume lba count : Nat) : List Nat :=
  if count = 0 then [] else ([c.stackOf volume lba] ++ (if lba / 16 = (lba + count - 1) / 16 then [] else [c.stackOf volume (lba + 16)])).eraseDups

/-- The blocks of a range that have versions below a number, made or still owed by admitted commands. -/
def Chip.rangeOwed (c : Chip) (volume lba count mark : Nat) : List Nat :=
  let inside := fun (x : Nat) => decide (lba ≤ x) && decide (x < lba + count)
  let made := (c.lines.filter (fun e => isVersion e.2.2 && !e.2.2.poisoned && e.2.2.volume = volume && inside e.2.2.lba && decide (e.2.2.seq < mark))).map (fun e => e.2.2.lba)
  let waiting := (c.cache.waiting.filter (fun l => l.volume = volume && inside l.lba && decide (l.seq < mark))).map (·.lba)
  let owed := (c.intake.cmds.filter (fun e => e.2.volume = some volume && e.2.io && e.2.sqe.writeClass && decide (0 < e.2.seq) && decide (e.2.seq < mark) &&
    (e.2.st = .admitted || e.2.st = .waitLearn))).flatMap (fun e => if e.2.sqe.opc = 0x01 then (List.range e.2.count).map (fun i => e.2.lba + i) else e.2.partialBlocks)
  (made ++ waiting ++ owed.filter inside).eraseDups

def rangeInfo : CmdInfo := ⟨0x0130, true, .l, paramBytes [2, 1, 8, 8]⟩

/-- VOLUME_RANGE_OP (0x0130): a marker in the volume's stage. Up to 64 MiB it replies when it is done; a larger range is a long operation in blocks. The chip that does not hold the
stage has nothing to do. -/
def volumeRangeOp (h : Hdr) (volume op lba count : Nat) : Chip → Chip :=
  runPair rangeInfo h [] (.volumeRangeOp volume op lba count) (fun c =>
    match c.vols.get? volume with
    | none => Res.guard c [rangeRefusal c volume 65536 32768 32, refuseIf (decide (3 ≤ op)) 0x0102 34] (fun c => Res.no c 0x0201)
    | some v =>
      Res.guard c [refuseIf (decide (3 ≤ op)) 0x0102 34, refuseIf (decide (v.acres * 1024 < lba + count)) 0x0102 35, refuseIf (count = 0) 0x0102 43]
        (fun c =>
          let stackSet := c.rangeStacks volume lba count
          if !c.stageHere v.fold then (if count ≤ 16384 then Res.ok c else longAccept c h 0x0130 count [volume, op] (fun i c => c.loEnd i 4 0))
          else if stackSet.any (fun s => decide (16 ≤ (c.cache.ranges.filter (fun r => r.stackSet.contains s)).length)) then Res.no (c.raise 0x30F) 0x0205
          else
            let s := if c.flag TWIN_FOLD_STAT_gate_open v.fold then c.takeSeq volume else (v.nextSeq, c)
            let place := fun (slot : Option Nat) (c : Chip) =>
              (({ c with cache := { c.cache with
                ranges := c.cache.ranges ++ [(⟨volume, op, lba, count, s.1, stackSet, c.rangeOwed volume lba count s.1, slot, h⟩ : RangeOp)] } } : Chip).showRanges)
            if count ≤ 16384 then Res.wait (place none s.2)
            else longAccept s.2 h 0x0130 count [volume, op] (fun i c => place (some i) c)))

/-- Is a range operation done: its blocks have committed, or have nothing left to commit? -/
def Chip.rangeDone (c : Chip) (r : RangeOp) : Bool :=
  c.writesMade r.volume r.mark &&
    r.owed.all (fun b => !((c.blockLines r.volume b).any (fun e => isVersion e.2.2 && !e.2.2.poisoned)) && !c.cache.waiting.any (fun l => l.volume = r.volume && l.lba = b))

/-- Take an element out of a list by its place. -/
def dropAt {α : Type} (l : List α) (i : Nat) : List α := l.take i ++ l.drop (i + 1)

/-- RANGE_OP_COMPLETE: the first operation that heads each of its queues and has nothing left ends; flush and invalidate drop the Clean lines of the range. -/
def rangeOpComplete (c : Chip) : Chip :=
  let rs := c.cache.ranges
  let heads := fun (i : Nat) (r : RangeOp) => r.stackSet.all (fun s => !((rs.take i).any (fun x => x.stackSet.contains s)))
  match (List.range rs.length).findSome? (fun i => (rs[i]?).bind (fun r => if heads i r && c.rangeDone r then some (i, r) else none)) with
  | none => c
  | some (i, r) =>
    let inside := fun (l : Line) => l.volume = r.volume && decide (r.lba ≤ l.lba) && decide (l.lba < r.lba + r.count)
    let c := { c with cache := { c.cache with ranges := dropAt rs i } }
    let c := if r.op = 0 then c
      else
        let clean := ((c.lines.map (fun e => e.2.2)).filter (fun l => l.st = .clean) ++ c.cache.evict.vals.flatten ++ c.cache.victim.vals.flatten).filter inside
        (clean.map (·.lba)).eraseDups.foldl (fun (c : Chip) b => c.dropClean r.volume b) c
    let c := ((c.showRanges).showLines).raise 0x30E
    match r.slot with
    | some s => (c.loProgress s r.count 0).loEnd s 4 0
    | none => Chip.finishLater rangeInfo r.hdr (Res.ok c)

/-! ### HBM errors (R208) -/

/-- Put a line of a set through the rules of an uncorrectable error. -/
def Chip.lineError (c : Chip) (key way : Nat) (l : Line) : Chip :=
  match l.st with
  | .clean => (c.putWay key way none).raise 0x309
  | .filling => if l.seq = 0 then c.putWay key way none else (c.setLine key way (fun l => { l with poisoned := true })).raise 0x30B
  | .evicting => c.putWay key way none
  | .mirror => ((c.putWay key way none).send (.refetch l.volume l.lba l.seq)).raise 0x30A
  | .dirty | .committing =>
    if c.mirroring then ((c.setLine key way (fun l => { l with poisoned := true, data := [] })).send (.refetch l.volume l.lba l.seq)).raise 0x30A
    else (c.setLine key way (fun l => { l with poisoned := true })).raise 0x30B

/-- HBM_ECC_ERROR (R208): `place` is 0 the data of a way, 1 the tags of a set, 2 the eviction buffer and 3 the victim cache of a stack (with `way` the line's place in it), 4 any other part of HBM. -/
def hbmEccError (place key way : Nat) (uncorrectable : Bool) (c : Chip) : Chip :=
  if !uncorrectable then (c.cntCache 14).raise 0x308
  else
    let c := c.cntCache 15
    let c := match place with
      | 0 => match (c.cacheSet key).ways.get? way with
        | some l => c.lineError key way l
        | none => c
      | 1 => (c.cacheSet key).ways.foldl (fun (c : Chip) (e : Nat × Line) => c.lineError key e.1 e.2) c
      | 2 => ({ c with cache := { c.cache with evict := c.cache.evict.upd key (fun l => dropAt l way) } } : Chip).raise 0x309
      | 3 => ({ c with cache := { c.cache with victim := c.cache.victim.upd key (fun l => dropAt l way) } } : Chip).raise 0x309
      | _ => c
    c.showLines

/-- PARTNER_LINE_REFETCH: the partner's copy replaces the damaged line; where it holds none the version is poisoned (event 0x30B). -/
def partnerLineRefetch (volume lba seq : Nat) (copy : Option Blk) (c : Chip) : Chip :=
  match (c.blockLines volume lba).find? (fun e => isDirty e.2.2 && e.2.2.seq = seq && e.2.2.poisoned && e.2.2.data = []) with
  | none => c
  | some e => match copy with
    | some b => c.setLine e.1 e.2.1 (fun l => { l with poisoned := false, data := b.data, app := b.app % 65536 })
    | none => (c.setLine e.1 e.2.1 (fun l => { l with data := zeros 4096 })).raise 0x30B

/-! ### Hold-up and the vault areas (R209, R213, R441) -/

/-- Is the dump armed: ST09 is past, a vault is usable, the image slots are set? While neither vault is usable event 0x317 says so. -/
def Chip.settleArmed (c : Chip) : Chip :=
  let was := c.flag CACHE_STATUS_dump_armed
  let is := c.flag CACHE_CTL_en && c.vaults ≠ 0 && c.cache.dump.areaSet
  let none_ := c.flag CACHE_CTL_en && c.vaults = 0
  let c := (c.raiseIf (none_ && !c.cache.dump.noVault) 0x317).setFlag CACHE_STATUS_dump_armed is
  if was = is && c.cache.dump.noVault = none_ then c else { c with cache := { c.cache with dump := { c.cache.dump with noVault := none_ } } }

/-- HOLDUP_SET (0x0620). -/
def holdupSet (h : Hdr) (joules watts mbps quiesceMs : Nat) : Chip → Chip :=
  runCommand ⟨0x0620, false, .w, paramBytes [2, 2, 2, 1]⟩ h [] (fun c =>
    let c := ((c.set CACHE_HOLDUP_holdup_j joules).set CACHE_HOLDUP_dump_w watts).set CACHE_HOLDUP_vault_mbps mbps
    let c := (c.set CACHE_DUMP_CFG_quiesce_ms (min quiesceMs 127)).refreshLimit
    Res.ok c (le 2 (c.get CACHE_HOLDUP_bound_mib)))

/-- VAULT_AREA_SET (0x0622). -/
def vaultAreaSet (h : Hdr) (dumpCfg dumpArea ckptArea recArea keyArea : Nat) : Chip → Chip :=
  runCommand ⟨0x0622, false, .w, paramBytes [8, 8, 8, 8, 8]⟩ h [] (fun c =>
    let c := (((c.writeImage CACHE_DUMP_CFG dumpCfg).writeImage CACHE_DUMP_AREA dumpArea).writeImage STRIPE_CKPT_AREA ckptArea)
    let c := (c.writeImage STRIPE_REC_AREA recArea).writeImage CIPH_KEYREC_AREA keyArea
    Res.ok (({ c with cache := { c.cache with dump := { c.cache.dump with areaSet := true } } } : Chip).refreshLimit))

end Sys2Proof.Machine
end

