-- ==== Sys2Proof/Machine/Dump.lean ====
section
/-!
DEFINITION. The power-loss dump and its test (chapter 6 of the spec, R210 to R217). What a warm reset and the return of power do stands with the resets.
-/

namespace Sys2Proof.Machine

def Chip.updDump (c : Chip) (f : Dump → Dump) : Chip := { c with cache := { c.cache with dump := f c.cache.dump } }

/-- A dump for a loss of power runs: a test does not stop ingress and gates nothing (R212). -/
def Chip.powerDump (c : Chip) : Bool := c.dumpBusy && c.cache.dump.test.isNone

/-- Record an event in the closing record, which holds 32; it is raised at the next start (R211, R214). -/
def Chip.dumpEvent (c : Chip) (e : Nat) : Chip := c.updDump (fun d => { d with events := (d.events ++ [e]).take 32 })

/-- The state that CACHE_DUMP_STAT shows: 5 throughout a test. -/
def Chip.showDump (c : Chip) : Chip :=
  c.set CACHE_DUMP_STAT_state (if c.cache.dump.phase = 0 then 0 else if c.cache.dump.test.isSome then 5 else c.cache.dump.phase)

/-- The lines that an image holds (R211): Dirty, Committing and Mirror. -/
def Chip.dumpLines (c : Chip) : List Line := (c.lines.map (·.2.2)).filter (fun l => (isDirty l && l.newer = 0) || l.st = .mirror)

/-- Lines of one segment (R214). -/
def segLines : Nat := 16255

/-- Deltas of one segment. -/
def segDeltas : Nat := 16382 * 64

/-- Segments of the image: the journal, the map deltas (one segment at the least), and the lines (R214). -/
def Chip.deltaSegs (c : Chip) : Nat := atLeast1 (ceilDiv c.map.recent.length segDeltas)
def Chip.dumpTotal (c : Chip) : Nat := 1 + c.deltaSegs + ceilDiv c.dumpLines.length segLines

/-- The tweak of a block of an image (R215). -/
def dumpTweak (seq index blk : Nat) : Nat := 2 ^ 127 + seq % 2 ^ 63 * 2 ^ 64 + index * 2 ^ 14 + blk

/-- A line's block as the image holds it, with the generation of its paddock (R215). -/
def Chip.dumpBlock (c : Chip) (seq index blk : Nat) (l : Line) : Nat × Bytes :=
  match c.cipher.pads.get? l.paddock with
  | none => (0, padTo 4096 l.data)
  | some k =>
    let x := k.xts l.paddock k.gCur
    (k.gCur, Config.xtsEncrypt x.1 x.2 (dumpTweak seq index blk) (padTo 4096 l.data))

/-- Segment `index` of the image before its trailer (R214). Index 0 holds the journal entries of this chip and of the partner with the annex blocks that they name; the map deltas follow, then the lines: descriptors, 128 to a
block, and the encrypted blocks. -/
def Chip.dumpSeg (c : Chip) (index : Nat) : Bytes :=
  let seq := c.cache.dump.imageSeq
  if index = 0 then
    let es := c.stripes.entries.filter (fun e => e.2.state ≠ 0) ++ c.mirror.journal
    segmentHead seq index 2 es.length (journalBody es)
  else if index ≤ c.deltaSegs then
    let ds := (c.map.recent.drop ((index - 1) * segDeltas)).take segDeltas
    segmentHead seq index 3 ds.length (ds.flatMap DeltaRec.bytes)
  else
    let ls := (c.dumpLines.drop ((index - 1 - c.deltaSegs) * segLines)).take segLines
    let n := ceilDiv ls.length 128
    let made := (ls.zipIdx).map (fun (x : Line × Nat) => (x.1, c.dumpBlock seq index (1 + n + x.2) x.1))
    segmentHead seq index 4 ls.length (padTo (n * 4096) (made.flatMap (fun m => descriptor m.1 m.2.1)) ++ made.flatMap (fun m => padTo 4096 m.2.2))

/-- Send the segment whose turn it is; its digest is kept for the closing record. -/
def Chip.dumpNext (c : Chip) : Chip :=
  let d := c.cache.dump
  let i := c.get CACHE_DUMP_STAT_segments
  let b := c.dumpSeg i
  (c.updDump (fun d => { d with digests := d.digests ++ [segmentDigest b] })).send (.dumpSegment d.vaults i (b ++ segmentTrailer d.imageSeq i b))

/-- Begin to write the image at step 5: header first, then the segments. -/
def Chip.dumpWrite (c : Chip) : Chip :=
  let d := c.cache.dump
  let c := c.updDump (fun d => { d with phase := 2, total := c.dumpTotal, digests := [] })
  let c := ((c.set CACHE_DUMP_STAT_segments 0).set CACHE_DUMP_STAT_image_seq d.imageSeq).showDump
  (c.send (.dumpHeader d.vaults (dumpHeaderBytes c.id.chipB d.imageSeq d.startNs d.trigger))).dumpNext

/-- Steps 1 to 3 of a dump for a loss of power (R211): ingress has stopped, member reads and what was not yet submitted are abandoned. -/
def Chip.dumpStopIo (c : Chip) : Chip :=
  let keep := c.stripes.drv.filter (fun e => e.2.kind = 1 && e.2.pen ≠ 3)
  let slots := c.slotList
  slots.foldl (fun (c : Chip) s => c.showDrv s) { c with stripes := { c.stripes with drv := keep, fell := [], offers := [] } }

/-- Begin a dump: a trigger 1 PWR_FAIL_N, 2 the 12 V sag, 3 the test in a slot of long operations. -/
def Chip.dumpBegin (c : Chip) (trigger : Nat) (test : Option Nat) : Chip :=
  let c := c.updDump (fun d => { d with phase := 1, gated := false, trigger := trigger, startNs := c.now, imageSeq := d.imageSeq + 1, total := 0, quiesceTo := false, single := false, restarted := false,
                                        vaults := c.vaults, test := test, events := [] })
  let c := if c.vaults = 3 then c else (c.updDump (fun d => { d with single := true })).dumpEvent 0x316
  ((c.set CACHE_DUMP_STAT_segments 0).set CACHE_DUMP_STAT_image_seq c.cache.dump.imageSeq).showDump

/-- Power fails (R210). A test that runs becomes the dump for the loss of power from the step it has reached (R212, R217); a dump that runs takes no notice. -/
def Chip.dumpPower (c : Chip) (trigger : Nat) : Chip :=
  let event := if trigger = 1 then 0x310 else 0x311
  if c.dumpBusy then
    if c.cache.dump.test.isSome && c.cache.dump.phase < 4 then
      let c := (c.updDump (fun d => { d with test := none, trigger := trigger })).dumpEvent event
      (if c.cache.dump.phase = 1 then c.dumpStopIo else c).showDump
    else c
  else if !c.flag CACHE_DUMP_CFG_dump_en || !c.flag CACHE_STATUS_dump_armed then c
  else ((c.dumpBegin trigger none).dumpEvent event).dumpStopIo

/-- DUMP_PWR_FAIL: PWR_FAIL_N has been asserted for filter_us (R210). -/
def dumpPwrFail (c : Chip) : Chip := c.dumpPower 1

/-- DUMP_SAG: the 12 V input has stood below sag_mv for filter_us (R210). -/
def dumpSag (c : Chip) : Chip := c.dumpPower 2

/-- Is a fold being handed over or drained (R212)? -/
def Chip.handingOver (c : Chip) : Bool := (List.range 8).any (fun f => c.get TWIN_FOLD_STAT_phase f = 3 || c.get TWIN_FOLD_STAT_phase f = 4)

/-- DUMP_TEST (0x0621, R212). -/
def dumpTest (h : Hdr) : Chip → Chip :=
  runCommand ⟨0x0621, false, .l, 0⟩ h [] (fun c =>
    Res.guard c [refuseIf (c.dumpBusy || c.cache.drains ≠ [] || c.handingOver) 0x0205, refuseIf (!c.flag CACHE_STATUS_dump_armed) 0x0300]
      (fun c => longAccept c h 0x0621 c.dumpTotal [] (fun i c => (c.dumpBegin 3 (some i)).loProgress i 0 0 (some 1))))

/-- DUMP_QUIESCE_END, the end of step 3 (R211): member writes still out are abandoned and their entries stay open; the data slots are warned. A test waits until every submitted
member write has completed (R212). -/
def dumpQuiesceEnd (c : Chip) : Chip :=
  let out := c.stripes.drv.any (fun e => e.2.kind = 1 && e.2.pen ≠ 3)
  if c.cache.dump.phase ≠ 1 then c
  else if c.cache.dump.test.isSome then
    if out then c
    else
      let c := c.dumpWrite
      match c.cache.dump.test with
      | some i => (c.set LONGOP_TOTAL_total c.cache.dump.total i).loProgress i 0 0 (some 2)
      | none => c
  else
    let c := if out then (c.updDump (fun d => { d with quiesceTo := true })).dumpEvent 0x312 else c
    let c := ({ c with stripes := { c.stripes with drv := [] } } : Chip).updDump (fun d => { d with gated := true })
    let c := c.slotList.foldl (fun (c : Chip) s => (if isVault s then c else c.pwarn s true).showDrv s) c
    c.dumpWrite

/-- The closing record's flags (R214). -/
def Chip.dumpFlags (c : Chip) : Nat :=
  let d := c.cache.dump
  b2n d.quiesceTo + 2 * b2n d.single + 4 * b2n d.restarted + 8 * b2n (c.dumpLines.any (·.poisoned)) + 16 * b2n d.test.isSome

/-- DUMP_SEGMENT_WRITTEN: which vaults took the segment. A vault that did not is left out of the rest (R217); after the last segment the closing record is written. -/
def dumpSegmentWritten (ok32 ok33 : Bool) (c : Chip) : Chip :=
  if c.cache.dump.phase ≠ 2 then c
  else
    let left := (if ok32 then c.cache.dump.vaults &&& 1 else 0) + (if ok33 then c.cache.dump.vaults &&& 2 else 0)
    let c := if left = c.cache.dump.vaults || left = 0 then c
      else
        let c := if c.cache.dump.single then c else c.dumpEvent 0x316
        c.updDump (fun d => { d with vaults := left, single := true })
    let n := c.get CACHE_DUMP_STAT_segments + 1
    let c := c.set CACHE_DUMP_STAT_segments n
    let c := match c.cache.dump.test with
      | some i => c.loProgress i 1 0
      | none => c
    if n < c.cache.dump.total then c.dumpNext
    else
      let c := (c.updDump (fun d => { d with phase := 3 })).showDump
      let d := c.cache.dump
      c.send (.dumpClose d.vaults (closingBytes d.imageSeq d.total c.dumpFlags c.dumpLines.length d.digests d.events))

/-- DUMP_CLOSE_DONE: the vaults have flushed. A test returns to service (event 0x313); after a loss of power the slot rails are released and AON holds the chip in dump-done. -/
def dumpCloseDone (c : Chip) : Chip :=
  if c.cache.dump.phase ≠ 3 then c
  else match c.cache.dump.test with
    | some i =>
      let c := c.updDump (fun d => { d with phase := 0, test := none, newestTest := d.imageSeq, events := [] })
      (((c.cache.dump.events.foldl (fun (c : Chip) e => c.raise e) c).showDump).raise 0x313).loEnd i 4 0
    | none =>
      let c := (c.dumpEvent 0x313).updDump (fun d => { d with phase := 4 })
      (c.slotList.foldl (fun (c : Chip) s => (c.setFlag SLOT_CH_CTL_en false s).set SLOT_CH_STAT_pg 0 s) c).showDump

end Sys2Proof.Machine
end

