-- ==== Sys2Proof/Machine/Drove.lean ====
section
/-!
DEFINITION. The receiving side of Drove (chapter 3 of the spec, R83 to R122): opening a connection, judging packets, placing messages, delivering finals, acknowledgements, rekeying,
closing, timers, credits; with the commands DROVE_CFG_SET and DROVE_CTX_SEL_WRITE. A packet arrives with its plaintext and either its sealed body or the result of its tag's check (R87).
-/

namespace Sys2Proof.Machine

/-- A context as it is opened; what a transport needs is set over it. -/
def conn0 (t : Transport) (sub srcAddr now line : Nat) : Conn :=
  { transport := t, state := .opening, version := 0, sub := sub, srcAddr := srcAddr, openedNs := now, identity := none, host := none, hostIdent := 0, paddock := 0xFFFF, ctrl := 0,
    qid := 0, qsize := 0, cls := 2, connected := false, sqHead := 0, hostCid := 0, chipCid := 0, hostNonce := [], chipNonce := [], cachedNs := none, secret := [], confirm := [],
    segSize := 0, pathsMax := 1, paths := [], rxCum := 0, rxBits := [], rxCtrl := none, ackFrom := none, newPkts := 0, ceMask := 0, lastPath := 0, named := [], reorderOn := false,
    nextMsn := 0, msgs := [], txNext := 0, txMsn := 0, txCtrl := 0, unacked := [], txWait := [], gen := 0, sent := 0, received := 0, hostData := 0, rekeyOpen := false,
    rekeySent := false, oldGen := false, stopped := false, creditLimit := 0, consumed := 0, wanted := none, digestH := false, digestD := false, tls := false, maxR2t := 0, retrans := 0,
    capsules := [], recSent := 0, recRecv := 0, keyAsked := false, failed := false, expectPsn := 0, nextTxPsn := 0, retries := 0, rnrRetries := 0, cnpNs := 0,
    rate := RateCtl.fresh line, acceptMsg := [], timerImg := 0, pathImg := 0, creditImg := 0, rateImg := 0 }

/-- Contexts of the grade (R123). -/
def Chip.maxConns (c : Chip) : Nat := if c.id.half then 131072 else 262144

/-- A free context, chosen by the chip, or none. -/
def Chip.newContext (c : Chip) : Option (Nat × Chip) :=
  if c.maxConns ≤ c.conns.length then none
  else
    let r := c.freshId (c.maxConns + 1) (fun x => c.conns.has (x - 1)) c.conns.length
    some (r.1 - 1, r.2)

/-! ### Opening a connection (R84, R91 to R96) -/

/-- The versions enabled, lowest first (R83, R121). -/
def Chip.versionsOn (c : Chip) : List Nat :=
  (if bit (c.get DROVE_DRV_CFG_ver_en) 0 then [0x100] else []) ++ (if bit (c.get DROVE_DRV_CFG_ver_en) 1 then [0x102] else []) ++
    (if bit (c.get DROVE_DRV_CFG_ver_en) 2 then [0x200] else [])

def versionPaths (v : Nat) : Nat := if v = 0x100 then 1 else if v = 0x102 then 4 else 8
def versionSeg (v : Nat) : Nat := if v = 0x100 then 4096 else 8192

/-- The segment size of a connection (R92). -/
def Chip.segmentFor (c : Chip) (segMax v : Nat) : Option Nat :=
  let ports := (c.subsOn.map (· / 4)).foldl (fun l p => addNew p l) []
  let room := (ports.map (fun p => c.mtu p - 118)).foldl min 9098
  [8192, 4096, 2048, 1024].find? (fun s => decide (s ≤ segMax) && decide (s ≤ versionSeg v) && decide (s ≤ 1024 * 2 ^ c.get DROVE_DRV_CFG_seg_max) && decide (s ≤ room))

/-- The header of a packet in the clear. -/
def helloHeader (type cid : Nat) : Bytes := zeros 4 ++ be 1 1 ++ be 1 type ++ zeros 2 ++ be 4 cid ++ zeros 20

/-- Send a packet in the clear to the source of a CONNECT or CONFIRM, from the port it came to, marked ECT(0) (R85, R92). -/
def Chip.sendHello (c : Chip) (r : Rx) (ctx type hostCid : Nat) (body : Bytes) : Chip :=
  (c.emitFrame ctx r.sub (.droveHello r.sub r.srcAddr r.srcPort type (helloHeader type hostCid) body r.dstPort ect0) (helloHeader type hostCid ++ body)).cntDrove 1

/-- REJECT (R94). The island of the context raises the event (R122); a CONNECT that gets none is of island 0. -/
def Chip.rejectDrove (c : Chip) (r : Rx) (ctx hostCid reason retryMs : Nat) : Chip :=
  let vs := c.versionsOn
  let body := be 2 reason ++ be 2 (vs.head?.getD 0) ++ be 2 (vs.getLast?.getD 0) ++ be 2 retryMs
  ((c.sendHello r ctx 0x33 hostCid body).cntDrove 11).raise (droveEvent ctx 0)

/-- The body of an ACCEPT (R92). -/
def acceptBody (n : Conn) (firstPsn : Nat) (proof : Bytes) : Bytes :=
  be 2 n.version ++ be 2 n.segSize ++ be 4 n.hostCid ++ be 4 n.chipCid ++ n.chipNonce ++ be 4 firstPsn ++ be 4 n.creditLimit ++ be 1 n.pathsMax ++ zeros 3 ++ proof

def Chip.sendAccept (c : Chip) (r : Rx) (ctx : Nat) (n : Conn) : Chip := c.sendHello r ctx 0x31 n.hostCid n.acceptMsg

/-- Does a packet come to Drove: to the port that is listened on (R85), by a sub-port that is no analysis port (R48)? -/
def Chip.takesDrove (c : Chip) (r : Rx) (port : Nat) : Bool := decide (r.dstPort = port) && !c.analysis r.sub

/-- The UDP payload of a CONNECT (R91). -/
def connectPayload (verMin verMax hostCid segMax pathsMax firstPsn : Nat) (nonce identity : Bytes) : Bytes :=
  helloHeader 0x30 0 ++ be 2 verMin ++ be 2 verMax ++ be 4 hostCid ++ padTo 32 nonce ++ be 2 segMax ++ be 1 pathsMax ++ be 1 identity.length ++ be 4 firstPsn ++ identity

/-- Keys and confirmations of a new connection (R96): the context with its first secret, the host's confirmation and the ACCEPT. -/
def Conn.derive (n : Conn) (psk hello : Bytes) (firstPsn : Nat) : Conn :=
  let prk := Config.hkdfExtract (n.hostNonce ++ n.chipNonce) psk
  let key := Config.hkdfExpand prk (n.info "drove confirm" 0) 48
  let th := Config.sha384 (hello ++ helloHeader 0x31 n.hostCid ++ acceptBody n firstPsn (zeros 16))
  { n with secret := Config.hkdfExpand prk (n.info "drove secret" 0) 48, confirm := (Config.hmac384 key (ascii "host" ++ th)).take 16,
           acceptMsg := acceptBody n firstPsn ((Config.hmac384 key (ascii "chip" ++ th)).take 16) }

/-- CONNECT (R84, R85, R91, R92, R95). One that breaks R91 is discarded, since no answer is named for it, and so is any while the DRBG is stopped (R349). -/
def connect (r : Rx) (verMin verMax hostCid segMax pathsMax firstPsn : Nat) (nonce identity : Bytes) (c : Chip) : Chip :=
  if !c.takesDrove r (c.get DROVE_DRV_CFG_udp_port) then c else
  let c := c.cntDrove 0
  let sec := c.clk / second
  let n := if c.connects.1 = sec then c.connects.2 + 1 else 1
  if !c.flag DROVE_DRV_CFG_en || c.drbgStopped then c
  else
  let c := { c with connects := (sec, n) }
  if c.get DROVE_DRV_CFG_connect_rate < n then c.rejectDrove r 0 hostCid 0x0005 10
  else if hostCid = 0 || ! [1024, 2048, 4096, 8192].contains segMax || pathsMax = 0 || 8 < pathsMax || identity.length = 0 || 128 < identity.length then c
  else match c.conns.first? (fun _ m => m.transport = .drove && m.cachedNs.isSome && m.hostCid = hostCid && m.hostNonce = padTo 32 nonce && m.srcAddr = r.srcAddr) with
    | some (ctx, m) => c.sendAccept r ctx m
    | none => match (c.versionsOn.filter (fun v => decide (verMin ≤ v) && decide (v ≤ verMax))).getLast? with
      | none => c.rejectDrove r 0 hostCid 0x0001 0
      | some v => match c.cipher.psks.first? (fun _ p => p.identity = identity) with
        | none => c.rejectDrove r 0 hostCid 0x0002 0
        | some (_, psk) => match c.segmentFor segMax v with
          | none => c.rejectDrove r 0 hostCid 0x0006 0
          | some seg => match c.newContext with
            | none => (c.raise (droveEvent 0 0x0D)).rejectDrove r 0 hostCid 0x0004 0
            | some (ctx, c) =>
              let cid := c.freshId (2 ^ 32) (fun x => c.conns.any (fun e => e.2.chipCid = x)) c.conns.length
              let nonceC := cid.2.freshBytes
              let psn := nonceC.2.fresh
              let c := psn.2
              let first := psn.1 % 2 ^ 32
              let free := c.get DROVE_RXPOOL_free_units
              let init := min (c.get DROVE_DRV_CREDIT_init_units) (max 256 (c.get DROVE_DRV_CREDIT_max_grant))
              let grant := if c.get DROVE_RXPOOL_PRESS_pressure_units + init < free then init else 0
              let line := c.lineRate r.sub
              let path : Path := ⟨r.sub, r.srcAddr, r.srcPort, r.dstAddr, true, 0, 0, c.clk, c.clk / second, 0, RateCtl.fresh line⟩
              let n := { conn0 .drove r.sub r.srcAddr c.now line with
                version := v
                identity := some identity
                hostCid := hostCid
                chipCid := cid.1
                udpPort := r.dstPort
                hostNonce := padTo 32 nonce
                chipNonce := padTo 32 nonceC.1
                cachedNs := some c.clk
                segSize := seg
                pathsMax := min pathsMax (min (versionPaths v) (clamp 1 8 (c.get DROVE_DRV_CFG_max_paths)))
                paths := [(0, path)]
                rxCum := firstPsn
                txNext := first
                creditLimit := grant
                timerImg := c.readReg DROVE_DRV_TIMER 0 0
                pathImg := c.readReg DROVE_DRV_PATH 0 0
                creditImg := c.readReg DROVE_DRV_CREDIT 0 0
                rateImg := c.readReg DROVE_DRV_RATE 0 0 }
              let n := n.derive psk.secret (connectPayload verMin verMax hostCid segMax pathsMax firstPsn nonce identity) first
              let c := c.keyOp.set DROVE_RXPOOL_free_units (free - grant)
              ({ c with conns := c.conns.put ctx n } : Chip).sendAccept r ctx n

/-- The Drove connection that a packet names by the chip's identifier. -/
def Chip.byCid (c : Chip) (cid : Nat) : Option (Nat × Conn) := c.conns.first? (fun _ n => n.transport = .drove && n.chipCid = cid)

/-- CONFIRM (R93): one that verifies opens the connection; one that does not ends the attempt. -/
def confirm (cid : Nat) (r : Rx) (proof : Bytes) (c : Chip) : Chip :=
  match c.byCid cid with
  | none => let c := c.cntDrove 0; (c.toPartner r ⟨cid, 0, 1, 0x32, 0, 0, 0, 0, 0, 0, 0, true, 0, [], some proof⟩).getD c
  | some (ctx, n) =>
    if !c.takesDrove r n.udpPort then c else
    let c := c.cntDrove 0
    if n.state ≠ .opening then c
    else if padTo 16 proof = padTo 16 n.confirm then
      let c := c.updConn ctx (fun n => { n with state := .opened })
      c.bump (versionField n.version)
    else (c.rejectDrove r ctx n.hostCid 0x0003 0).freeContext ctx

/-! ### Receiving packets (R86 to R90, R97, R99, R107) -/

/-- A packet that breaks the packet rules (R90). -/
def Chip.malformed (c : Chip) (ctx : Nat) : Chip := ((c.cntDrove 10).raise (droveEvent ctx 0x0C)).closeDrove ctx 0x0010

/-- What a body holds beyond its fields: the zero bytes of R88 in REKEY, REKEY_ACK and CLOSE; what R110 and R111 reserve is not judged (R90 names R86, R88 and R89); else nothing. -/
def DPkt.restOk (p : DPkt) (type : Nat) : Bool :=
  if type = 0x20 || type = 0x21 then p.rest = zeros 4 else if type = 0x22 then p.rest = zeros 6 else type = 0x10 || type = 0x11 || p.rest.isEmpty

/-- Do the header fields follow R86, R88, R89 and R99 for a packet of this type? -/
def DPkt.shapeOk (p : DPkt) (type pathsMax : Nat) : Bool :=
  p.rsvd = 0 && p.fmt = 1 && p.type = type && decide (p.flags < 4) && bit p.flags 0 = decide (type = 0x02) && (sequencedType type || !bit p.flags 1) && decide (p.path < pathsMax) &&
    p.aux = 0 && decide (p.msgLen ≤ 1048576) && (type = 0x01 || p.offset = 0) && (type = 0x01 || type = 0x02 || (p.msn = 0 && p.msgLen = 0)) && p.restOk type

/-- Header bytes 4 to 31 of an arriving packet: its additional authenticated data (R86, R87). -/
def DPkt.aad (p : DPkt) : Bytes :=
  be 1 p.fmt ++ be 1 p.type ++ be 1 p.flags ++ be 1 p.gen ++ be 4 p.cid ++ be 4 p.psn ++ be 4 p.msn ++ be 4 p.offset ++ be 4 p.msgLen ++ be 4 p.aux

/-- Does the tag of a packet verify under a generation (R87)? -/
def Conn.verifies (n : Conn) (p : DPkt) (type g : Nat) : Bool :=
  match p.cipher with
  | none => p.tagOk
  | some b => (n.unseal g (sequencedType type) p.psn p.aad b).isSome

/-- A packet of an open connection was heard: congestion mark, receive counts of its generation (R97, R110). A path that is down becomes live on a packet from its addresses (R101), and
is used from now on as the others are (R100). -/
def Conn.heard (n : Conn) (p : DPkt) (r : Rx) (gen clk : Nat) : Conn :=
  let same := fun (q : Path) => q.srcAddr = r.srcAddr && q.srcPort = r.srcPort && q.dstAddr = r.dstAddr
  { n with
    ceMask := if r.ce && decide (p.path < n.pathsMax) then setBit n.ceMask (if n.version = 0x200 then p.path else 0) true else n.ceMask
    received := if gen = n.gen then n.received + 1 else n.received
    nextRecv := if gen = n.gen + 1 then n.nextRecv + 1 else n.nextRecv
    hostData := if gen = n.gen && (p.type = 1 || p.type = 2) then n.hostData + 1 else n.hostData
    nextData := if gen = n.gen + 1 && (p.type = 1 || p.type = 2) then n.nextData + 1 else n.nextData
    oldData := if gen + 1 = n.gen && (p.type = 1 || p.type = 2) then n.oldData + 1 else n.oldData
    paths := n.paths.upd p.path (fun (q : Path) =>
      if !same q then q
      else if q.live then { q with heardNs := clk }
      else { q with live := true, rtoRun := 0, probeMiss := 0, heardNs := clk, vtime := max q.vtime n.vnow }) }

/-- A packet that hits its path's entry keeps it young (R153). -/
def Chip.refreshPath (c : Chip) (ctx : Nat) (p : DPkt) (r : Rx) : Chip :=
  match c.map.paths.get? (ctx * 8 + p.path) with
  | some e => if p.path < 8 && e.srcAddr = r.srcAddr && e.srcPort = r.srcPort && e.dstAddr = r.dstAddr then c.pathHit (ctx * 8 + p.path) else c
  | none => c

/-- What every encrypted packet goes through (R85, R90, R93, R94, R97): `k` is given the context and goes on with it; a closing connection answers with CLOSE, once `shut` has taken what
the packet acknowledges. -/
def Chip.droveAuth (p : DPkt) (r : Rx) (type : Nat) (k : Nat → Chip → Chip) (c : Chip) (shut : Nat → Chip → Chip := fun _ c => c) : Chip :=
  match c.byCid p.cid with
  | none => let c := c.cntDrove 0; (c.toPartner r p).getD c
  | some (ctx, n) =>
    if !c.takesDrove r n.udpPort then c else
    let c := (c.cntDrove 0).cntMap 13
    if n.state = .opening then c
    else
      let gen := (n.accepts p.gen).filter (fun g => n.verifies p type g)
      let c := if (n.accepts p.gen).isNone then c else if gen.isSome then c.gcmOp ctx p.msgLen else (c.gcmOp ctx p.msgLen).cntCiph 1
      match gen with
      | none => (c.cntDrove 5).raiseLtd (droveEvent ctx 1) ctx second
      | some gen =>
        if n.state = .closing then (shut ctx c).repeatClose ctx p.path
        else
          let c := (c.refreshPath ctx p r).updConn ctx (fun n => n.heard p r gen c.clk)
          let overThr := match c.conns.get? ctx with
            | some n => decide (stopAt < max n.hostData (max n.nextData n.oldData))
            | none => false
          if overThr then c.closeDrove ctx 0x000B else (k ctx c).checkCounts ctx

/-- Learn the path of a packet whose psn is new (R99, R152): not when the path table has no room for it. A path that the sweep forgot at this very moment is learned again and counted as
aged at its hit (R154). The session's meters follow its paths (R77, R80). -/
def Chip.learnPath (c : Chip) (ctx : Nat) (p : DPkt) (r : Rx) : Chip :=
  match c.conns.get? ctx with
  | none => c
  | some n =>
    let key := ctx * 8 + p.path
    let e : PathEntry := ⟨r.sub, r.srcAddr, r.srcPort, r.dstAddr, false, c.clk / second % 65536⟩
    let line := c.lineRate r.sub
    let fresh : Path := ⟨r.sub, r.srcAddr, r.srcPort, r.dstAddr, true, 0, 0, c.clk, c.clk / second, n.vnow, RateCtl.fresh line⟩
    let moved := match n.paths.get? p.path with
      | some q => !(q.srcAddr = r.srcAddr && q.srcPort = r.srcPort && q.dstAddr = r.dstAddr)
      | none => true
    if !(moved || !c.map.paths.has key) then
      c.updConn ctx (fun n => { n with lastPath := p.path, paths := n.paths.upd p.path (fun (q : Path) => { q with sub := r.sub }) })
    else if !c.pathFits key then c.raise 0x20E
    else
      let c := c.updConn ctx (fun n => { n with lastPath := p.path, paths := match n.paths.get? p.path with
        | some q => n.paths.put p.path { fresh with vtime := q.vtime, rate := q.rate }
        | none => n.paths.put p.path fresh })
      let c := ((c.pathPut key e).cntDrove 12).raise (droveEvent ctx 7)
      let c := if c.map.aged.contains key && c.map.agedNs = c.clk then c.raiseLtd 0x20F 0 second else c
      c.placeMeters ctx

/-- Advance cum over the psn received (R107). -/
def advanceCum : Nat → Nat → List Nat → Nat × List Nat
  | 0, cum, bits_ => (cum, bits_)
  | n + 1, cum, bits_ => if bits_.contains cum then advanceCum n ((cum + 1) % 2 ^ 32) (bits_.filter (· ≠ cum)) else (cum, bits_)

/-- Mark a psn received: cum, the reorder timer, and the acknowledgement that it starts (R107, R108, R112). -/
def Conn.mark (n : Conn) (p : DPkt) (clk : Nat) : Conn :=
  let r := advanceCum (n.rxBits.length + 1) n.rxCum (n.rxBits ++ [p.psn])
  { n with rxCum := r.1, rxBits := r.2, reorderOn := n.version ≠ 0x100 && !r.2.isEmpty, newPkts := n.newPkts + 1, ackFrom := some (n.ackFrom.getD clk) }

/-- Judge a sequenced packet (R107) and act on it when it is new: only then is its shape judged (R90, R120). `far` says that the packet lies beyond the message window (R102). Version 1.0 accepts only the next psn (R83, R112). -/
def Chip.droveSeq (p : DPkt) (r : Rx) (type : Nat) (far : Conn → Bool) (act : Nat → Chip → Chip) : Chip → Chip :=
  Chip.droveAuth p r type (fun ctx c =>
    match c.conns.get? ctx with
    | none => c
    | some n =>
      let d := ahead 32 p.psn n.rxCum
      let beyond := fun (c : Chip) => (c.cntDrove 4).raise (droveEvent ctx 2)
      if decide (2 ^ 31 ≤ d) && decide (d < 2 ^ 32 - 2 ^ 20) then c.cntDrove 3
      else if decide (2 ^ 31 ≤ d) || n.rxBits.contains p.psn then (c.cntDrove 2).sendAck ctx
      else if 4096 ≤ d || far n then beyond c
      else if !p.shapeOk type n.pathsMax then c.malformed ctx
      else if n.version = 0x100 && d ≠ 0 then c.nackRanges ctx [(n.rxCum, d)]
      else
        let named := n.named.has p.psn
        let c := (c.updConn ctx (fun n => { n.mark p c.clk with named := n.named.del p.psn })).learnPath ctx p r
        let c := act ctx c
        match c.conns.get? ctx with
        | none => c
        | some n => if n.state = .opened && (named || bit p.flags 1 || decide (n.ackEvery ≤ n.newPkts)) then c.sendAck ctx else c)

/-! ### Messages (R89, R102 to R105, R113) -/

/-- The data of a message in order. -/
def RxMsg.bytes (m : RxMsg) : Bytes := m.segs.vals.flatten

/-- The final of a message has been delivered. -/
def Chip.delivered (c : Chip) (ctx : Nat) : Chip :=
  c.updConn ctx (fun n => { n with msgs := n.msgs.del n.nextMsn, nextMsn := (n.nextMsn + 1) % 2 ^ 32 })

/-- Deliver finals in order, as far as their data is placed (R104); intake may keep one (R162). -/
def Chip.deliver : Nat → Nat → Chip → Chip
  | 0, _, c => c
  | fuel + 1, ctx, c =>
    match c.conns.get? ctx with
    | none => c
    | some n =>
      match n.msgs.get? n.nextMsn with
      | none => c
      | some m => match m.final with
        | none => c
        | some q =>
          if n.state ≠ .opened || m.placed.length < ceilDiv m.msgLen n.segSize || c.intake.held.any (fun h => h.2.ctx = ctx) then c
          else
            let r := c.takeIn ctx q m.bytes m.units m.colour n.nextMsn
            if r.1 then Chip.deliver fuel ctx (r.2.delivered ctx) else r.2

/-- Does the msn lie 1,024 or more ahead of the next to be delivered (R102)? -/
def farMsn (p : DPkt) (n : Conn) : Bool := decide (1024 ≤ ahead 32 p.msn n.nextMsn) && decide (ahead 32 p.msn n.nextMsn < 2 ^ 31)

/-- A packet of a message whose psn is new: behind the window it is only counted; the first of a message takes its units (R113); `place` puts it into the message or finds it
malformed. -/
def Chip.messagePkt (c : Chip) (ctx : Nat) (p : DPkt) (place : Conn → RxMsg → Option RxMsg) : Chip :=
  match c.conns.get? ctx with
  | none => c
  | some n =>
    if 2 ^ 31 ≤ ahead 32 p.msn n.nextMsn then c.cntDrove 4
    else
      let units := unitsOf p.msgLen
      let m := (n.msgs.get? p.msn).getD ⟨p.msgLen, units, [], [], none, 0⟩
      if m.msgLen ≠ p.msgLen then c.malformed ctx
      else match place n m with
        | none => c.malformed ctx
        | some m' =>
          let isNew := !n.msgs.has p.msn
          if isNew && decide (ahead 32 n.creditLimit n.consumed < units) then ((c.cntDrove 9).raise (droveEvent ctx 3)).closeDrove ctx 0x0011
          else
            let c := c.updConn ctx (fun n => { n with msgs := n.msgs.put p.msn m', consumed := if isNew then (n.consumed + units) % 2 ^ 32 else n.consumed })
            Chip.deliver 1024 ctx c

/-- H2C_DATA (R89, R103): the first placement of a segment stays. -/
def h2cData (p : DPkt) (r : Rx) (data : Bytes) : Chip → Chip :=
  Chip.droveSeq p r 0x01 (farMsn p) (fun ctx c => c.messagePkt ctx p (fun n m =>
    if p.offset % n.segSize ≠ 0 || m.msgLen ≤ p.offset || data.length ≠ min n.segSize (m.msgLen - p.offset) then none
    else
      let i := p.offset / n.segSize
      some (if m.placed.contains i then m else { m with placed := addNew i m.placed, segs := m.segs.put i data })))

/-- H2C_CMD (R89, R104): a message has one final; the colour of its frame is the command's (R79). -/
def h2cCmd (p : DPkt) (r : Rx) (q : Sqe) : Chip → Chip :=
  Chip.droveSeq p r 0x02 (farMsn p) (fun ctx c => c.messagePkt ctx p (fun _ m => if m.final.isSome then none else some { m with final := some q, colour := r.colour }))

/-! ### Control packets -/

/-- An ACK, NACK or PROBE_REPLY whose control number is not ahead of the highest accepted has no effect (R107). -/
def Chip.droveCtl (p : DPkt) (r : Rx) (type : Nat) (k : Nat → Conn → Chip → Chip) (c : Chip) (shut : Nat → Chip → Chip := fun _ c => c) : Chip :=
  Chip.droveAuth p r type (shut := shut) (c := c) (k := fun ctx c =>
    match c.conns.get? ctx with
    | none => c
    | some n =>
      let old := match n.rxCtrl with
        | some x => ahead 32 p.psn x = 0 || decide (2 ^ 31 ≤ ahead 32 p.psn x)
        | none => false
      if old && type ≠ 0x12 then c
      else if !p.shapeOk type n.pathsMax then c.malformed ctx
      else k ctx n (if old then c else c.updConn ctx (fun n => { n with rxCtrl := some p.psn })))

/-- Does an ACK with this cum and bitmap acknowledge a psn (R110)? -/
def ackCovers (cum sack psn : Nat) : Bool :=
  decide (2 ^ 31 ≤ ahead 32 psn cum) || (decide (1 ≤ ahead 32 psn cum) && decide (ahead 32 psn cum ≤ 64) && bit sack (ahead 32 psn cum - 1))

/-- Packets acknowledged are freed; a path whose packet got through has no run of time-outs (R101). -/
def Chip.freeAcked (c : Chip) (ctx cum sack : Nat) : Chip :=
  c.updConn ctx (fun n =>
    let got := n.unacked.filter (fun p => ackCovers cum sack p.psn)
    { n with unacked := n.unacked.filter (fun p => !ackCovers cum sack p.psn),
             paths := n.paths.mapVals (fun k (q : Path) => if got.any (fun p => p.path = k) then { q with rtoRun := 0 } else q) })

/-- The parameters of a connection's rate procedure: g, min_rate, ai_step (R116). -/
def Conn.rateG (n : Conn) : Nat := DROVE_DRV_RATE_g_shift.of n.rateImg
def Conn.rateMin (n : Conn) : Nat := DROVE_DRV_RATE_min_rate.of n.rateImg
def Conn.rateStep (n : Conn) : Nat := DROVE_DRV_RATE_ai_step.of n.rateImg

/-- The marks of an ACK take the place of CNPs (R116): by path in 2.0, else for the connection. -/
def Chip.ackMarks (c : Chip) (ctx ce : Nat) : Chip :=
  c.updConn ctx (fun n =>
    let cut := fun (sub : Nat) (r : RateCtl) => r.cnp n.rateG n.rateMin (c.lineRate sub) c.clk
    if n.version = 0x200 then { n with paths := n.paths.mapVals (fun k (q : Path) => if bit ce k then { q with rate := cut q.sub q.rate } else q) }
    else if bit ce 0 then { n with rate := cut n.sub n.rate } else n)

/-- A request for room (R115): cut to max_grant, queued in the order of its arrival. -/
def Chip.askCredit (c : Chip) (ctx req : Nat) : Chip :=
  match c.conns.get? ctx with
  | none => c
  | some n =>
    let want := min req (n.maxGrant - ahead 32 n.creditLimit n.consumed)
    let c := if want = 0 then { c with creditQ := c.creditQ.filter (· ≠ ctx) } else { c with creditQ := addNew ctx c.creditQ }
    (c.updConn ctx (fun n => { n with wanted := if want = 0 then none else some (want, (n.wanted.map (·.2)).getD c.clk) })).creditPass

/-- The next message that the host will deliver moves on (R102, R110). -/
def Chip.hostDelivers (c : Chip) (ctx nextMsn : Nat) : Chip :=
  c.updConn ctx (fun n => { n with hostMsn := if ahead 32 nextMsn n.hostMsn < 2 ^ 31 then nextMsn else n.hostMsn })

/-- ACK (R110, R115, R116). On a closing connection it makes room for the CLOSE, if that waits (R106). -/
def ack (p : DPkt) (r : Rx) (cum sack reqUnits cePaths nextMsn : Nat) (c : Chip) : Chip :=
  Chip.droveCtl p r 0x10 (c := c) (k := fun ctx _ c => ((((c.freeAcked ctx cum sack).hostDelivers ctx nextMsn).ackMarks ctx cePaths).askCredit ctx reqUnits).drainTx ctx)
    (shut := fun ctx c => let c := c.freeAcked ctx cum sack; c.sendClose ctx [((c.conns.get? ctx).bind (·.spray none)).getD p.path])

/-- NACK (R111, R112): the named packets that are not acknowledged are resent; in version 1.0 every packet from the start onward. -/
def nack (p : DPkt) (r : Rx) (cum : Nat) (ranges : List (Nat × Nat)) : Chip → Chip :=
  Chip.droveCtl p r 0x11 (fun ctx n c =>
    if ranges.isEmpty || (if n.version = 0x200 then 8 else 1) < ranges.length || ranges.any (fun x => x.2 = 0 || 4096 < x.2) then c.malformed ctx
    else
      let c := (c.cntDrove 7).freeAcked ctx cum 0
      let left := ((c.conns.get? ctx).map (fun n => n.unacked.map (·.psn))).getD []
      let hit := fun (psn : Nat) => ranges.any (fun x => if n.version = 0x100 then decide (ahead 32 psn x.1 < 2 ^ 31) else decide (ahead 32 psn x.1 < x.2))
      ((left.filter hit).foldl (fun (c : Chip) psn => c.resend ctx psn) c).drainTx ctx)

/-- PROBE (R101): answered on the same path. -/
def probe (p : DPkt) (r : Rx) (body : Bytes) : Chip → Chip :=
  Chip.droveCtl p r 0x12 (fun ctx n c => if n.paths.has p.path then c.sendCtl ctx p.path 0x13 (padTo 16 body) else c)

/-- PROBE_REPLY (R101). -/
def probeReply (p : DPkt) (r : Rx) : Chip → Chip :=
  Chip.droveCtl p r 0x13 (fun ctx _ c => c.updConn ctx (fun n => { n with paths := n.paths.upd p.path (fun (q : Path) => { q with probeMiss := 0 }) }))

/-- REKEY (R98): agreed to, whether or not the chip has asked too; both move once, the chip when its REKEY_ACK leaves. A host's REKEY that comes when both have moved is answered under
the new generation; another that names any generation but the next is malformed (DESIGN CHOICE, assumption 142: R98 is silent on both). -/
def rekey (p : DPkt) (r : Rx) (newGen : Nat) : Chip → Chip :=
  Chip.droveSeq p r 0x20 (fun _ => false) (fun ctx c =>
    match c.conns.get? ctx with
    | none => c
    | some n =>
      if newGen = n.gen && n.oldGen then c.sendSeq ctx 0x21 0 0 0 0 (be 4 newGen ++ zeros 4)
      else if n.gen = 2 ^ 32 - 1 then c.closeDrove ctx 0x000A
      else if newGen ≠ n.gen + 1 then c.malformed ctx
      else if n.moveDue then c
      else (c.updConn ctx (fun n => { n with moveDue := true })).sendSeq ctx 0x21 0 0 0 0 (be 4 newGen ++ zeros 4))

/-- REKEY_ACK (R98). While a REKEY_ACK of the chip's own waits, the chip moves with it. One that answers no REKEY or names another generation has no effect (DESIGN CHOICE,
assumption 142). -/
def rekeyAck (p : DPkt) (r : Rx) (newGen : Nat) : Chip → Chip :=
  Chip.droveSeq p r 0x21 (fun _ => false) (fun ctx c =>
    match c.conns.get? ctx with
    | some n => if n.rekeySent && newGen = n.gen + 1 && !n.moveDue then (c.nextGen ctx).drainTx ctx else c
    | none => c)

/-- CLOSE (R94): acted on when it arrives. The receiver frees its context at once and sends no ACK (DESIGN CHOICE, assumption 142: R94 says how long the sender keeps its own). -/
def close (p : DPkt) (r : Rx) (_reason : Nat) : Chip → Chip :=
  Chip.droveSeq p r 0x22 (fun _ => false) (fun ctx c => (c.loseQueue ctx).freeContext ctx)

/-! ### Timers (R119) -/

/-- Run a timer of an open Drove connection. -/
def Chip.onDrove (c : Chip) (ctx : Nat) (f : Conn → Chip) : Chip :=
  match c.conns.get? ctx with
  | some n => if n.transport = .drove && n.state = .opened then f n else c
  | none => c

/-- The same for one that may be closing. -/
def Chip.onSending (c : Chip) (ctx : Nat) (f : Conn → Chip) : Chip :=
  match c.conns.get? ctx with
  | some n => if n.transport = .drove && n.state ≠ .opening then f n else c
  | none => c

/-- REORDER_TIMER_EXPIRY (R112). -/
def reorderTimerExpiry (ctx : Nat) (c : Chip) : Chip :=
  c.onDrove ctx (fun n => if n.reorderOn then (c.sendNack ctx (if n.version = 0x200 then 8 else 1)).checkCounts ctx else c)

/-- ACK_DELAY_EXPIRY (R108). -/
def ackDelayExpiry (ctx : Nat) (c : Chip) : Chip := c.onDrove ctx (fun n => if n.ackFrom.isSome then (c.sendAck ctx).checkCounts ctx else c)

/-- A path goes down (R101). -/
def Chip.pathDown (c : Chip) (ctx path : Nat) : Chip :=
  match (c.conns.get? ctx).bind (fun n => n.paths.get? path) with
  | some q => if q.live then ((c.updConn ctx (fun n => { n with paths := n.paths.upd path (fun (q : Path) => { q with live := false }) })).cntDrove 13).raise (droveEvent ctx 8) else c
  | none => c

/-- DROVE_RTO_EXPIRY (R101, R109): a packet's wait is over, a CLOSE's too. -/
def droveRtoExpiry (ctx psn : Nat) (c : Chip) : Chip :=
  c.onSending ctx (fun n =>
    match n.unacked.find? (fun p => p.psn = psn) with
    | none => c
    | some p =>
      let c := c.updConn ctx (fun n => { n with paths := n.paths.upd p.path (fun (q : Path) => { q with rtoRun := q.rtoRun + 1 }) })
      let run := ((n.paths.get? p.path).elim 0 (·.rtoRun)) + 1
      let c := if n.pathRtoLimit ≤ run then c.pathDown ctx p.path else c
      (c.resend ctx psn).checkCounts ctx)

/-- PROBE_TIMER (R101): the path has carried nothing for probe_ms; it is down once probe_miss probes in a row have gone unanswered. -/
def probeTimer (ctx path : Nat) (c : Chip) : Chip :=
  c.onDrove ctx (fun n =>
    match n.paths.get? path with
    | none => c
    | some q =>
      if n.version = 0x100 then c
      else
        let c := if n.probeMiss ≤ q.probeMiss then c.pathDown ctx path else c
        let id_ := c.fresh
        let c := id_.2.sendCtl ctx path 0x12 (be 8 (id_.1 % 2 ^ 64) ++ be 8 c.now)
        (c.updConn ctx (fun n => { n with paths := n.paths.upd path (fun (q : Path) => { q with probeMiss := min n.probeMiss (q.probeMiss + 1) }) })).checkCounts ctx)

/-- CONN_DEAD_EXPIRY (R101): no path has been live for conn_dead_ms. -/
def connDeadExpiry (ctx : Nat) (c : Chip) : Chip :=
  c.onDrove ctx (fun n => if n.livePaths.isEmpty then ((c.cntDrove 15).raise (droveEvent ctx 9)).closeDrove ctx 0x0009 true else c)

/-- REKEY_GRACE_EXPIRY (R96, R98): the old generation is no longer accepted, and its secret is erased. -/
def rekeyGraceExpiry (ctx : Nat) (c : Chip) : Chip := c.onDrove ctx (fun _ => c.updConn ctx (fun n => { n with oldGen := false, oldSecret := [] }))

/-- CONNECT_CACHE_EXPIRY (R95): the ACCEPT is no longer kept; an attempt never confirmed is given up with it. -/
def connectCacheExpiry (ctx : Nat) (c : Chip) : Chip :=
  match c.conns.get? ctx with
  | some n => if n.cachedNs.isNone then c else if n.state = .opening then c.freeContext ctx else c.updConn ctx (fun n => { n with cachedNs := none, acceptMsg := [] })
  | none => c

/-- CLOSE_HOLD_EXPIRY (R94). -/
def closeHoldExpiry (ctx : Nat) (c : Chip) : Chip :=
  match c.conns.get? ctx with
  | some n => if n.state = .closing then c.freeContext ctx else c
  | none => c

/-- CREDIT_GRANT (R115). -/
def creditGrant (c : Chip) : Chip := c.creditPass

/-- CREDIT_WAIT_EXPIRY (R115): a request has waited longer than 1 ms. -/
def creditWaitExpiry (ctx : Nat) (c : Chip) : Chip := c.onDrove ctx (fun n => c.raiseIf n.wanted.isSome 0x181)

/-! ### Intake (R160, R162) -/

/-- COMMAND_INTAKE: a complete capsule of a connection, with its data, comes to intake (R160 to R163). The packets of a transport bring it there in the same way; its receive units,
if any, were counted with them. -/
def commandIntake (ctx : Nat) (q : Sqe) (data : Bytes) (colour : Nat) (c : Chip) : Chip :=
  match c.conns.get? ctx with
  | some n => if n.state = .opened then (c.takeIn ctx q data 0 colour (2 ^ 32)).2 else c
  | none => c

/-- INTAKE_RELEASE: room has come free; commands kept at intake enter, and what waits behind them is delivered. -/
def intakeRelease (c : Chip) : Chip :=
  let r := c.releaseHeld
  r.1.foldl (fun (c : Chip) x => if x.2 < 2 ^ 32 then Chip.deliver 1024 x.1 (c.delivered x.1) else c) r.2

/-! ### Configuration and views (R121) -/

/-- DROVE_CFG_SET (0x0220). The free part of the pool moves with its size. -/
def droveCfgSet (h : Hdr) (cfg timer path key credit pool press rate : Nat) : Chip → Chip :=
  runCommand ⟨0x0220, false, .w, paramBytes [8, 8, 8, 8, 8, 8, 8, 8]⟩ h [] (fun c =>
    let old := c.get DROVE_RXPOOL_size_units
    let free := c.get DROVE_RXPOOL_free_units
    let c := (((c.writeImage DROVE_DRV_CFG cfg).writeImage DROVE_DRV_TIMER timer).writeImage DROVE_DRV_PATH path).writeImage DROVE_DRV_KEY key
    let c := (((c.writeImage DROVE_DRV_CREDIT credit).writeImage DROVE_RXPOOL pool).writeImage DROVE_RXPOOL_PRESS press).writeImage DROVE_DRV_RATE rate
    let c := c.set DROVE_RXPOOL_free_units (free + c.get DROVE_RXPOOL_size_units - old)
    Res.ok c.creditPass)

/-- DROVE_CTX_SEL_WRITE: a snapshot of one context; keys are never shown. -/
def droveCtxSelWrite (ctx : Nat) (c : Chip) : Chip :=
  let i := ctx % 2 ^ 18
  let c := c.set DROVE_CTX_SEL_ctx i
  let n := (c.conns.get? i).getD (conn0 .drove 0 0 0 0)
  let c := (c.set DROVE_CTX_VIEW0_rx_cum n.rxCum).set DROVE_CTX_VIEW0_tx_next n.txNext
  let c := (c.set DROVE_CTX_VIEW1_credit_limit n.creditLimit).set DROVE_CTX_VIEW1_consumed n.consumed
  let c := ((c.set DROVE_CTX_VIEW2_generation n.gen).set DROVE_CTX_VIEW2_paths_live (maskOf n.livePaths)).set DROVE_CTX_VIEW2_paths_known (maskOf n.paths.keys)
  let c := (c.set DROVE_CTX_VIEW2_version n.version).set DROVE_CTX_VIEW3_next_msn n.nextMsn
  (c.set DROVE_CTX_VIEW3_open_msgs n.msgs.length).set DROVE_CTX_VIEW3_held_finals (n.msgs.keep (fun _ m => m.final.isSome)).length

end Sys2Proof.Machine
end

