-- ==== Sys2Proof/Machine/Std.lean ====
section
/-!
DEFINITION. The standard transports (chapter 2 of the spec, R65, R66, R72 to R75): NVMe/TCP with TLS, NVMe over RoCE v2; rate control timers, which Drove shares (R116); the sending of
completions on every transport (R32, R88, R176); SESSION_LIST and SESSION_CLOSE.
-/

namespace Sys2Proof.Machine

/-- An open connection of a transport. -/
def Chip.onConn (c : Chip) (t : Transport) (ctx : Nat) (f : Conn → Chip) : Chip :=
  match c.conns.get? ctx with
  | some n => if n.transport = t && n.state = .opened && !n.failed then f n else c
  | none => c

/-- Does a command carry data from the host (the transfer direction of its opcode, or of its Fabrics type)? -/
def Sqe.hostData (q : Sqe) : Bool := decide ((if q.opc = 0x7F then q.fctype else q.opc) % 4 = 1) && decide (0 < q.len)

/-! ### NVMe/TCP (R72 to R74) -/

/-- PDU types of NVMe/TCP. -/
def pduIcResp : Nat := 1
def pduTermReq : Nat := 3
def pduCapsuleResp : Nat := 5
def pduC2hData : Nat := 7
def pduR2t : Nat := 9

/-- The bytes of a PDU in the stream: its header, its data, and the digests that are on (R72). -/
def Conn.pduBytes (n : Conn) (kind : Nat) (body : Bytes) : Nat :=
  if kind = pduIcResp then 128
  else if kind = pduTermReq then 24
  else 24 + (if n.digestH then 4 else 0) + (if kind = pduC2hData then body.length + (if n.digestD then 4 else 0) else 0)

/-- Records of TLS that bytes of a stream take: one holds at most 16 KiB (R74). -/
def tlsRecords (len : Nat) : Nat := ceilDiv len 16384

/-! ### TCP (R65, R72). What RFC 9293, RFC 7323, RFC 2018, RFC 3168 and RFC 5681 say is taken from them (PRESUMED, assumption 9). -/

/-- The largest segment for an mtu: less Ethernet with a tag and FCS, IP and TCP (R72, R92). -/
def mssOf (mtu srcAddr : Nat) : Nat := mtu - 22 - (if isV4 srcAddr then 20 else 40) - 20

/-- The TCP side of a connection as its SYN opens it: the options that both sides have are in force, with a first window of 10 segments. -/
def Chip.tcpOpen (c : Chip) (r : Rx) (port : Nat) (syn : TcpSyn) : TcpCtl :=
  let mss := min syn.mss (mssOf (c.mtu (r.sub / 4)) r.srcAddr)
  { disc := decide (port = c.get DROVE_TCP_CFG_disc_port), mss := mss, wscale := min 14 (syn.wscale.getD 0), sackOk := syn.sackOk, tsOk := syn.tsOk, ecn := syn.ecn,
    cwnd := 10 * mss, rtoUs := c.get DROVE_TCP_CFG_rto_min_us }

/-- Bytes in flight. -/
def Conn.inFlight (n : Conn) : Nat := match n.unacked.head? with
  | some p => n.tcp.next - p.psn
  | none => 0

/-- May a PDU go now: sending is not stopped (R74), and it fits into the host's window and the congestion window, or nothing else is in flight? -/
def Conn.tcpMayGo (n : Conn) (p : TxPkt) : Bool :=
  !n.stopped && decide (0 < n.tcp.rwnd) && (n.unacked.isEmpty || decide (n.inFlight + p.msgLen ≤ min n.tcp.cwnd n.tcp.rwnd))

/-- Put a PDU of the stream onto the line. -/
def Chip.tcpWire (c : Chip) (ctx : Nat) (n : Conn) (p : TxPkt) : Chip :=
  c.emitFrame ctx n.sub (.tcpPdu ctx p.type p.aux p.body p.psn n.tcp.mss (if n.tcp.ecn then ect0 else 0) n.tcp.echo (if n.tcp.tsOk then some n.tcp.tsEcho else none))
    (if n.tls then Config.tlsSeal ctx n.recSent p.body else p.body)

/-- Records of TLS that the chip sends: 0 handshake messages, 1 an alert handshake_failure, 2 KeyUpdate with update_requested, 3 KeyUpdate. -/
def tlsHandshake : Nat := 0
def tlsAlert : Nat := 1
def tlsUpdateAsk : Nat := 2
def tlsUpdate : Nat := 3

/-- Send a record of TLS's own; a KeyUpdate is a protected record and counts (R74). -/
def Chip.tlsSend (c : Chip) (ctx kind : Nat) : Chip :=
  match c.conns.get? ctx with
  | none => c
  | some n =>
    let c := c.emitFrame ctx n.sub (.tlsRecord ctx kind) []
    if n.tls && (kind = tlsUpdateAsk || kind = tlsUpdate) then (c.gcmOp ctx 16).updConn ctx (fun n => { n with recSent := n.recSent + 1 }) else c

/-- The counts of protected records reach their marks (R74). -/
def Chip.tlsMarks (c : Chip) (ctx : Nat) : Chip :=
  match c.conns.get? ctx with
  | none => c
  | some n =>
    if !n.tls then c
    else
      let most := max n.recSent n.recRecv
      let c := if decide (2 ^ 31 ≤ most) && !n.keyAsked then ((c.updConn ctx (fun n => { n with keyAsked := true })).tlsSend ctx tlsUpdateAsk).raise 0x1C1 else c
      if decide (stopAt ≤ most) && !n.stopped then (c.updConn ctx (fun n => { n with stopped := true })).raise 0x1C2 else c

/-- Send the PDUs that wait, in order, as far as they may go. -/
def Chip.tcpDrainList (ctx : Nat) : List TxPkt → Chip → Chip
  | [], c => c
  | p :: ps, c =>
    match c.conns.get? ctx with
    | none => c
    | some n =>
      if !n.tcpMayGo p then c
      else
        let p := { p with psn := n.tcp.next, sentNs := c.clk }
        let c := (c.tcpWire ctx n p).meterAdd n.paddock 10 p.body.length
        let c := c.updConn ctx (fun n => { n with txWait := ps, unacked := n.unacked ++ [p], tcp := { n.tcp with next := n.tcp.next + p.msgLen } })
        let c := if n.tls then (c.gcmOp ctx p.msgLen (tlsRecords p.msgLen)).updConn ctx (fun n => { n with recSent := n.recSent + tlsRecords p.msgLen }) else c
        Chip.tcpDrainList ctx ps (c.tlsMarks ctx)

def Chip.tcpDrain (c : Chip) (ctx : Nat) : Chip :=
  match c.conns.get? ctx with
  | none => c
  | some n => Chip.tcpDrainList ctx n.txWait c

/-- Send a PDU; while it may not go it waits (R65, R72, R74). -/
def Chip.tcpSend (c : Chip) (ctx kind cid : Nat) (body : Bytes) : Chip :=
  (c.updConn ctx (fun n => { n with txWait := n.txWait ++ [⟨0, kind, 0, 0, n.pduBytes kind body, cid, body, 0, 0, 0, 0, []⟩] })).tcpDrain ctx

/-- A PDU arrived: under TLS its records are counted (R74). -/
def Chip.tcpHeard (c : Chip) (ctx len : Nat) : Chip :=
  match c.conns.get? ctx with
  | none => c
  | some n =>
    if n.tls then ((c.gcmOp ctx len (tlsRecords len)).updConn ctx (fun n => { n with recRecv := n.recRecv + tlsRecords len })).tlsMarks ctx else c

/-- What the header of a segment says (R65, R72): what it acknowledges leaves, the windows move, and what waits goes. With ECN-Echo the congestion window is halved, once for the data in
flight; else it grows by what is acknowledged, below its threshold byte for byte, above it by a segment for each window. -/
def TcpCtl.heard (t : TcpCtl) (una acked : Nat) (g : TcpSeg) : TcpCtl :=
  let half := max (2 * t.mss) (t.cwnd / 2)
  let t := if t.ecn && g.ece && decide (t.recover ≤ una) then { t with cwnd := half, ssthresh := half, recover := t.next }
    else if acked = 0 then t
    else if t.cwnd < t.ssthresh then { t with cwnd := t.cwnd + min acked t.mss } else { t with cwnd := t.cwnd + t.mss * acked / atLeast1 t.cwnd }
  { t with rwnd := g.wnd * 2 ^ t.wscale, tsEcho := g.ts, echo := t.ecn && g.ce, sacked := if t.sackOk then g.sack else [] }

def Chip.tcpAcked (c : Chip) (ctx : Nat) (g : TcpSeg) : Chip :=
  let rto := c.get DROVE_TCP_CFG_rto_min_us
  (c.updConn ctx (fun n =>
    let una := n.tcp.next - n.inFlight
    let acked := min g.ack n.tcp.next - una
    { n with unacked := n.unacked.filter (fun p => decide (g.ack < p.psn + p.msgLen)), retrans := if acked = 0 then n.retrans else 0,
             tcp := { n.tcp.heard una acked g with rtoUs := if acked = 0 then n.tcp.rtoUs else rto } })).tcpDrain ctx

/-- End an NVMe/TCP connection; its queue pair is lost (R176). -/
def Chip.endTcp (c : Chip) (ctx : Nat) (reset : Bool) : Chip :=
  let sub := (c.conns.get? ctx).elim 0 (·.sub)
  ((c.loseQueue ctx).emitFrame ctx sub (.tcpClose ctx reset) []).freeContext ctx

/-- Terminate a connection with C2HTermReq (R74). -/
def Chip.terminate (c : Chip) (ctx event : Nat) : Chip := ((c.tcpSend ctx pduTermReq 0 []).raise event).endTcp ctx false

/-- The NVMe/TCP connection of a 4-tuple: its flow entry (R152). -/
def Chip.flowOf (c : Chip) (r : Rx) : Option (Nat × Conn) :=
  c.conns.first? (fun _ n => n.transport = .tcp && n.paths.any (fun e => e.2.srcAddr = r.srcAddr && e.2.srcPort = r.srcPort && e.2.dstAddr = r.dstAddr))

/-- Open a context for a standard transport, with its flow entry; a full table opens none (R122). -/
def Chip.openStd (c : Chip) (t : Transport) (r : Rx) (f : Conn → Conn) : Option (Nat × Chip) :=
  match c.newContext with
  | none => none
  | some (ctx, c) =>
    let line := c.lineRate r.sub
    let path : Path := ⟨r.sub, r.srcAddr, r.srcPort, r.dstAddr, true, 0, 0, c.clk, c.clk / second, 0, RateCtl.fresh line⟩
    let n := f { conn0 t r.sub r.srcAddr c.now line with paths := [(0, path)] }
    let c := { c with conns := c.conns.put ctx n }
    some (ctx, if t = .tcp then c.pathPut (ctx * 8) ⟨r.sub, r.srcAddr, r.srcPort, r.dstAddr, true, c.clk / second % 65536⟩ else c)

/-- Does the chip listen on a TCP port (R72)? -/
def Chip.listens (c : Chip) (port : Nat) : Bool := port = c.get DROVE_TCP_CFG_io_port || port = c.get DROVE_TCP_CFG_disc_port

/-- TCP_ICREQ (R72, R73): digests as the host asks (bit 0 header, bit 1 data), refused without those or the TLS that the chip requires. `maxR2t` is the host's MAXR2T, `syn` what the SYN
of a connection without TLS offered. An analysis port takes no connection (R48). -/
def tcpIcreq (r : Rx) (port pfv digests maxR2t : Nat) (syn : TcpSyn) (c : Chip) : Chip :=
  if !c.listens port || c.analysis r.sub then c
  else
    let opened := match c.flowOf r with
      | some (ctx, _) => some (ctx, c)
      | none => c.openStd .tcp r (fun n => { n with tcp := c.tcpOpen r port syn })
    match opened with
    | none => c.raise (droveEvent 0 0x0D)
    | some (ctx, c) => match c.conns.get? ctx with
      | none => c
      | some n =>
        let c := c.tcpHeard ctx 128
        if n.state ≠ .opening || pfv ≠ 0 || (n.identity.isSome && !n.tls) then c.terminate ctx 0x1C4
        else if (c.flag DROVE_TCP_CFG_tls_req && !n.tls) || (c.flag DROVE_TCP_CFG_digest_req && digests % 4 ≠ 3) then (c.tcpSend ctx pduTermReq 0 []).endTcp ctx false
        else
          let c := c.updConn ctx (fun n => { n with state := .opened, digestH := bit digests 0, digestD := bit digests 1, maxR2t := maxR2t })
          c.tcpSend ctx pduIcResp 0 (le 2 0 ++ le 1 0 ++ le 1 (digests % 4) ++ le 4 131072)

/-- R2Ts that a capsule has had once `got` bytes of its data are here: one for each 131,072 bytes, at most MAXR2T + 1 of them outstanding (R72). -/
def r2tCount (len got maxR2t : Nat) : Nat := min (ceilDiv len 131072) (maxR2t + 1 + got / 131072)

/-- Issue the R2Ts from number `have_` on. -/
def Chip.sendR2t (c : Chip) (ctx cid len have_ want : Nat) : Chip :=
  (List.range (want - have_)).foldl (fun (c : Chip) i =>
    let off := (have_ + i) * 131072
    c.tcpSend ctx pduR2t cid (le 4 off ++ le 4 (min 131072 (len - off)))) c

/-- TCP_CAPSULE_CMD (R72, R160): in-capsule data is taken; other data is fetched with R2T. -/
def tcpCapsuleCmd (ctx : Nat) (q : Sqe) (data : Bytes) (digestOk wellFormed : Bool) (colour : Nat) (seg : TcpSeg) (c : Chip) : Chip :=
  c.onConn .tcp ctx (fun n =>
    let c := (c.tcpHeard ctx (72 + data.length)).tcpAcked ctx seg
    if (n.digestH || n.digestD) && !digestOk then c.terminate ctx 0x1C3
    else if !wellFormed || n.capsules.has q.cid || (n.qid ≠ 0 && decide (min 8 (c.get DROVE_TCP_CFG_icd_kib) * 1024 < data.length)) || 8192 < data.length then c.terminate ctx 0x1C4
    else if q.hostData && data.isEmpty then
      let c := c.updConn ctx (fun n => { n with capsules := n.capsules.put q.cid ⟨q, [], 0, colour⟩ })
      c.sendR2t ctx q.cid q.len 0 (r2tCount q.len 0 n.maxR2t)
    else (c.takeIn ctx q data 0 colour (2 ^ 32)).2)

/-- TCP_H2C_DATA (R72): data of a capsule by offset; the command goes in once all of it is here. -/
def tcpH2cData (ctx cid offset : Nat) (data : Bytes) (digestOk : Bool) (seg : TcpSeg) (c : Chip) : Chip :=
  c.onConn .tcp ctx (fun n =>
    let c := (c.tcpHeard ctx (24 + data.length)).tcpAcked ctx seg
    if (n.digestH || n.digestD) && !digestOk then c.terminate ctx 0x1C3
    else match n.capsules.get? cid with
      | none => c.terminate ctx 0x1C4
      | some k =>
        let asked := min k.sqe.len (r2tCount k.sqe.len k.got n.maxR2t * 131072)
        if data.isEmpty || 131072 < data.length || asked < offset + data.length || k.segs.has offset then c.terminate ctx 0x1C4
        else
          let k' := { k with segs := k.segs.put offset data, got := k.got + data.length }
          if k'.got < k.sqe.len then
            let c := c.updConn ctx (fun n => { n with capsules := n.capsules.put cid k' })
            c.sendR2t ctx cid k.sqe.len (r2tCount k.sqe.len k.got n.maxR2t) (r2tCount k.sqe.len k'.got n.maxR2t)
          else
            let c := c.updConn ctx (fun n => { n with capsules := n.capsules.del cid })
            (c.takeIn ctx k.sqe k'.segs.vals.flatten 0 k.colour (2 ^ 32)).2)

/-- TCP_TERM_REQ: the host terminates the connection. -/
def tcpTermReq (ctx : Nat) (c : Chip) : Chip :=
  match c.conns.get? ctx with
  | some n => if n.transport = .tcp then c.endTcp ctx false else c
  | none => c

/-- The time-out of a segment (R72): the window falls to one segment, the wait doubles from rto_min_us up to 4 s, and the oldest segment that the host has not acknowledged, not by SACK either, goes
again. -/
def Chip.tcpResend (c : Chip) (ctx : Nat) (n : Conn) : Chip :=
  let t := { n.tcp with cwnd := n.tcp.mss, ssthresh := max (2 * n.tcp.mss) (n.inFlight / 2), rtoUs := min 4000000 (2 * max n.tcp.rtoUs (c.get DROVE_TCP_CFG_rto_min_us)) }
  let c := match n.unacked.find? (fun p => !n.tcp.sacked.any (fun x => decide (x.1 ≤ p.psn) && decide (p.psn + p.msgLen ≤ x.2))) with
    | some p => c.tcpWire ctx n p
    | none => c
  c.updConn ctx (fun n => { n with tcp := t })

/-- TCP_RTO_EXPIRY (R72): a segment is retransmitted, `again` when it is the one retransmitted last; after 15 the connection is reset. -/
def tcpRtoExpiry (ctx : Nat) (again : Bool) (c : Chip) : Chip :=
  match c.conns.get? ctx with
  | some n =>
    if n.transport ≠ .tcp then c
    else if again && decide (15 ≤ n.retrans) then (c.raise 0x1C8).endTcp ctx true
    else (c.tcpResend ctx n).updConn ctx (fun n => { n with retrans := if again then n.retrans + 1 else 1 })
  | none => c

/-- TCP_CLOSE_RX (R176): a FIN or RST from the host. -/
def tcpCloseRx (ctx : Nat) (reset : Bool) (c : Chip) : Chip :=
  match c.conns.get? ctx with
  | some n => if n.transport ≠ .tcp then c else if reset then (c.loseQueue ctx).freeContext ctx else c.endTcp ctx false
  | none => c

/-- TLS_HANDSHAKE_MSG (R73): a ClientHello (kind 1) that offers TLS 1.3, the suite, a known identity whose binder verifies, and psk_ke or psk_dhe_ke with secp384r1 opens the handshake;
the client's Finished (kind 20) that verifies ends it. `modes` has bit 0 psk_ke, bit 1 psk_dhe_ke; `verified` is the result for the binder or the Finished. -/
def tlsHandshakeMsg (r : Rx) (port kind modes : Nat) (identity : Bytes) (tls13 suite secp384 verified : Bool) (syn : TcpSyn) (c : Chip) : Chip :=
  if !c.listens port || c.analysis r.sub || c.drbgStopped then c
  else
    let fail := fun (ctx : Option Nat) (c : Chip) => match ctx with
      | some x => ((c.tlsSend x tlsAlert).raise 0x1C0).endTcp x false
      | none => c.raise 0x1C0
    match c.flowOf r with
    | none =>
      let known := c.cipher.psks.any (fun e => e.2.identity = identity)
      let good := kind = 1 && tls13 && suite && verified && known && (bit modes 0 || (bit modes 1 && secp384))
      match c.openStd .tcp r (fun n => { n with identity := some identity, tcp := c.tcpOpen r port syn }) with
      | none => c.raise (droveEvent 0 0x0D)
      | some (ctx, c) => if good then c.keyOp.tlsSend ctx tlsHandshake else fail (some ctx) c
    | some (ctx, n) =>
      if n.state = .opening && n.identity.isSome && !n.tls && kind = 20 && verified then c.updConn ctx (fun n => { n with tls := true })
      else fail (some ctx) c

/-- TLS_KEYUPDATE_RX (R74): it completes the update that the chip asked for, and stopped sending resumes; one that asks for an update is answered. -/
def tlsKeyupdateRx (ctx : Nat) (asks : Bool) (c : Chip) : Chip :=
  c.onConn .tcp ctx (fun n =>
    if !n.tls then c
    else
      let c := if asks && !n.keyAsked then c.tlsSend ctx tlsUpdate else c
      let ours := asks || n.keyAsked
      let c := c.updConn ctx (fun n => { n with recRecv := 0, recSent := if ours then 0 else n.recSent, keyAsked := false, stopped := if ours then false else n.stopped })
      if ours then c.tcpDrain ctx else c)

/-! ### RoCE v2 (R65, R66, R75) -/

/-- What the chip sends on a queue pair. -/
def roceAck : Nat := 0
def roceSend : Nat := 1
def roceWrite : Nat := 2
def roceRead : Nat := 3
def roceNakSeq : Nat := 4
def roceNakAccess : Nat := 5
def roceCnp : Nat := 6
def roceSendInv : Nat := 7

/-- The path MTU: pmtu, never above the sub-port's (R75). -/
def Chip.pmtu (c : Chip) (sub : Nat) : Nat :=
  let want := 1024 * 2 ^ min 2 (c.get DROVE_ROCE_CFG_pmtu)
  ([4096, 2048, 1024].find? (fun s => decide (s ≤ want) && decide (s ≤ c.mtu (sub / 4)))).getD 1024

def Chip.rdAtomic (c : Chip) : Nat := clamp 1 16 (c.get DROVE_ROCE_CFG_rd_atomic)

/-- Send without a sequence number of the chip's own. Every packet is marked ECT(0) (R65). -/
def Chip.roceEmit (c : Chip) (ctx kind psn cid : Nat) (body : Bytes) : Chip :=
  match c.conns.get? ctx with
  | some n => (c.emitFrame ctx n.sub (.roce ctx kind psn cid body ect0) body).meterAdd n.paddock 10 body.length
  | none => c

/-- Send a request; it stays until it is acknowledged. A READ takes as many sequence numbers as its response has packets, a WRITE or SEND as many as it has packets. -/
def Chip.roceRequest (c : Chip) (ctx kind cid len : Nat) (body : Bytes) : Chip :=
  match c.conns.get? ctx with
  | none => c
  | some n =>
    let psns := atLeast1 (ceilDiv len (c.pmtu n.sub))
    let p : TxPkt := ⟨n.nextTxPsn, kind, 0, 0, psns, cid, body, 0, c.clk, 0, 0, []⟩
    (c.updConn ctx (fun n => { n with nextTxPsn := (n.nextTxPsn + psns) % 2 ^ 24, unacked := n.unacked ++ [p] })).roceEmit ctx kind p.psn cid body

/-- Send a message of the connection manager, by a context's sub-port or, where there is none, by the one that is named. -/
def Chip.roceCmSend (c : Chip) (ctx sub kind : Nat) : Chip := c.emitFrame ctx ((c.conns.get? ctx).elim sub (·.sub)) (.roceCm ctx kind) []

/-- A queue pair goes to error: its queue pair is lost, and the connection manager is asked to disconnect. -/
def Chip.roceError (c : Chip) (ctx : Nat) : Chip :=
  ((c.updConn ctx (fun n => { n with failed := true, unacked := [], capsules := [] })).loseQueue ctx).roceCmSend ctx 0 cmDreq

/-- ROCE_CM_MSG (R75): kind 0 a request with the host's queue pair number, its first psn and whether its private data are right, 1 ready to use, 2 a disconnect request, 3 its reply, 4 a
reject. `ctx` is the context that kinds 1 to 4 name. -/
def roceCmMsg (r : Rx) (kind ctx qpn psn : Nat) (good : Bool) (c : Chip) : Chip :=
  if c.analysis r.sub then c
  else if kind = 0 then
    if !good then c.netSend r.sub 0 (.roceCm 0 cmRej)
    else
      let q := c.freshId (2 ^ 24) (fun x => c.conns.any (fun e => e.2.transport = .roce && e.2.chipCid = x)) c.conns.length
      let f := q.2.fresh
      match f.2.openStd .roce r (fun n => { n with hostCid := qpn, chipCid := q.1, expectPsn := psn % 2 ^ 24, nextTxPsn := f.1 % 2 ^ 24 }) with
      | none => (c.raise (droveEvent 0 0x0D)).netSend r.sub 0 (.roceCm 0 cmRej)
      | some (i, c) => c.roceCmSend i r.sub cmRep
  else match c.conns.get? ctx with
    | none => c
    | some n =>
      if n.transport ≠ .roce then c
      else if kind = 1 then (if n.state = .opening then c.updConn ctx (fun n => { n with state := .opened }) else c)
      else if kind = 2 then ((c.loseQueue ctx).roceCmSend ctx r.sub cmDrep).freeContext ctx
      else (c.loseQueue ctx).freeContext ctx

/-- A packet marked CE: a CNP goes back, at most one per queue pair in cnp_interval_us (R65). -/
def Chip.roceMarked (c : Chip) (ctx : Nat) (ce : Bool) : Chip :=
  match c.conns.get? ctx with
  | none => c
  | some n =>
    if ce && decide (n.cnpNs + c.get DROVE_ROCE_CFG_cnp_interval_us * 1000 ≤ c.clk) then (c.updConn ctx (fun n => { n with cnpNs := c.clk })).roceEmit ctx roceCnp 0 0 []
    else c

/-- Fetch the data of a capsule that waits (R75, R160). Its key in the table is the order of its arrival. -/
def Chip.roceFetch (c : Chip) (ctx : Nat) (k : Capsule) : Chip := c.roceRequest ctx roceRead k.sqe.cid k.sqe.len (le 4 k.sqe.key ++ le 4 k.sqe.len)

/-- ROCE_SEND_RX (R75): the next psn in order is taken and acknowledged, a duplicate is acknowledged again, a gap is answered with a sequence NAK. Data not in the capsule is
fetched with RDMA READ, at most rd_atomic at a time. -/
def roceSendRx (ctx psn : Nat) (q : Sqe) (data : Bytes) (ce : Bool) (colour : Nat) (c : Chip) : Chip :=
  c.onConn .roce ctx (fun n =>
    let c := c.roceMarked ctx ce
    let d := ahead 24 psn n.expectPsn
    if 2 ^ 23 ≤ d then c.roceEmit ctx roceAck psn 0 []
    else if d ≠ 0 then c.roceEmit ctx roceNakSeq n.expectPsn 0 []
    else
      let c := (c.updConn ctx (fun n => { n with expectPsn := (n.expectPsn + 1) % 2 ^ 24 })).roceEmit ctx roceAck psn 0 []
      if q.hostData && data.isEmpty then
        let k : Capsule := ⟨q, [], 0, colour⟩
        let busy := n.capsules.length
        let c := c.updConn ctx (fun n => { n with recSent := n.recSent + 1, capsules := n.capsules.put n.recSent k })
        if busy < c.rdAtomic then c.roceFetch ctx k else c
      else (c.takeIn ctx q data 0 colour (2 ^ 32)).2)

/-- The number that the next packet of a READ's response carries, once `got` bytes of it are here (R75). -/
def Chip.readPsn (c : Chip) (n : Conn) (k : Capsule) : Option Nat :=
  (n.unacked.find? (fun p => p.type = roceRead && p.aux = k.sqe.cid)).map (fun p => (p.psn + k.got / c.pmtu n.sub) % 2 ^ 24)

/-- ROCE_READ_RESPONSE_RX (R75): responses come in the order of the READs, each packet once, in the order of their numbers; a duplicate, or one beyond a gap, is dropped. -/
def roceReadResponseRx (ctx psn : Nat) (data : Bytes) (ce : Bool) (c : Chip) : Chip :=
  c.onConn .roce ctx (fun n =>
    let c := c.roceMarked ctx ce
    match n.capsules with
    | [] => c
    | (key, k) :: rest =>
      if c.readPsn n k ≠ some psn then c else
      let k' := { k with segs := k.segs.put k.got data, got := k.got + data.length }
      if k'.got < k.sqe.len then c.updConn ctx (fun n => { n with capsules := n.capsules.put key k' })
      else
        let c := c.updConn ctx (fun n => { n with capsules := rest, retries := 0, unacked := n.unacked.filter (fun p => !(p.type = roceRead && p.aux = k.sqe.cid)) })
        let c := match (rest.drop (c.rdAtomic - 1)).head? with
          | some (_, next) => c.roceFetch ctx next
          | none => c
        (c.takeIn ctx k.sqe (k'.segs.vals.flatten.take k.sqe.len) 0 k.colour (2 ^ 32)).2)

/-- Resend everything unacknowledged from a psn on. -/
def Chip.roceResend (c : Chip) (ctx psn : Nat) : Chip :=
  match c.conns.get? ctx with
  | some n => (n.unacked.filter (fun p => decide (ahead 24 p.psn psn < 2 ^ 23))).foldl (fun (c : Chip) p => c.roceEmit ctx p.type p.psn p.aux p.body) c
  | none => c

/-- ROCE_ACK_RX (R65, R75): kind 0 an acknowledgement up to psn, 1 a sequence NAK, 2 a receiver-not-ready NAK, 3 any other NAK. -/
def roceAckRx (ctx psn kind : Nat) (ce : Bool) (c : Chip) : Chip :=
  c.onConn .roce ctx (fun n =>
    let c := c.roceMarked ctx ce
    let upTo := fun (p : TxPkt) => if kind = 0 then decide (ahead 24 psn ((p.psn + p.msgLen - 1) % 2 ^ 24) < 2 ^ 23) else decide (ahead 24 psn ((p.psn + p.msgLen) % 2 ^ 24) < 2 ^ 23)
    let c := c.updConn ctx (fun n => { n with unacked := n.unacked.filter (fun p => p.type = roceRead || !upTo p) })
    if kind = 0 then c.updConn ctx (fun n => { n with retries := 0, rnrRetries := 0 })
    else if kind = 1 then
      if c.get DROVE_ROCE_CFG_retry_cnt ≤ n.retries then (c.raise 0x1C5).roceError ctx
      else (c.updConn ctx (fun n => { n with retries := n.retries + 1 })).roceResend ctx psn
    else if kind = 2 then
      if c.get DROVE_ROCE_CFG_rnr_retry ≤ n.rnrRetries then (c.raise 0x1C5).roceError ctx
      else (c.updConn ctx (fun n => { n with rnrRetries := n.rnrRetries + 1 })).roceResend ctx psn
    else c.roceError ctx)

/-- ROCE_REMOTE_OP_RX (R75). -/
def roceRemoteOpRx (ctx psn : Nat) (c : Chip) : Chip := c.onConn .roce ctx (fun _ => ((c.roceEmit ctx roceNakAccess psn 0 []).raise 0x1C6).roceError ctx)

/-- ROCE_ACK_TIMEOUT (R75). -/
def roceAckTimeout (ctx : Nat) (c : Chip) : Chip :=
  c.onConn .roce ctx (fun n =>
    match n.unacked with
    | [] => c
    | p :: _ =>
      if c.get DROVE_ROCE_CFG_retry_cnt ≤ n.retries then (c.raise 0x1C5).roceError ctx
      else (c.updConn ctx (fun n => { n with retries := n.retries + 1 })).roceResend ctx p.psn)

/-! ### Rate control (R66, R116) -/

/-- The parameters of a connection: g_shift, min_rate, ai_step. -/
def Chip.rateParams (c : Chip) (n : Conn) : Nat × Nat × Nat :=
  if n.transport = .drove then (n.rateG, n.rateMin, n.rateStep) else (c.get DROVE_ROCE_RATE_g_shift, c.get DROVE_ROCE_RATE_min_rate, c.get DROVE_ROCE_RATE_ai_step)

/-- Change a rate control: of a path on Drove 2.0, else of the connection. -/
def Chip.updRate (c : Chip) (ctx path : Nat) (f : Nat → RateCtl → RateCtl) : Chip :=
  c.updConn ctx (fun n =>
    if n.transport = .drove && n.version = 0x200 then { n with paths := n.paths.upd path (fun (q : Path) => { q with rate := f (c.lineRate q.sub) q.rate }) }
    else { n with rate := f (c.lineRate n.sub) n.rate })

/-- ROCE_CNP_RX (R66). -/
def roceCnpRx (ctx : Nat) (c : Chip) : Chip :=
  c.onConn .roce ctx (fun n => c.updRate ctx 0 (fun line r => r.cnp (c.rateParams n).1 (c.rateParams n).2.1 line c.clk))

/-- ROCE_ALPHA_TIMER (R66), for a path of Drove 2.0 as well. -/
def roceAlphaTimer (ctx path : Nat) (c : Chip) : Chip :=
  match c.conns.get? ctx with
  | some n => if n.transport = .tcp then c else c.updRate ctx path (fun _ r => r.decay (c.rateParams n).1)
  | none => c

/-- ROCE_INCREASE_TIMER (R66), for a path of Drove 2.0 as well. -/
def roceIncreaseTimer (ctx path : Nat) (c : Chip) : Chip :=
  match c.conns.get? ctx with
  | some n => if n.transport = .tcp then c else c.updRate ctx path (fun line r => r.rise (c.rateParams n).2.2 (c.rateParams n).2.1 line c.clk)
  | none => c

/-- ROCE_MIN_RATE_HOLD (R82): the rate has stood at min_rate for longer than 1 s. -/
def roceMinRateHold (ctx : Nat) (c : Chip) : Chip :=
  c.onConn .roce ctx (fun n => match n.rate.minSince with
    | some t => c.raiseIf (decide (t + second < c.clk)) 0x1C7
    | none => c)

/-! ### Sending completions (R32, R88, R174, R176) -/

/-- The completion queue entry: command result, submission queue head and identifier, command identifier, status. -/
def cqe (n : Conn) (d : Completion) : Bytes := le 8 d.dw0 ++ le 2 n.sqHead ++ le 2 n.qid ++ le 2 d.cid ++ le 2 ((d.sc + d.sct * 256) * 2)

/-- The segments of a message's data with their offsets. -/
def segments (size : Nat) : Nat → Nat → Bytes → List (Nat × Bytes)
  | 0, _, _ => []
  | n + 1, off, b => (off, b.take size) :: segments size n (off + size) (b.drop size)

/-- Send read data and then the response on a connection. On RoCE v2 the response is a SEND with Invalidate of the data's key when the command's descriptor asks for that (R75). -/
def Chip.sendResponse (c : Chip) (n : Conn) (d : Completion) : Chip :=
  let data := d.data.flatten
  match n.transport with
  | .drove =>
    let msn := n.txMsn
    let c := c.updConn d.ctx (fun n => { n with txMsn := (n.txMsn + 1) % 2 ^ 32 })
    let c := (segments n.segSize (ceilDiv data.length n.segSize) 0 data).foldl (fun (c : Chip) s => c.sendSeq d.ctx 0x03 msn s.1 data.length d.key s.2) c
    (c.sendSeq d.ctx 0x04 msn 0 data.length 0 (cqe n d ++ be 4 data.length ++ zeros 12)).checkCounts d.ctx
  | .tcp =>
    let c := if data.isEmpty then c else c.tcpSend d.ctx pduC2hData d.cid data
    c.tcpSend d.ctx pduCapsuleResp d.cid (cqe n d)
  | .roce =>
    let c := if data.isEmpty then c else c.roceRequest d.ctx roceWrite d.cid data.length (le 4 d.key ++ data)
    if d.inval then c.roceRequest d.ctx roceSendInv d.cid 16 (le 4 d.key ++ cqe n d) else c.roceRequest d.ctx roceSend d.cid 16 (cqe n d)

/-- HOST_COMPLETION_SEND: the oldest completion of a connection is sent, its data before it (R32, R105). A Disconnect closes the connection after it (R176). During a dump for a loss
of power none is sent (R211). -/
def hostCompletionSend (ctx : Nat) (c : Chip) : Chip :=
  match c.intake.done.find? (fun d => d.ctx = ctx), c.conns.get? ctx with
  | some d, some n =>
    if n.state ≠ .opened || c.powerDump then c
    else
      let c := { c with intake := { c.intake with done := c.intake.done.erase d } }
      let c := c.sendResponse n d
      if d.close then c.closeQueue ctx else c
  | _, _ => c

/-! ### Management (R81, R176, R435) -/

/-- STD_TRANSPORT_SET (0x0221). -/
def stdTransportSet (h : Hdr) (tcp roce rate : Nat) : Chip → Chip :=
  runCommand ⟨0x0221, false, .w, paramBytes [DROVE_TCP_CFG.bytes, DROVE_ROCE_CFG.bytes, DROVE_ROCE_RATE.bytes]⟩ h [] (fun c =>
    Res.ok (((c.writeImage DROVE_TCP_CFG tcp).writeImage DROVE_ROCE_CFG roce).writeImage DROVE_ROCE_RATE rate))

/-- The code of a transport in replies: 0 Drove, 1 NVMe/TCP, 2 RoCE v2. -/
def transportCode : Transport → Nat
  | .drove => 0
  | .tcp => 1
  | .roce => 2

/-- SESSION_LIST (0x0228): contexts from a first one on, at most 100. -/
def sessionList (h : Hdr) (first : Nat) : Chip → Chip :=
  runCommand ⟨0x0228, false, .r, paramBytes [4]⟩ h [] (fun c =>
    let l := (c.conns.keep (fun k _ => decide (first ≤ k))).take 100
    Res.ok c (le 2 l.length ++ l.flatMap (fun e => le 4 e.1 ++ le 2 (e.2.host.getD 0xFFFF) ++ le 2 e.2.paddock ++ le 1 (transportCode e.2.transport) ++ le 2 e.2.version ++
      le 1 e.2.paths.length ++ zeros 4 ++ le 8 e.2.openedNs ++ be 16 e.2.srcAddr)))

/-- SESSION_CLOSE (0x0229): Drove closes with reason 0x0012. -/
def sessionClose (h : Hdr) (ctx : Nat) : Chip → Chip :=
  runCommand ⟨0x0229, false, .w, paramBytes [4]⟩ h [] (fun c =>
    Res.guard c [rangeRefusal c ctx 262144 131072 32, refuseIf (!c.conns.has ctx) 0x0201 32] (fun c => Res.ok (c.closeQueue ctx)))

end Sys2Proof.Machine
end

