-- ==== Sys2Proof/Machine/Twin.lean ====
section
/-!
DEFINITION. The twin logic: crook lines and gates, whistles, pairing, splits, declaration, claims, takeover and handover (chapter 12 of the spec, R371 to R385, R388 to R396).
-/

namespace Sys2Proof.Machine

/-! ### Lines and gates (R373 to R376) -/

def Chip.me (c : Chip) : Nat := b2n c.id.chipB

def allFolds : List Nat := List.range 8

/-- The mask of folds for which a field of TWIN_FOLD_STAT is set. -/
def Chip.foldMask (c : Chip) (f : Field) : Nat := maskOf (allFolds.filter (fun i => c.flag f i))

/-- Show the levels of the lines: `own` as read on this chip's lines, the partner's as last read. -/
def Chip.showCrook (c : Chip) (own : Nat) : Chip :=
  let theirs := c.foldMask TWIN_FOLD_STAT_partner_line
  let c := c.set TWIN_CROOK_driven (c.foldMask TWIN_FOLD_STAT_own_line)
  if c.id.chipB then (c.set TWIN_CROOK_crook_a theirs).set TWIN_CROOK_crook_b own else (c.set TWIN_CROOK_crook_a own).set TWIN_CROOK_crook_b theirs

/-- Drive this chip's line of a fold. A released line closes the gate. -/
def Chip.driveLine (c : Chip) (f : Nat) (on : Bool) : Chip :=
  if c.flag TWIN_FOLD_STAT_own_line f = on then c
  else
    let c := (c.setFlag TWIN_FOLD_STAT_own_line on f).send (.crook f on)
    let c := if on then c else c.set TWIN_FOLD_STAT_gate_open 0 f
    c.showCrook (c.foldMask TWIN_FOLD_STAT_own_line)

/-- The partner's lines as read now (bit f). A gate closes when the partner's line of its fold is asserted (R374). -/
def Chip.readLines (c : Chip) (lines : Nat) : Chip :=
  let c := allFolds.foldl (fun (c : Chip) f =>
    let c := c.setFlag TWIN_FOLD_STAT_partner_line (bit lines f) f
    if bit lines f then c.set TWIN_FOLD_STAT_gate_open 0 f else c) c
  c.showCrook (c.foldMask TWIN_FOLD_STAT_own_line)

/-- Release every line, and give up what claims and moves run (R376, R383). -/
def Chip.releaseLines (c : Chip) : Chip :=
  let c := allFolds.foldl (fun (c : Chip) f => (c.driveLine f false).set TWIN_FOLD_STAT_phase 0 f) c
  { c with twin := { c.twin with claims := [], reserved := [] } }

/-! ### Mirroring and pair states (R204, R382 to R384, R388, R392) -/

/-- The chip becomes solo for its mirror: records that the partner has not acknowledged are no longer waited for, their deltas are kept for the next pairing. -/
def Chip.goSolo (c : Chip) : Chip :=
  if !c.mirroring then c
  else
    let deltas := c.mirror.unacked.filterMap (fun (x : Nat × MirRec) => match x.2 with
      | .delta fold paddock volume adm dseq d => some (⟨fold, paddock, volume, adm, dseq, d⟩ : DeltaRec)
      | _ => none)
    let c := { c with mirror := { c.mirror with missed := c.mirror.missed ++ deltas, unacked := [], resyncing := false } }
    ((((c.set CACHE_STATUS_solo 1).raise 0x306).set TWIN_RESYNC_state 0).set TWIN_RESYNC_remaining 0).judgeCkpt

/-- End a command that this chip forwarded: its units are free, it completes to its host, or the Flush of all namespaces that it is a part of hears of it (R32, R173, R386). -/
def Chip.endForward (c : Chip) (t code dw0 : Nat) : Chip :=
  match c.intake.forwards.get? t with
  | none => c
  | some k =>
    let c := { c with intake := { c.intake with forwards := c.intake.forwards.del t } }
    let part := c.intake.cmds.any (fun e => e.2.multi.any (fun m => m.1 = fwdMark t))
    if part then
      { c with intake := { c.intake with cmds := c.intake.cmds.mapVals (fun _ (x : HostCmd) =>
        if x.multi.any (fun m => m.1 = fwdMark t) && code ≠ 0 then { x with bad := code } else x) } }
    else if k.silent && !k.io then c
    else
      let c := (c.freeCmdUnits k).meterEnd k code
      let c := if code = 0 then c else c.logError k code
      c.complete k code dw0 (k.got.vals.map (·.data)) false

/-- Has a forwarded command all its data (R32): a read that succeeds completes once as many bytes are here as it asks for? -/
def Chip.placedWhole (c : Chip) (k : HostCmd) (code : Nat) : Bool :=
  let pi := (k.volume.bind (fun v => c.vols.get? v)).any (fun v => v.lbaf = 1) && !bit k.sqe.cdw12 29
  code ≠ 0 || !k.io || k.sqe.opc ≠ 0x02 || decide (k.count * (if pi then 4112 else 4096) ≤ (k.got.vals.map (fun b => b.data.length)).sum)

/-- Every command forwarded and not seen complete ends with Internal Path Error (R388). -/
def Chip.failForwards (c : Chip) : Chip := c.intake.forwards.keys.foldl (fun (c : Chip) t => c.endForward t stPathError 0) c

/-- Commands that wait here for a fold that the partner has come to own are forwarded (R386, R394). -/
def Chip.forwardWaiting (c : Chip) : Chip :=
  let go := c.intake.cmds.keep (fun _ k => k.io && k.st = .queued && k.volume.isSome && c.forwardsFold k.fold)
  go.foldl (fun (c : Chip) (e : Nat × HostCmd) =>
    (({ c with intake := { c.intake with cmds := c.intake.cmds.del e.1 } } : Chip).forwardCmd e.2)) c

/-- Commands of a fold that wait here. -/
def Chip.foldWaiting (c : Chip) (f : Nat) : Nat := (c.intake.cmds.keep (fun _ k => k.io && k.st = .queued && k.volume.isSome && k.fold = f)).length

/-! ### Whistles sent (R377, R378) -/

def Chip.draining (c : Chip) : Bool := allFolds.any (fun f => c.get TWIN_FOLD_STAT_phase f = 3)

/-- A whistle on both paths. -/
def Chip.whistle (c : Chip) (leaving : Bool) : Chip :=
  let n := (c.twin.seq + 1) % 2 ^ 32
  let flags := b2n (c.flag CACHE_STATUS_solo) + 2 * b2n c.draining + 4 * b2n leaving + 8 * b2n (c.twin.withdrawn)
  let body := le 2 0x5357 ++ le 1 c.me ++ le 1 flags ++ le 4 n ++ le 8 c.now ++ le 1 (c.foldMask TWIN_FOLD_STAT_gate_open) ++ le 1 (c.foldMask TWIN_FOLD_CFG_bellwether) ++
    le 2 c.start.proto ++ le 2 (if c.id.half then 0x1816 else 0x3432) ++ le 2 0 ++ le 4 c.mirror.rxNext
  let c := { c with twin := { c.twin with seq := n } }
  (c.send (.whistle (body ++ le 4 (crc32c body)))).cntTwin 0

/-- WHISTLE_SEND: every 1 ms, while the generator runs. -/
def whistleSend (c : Chip) : Chip := if c.flag TWIN_WHISTLE_STAT_gen_running then c.whistle false else c

/-- TWIN_KICK_WRITE (R377): the kick window starts again. With both switch planes off firmware kicks no more (R35). -/
def twinKickWrite (kick : Nat) (c : Chip) : Chip :=
  if bit kick 0 && c.get SWX_CTL_plane_en ≠ 0 then c.set TWIN_WHISTLE_STAT_gen_running 1 else c

/-- KICK_WINDOW_EXPIRY: no kick within kick_to_ms. -/
def kickWindowExpiry (c : Chip) : Chip := c.set TWIN_WHISTLE_STAT_gen_running 0

/-- DEADMAN_EXPIRY (R376, R391): AON releases every line and the chip withdraws: ports down, its queue pairs' commands of unknown outcome. A tripped chip owes the event to its next start. -/
def deadmanExpiry (c : Chip) : Chip :=
  let c := ((c.releaseLines).set TWIN_STATUS_deadman_fired 1).cntTwin 11
  let c := { c with twin := { c.twin with moves := [], withdrawn := true } }
  if c.gov.tripped then { c with evt := { c.evt with atStart := addNew 0x692 c.evt.atStart } }
  else
    let c := (List.range 32).foldl (fun (c : Chip) s => subportLinkChange s false none c) (c.raise 0x692)
    let c := c.conns.keys.foldl (fun (c : Chip) i => c.loseQueue i) c
    { c with intake := { c.intake with cmds := c.intake.cmds.mapVals (fun _ (k : HostCmd) => if k.fwd.isSome then { k with silent := true } else k) } }

/-! ### Claims (R373, R385) -/

/-- Assert this chip's line of a fold whose partner line reads deasserted: 10 µs later CROOK_CLAIM_SETTLE reads again. `why` is 0 start, 1 takeover, 2 handover. -/
def Chip.claim (c : Chip) (f why : Nat) : Chip :=
  if c.flag TWIN_FOLD_STAT_partner_line f || c.twin.withdrawn then c
  else (({ c with twin := { c.twin with claims := c.twin.claims.put f why } } : Chip).driveLine f true).set TWIN_FOLD_STAT_phase 1 f

/-- The claims of R385: each fold whose bellwether is this chip, with `all` the partner's too; held by the chip-pair fuse until the chip has paired or TWIN_SOLO_START is given. -/
def Chip.claimStart (c : Chip) (all : Bool) : Chip :=
  if !c.flag TWIN_CTL_en || c.twin.withdrawn || c.start.misfit || (c.get TWIN_STATUS_pair_state = 4 && c.get TWIN_STATUS_refuse_reason = 3) then c
  else if c.flag TWIN_STATUS_pair_fuse && !c.twin.everPaired && !c.twin.soloGo then
    if c.twin.fuseHold then c else ({ c with twin := { c.twin with fuseHold := true } } : Chip).raise 0x699
  else
    allFolds.foldl (fun (c : Chip) f =>
      if (all || c.get TWIN_FOLD_CFG_bellwether f = c.me) && !c.flag TWIN_FOLD_STAT_own_line f && !c.flag TWIN_FOLD_STAT_partner_line f && c.get TWIN_FOLD_STAT_phase f = 0 then
        (c.claim f 0).raise 0x687 else c) c

/-- START_WAIT_EXPIRY: start_wait_s without a whistle. Folds of the partner whose line reads deasserted are claimed, and the chip runs solo. -/
def startWaitExpiry (lines : Nat) (c : Chip) : Chip :=
  let c := c.readLines lines
  let state := c.get TWIN_STATUS_pair_state
  if !c.flag TWIN_CTL_en || state = 1 || state = 3 || !c.suspect || c.twin.withdrawn then c
  else
    let c := if state = 0 then c.set TWIN_STATUS_pair_state 2 else c
    ({ c with twin := { c.twin with waited := true } } : Chip).claimStart (c.flag TWIN_CTL_claim_absent)

/-- TWIN_SOLO_START (0x0904): releases the claims that the chip-pair fuse holds. -/
def twinSoloStart (h : Hdr) : Chip → Chip :=
  runCommand ⟨0x0904, false, .w, 0⟩ h [] (fun c =>
    if !c.twin.fuseHold then Res.no c 0x0300 (c.get TWIN_STATUS_pair_state)
    else
      let c := { c with twin := { c.twin with soloGo := true, fuseHold := false } }
      Res.ok (c.claimStart (c.twin.waited && c.flag TWIN_CTL_claim_absent)))

/-! ### Sequence numbers and lines of a fold that changes owner (R168, R193, R265) -/

/-- The highest admission number of a volume in any copy held here: line versions, map deltas, epoch-advance records. -/
def Chip.seqTop (c : Chip) (v : Nat) (r : Volume) : Nat :=
  let lines := (c.lines.filter (fun e => e.2.2.volume = v)).map (fun e => e.2.2.seq)
  let waiting := (c.cache.waiting.filter (fun l => l.volume = v)).map (·.seq)
  let deltas := ((c.map.recent ++ c.mirror.missed).filter (fun d => d.volume = v)).map (·.admSeq)
  maxOr 0 ([c.map.logTop.getD v 0] ++ lines ++ waiting ++ deltas ++ r.epochs.map (·.2))

/-- The ordering stage of a volume resumes. -/
def Chip.resumeSeq (c : Chip) (v : Nat) : Chip :=
  match c.vols.get? v with
  | some r => { c with vols := c.vols.put v { r with nextSeq := (let t := c.seqTop v r; if t = 0 then 2 ^ 24 + 1 else t + 2 ^ 24) } }
  | none => c

/-- Resume every volume of a fold: event 0x290. -/
def Chip.resumeFold (c : Chip) (f : Nat) : Chip :=
  ((c.vols.filter (fun v => v.2.fold = f)).foldl (fun (c : Chip) v => c.resumeSeq v.1) c).raise 0x290

/-- Lines of a fold change state: Mirror to Dirty at the new owner, Dirty to Mirror at the old one. -/
def Chip.turnLines (c : Chip) (f : Nat) (toDirty : Bool) : Chip :=
  let mine := c.lines.filter (fun e => e.2.2.fold = f && (if toDirty then e.2.2.st = .mirror else e.2.2.st = .dirty))
  (mine.foldl (fun (c : Chip) e => c.setLine e.1 e.2.1 (fun l => { l with st := if toDirty then .dirty else .mirror, bornNs := c.clk })) c).showLines

/-- Resume the partner's fences of a fold as new operations with new handles (R265): one for each of its operations, extended to further folds as they are taken. -/
def Chip.resumeFences (c : Chip) (f : Nat) : Chip :=
  (c.mirror.journal.keep (fun _ e => e.kind = 5 && e.isOpen && bit (e.args.getD 2 0) f)).foldl (fun (c : Chip) (x : Nat × JEntry) =>
    let e := x.2
    let at_ := fun (i : Nat) => e.args.getD i 0
    let left := setBit (at_ 2) f false
    let keep := fun (c : Chip) (op : Nat) =>
      { c with mirror := { c.mirror with journal := c.mirror.journal.put x.1 { e with args := e.args.set 2 left ++ (if e.args.length ≤ 12 then [op] else []) } } }
    match c.flock? e.flock with
    | none => c
    | some _ =>
      if 12 < e.args.length then (keep c 0).updBg (at_ 12) (fun o => { o with folds := setBit o.folds f true })
      else
        let n := c.stripes.bgId
        match c.loStart c.selfHdr (bgOpcode (at_ 0)) (at_ 7) [e.flock, at_ 9, at_ 8] with
        | none => c.raise 0x730
        | some (c, i, _) =>
          let c := c.addBg { bg0 with kind := at_ 0, flock := e.flock, member := at_ 9, slot := i, step := at_ 1, pos := at_ 3, mode := at_ 8, queued := exclusive (at_ 0) }
          let c := c.updBg n (fun o => { o with folds := 2 ^ f })
          (keep ((c.loProgress i (at_ 5) (at_ 6)).fence n) n).raise 0x404) c

/-- A detach in a fold that this chip no longer serves begins again should the fold come back; its barrier is gone, for another chip orders the clone's commands now (R150, R275). -/
def Chip.resetDetach (c : Chip) (f : Nat) : Chip :=
  let mine := c.stripes.bg.keep (fun _ o => o.kind = 6 && ((c.vols.get? o.volume).any (fun v => v.fold = f)))
  mine.foldl (fun (c : Chip) (x : Nat × BgOp) =>
    ({ c with vols := c.vols.upd x.2.volume (fun v => { v with marks := v.marks.filter (fun m => m.what ≠ MarkWhat.detach) }) } : Chip).updBg x.1 (fun o => { o with step := 1, pos := 0, todo := [] })) c

/-- This chip hands a fold over or ends a drain: its background operations no longer cover the fold; one without a fold ends in state 7. -/
def Chip.dropFold (c : Chip) (f : Nat) : Chip :=
  (c.stripes.bg.keep (fun _ o => bit o.folds f && decide (o.kind ≤ 4))).foldl (fun (c : Chip) (x : Nat × BgOp) =>
    let c := (c.updBg x.1 (fun o => { o with folds := setBit o.folds f false }))
    if setBit x.2.folds f false = 0 then (c.dropBg x.1).loEnd x.2.slot 7 0 else c.fence x.1) (c.resetDetach f)

/-! ### Takeover and handover: the gate opens (R374, R390, R394) -/

/-- A move of a fold has ended: the long operation of the chip that accepted it ends. -/
def Chip.endMove (c : Chip) (f state failure : Nat) : Chip :=
  let slot := (c.twin.moves.get? f).bind (·.2)
  let c := { c with twin := { c.twin with moves := c.twin.moves.del f } }
  match slot with
  | some i => (if state = 4 then c.loProgress i 1 0 else c).loEnd i state failure
  | none => c

/-- The next fold to be handed over, in ascending order, one at a time (R393): its owner drains it, its taker waits. -/
def Chip.nextMoves : Nat → Chip → Chip
  | 0, c => c
  | fuel + 1, c =>
    if allFolds.any (fun f => [3, 4].contains (c.get TWIN_FOLD_STAT_phase f)) then c
    else match c.twin.moves with
      | [] => c
      | (f, dest, _) :: _ =>
        if dest = c.me then
          (if c.flag TWIN_FOLD_STAT_gate_open f then Chip.nextMoves fuel (c.endMove f 4 0) else (c.set TWIN_FOLD_STAT_phase 4 f).openExchange)
        else if c.flag TWIN_FOLD_STAT_gate_open f && c.get TWIN_FOLD_STAT_phase f = 0 then ((c.set TWIN_FOLD_STAT_phase 3 f).raise 0x68E).openExchange
        else Chip.nextMoves fuel (c.endMove f 6 0x0300)

def Chip.nextMove (c : Chip) : Chip := c.nextMoves 8

/-- Present members, on which a takeover acquires the reservation (R248, R390). -/
def Chip.presentSlots (c : Chip) : List Nat := (c.slotList.filter (fun s => !isVault s && c.flag DRV_NVME_STAT_ready s && (c.memberOf s).isSome))

/-- Open entries of this chip's own journal in a fold that it claims after its flocks' members came up are replayed now (R243). -/
def Chip.replayFold (c : Chip) (f : Nat) : Chip :=
  (c.stripes.entries.keep (fun _ e => decide (e.kind ≤ 4) && e.isOpen && e.fold = f && (c.flock? e.flock).any (·.replayed))).foldl (fun (c : Chip) x => c.replayEntry x.1) c

/-- Entries that a detach of the former owner left under a lineage that no record has taken are removed (R150, R275). -/
def Chip.dropStrays (c : Chip) (f : Nat) : Chip :=
  let mine := c.vols.filter (fun v => v.2.fold = f && v.2.lineage ≠ v.1)
  (c.allEntries.filter (fun e => mine.any (fun v => v.1 = e.lineage))).foldl (fun (c : Chip) e => c.mapRemove e f (c.entryPaddock e) 0 0) c

/-- A gate that has just opened: what its claim was for follows. -/
def Chip.gateOpened (c : Chip) (f why : Nat) : Chip :=
  let c := (((((c.bump TWIN_FOLD_STAT_moves 1 f).turnLines f true).resumeFold f).resumeFences f).replayFold f).dropStrays f
  if why = 1 then
    let c := c.set TWIN_FOLD_STAT_phase 2 f
    c.presentSlots.foldl (fun (c : Chip) s => c.adminSend s 4 f) c
  else
    let c := (c.set TWIN_FOLD_STAT_phase 0 f).anaChange f
    if why = 2 then
      let c := (({ c with twin := { c.twin with theirs := setBit c.twin.theirs f false } } : Chip).raise 0x68F).cntTwin 5
      ((c.cntTwin 9 (c.foldWaiting f)).endMove f 4 0).nextMove
    else c

/-- CROOK_CLAIM_SETTLE (R373, R374): 10 µs after asserting, both lines are read again; the gate opens when the partner's is deasserted. -/
def crookClaimSettle (fold lines : Nat) (c : Chip) : Chip :=
  let c := c.readLines lines
  if 8 ≤ fold || !c.flag TWIN_FOLD_STAT_own_line fold || c.flag TWIN_FOLD_STAT_partner_line fold || c.flag TWIN_FOLD_STAT_gate_open fold then c
  else
    let c := c.set TWIN_FOLD_STAT_gate_open 1 fold
    match c.twin.claims.get? fold with
    | some why => ({ c with twin := { c.twin with claims := c.twin.claims.del fold } } : Chip).gateOpened fold why
    | none => c

/-- The giver sees the taker's line: the handover is done (R394). -/
def Chip.givenUp (c : Chip) (f : Nat) : Chip :=
  let c := ((c.turnLines f false).dropFold f).bump TWIN_FOLD_STAT_moves 1 f
  let c := ((c.set TWIN_FOLD_STAT_phase 0 f).anaChange f).raise 0x68F
  (((c.cntTwin 5).cntTwin 9 (c.foldWaiting f)).endMove f 4 0).nextMove

/-- CROOK_COMPARE (R375): of two asserted lines the chip that is not the bellwether releases its own. -/
def crookCompare (lines : Nat) (c : Chip) : Chip :=
  let c := c.readLines lines
  allFolds.foldl (fun (c : Chip) f =>
    let both := c.flag TWIN_FOLD_STAT_own_line f && c.flag TWIN_FOLD_STAT_partner_line f
    if both && c.get TWIN_FOLD_CFG_bellwether f ≠ c.me then
      let c := ({ c with twin := { c.twin with claims := c.twin.claims.del f } } : Chip).driveLine f false
      ((c.set TWIN_FOLD_STAT_phase 0 f).cntTwin 10).raise 0x691
    else if c.get TWIN_FOLD_STAT_phase f = 4 && c.flag TWIN_FOLD_STAT_partner_line f && !c.flag TWIN_FOLD_STAT_own_line f && (c.twin.moves.get? f).any (fun m => m.1 ≠ c.me) then c.givenUp f
    else c) c

/-- CROOK_LOOPBACK_CHECK (R396): the levels read back on this chip's own lines. -/
def crookLoopbackCheck (own : Nat) (c : Chip) : Chip :=
  let bad := own % 256 ^^^ c.foldMask TWIN_FOLD_STAT_own_line
  let c := c.showCrook (own % 256)
  if bad = 0 then c
  else
    let c := (c.set TWIN_CROOK_loop_err (c.get TWIN_CROOK_loop_err ||| bad)).raise 0x693
    { c with twin := { c.twin with faults := setBit c.twin.faults 4 true } }

/-- CROOK_LOOP_ERR_CLEAR: a 1 clears a fold's mismatch bit. -/
def crookLoopErrClear (mask : Nat) (c : Chip) : Chip :=
  c.set TWIN_CROOK_loop_err (c.get TWIN_CROOK_loop_err &&& ((mask % 256) ^^^ 255))

/-! ### Declaration and takeover (R380, R388, R390, R395) -/

/-- Moves that run end with the partner: a giver that drains keeps its fold; one that has released its line, and a taker, go on to the takeover. -/
def Chip.abortMoves (c : Chip) : Chip :=
  let c := allFolds.foldl (fun (c : Chip) f => if [3, 4].contains (c.get TWIN_FOLD_STAT_phase f) then c.set TWIN_FOLD_STAT_phase 0 f else c) c
  c.twin.moves.keys.foldl (fun (c : Chip) f => c.endMove f 6 0x0500) c

/-- The partner is declared failed: step 1 of the takeover, and the claims of step 2. -/
def Chip.declareFailed (c : Chip) : Chip :=
  let c := (c.raiseIf (c.get TWIN_STATUS_pair_state = 3) 0x68B).raise 0x684
  let c := (((c.set TWIN_STATUS_pair_state 2).abortMoves).goSolo).failForwards
  let c := c.set TWIN_RESYNC_state 0
  let taken := allFolds.filter (fun f => !c.flag TWIN_FOLD_STAT_partner_line f && !c.flag TWIN_FOLD_STAT_gate_open f)
  let c := c.raiseIf (taken ≠ []) 0x685
  let c := (c.tallyFlag 4).raise 0x795
  taken.foldl (fun (c : Chip) f => c.claim f 1) c

def Chip.missLimit (c : Chip) : Nat := max 5 (c.get TWIN_WHISTLE_CFG_miss_limit)

/-- PARTNER_DECLARED_FAILED (R380): for 10 µs both paths are lost and every line of the partner reads deasserted; or its last whistle said that it leaves and owns no fold. Only a partner
with which this chip has paired is declared failed. -/
def partnerDeclaredFailed (lines : Nat) (c : Chip) : Chip :=
  let c := c.readLines lines
  let was := [1, 3].contains (c.get TWIN_STATUS_pair_state)
  let lost := decide (c.missLimit ≤ c.get TWIN_WHISTLE_STAT_miss_link) && decide (c.missLimit ≤ c.get TWIN_WHISTLE_STAT_miss_wire)
  if was && !c.twin.withdrawn && ((lost && c.foldMask TWIN_FOLD_STAT_partner_line = 0) || (c.twin.leaving && c.twin.theirs = 0)) then c.declareFailed else c

/-- TAKEOVER_RESERVATION_DONE (R248, R390 steps 4 and 5): Preempt and Abort has ended on every present member, on `failed` with an error twice. The partner's open entries of the folds
become this chip's and are replayed. -/
def takeoverReservationDone (failed : List Nat) (c : Chip) : Chip :=
  let folds := allFolds.filter (fun f => c.get TWIN_FOLD_STAT_phase f = 2 && !c.twin.reserved.contains f)
  if folds = [] then c
  else
    let c := c.presentSlots.foldl (fun (c : Chip) s =>
      if failed.contains s then (c.driveFails s).raise 0x698 else c.set DRV_NVME_STAT_rsv_held 1 s) c
    let c := { c with twin := { c.twin with reserved := c.twin.reserved ++ folds } }
    let theirs := c.mirror.journal.keep (fun _ e => decide (e.kind ≤ 4) && e.isOpen && folds.contains e.fold)
    theirs.foldl (fun (c : Chip) (x : Nat × JEntry) =>
      let c := { c with mirror := { c.mirror with journal := c.mirror.journal.del x.1 },
                        stripes := { c.stripes with annexUsed := if x.2.annex then c.stripes.annexUsed + x.2.blocks else c.stripes.annexUsed } }
      let r := c.addEntry { x.2 with versions := [], replayed := true }
      r.2.replayEntry r.1) c

/-- TAKEOVER_REPLAY_DONE (R390 step 6): the entries of the fold are replayed; it is served. -/
def takeoverReplayDone (fold : Nat) (c : Chip) : Chip :=
  let open_ := c.stripes.entries.any (fun e => e.2.replayed && e.2.isOpen && e.2.fold = fold)
  if 8 ≤ fold || c.get TWIN_FOLD_STAT_phase fold ≠ 2 || !c.twin.reserved.contains fold || open_ then c
  else
    let c := { c with twin := { c.twin with reserved := c.twin.reserved.erase fold } }
    (((c.set TWIN_FOLD_STAT_phase 0 fold).anaChange fold).raise 0x686).cntTwin 4

/-! ### Pairing, refusal, split (R382 to R384, R392) -/

/-- The pair runs as a split pair. -/
def Chip.splitNow (c : Chip) : Chip := (((c.raise 0x68A).abortMoves).goSolo)

/-- Pairing is refused: reason 1 grade, 2 major version, 3 the same chip. -/
def Chip.refusePair (c : Chip) (reason : Nat) : Chip :=
  if c.get TWIN_STATUS_pair_state = 4 && c.get TWIN_STATUS_refuse_reason = reason then c
  else
    let was := [3, 4].contains (c.get TWIN_STATUS_pair_state)
    let c := ((((c.raise 0x689).cntTwin 15).set TWIN_STATUS_refuse_reason reason).set TWIN_STATUS_pair_state 4)
    let c := if was then c.goSolo else c.splitNow
    if reason = 3 then c.releaseLines else c

/-- Whole numbers of deltas that the delta log of 64 MiB holds. -/
def deltaLogSize : Nat := 1048576

/-- The whole map of the folds owned: acre records, entries, length filters and region masks. -/
def Chip.sendMap (c : Chip) : Chip :=
  let put := fun (fold paddock : Nat) (d : Delta) (c : Chip) => (c.mirrorPush (.delta fold paddock 0 0 c.map.dseq d)).2
  let c := c.stripes.flocks.foldl (fun (c : Chip) f => f.2.acres.foldl (fun (c : Chip) a =>
    if c.flag TWIN_FOLD_STAT_gate_open a.2.fold then put a.2.fold a.2.paddock (.acre f.1 a.1 a.2.paddock a.2.lowGen a.2.highGen) c else c) c) c
  let c := (c.allEntries.filter c.ownsEntry).foldl (fun (c : Chip) e => put ((c.entryFold e).getD 0) (c.entryPaddock e) (.insert e) c) c
  let vs := c.vols.vals.filter (fun v => c.flag TWIN_FOLD_STAT_gate_open v.fold)
  let c := vs.foldl (fun (c : Chip) v => put v.fold v.paddock (.bits v.lineage v.member none true v.filter) c) c
  (c.map.regions.vals.filter (fun r => vs.any (fun v => v.lineage = r.1))).foldl (fun (c : Chip) r =>
    put (((vs.find? (fun v => v.lineage = r.1)).map (·.fold)).getD 0) 0 (.bits r.1 0xFF (some r.2.1) true r.2.2) c) c

/-- What the partner lacks is sent (R392): lines of Dirty versions and open entries of the folds owned, map deltas since the last that both held, or the whole map. -/
def Chip.sendResync (c : Chip) : Chip :=
  let mine := (c.lines.filter (fun e => isDirty e.2.2 && e.2.2.newer = 0 && c.flag TWIN_FOLD_STAT_gate_open e.2.2.fold)).map (fun e => e.2.2)
  let c := mine.foldl (fun (c : Chip) l => (c.mirrorPush (.line l)).2) c
  let c := (c.stripes.entries.keep (fun _ e => e.isOpen)).foldl (fun (c : Chip) (x : Nat × JEntry) =>
    let r := c.mirrorPush (.journal x.1 x.2)
    { r.2 with stripes := { r.2.stripes with entries := r.2.stripes.entries.upd x.1 (fun e => { e with mseq := r.1 }) } }) c
  let missed := c.mirror.missed
  let c := { c with mirror := { c.mirror with missed := [] } }
  if missed.length ≤ deltaLogSize then missed.foldl (fun (c : Chip) d => (c.mirrorPush (.delta d.fold d.paddock d.volume d.admSeq d.dseq d.change)).2) c
  else c.sendMap

/-- The chips pair: the partner has started, or has come back, so that an exchange window opens (R155). The mirror of either direction starts again at 1, the resync begins, shared records and commands that waited for the partner are sent. -/
def Chip.pairUp (c : Chip) (theirs : Nat) : Chip :=
  let c := c.raiseIf ([3, 4].contains (c.get TWIN_STATUS_pair_state)) 0x68B
  let c := c.raiseIf (theirs % 256 ≠ c.start.proto % 256) 0x697
  let c := ((c.set TWIN_STATUS_pair_state 1).set TWIN_STATUS_refuse_reason 0).set TWIN_STATUS_proto_run (min theirs c.start.proto)
  let c := ((c.raise 0x688).cntTwin 14).openExchange
  let c := (c.lines.filter (fun e => e.2.2.st = .mirror)).foldl (fun (c : Chip) e => c.putWay e.1 e.2.1 none) c
  let c := { c with
    mirror := { c.mirror with nextSeq := 1, unacked := [], heldSeq := 1, rxNext := 1, rxWait := [], journal := [], ackDue := false, resyncing := true },
    twin := { c.twin with everPaired := true } }
  let c := ((c.raiseIf (c.flag CACHE_STATUS_solo) 0x307).set CACHE_STATUS_solo 0).raise 0x68C
  let c := c.sendResync
  let c := { c with mirror := { c.mirror with resyncTo := c.mirror.nextSeq } }
  let c := (c.set TWIN_RESYNC_state 1).set TWIN_RESYNC_remaining (min (c.mirror.nextSeq - 1) 0xFFFFFFFF)
  let groups := c.stripes.flocks.flatMap (fun f => f.2.groups.map (fun g => (f.1, g.1, g.2)))
  let c := c.send (.shared c.vols c.hosts c.grants (c.stripes.flocks.map (fun f => (f.1, f.2.labelBytes f.1 0 ++ f.2.table))) groups (c.cipher.pads.map (fun p => (p.1, p.2.keyId, p.2.gLo, p.2.gCur))))
  let c := c.mgmt.carried.foldl (fun (c : Chip) x => c.send (.partnerCommand x)) c
  let c := { c with mgmt := { c.mgmt with carried := [] } }
  let c := c.send (.capExchange (c.get GOV_CAP_shelf_cap_w) c.sharePct)
  let c := c.send (.genCounts (c.cipher.pads.flatMap (fun e => e.2.counts.map (fun x => (e.1, x.1, x.2)))) (c.get CIPH_KEK_ID_kek_id))
  let c := (c.slotList.filter (fun s => !isVault s && c.flag DRV_NVME_STAT_ready s && !c.flag DRV_NVME_STAT_rsv_held s)).foldl (fun (c : Chip) s => c.adminSend s 1 1) c
  let c := (c.judgeCkpt).showLines
  if c.twin.fuseHold then ({ c with twin := { c.twin with fuseHold := false } } : Chip).claimStart false else c

/-- What a whistle says of pairing: 0 the chips may pair, else the reason of refusal; the chip identifier is judged first, then the grade, then the version. -/
def Chip.pairReason (c : Chip) (chip grade proto : Nat) : Nat :=
  if chip = c.me then 3 else if grade ≠ (if c.id.half then 0x1816 else 0x3432) then 1 else if proto / 256 ≠ c.start.proto / 256 then 2 else 0

/-- WHISTLE_RX (R378 to R380, R382 to R384): a whistle's 32 bytes on a path, 0 the partner link, 1 the whistle link. -/
def whistleRx (path : Nat) (raw : Bytes) (c : Chip) : Chip :=
  let at_ := fun (o n : Nat) => unle ((raw.drop o).take n)
  let seq := at_ 4 4
  let later := match c.twin.seen.get? path with
    | some s => decide (0 < ahead 32 seq s) && decide (ahead 32 seq s < 2 ^ 31)
    | none => true
  if 2 ≤ path || raw.length ≠ 32 || at_ 0 2 ≠ 0x5357 || at_ 28 4 ≠ crc32c (raw.take 28) || !later || c.twin.withdrawn then c
  else
    let miss := if path = 0 then TWIN_WHISTLE_STAT_miss_link else TWIN_WHISTLE_STAT_miss_wire
    let c := c.raiseIf (decide (c.missLimit ≤ c.get miss)) 0x682
    let c := ((c.set miss 0).set (if path = 0 then TWIN_WHISTLE_STAT_link_ok else TWIN_WHISTLE_STAT_wire_ok) 1).set TWIN_WHISTLE_STAT_last_seq seq
    let leaving := bit (at_ 3 1) 2
    let c := { c with twin := { c.twin with seen := c.twin.seen.put path seq, leaving := leaving, theirs := at_ 16 1 } }
    let c := (c.cntTwin (1 + path)).set TWIN_STATUS_partner_proto (at_ 18 2)
    let state := c.get TWIN_STATUS_pair_state
    if !c.flag TWIN_CTL_en then c
    else if leaving then (if at_ 16 1 = 0 && [1, 3].contains state then c.declareFailed else c)
    else
      let reason := c.pairReason (at_ 2 1) (at_ 20 2) (at_ 18 2)
      if reason ≠ 0 then c.refusePair reason
      else if state = 1 || (state = 3 && path ≠ 0) then c
      else c.pairUp (at_ 18 2)

/-- WHISTLE_MISS_INTERVAL (R379, R380): 1.1 ms without an accepted whistle on a path. -/
def whistleMissInterval (path : Nat) (c : Chip) : Chip :=
  if 2 ≤ path then c
  else
    let miss := if path = 0 then TWIN_WHISTLE_STAT_miss_link else TWIN_WHISTLE_STAT_miss_wire
    let other := if path = 0 then TWIN_WHISTLE_STAT_miss_wire else TWIN_WHISTLE_STAT_miss_link
    let was := c.get miss
    let c := c.bump miss
    if was + 1 ≠ c.missLimit then c
    else
      let c := ((c.set (if path = 0 then TWIN_WHISTLE_STAT_link_ok else TWIN_WHISTLE_STAT_wire_ok) 0).raise (0x680 + path)).cntTwin 3
      let c := { c with twin := { c.twin with seen := c.twin.seen.del path } }
      c.raiseIf (decide (c.missLimit ≤ c.get other) && [1, 3].contains (c.get TWIN_STATUS_pair_state) && c.foldMask TWIN_FOLD_STAT_partner_line ≠ 0) 0x683

/-- SPLIT_TIMEOUT (R384): the partner link has been down for split_ms. -/
def splitTimeout (c : Chip) : Chip :=
  if c.get TWIN_STATUS_pair_state = 1 && (c.get TWIN_PLINK_width = 0 || !c.flag TWIN_WHISTLE_STAT_link_ok) then (c.set TWIN_STATUS_pair_state 3).splitNow else c

/-- PARTNER_LINK_CHANGE (R384, R400): the lanes that are up. A half with a lane disabled by rule (R445) is not used. A link that returns ends a split; the chips pair at the next whistle. -/
def partnerLinkChange (lanes : Nat) (c : Chip) : Chip :=
  let full := if c.id.half then 8 else 16
  let off := c.flash.rules.partOff
  let lanes := if off = 0 then lanes else if off % 256 = 0 then lanes % 256 else if off / 256 = 0 then lanes / 256 * 256 else 0
  let n := popCount lanes 16
  let width := if full ≤ n then full else if 8 ≤ n then 8 else 0
  let was := c.get TWIN_PLINK_width
  let c := (c.set TWIN_PLINK_lanes_up lanes).set TWIN_PLINK_width width
  let c := c.raiseIf (decide (0 < width) && decide (width < full)) 0x696
  if was = 0 && 0 < width && c.get TWIN_STATUS_pair_state = 3 then (c.set TWIN_STATUS_pair_state 0).raise 0x68B else c

/-- RESYNC_DONE (R392): every record of the resync is held; held_mseq counts again. -/
def resyncDone (c : Chip) : Chip :=
  if !c.mirror.resyncing || c.mirror.unacked.any (fun x => decide (x.1 < c.mirror.resyncTo)) then c
  else
    let held := minOr c.mirror.nextSeq (c.mirror.unacked.map (·.1))
    let c := { c with mirror := { c.mirror with resyncing := false, heldSeq := held } }
    ((c.set TWIN_RESYNC_state 2).set TWIN_RESYNC_remaining 0).raise 0x68D

/-! ### Handover (R393 to R395) -/

/-- Is a fold owned by a chip, as far as this chip sees? -/
def Chip.ownedBy (c : Chip) (f chip : Nat) : Bool :=
  if chip = c.me then c.flag TWIN_FOLD_STAT_gate_open f else !c.flag TWIN_FOLD_STAT_gate_open f && c.flag TWIN_FOLD_STAT_partner_line f

/-- Note a move and begin it when no other runs. -/
def Chip.addMove (c : Chip) (f chip : Nat) (slot : Option Nat) : Chip :=
  ({ c with twin := { c.twin with moves := c.twin.moves.put f (chip, slot) } } : Chip).nextMove

/-- FOLD_MOVE (0x0902): a handover, in either direction (R393, R395). -/
def foldMove (h : Hdr) (fold chip : Nat) : Chip → Chip :=
  runCommand ⟨0x0902, true, .l, paramBytes [1, 1]⟩ h [] (fun c =>
    let state := c.get TWIN_STATUS_pair_state
    Res.guard c [refuseIf (decide (8 ≤ fold)) 0x0102 32, refuseIf (decide (2 ≤ chip)) 0x0102 33]
      (fun c =>
        if c.ownedBy fold chip && !c.twin.moves.has fold then Res.ok c
        else Res.guard c [refuseIf (state = 3 || state = 4) 0x0205, refuseIf (state ≠ 1 || c.get TWIN_RESYNC_state ≠ 2) 0x0300 state,
            refuseIf (c.twin.moves.has fold || c.get TWIN_FOLD_STAT_phase fold ≠ 0) 0x0205]
          (fun c =>
            if h.src = .partner then Res.ok (c.addMove fold chip none)
            else
              let c := if h.localOnly then c else c.send (.partnerCommand (.foldMove fold chip))
              if 2 < h.partner && !h.localOnly then Res.no c 0x0501 h.partner
              else longAccept c h 0x0902 1 [fold, chip] (fun i c => c.addMove fold chip (some i)))))

/-- FAILBACK_TIMER (R393): the conditions have held for failback_s; the bellwether asks for its folds. -/
def failbackTimer (c : Chip) : Chip :=
  let held := c.presentSlots.all (fun s => c.flag DRV_NVME_STAT_rsv_held s)
  if !c.flag TWIN_CTL_auto_failback || c.get TWIN_STATUS_pair_state ≠ 1 || c.get TWIN_RESYNC_state ≠ 2 || !held || c.twin.myMask ≠ 0 then c
  else
    let fs := allFolds.filter (fun f => c.get TWIN_FOLD_CFG_bellwether f = c.me && !c.flag TWIN_FOLD_CFG_hold f && c.ownedBy f (1 - c.me) && !c.twin.moves.has f)
    fs.foldl (fun (c : Chip) f => (c.send (.partnerCommand (.foldMove f c.me))).addMove f c.me none) c

/-- Is a fold in drain drained: no admitted command, no open entry, no record that the taker does not hold (R394 step 2)? -/
def Chip.drained (c : Chip) (f : Nat) : Bool :=
  !c.intake.cmds.any (fun e => e.2.io && e.2.st ≠ .queued && e.2.volume.isSome && e.2.fold = f) &&
    !c.stripes.entries.any (fun e => decide (e.2.kind ≤ 4) && e.2.isOpen && e.2.fold = f) &&
    !c.mirror.unacked.any (fun x => match x.2 with
      | .line l => l.fold = f
      | .retire _ fold _ _ _ => fold = f
      | .journal _ e => decide (e.kind ≤ 4) && e.fold = f
      | .delta fold _ _ _ _ _ => fold = f
      | .discard _ fold _ _ => fold = f)

/-- HANDOVER_DRAIN_DONE (R394 steps 3 and 4): at the giver, the drained fold's line is released; at the taker, which reads it deasserted, its own is asserted. -/
def handoverDrainDone (fold lines : Nat) (c : Chip) : Chip :=
  let c := c.readLines lines
  if 8 ≤ fold then c
  else if c.get TWIN_FOLD_STAT_phase fold = 3 then
    (if c.drained fold then (c.driveLine fold false).set TWIN_FOLD_STAT_phase 4 fold else c)
  else if c.get TWIN_FOLD_STAT_phase fold = 4 && (c.twin.moves.get? fold).any (fun m => m.1 = c.me) then c.claim fold 2
  else c

/-- HANDOVER_DRAIN_TIMEOUT (R394): the giver keeps the fold and resumes; the taker waits no longer. -/
def handoverDrainTimeout (fold : Nat) (c : Chip) : Chip :=
  if 8 ≤ fold then c
  else if c.get TWIN_FOLD_STAT_phase fold = 3 then
    let c := ((((c.set TWIN_FOLD_STAT_phase 0 fold).raise 0x690).cntTwin 6).cntTwin 9 (c.foldWaiting fold))
    (c.endMove fold 6 0x0300).nextMove
  else if c.get TWIN_FOLD_STAT_phase fold = 4 && c.flag TWIN_FOLD_STAT_partner_line fold && (c.twin.moves.get? fold).any (fun m => m.1 = c.me) then
    ((c.set TWIN_FOLD_STAT_phase 0 fold).endMove fold 6 0x0300).nextMove
  else c

/-! ### Forward records (R386, R387) -/

/-- The connection number under which a forwarded command's session is counted here: apart from this chip's own contexts. -/
def fwdCtx (ctx : Nat) : Nat := 2 ^ 24 + ctx

/-- A command that the partner forwards, taken in as if it had arrived here. -/
def Chip.forwardedCmd (c : Chip) (tag fold cls host paddock volume ctx ident : Nat) (red : Bool) (q : Sqe) (data : Bytes) : HostCmd :=
  let k := c.newCmd (fwdCtx ctx) q data 0 0
  let count := q.cdw12 % 65536 + 1
  let io := cls ≠ 0
  let bs := if [0x01, 0x05].contains q.opc && io then slices (data.length / count) (if data.length % count = 0 then count else 0) data 0 else [(0, ⟨data, 0⟩)]
  { k with
    blocks := bs
    ranges := if q.opc = 0x09 && io then dsmRanges (q.cdw10 % 256 + 1) data else []
    host := host
    ident := ident
    paddock := paddock
    volume := if c.vols.has volume then some volume else none
    grant := ((c.grants.get? (grantKey host q.nsid)).map (·.serial)).getD 0
    fold := fold
    cls := if cls = 0 then 4 else cls - 1
    red := red
    low := red
    fwd := some tag }

/-- FORWARD_RECORD_RX: a command or an Abort at the owner, read data or a completion at the forwarder. -/
def forwardRecordRx (r : FwdRec) (c : Chip) : Chip :=
  match r with
  | .command tag fold cls host paddock volume ctx ident red q data =>
    let k := c.forwardedCmd tag (fold % 8) cls host paddock volume ctx ident red q data
    let c := c.cntTwin 8
    if c.intake.held.any (fun h => h.2.ctx = k.ctx) then c.keepHeld 0 k
    else
      let e := c.enterCmd k
      if e.1 then e.2 else e.2.keepHeld 0 k
  | .data tag offset bytes =>
    let c : Chip := { c with intake := { c.intake with forwards := c.intake.forwards.upd tag (fun k => { k with got := k.got.put offset ⟨bytes, 0⟩ }) } }
    match c.intake.forwards.get? tag with
    | some k => (match k.ended with
      | some (code, dw0) => if c.placedWhole k code then c.endForward tag code dw0 else c
      | none => c)
    | none => c
  | .completion tag sct sc dw0 =>
    let code := sct * 256 + sc
    match c.intake.forwards.get? tag with
    | some k =>
      if c.placedWhole k code then c.endForward tag code dw0
      else { c with intake := { c.intake with forwards := c.intake.forwards.put tag { k with ended := some (code, dw0) } } }
    | none => c
  | .abort tag ctx q =>
    let r := c.abortTarget (fwdCtx ctx) (q.cdw10 / 65536) true
    (r.2.cntTwin 8).send (FwdRec.out ⟨false, 0, 0, 0, 0, 0, ctx, q.cid⟩ (.completion tag 0 0 (b2n (!r.1))))

/-! ### Commands (R371, R393, R399) -/

/-- TWIN_STATUS_GET (0x0900). -/
def twinStatusGet (h : Hdr) : Chip → Chip :=
  runCommand ⟨0x0900, false, .r, 0⟩ h [] (fun c =>
    Res.ok c (c.image TWIN_STATUS ++ c.image TWIN_WHISTLE_STAT ++ c.image TWIN_RESYNC ++ c.image TWIN_PLINK ++ c.image TWIN_CROOK ++
      allFolds.flatMap (fun f => c.image TWIN_FOLD_STAT f)))

/-- FOLD_BELLWETHER_SET (0x0901). -/
def foldBellwetherSet (h : Hdr) (fold chip : Nat) : Chip → Chip :=
  runPair ⟨0x0901, true, .w, paramBytes [1, 1]⟩ h [] (.foldBellwetherSet fold chip) (fun c =>
    Res.guard c [refuseIf (decide (8 ≤ fold)) 0x0102 32, refuseIf (decide (2 ≤ chip)) 0x0102 33] (fun c => Res.ok (c.set TWIN_FOLD_CFG_bellwether chip fold)))

/-- FOLD_HOLD_SET (0x0903). -/
def foldHoldSet (h : Hdr) (fold hold : Nat) : Chip → Chip :=
  runPair ⟨0x0903, true, .w, paramBytes [1, 1]⟩ h [] (.foldHoldSet fold hold) (fun c =>
    Res.guard c [refuseIf (decide (8 ≤ fold)) 0x0102 32, refuseIf (decide (2 ≤ hold)) 0x0102 33] (fun c => Res.ok (c.set TWIN_FOLD_CFG_hold hold fold)))

/-- TWIN_CFG_SET (0x0906). -/
def twinCfgSet (h : Hdr) (ctl whistle failback : Nat) : Chip → Chip :=
  runPair ⟨0x0906, true, .w, paramBytes [4, 8, 8]⟩ h [] (.twinCfgSet ctl whistle failback) (fun c =>
    Res.ok (((c.writeImage TWIN_CTL ctl).writeImage TWIN_WHISTLE_CFG whistle).writeImage TWIN_FAILBACK_CFG failback))

end Sys2Proof.Machine
end

