-- ==== Sys2Proof/Machine/Health.lean ====
section
/-!
DEFINITION. Self-tests and health reports (R396, R397, R399), and two faults that AON and the management side log (R494, R498).
-/

namespace Sys2Proof.Machine

/-- The slots whose link from this chip is up, bit n for slot n. -/
def Chip.slotsUp (c : Chip) : Nat := maskOf ((List.range 34).filter (fun s => c.flag DRV_LINK_STAT_up s))

/-- The failure bits of the report now due (R397): those that tests found since the last one, and those that stand. -/
def Chip.failMask (c : Chip) : Nat :=
  let t := c.get GOV_TEMP_STAT_max_c
  maskOf (bitList c.twin.faults 5 ++
    (if c.flag TWIN_WHISTLE_STAT_link_ok && c.flag TWIN_WHISTLE_STAT_wire_ok then [] else [5]) ++
    (if c.get TWIN_PLINK_width < (if c.id.half then 8 else 16) then [6] else []) ++
    (if c.vaults ≠ 3 then [7] else []) ++
    (if (c.get GOV_TEMP_CFG_warn_c : Int) ≤ signedOf 8 t then [8] else []) ++
    (if bit c.twin.faults 9 then [9] else []))

/-- The role a report shows: 0 standby, 1 owner, 2 solo, 3 split. -/
def Chip.reportRole (c : Chip) : Nat :=
  let s := c.get TWIN_STATUS_pair_state
  if s = 3 || s = 4 then 3 else if s = 2 then 2 else if c.foldMask TWIN_FOLD_STAT_gate_open ≠ 0 then 1 else 0

/-- The 256 bytes of a health report with a failure mask (R397). -/
def Chip.healthReport (c : Chip) (mask cleanS : Nat) : Bytes :=
  let body := le 4 0x5356484C ++ le 2 1 ++ le 1 c.me ++ le 1 c.reportRole ++ le 8 c.twin.reportNo ++ le 8 c.now ++ le 4 c.start.release ++ le 2 c.start.proto ++ le 2 0 ++
    le 1 (c.foldMask TWIN_FOLD_STAT_gate_open) ++ le 1 (c.foldMask TWIN_FOLD_CFG_bellwether) ++ le 2 0 ++ le 4 mask ++ le 4 cleanS ++ le 4 (c.get CIPH_STATUS_lanes_ok) ++
    le 1 (c.get CACHE_STATUS_stacks) ++ le 1 (popCount (c.get TWIN_PLINK_lanes_up) 16) ++ le 1 (c.get GOV_TEMP_STAT_max_c) ++ le 1 c.twin.margin ++
    le 4 (min (c.get CACHE_CNT_count 14 - c.twin.corr) 0xFFFFFFFF) ++ le 4 (min (c.get CACHE_CNT_count 15 - c.twin.uncorr) 0xFFFFFFFF) ++
    le 2 (c.get CACHE_DIRTY_STAT_own_mib) ++ le 2 (c.get CACHE_DIRTY_STAT_mirror_mib) ++ le 8 c.mirror.rxNext ++ le 8 c.slotsUp ++
    le 1 (c.get TWIN_RESYNC_state) ++ zeros 3 ++ le 4 (c.get TWIN_RESYNC_remaining) ++ zeros 120
  body ++ padTo 48 (Config.sha384 body)

/-- HEALTH_REPORT_TIMER (R397): each second a report is published and goes to the partner; a new failure bit raises event 0x694. -/
def healthReportTimer (c : Chip) : Chip :=
  let mask := c.failMask
  let new := popCount (mask &&& (c.twin.myMask ^^^ 0xFFFFFFFF)) 32
  let dirty := if mask ≠ 0 then c.clk else c.twin.dirtyNs
  let c := { c with twin := { c.twin with reportNo := c.twin.reportNo + 1, dirtyNs := dirty } }
  let raw := c.healthReport mask (min ((c.clk - dirty) / second) 0xFFFFFFFF)
  let c := { c with twin := { c.twin with mine := raw, myMask := mask, faults := 0, corr := c.get CACHE_CNT_count 14, uncorr := c.get CACHE_CNT_count 15 } }
  let c := (c.raiseIf (new ≠ 0) 0x694).cntTwin 13 new
  (c.send (.health raw)).cntTwin 12

/-- HEALTH_REPORT_RX (R397): a report of the partner; a new failure bit raises event 0x695 here. -/
def healthReportRx (raw : Bytes) (c : Chip) : Chip :=
  if raw.length ≠ 256 || unle (raw.take 4) ≠ 0x5356484C || c.twin.withdrawn then c
  else
    let mask := unle ((raw.drop 36).take 4)
    let new := mask &&& (c.twin.theirMask ^^^ 0xFFFFFFFF)
    ({ c with twin := { c.twin with partner := raw, theirMask := mask } } : Chip).raiseIf (new ≠ 0) 0x695

/-- The last report of this chip (0) or the partner (1); none yet reads as no bytes. -/
def Chip.lastReport (c : Chip) (which : Nat) : Bytes := if which = 0 then c.twin.mine else c.twin.partner

/-- HEALTH_REPORT_GET (0x0905). -/
def healthReportGet (h : Hdr) (which : Nat) : Chip → Chip :=
  runCommand ⟨0x0905, false, .r, paramBytes [1]⟩ h [] (fun c =>
    Res.guard c [refuseIf (decide (2 ≤ which)) 0x0102 32, refuseIf (c.lastReport which = []) 0x0201] (fun c => Res.ok c (c.lastReport which)))

/-- TWIN_HEALTH_SEL_WRITE (R399): the select takes a snapshot of the chosen report into the view. -/
def twinHealthSelWrite (value : Nat) (c : Chip) : Chip :=
  let c := c.set TWIN_HEALTH_SEL_which (value % 2)
  let raw := padTo 256 (c.lastReport (value % 2))
  (List.range 32).foldl (fun (c : Chip) j => c.set TWIN_HEALTH_VIEW_bytes (unle ((raw.drop (8 * j)).take 8)) j) c

/-- SELF_TEST_RUN (R396): a test of idle units other than the known-answer tests (KAT_INTERVAL) and the crook lines: `kind` 1 parity patterns, 2 the HBM patrol, 3 SerDes margins,
with the worst margin found in 2 mV units, 9 the rail monitors of R493. -/
def selfTestRun (kind : Nat) (pass : Bool) (margin : Nat) (c : Chip) : Chip :=
  let fails := fun (c : Chip) => { c with twin := { c.twin with faults := setBit c.twin.faults kind true } }
  if kind = 3 then
    let c := { c with twin := { c.twin with margin := min margin 255 } }
    if margin < c.get TWIN_FAILBACK_CFG_margin_min then fails c else c
  else if [1, 2, 9].contains kind then (if pass then c else fails c)
  else c

/-- REFCLK_OUT_OF_TOLERANCE (R494): SYSCLK_25M departs from the ETH_REFCLK reference by more than 100 ppm. -/
def refclkOutOfTolerance (c : Chip) : Chip := c.raise 0x7E6

/-- PMBUS_ALERT (R498): a regulator asserts PMB_ALERT_N: it is logged on the console and raises no action. -/
def pmbusAlert (c : Chip) : Chip := c.send .pmbusAlertLogged

end Sys2Proof.Machine
end

