-- ==== Sys2Proof/Machine/Erase.lean ====
section
/-!
DEFINITION. PADDOCK_ERASE (R366): a long operation of six steps, which go on between commands as their conditions come to hold.
-/

namespace Sys2Proof.Machine

/-- The volumes of a paddock. -/
def Chip.volumesOf (c : Chip) (p : Nat) : List (Nat × Volume) := c.vols.filter (fun v => v.2.paddock = p)

/-- The extent entries of a paddock's lineages. -/
def Chip.paddockEntries (c : Chip) (p : Nat) : List Entry :=
  let ls := (c.volumesOf p).map (fun v => v.2.lineage)
  c.allEntries.filter (fun e => ls.contains e.lineage)

def Chip.updErase (c : Chip) (p : Nat) (f : EraseRun → EraseRun) : Chip := { c with cipher := { c.cipher with erases := c.cipher.erases.upd p f } }

/-- The operation moves to a step. -/
def Chip.eraseStep (c : Chip) (p : Nat) (r : EraseRun) (step : Nat) : Chip :=
  let c := c.updErase p (fun r => { r with step := step, asked := false })
  match r.slot with
  | some i => c.loProgress i 0 0 (some step)
  | none => c

/-- The barriers of a paddock lift. -/
def Chip.liftErase (c : Chip) (p : Nat) : Chip :=
  let lift := fun (v : Volume) => { v with marks := v.marks.filter (fun m => decide (m.what ≠ .erase)) }
  let vols := c.vols.mapVals (fun _ v => if v.paddock = p then lift v else v)
  { c with vols := vols, cipher := { c.cipher with erases := c.cipher.erases.del p } }

/-- Step 1: every barrier stands at the front of its stage, and what was admitted before it has ended. -/
def Chip.eraseClear (c : Chip) (p : Nat) : Bool :=
  (c.volumesOf p).all (fun v => match v.2.marks with
    | m :: _ => decide (m.what = .erase) && !c.intake.cmds.any (fun e => e.2.volume = some v.1 && decide (0 < e.2.seq) && decide (e.2.seq < m.seq))
    | [] => true)

/-- Step 2: this chip's versions and cached blocks of the paddock's volumes are gone. Lines in a commit go once it has ended. -/
def Chip.eraseVersions (c : Chip) (p : Nat) : Chip :=
  let ids := (c.volumesOf p).map (·.1)
  let mine := c.lines.filter (fun e => ids.contains e.2.2.volume && e.2.2.st ≠ .mirror && e.2.2.st ≠ .committing)
  let c := mine.foldl (fun (c : Chip) e => c.putWay e.1 e.2.1 none) c
  let keep := fun (l : Line) => !ids.contains l.volume
  let c := { c with cache := { c.cache with
    waiting := c.cache.waiting.filter (fun (l : Line) => keep l || decide (l.st = LineSt.mirror))
    evict := c.cache.evict.mapVals (fun _ ls => ls.filter keep)
    victim := c.cache.victim.mapVals (fun _ ls => ls.filter keep)
    streams := c.cache.streams.keep (fun v _ => !ids.contains v) } }
  c.showLines

/-- The discard records of step 2, one for each volume whose fold this chip owns (R202, R206). -/
def Chip.eraseDiscards (c : Chip) (p : Nat) : Chip :=
  ((c.volumesOf p).filter (fun v => c.flag TWIN_FOLD_STAT_gate_open v.2.fold)).foldl (fun (c : Chip) v => (c.mirrorPush (.discard v.1 v.2.fold 0 (v.2.acres * 1024))).2) c

/-- Does anything under way here still name the paddock's keys (step 3)? -/
def Chip.namesKeys (c : Chip) (p : Nat) : Bool :=
  c.stripes.drv.any (fun d => d.2.paddock = p && decide (d.2.lane ≤ 4) && d.2.kind ≠ 2) ||
  c.stripes.entries.any (fun e => decide (e.2.kind ≤ 4) && e.2.isOpen && ((c.flock? e.2.flock).bind (fun f => f.acreOf e.2.stripe)).any (fun a => a.paddock = p)) ||
  c.lines.any (fun e => e.2.2.st = .committing && e.2.2.paddock = p)

/-- A key drawn by this chip (step 4), and what carries it to the partner. -/
def Chip.drawKey (c : Chip) (p : Nat) : PadKey × Chip :=
  let s := c.keyOp.freshBytes
  let seed := padTo 48 s.1
  let n := s.2.fresh
  let id := atLeast1 (n.1 % 2 ^ 64)
  let blob := le 4 0x53564B59 ++ le 1 1 ++ le 1 48 ++ le 2 p ++ le 8 id ++ le 4 0 ++ zeros 20 ++ seed
  let cmd := PairCmd.paddockKeyImport p 0 0 (Config.keyWrap ((n.2.cipher.kek.map (·.2)).getD []) blob)
  let c := n.2
  let c := if c.pairedNow then c.send (.partnerCommand cmd) else { c with mgmt := { c.mgmt with carried := c.mgmt.carried ++ [cmd] } }
  (seedKey p id 0 0 seed, c)

/-- One step of an erasure, if its condition holds. A paused operation waits, and so does one that needs a seed while the DRBG is stopped (R349); an ended one has been cancelled. -/
def Chip.eraseOnce (c : Chip) (p : Nat) (r : EraseRun) : Chip :=
  let state := match r.slot with
    | some i => loState (c.lo i)
    | none => 2
  if finished state then c.liftErase p
  else if state ≠ 2 then c
  else if r.step = 1 then (if c.eraseClear p then c.eraseStep p r 2 else c)
  else if r.step = 2 then ((c.eraseVersions p).eraseDiscards p).eraseStep p r 3
  else if r.step = 3 then
    let c := c.eraseVersions p
    if r.asked then (if c.cipher.pads.has p then c else c.eraseStep p r 4)
    else if c.namesKeys p then c
    else if c.cipher.pads.has p then (c.updErase p (fun r => { r with asked := true })).recordChange (.erased p)
    else c.eraseStep p r 4
  else if r.step = 4 then
    if r.asked then (if c.cipher.pads.has p then c.eraseStep p r 5 else c)
    else match r.key, r.slot with
      | some k, _ => (c.updErase p (fun r => { r with asked := true })).recordChange (.install p k)
      | none, some _ =>
        if c.drbgStopped then c
        else
        let d := c.drawKey p
        (d.2.updErase p (fun r => { r with asked := true })).recordChange (.install p d.1)
      | none, none => c
  else if r.step = 5 then
    let mine := (c.paddockEntries p).filter c.ownsEntry
    let c := mine.foldl (fun (c : Chip) e => c.dropEntry e ((c.entryFold e).getD 0) p 0 0) c
    let left := (c.paddockEntries p).length
    let c := match r.slot with
      | some i => c.loProgress i (r.total - left - loDone (c.lo i)) 0
      | none => c
    if left = 0 then c.eraseStep p r 6 else c
  else
    let c := (c.liftErase p).raise 0x491
    match r.slot with
    | some i => c.loEnd i 4 0
    | none => c

/-- Erasures go as far as they can. -/
def Chip.settleErase (c : Chip) : Chip :=
  c.cipher.erases.keys.foldl (fun (c : Chip) p => (List.range 7).foldl (fun (c : Chip) _ => match c.cipher.erases.get? p with
    | some r => c.eraseOnce p r
    | none => c) c) c

/-- The barriers enter the stages, and the operation is noted. -/
def Chip.beginErase (c : Chip) (p : Nat) (h : Hdr) (slot : Option Nat) (key : Option PadKey) : Chip :=
  let c := (c.volumesOf p).foldl (fun (c : Chip) v => c.placeMark v.1 .erase h) c
  let total := (c.paddockEntries p).length
  let c := { c with cipher := { c.cipher with erases := c.cipher.erases.put p ⟨1, slot, key, false, total⟩ } }
  let c := match slot with
    | some i => (c.set LONGOP_TOTAL_total total i).loProgress i 0 0 (some 1)
    | none => c
  (c.updPad p (fun k => { k with state := 2 })).raise 0x490

/-- PADDOCK_ERASE (0x0103). The partner that carries it out needs no slot. -/
def paddockErase (h : Hdr) (paddock hasSeed : Nat) (blob : Bytes) : Chip → Chip :=
  let seed := if hasSeed = 1 then some blob else none
  runPair ⟨0x0103, true, .l, if hasSeed = 1 then 104 else paramBytes [2, 1]⟩ h [paddock] (.paddockErase paddock seed) (fun c =>
    Res.guard c [rangeRefusal c paddock 4096 2048 32, refuseIf (decide (2 ≤ hasSeed)) 0x0102 34, refuseIf (!c.paddocks.has paddock) 0x0201,
        refuseIf (c.cipher.erases.has paddock) 0x0205, importGuards c paddock]
      (fun c =>
        let key := seed.map (fun s => (c.openBlob s).bind (fun b => if b.kind = 1 && b.paddock = paddock then some (seedKey paddock b.keyId b.gen0 b.gen0 b.secret) else none))
        match key with
        | some none => importRefused c 0x0400 0
        | k =>
          let k := k.bind id
          if h.src = .partner then Res.ok (c.beginErase paddock h none k)
          else longAccept c h 0x0103 0 [paddock] (fun i c => c.beginErase paddock h (some i) k)))

end Sys2Proof.Machine
end

