-- ==== Sys2Proof/Machine/Partner.lean ====
section
/-!
DEFINITION. A pair-scoped command that the partner carries to this chip (R417): it runs as the command does, without being carried again, and its status goes back.
-/

namespace Sys2Proof.Machine

/-- The header under which a carried command runs here. -/
def Chip.carriedHdr (c : Chip) : Hdr := ⟨.partner, 2, false, false, false, 1, 0xFFFF, 0, 0, 0, c.clk, 0⟩

/-- PAIR_COMMAND_RX (R417). For FLOCK_CREATE, `qualified` are the slots that pass R225 here and `blocks` their least capacity in blocks; for SLOT_MI_READ, `response` is what the drive answers. -/
def pairCommandRx (cmd : PairCmd) (qualified : List Nat) (blocks : Nat) (response : Option Bytes) (c : Chip) : Chip :=
  let h := c.carriedHdr
  match cmd with
  | .paddockCreate p nqn => paddockCreate h p nqn c
  | .paddockDelete p => paddockDelete h p c
  | .paddockArbSet p x => paddockArbSet h p x c
  | .paddockErase p none => paddockErase h p 0 [] c
  | .paddockErase p (some b) => paddockErase h p 1 b c
  | .volumeCreate v p n f k a => volumeCreate h v p n f k a c
  | .namespaceCreate v p n f k a b =>
    let had := c.vols.has v
    let c := volumeCreate h v p n f k a c
    if had then c else { c with vols := c.vols.upd v (fun x => { x with lbaf := b }) }
  | .volumeDelete v => volumeDelete h v c
  | .volumeResize v a => volumeResize h v a c
  | .snapshotCreate s v n => snapshotCreate h s v n c
  | .cloneCreate s v n => cloneCreate h s v n c
  | .volumeArbSet v x => volumeArbSet h v x c
  | .volumeDetach v => volumeDetach h v c
  | .volumeRangeOp v o l n => volumeRangeOp h v o l n c
  | .cacheModeSet s v x => cacheModeSet h s v x c
  | .hostSet i p l n q ps x => hostSet h i p l n q ps x c
  | .hostClear i => hostClear h i c
  | .hostClassSet i b x => hostClassSet h i b x c
  | .grantSet i n v m => grantSet h i n v m c
  | .grantClear i n => grantClear h i n c
  | .hurdleSet x a b d e m => hurdleSet h x a b d e m c
  | .hurdlePaddockSet p r a b d e => hurdlePaddockSet h p r a b d e c
  | .flockCreate f w z n ss => flockCreate h f w z n ss qualified blocks c
  | .flockDelete f => flockDelete h f c
  | .acreGroupSet f d g => acreGroupSet h f d g c
  | .memberFail f m => memberFail h f m c
  | .slotPowerSet s x => slotPowerSet h s x c
  | .slotUnlock s => slotUnlock h s c
  | .slotLedSet s x => slotLedSet h s x c
  | .slotRemove s => slotRemove h s c
  | .slotMiRead s k t x => slotMiRead h s k t x response c
  | .shapeSet k i a b d e => shapeSet h k i a b d e c
  | .shapeClear k i => shapeClear h k i c
  | .shapeOverheadSet p x => shapeOverheadSet h p x c
  | .gateSet s e xs => gateSet h s e xs c
  | .drivePsSet s l n i => drivePsSet h s l n i c
  | .paddockKeyImport p g x b => paddockKeyImport h p g x b c
  | .pskImport b i => pskImport h b i c
  | .pskClear k => pskClear h k c
  | .paddockRekey p => paddockRekey h p c
  | .genLimitSet x => genLimitSet h x c
  | .foldBellwetherSet f x => foldBellwetherSet h f x c
  | .foldMove f x => foldMove h f x c
  | .foldHoldSet f x => foldHoldSet h f x c
  | .twinCfgSet a b d => twinCfgSet h a b d c
  | .mapExchangeTest s => mapExchangeTest h s c

end Sys2Proof.Machine
end

