-- ==== Sys2Proof/Machine/Clock.lean ====
section
/-!
DEFINITION. The minute tick (R68, R69, R71, R480, R481).
-/

namespace Sys2Proof.Machine

/-- tick_src as it acts: 3 acts as 2. -/
def Chip.tickSrc (c : Chip) : Nat := min 2 (c.get PORT_TIME_CFG_tick_src)

/-- Does this chip count the acres of a fold in meter 6: it owns the fold, or nobody does and it is the bellwether? -/
def Chip.countsFold (c : Chip) (f : Nat) : Bool :=
  c.flag TWIN_FOLD_STAT_gate_open f ||
    (!c.flag TWIN_FOLD_STAT_partner_line f && !c.flag TWIN_FOLD_STAT_own_line f && decide (c.get TWIN_FOLD_CFG_bellwether f = c.me))

/-- Add 1 to a paddock's count. -/
def countOne (t : Tab Nat) (p : Nat) : Tab Nat := t.updD p 0 (fun n => n + 1)

/-- The acres allocated by paddock, those that wait for freedom included. -/
def Chip.acreCount (c : Chip) : Tab Nat :=
  c.stripes.flocks.foldl (fun (t : Tab Nat) f => f.2.acres.foldl (fun (t : Tab Nat) a => if c.countsFold a.2.fold then countOne t a.2.paddock else t) t) []

/-- The open connections by paddock. -/
def Chip.connCount (c : Chip) : Tab Nat :=
  c.conns.foldl (fun (t : Tab Nat) x => if x.2.state = .opened && x.2.connected && decide (x.2.paddock < 4096) then countOne t x.2.paddock else t) []

/-- MINUTE_TICK: the minute number exceeds the last one ticked. A change of source and of the UTC offset takes effect now. -/
def minuteTick (c : Chip) : Chip :=
  let m := c.minuteNumber
  if m ≤ c.get PORT_TICK_LAST_minute then c
  else
    let src := c.tickSrc
    let skipped := c.ports.steppedFwd
    let long := c.ports.steppedBack && decide (61 * second < c.clk - c.ports.lastTickClk)
    let held := c.flag PORT_TIME_STATUS_holdover
    let c := ((c.set PORT_TICK_LAST_minute m).setFlag PORT_TICK_LAST_skipped skipped).setFlag PORT_TICK_LAST_holdover held
    let c := c.set PORT_TICK_LAST_source src
    let c := ((c.raise 0x085).raiseIf skipped 0x086).raiseIf (src ≠ c.ports.srcInForce) 0x084
    let c := { c with ports := { c.ports with
      srcInForce := src
      utcInForce := c.get PORT_TIME_CFG_utc_offset
      steppedFwd := false
      steppedBack := false
      lastTickClk := c.clk } }
    c.tallySwap m held skipped long c.acreCount c.connCount

/-- PTP_MSG_RX (R67, R70, R71). A tick that is due in the microsecond of a step is taken first, on the time before it. -/
def ptpMsgRx (sub domain form : Nat) (m : PtpMsg) (utc : Nat) (c : Chip) : Chip :=
  if sub ≠ c.get PORT_TIME_CFG_ptp_port || domain ≠ c.get PORT_TIME_CFG_ptp_domain || 3 ≤ form then c
  else match m with
    | .delayResp _ _ => (minuteTick c).takePtp sub form m utc
    | _ => c.takePtp sub form m utc

end Sys2Proof.Machine
end

