-- ==== Sys2Proof/Machine/Power.lean ====
section
/-!
DEFINITION. The chip as power finds it: every part of its state with nothing in it, and what the fuses and SPI-NOR hold. The contents of the fuses and of SPI-NOR differ from chip to chip;
the ones here are those of a chip that has been provisioned (DESIGN CHOICE, assumption 10).
-/

namespace Sys2Proof.Machine

/-! ### Fuses and SPI-NOR -/

/-- The fuse fields of a provisioned chip, CRCs apart: the grade, a root key, a firmware key hash, ceilings of 6,000 mA and 30,000 mA on every slot, and the privilege of the vault slots (R454). -/
def fuseFields (half : Bool) (serial : Nat) : Nat :=
  serial % 2 ^ 64 + (if half then 0x1816 else 0x3432) * 2 ^ 64 + 2 ^ 1120 + 2 ^ 1376 +
    ((List.range 34).map (fun n => (6000 + 30000 * 65536) * 2 ^ (1832 + 32 * n))).sum + 3 * 2 ^ 2952

def rules0 : RuleRecord := ⟨0, 0, 0, 0, 0, false, false, false⟩

/-- SPI-NOR of a provisioned chip: an image in slot 0 that verifies, nothing in the ledger, no rule, no shelf configuration record (R444). -/
def flash0 : Flash :=
  { preferred := 0
    trial := false
    dirSeq := 0
    ledger := []
    ledgerSeq := 0
    startNo := 0
    attempts := []
    rules := rules0
    lastFail := []
    shelf := []
    images := [(0, ⟨true, 0x010000, 0x0300, 0, 3, true⟩)]
    trialOpen := false }

/-! ### The parts of the chip at power-on -/

def mgmt0 : Mgmt :=
  { fetched := []
    replies := []
    held := []
    sessions := []
    psks := []
    mgmtPort := 21880
    mgmtEn := false
    idleS := 300
    ops := []
    opUse := []
    msix := []
    pba := []
    msixEn := false
    msixMask := false
    bme := false
    memEn := false
    d3 := false
    barSizing := []
    cmdBits := 0
    intLine := 0
    linkUp := false
    ignored := 0
    cqCoal := []
    cqUsed := []
    discard := []
    capLastNs := 0
    capNew := false
    eventLast := []
    carried := [] }

def evt0 : EvtState := ⟨[], 0, [], [], []⟩

def tally0 : TallyState :=
  { energyRem := []
    sealing := false
    cleared := []
    openMinute := 0
    openFlags := 0
    firstTick := true
    partnerMinute := 0
    partnerFlags := 0
    partnerHeld := false
    copySeen := true
    partnerCleared := []
    partnerAccFirst := 0
    partnerAccLast := 0
    partnerAccFlags := 0
    throttledSince := []
    waitingReads := [] }

def start0 : StartState :=
  { running := 0
    trialRun := false
    release := 0
    proto := 0
    warm := false
    porst := true
    st00Ns := 0
    inServiceNs := 0
    failed := false
    configErrs := 0
    deadPorts := 0
    misfit := false
    missing := [] }

def swx0 : Swx :=
  { queues := []
    held := []
    seqNext := []
    seqExpect := []
    reorder := []
    replay := []
    failRun := []
    bad := []
    grantPtr := []
    acceptPtr := []
    deficit := []
    kept := []
    notices := []
    reports := []
    poisoned := []
    arrivals := 0
    nextId := []
    copies := []
    copyStore := []
    mirror := []
    stiles := []
    stileWait := []
    flight := []
    asm := []
    resend := []
    damaged := [] }

def ports0 : Ports :=
  { mode := []
    subs := []
    paused := []
    pausedAt := []
    ingress := []
    xoff := []
    slow := []
    fecLast := []
    trainFails := []
    hurdles := []
    fallback := []
    redAction := []
    meters := []
    fbMeters := []
    srcInForce := 2
    utcInForce := 37
    steppedFwd := false
    steppedBack := false
    lastTickClk := 0
    ptpLastClk := 0
    ppsLastNs := 0 }

def map0 : MapState :=
  { fallback := []
    regions := []
    rgnSeed := []
    versions := []
    filterOnly := []
    paths := []
    foreign := []
    foreignSeq := none
    sendSeq := 0
    learns := []
    learnId := 0
    rehash := []
    freeArea := []
    dseq := 0
    logged := 0
    logging := 0
    recent := []
    recentLogging := 0
    logTop := []
    imageNext := 0 }

def intake0 : Intake :=
  { forwards := []
    fwdNext := 0
    cmds := []
    held := []
    done := []
    order := 0
    rr := []
    urgent := []
    wheelHeld := [] }

def shape0 : ShapeState := ⟨[], [], [], [], [], [], [], [], [], []⟩

def dump0 : Dump :=
  { phase := 0
    areaSet := false
    trigger := 0
    startNs := 0
    vaults := 0
    imageSeq := 0
    total := 0
    quiesceTo := false
    single := false
    restarted := false
    test := none
    noVault := false
    newestTest := 0
    events := [] }

def cache0 : CacheState :=
  { sets := []
    evict := []
    victim := []
    waiting := []
    streams := []
    ranges := []
    drains := []
    flushing := false
    dump := dump0 }

def mirror0 : Mirror :=
  { nextSeq := 1
    unacked := []
    heldSeq := 1
    oldestNs := 0
    rxNext := 1
    rxWait := []
    journal := []
    ackDue := false
    resyncing := false
    resyncTo := 0
    missed := [] }

def twin0 : TwinState :=
  { seq := 0
    seen := []
    leaving := false
    theirs := 0
    everPaired := false
    soloGo := false
    fuseHold := false
    waited := false
    claims := []
    reserved := []
    moves := []
    mine := []
    partner := []
    faults := 0
    margin := 0
    dirtyNs := 0
    reportNo := 0
    myMask := 0
    theirMask := 0
    corr := 0
    uncorr := 0
    withdrawn := false }

def stripes0 : Stripes :=
  { flocks := []
    entries := []
    entryId := 0
    jgen := 0
    annexUsed := 0
    drv := []
    drvId := 0
    fell := []
    recons := []
    reconId := 0
    offers := []
    ckptRun := false
    ckptCover := 0
    ckptDone := 0
    opened := 0
    lost := []
    areaSeq := 0
    listSeq := 0
    recQ := []
    newFailed := []
    bg := []
    bgId := 0
    paceNs := []
    shearNs := 0 }

def cipher0 : Cipher :=
  { kek := none
    partnerKek := none
    pads := []
    psks := []
    waiting := []
    erases := []
    recSeq := 0
    ctxs := []
    faultNs := []
    katNext := []
    sourceOk := true }

def gov0 : GovState :=
  { released := []
    charged := []
    theirs := []
    busy := []
    partnerBusy := []
    pathSent := []
    psChanged := []
    lastCmd := []
    borrow := 0
    drawSum := 0
    samples := 0
    ceiling := []
    npState := []
    psWait := []
    moves := []
    partnerCap := none
    railDead := false
    railSince := none
    tripped := false
    coldGated := [] }

/-- A chip with nothing in it: every register at its reset value, PORST_N asserted. -/
def blankChip (d : Ident) : Chip :=
  { id := d
    regs := []
    hbm := []
    now := 0
    clk := 0
    freeN := 0
    out := []
    fuses := 0
    mgmt := mgmt0
    evt := evt0
    tally := tally0
    flash := flash0
    start := start0
    swx := swx0
    ports := ports0
    heldOut := []
    conns := []
    ctrls := []
    paddocks := []
    hosts := []
    grants := []
    grantNo := 0
    vols := []
    map := map0
    intake := intake0
    shape := shape0
    creditQ := []
    connects := (0, 0)
    lost := []
    cache := cache0
    mirror := mirror0
    twin := twin0
    stripes := stripes0
    cipher := cipher0
    gov := gov0
    slots := [] }

/-- Write the CRC of every fuse field (R454). -/
def Chip.crcFuses (c : Chip) : Chip := (List.range 38).foldl (fun (c : Chip) k => c.blow (15360 + 16 * k) (crc16 (c.fuseField k))) c

/-- A provisioned chip whose power has come up and whose PORST_N is still asserted. -/
def freshChip (d : Ident) : Chip := ({ blankChip d with fuses := fuseFields d.half d.serial } : Chip).crcFuses

end Sys2Proof.Machine
end

