-- ==== Sys2Proof/Machine/Bar0.lean ====
section
/-!
DEFINITION. Writes and reads of BAR0 (R11 to R14, R403, R428), mirror sessions (R46 to R49, R457), and the end of the long operations that no other row ends (R433).
-/

namespace Sys2Proof.Machine

/-! ### Register writes -/

/-- The value that a write under a mask leaves in a register: bits outside the mask keep what they show. -/
def mergeBits (old v m : Nat) : Nat := (old &&& ((m % 2 ^ 64) ^^^ (2 ^ 64 - 1))) ||| (v &&& m)

/-- A write of RING_SQ_CTL (R419, R422): a change of en starts or stops the ring, clear_err resumes it. -/
def Chip.writeSqCtl (c : Chip) (r img ones : Nat) : Chip :=
  let en := bit img 0
  let head := RING_SQ_CTL_start_head.of img
  let c := if en = c.flag RING_SQ_CTL_en r then c.set RING_SQ_CTL_start_head head r else sqEnableWrite r en head c
  if bit ones 1 then sqClearErr r c else c

/-- A write of a register that acts beyond its fields; the others set their fields as their types say (R11). `img` is the register as the write leaves it, `ones` the bits written as 1. -/
def Chip.writeActs (c : Chip) (r : Reg) (i j v m : Nat) (byHost : Bool) : Chip :=
  let img := mergeBits (c.readReg r i j) v m
  let ones := v &&& m
  let plain := c.writeReg r i j v m byHost
  let b := r.geo.base
  if b = SWX_BUF_HWM.geo.base then (if bit ones 63 then swxPeakClr plain else plain)
  else if b = SWX_CTL.geo.base then swxCtlWrite img c
  else if b = SWX_MIR_CTL.geo.base then plain.judgeMirror i
  else if b = SWX_CLASS_CFG.geo.base then swxClassCfgWrite i img c
  else if b = PORT_CFG.geo.base then c.writePortCfg i img
  else if b = DROVE_CTX_SEL.geo.base then droveCtxSelWrite (DROVE_CTX_SEL_ctx.of img) plain
  else if b = MAP_LEARN_STAT.geo.base then (if bit ones 63 then learnPeakClr i c else c)
  else if b = CMDQ_ISL_TAGS.geo.base then (if bit ones 31 then cmdqTagsPeakClr i c else c)
  else if b = STRIPE_JNL_STAT.geo.base then (if bit ones 31 then jnlPeakClr c else c)
  else if b = STRIPE_LAYOUT_SEL.geo.base then stripeLayoutSelWrite (STRIPE_LAYOUT_SEL_flock.of img) (STRIPE_LAYOUT_SEL_row.of img) plain
  else if b = STRIPE_LOST_STAT.geo.base then (if bit ones 17 then lostOverflowClear c else c)
  else if b = GOV_TEMP_STAT.geo.base then (if bit ones 31 then govTempPeakClr c else c)
  else if b = GOV_SHAPE_SEL.geo.base then govShapeSelWrite (GOV_SHAPE_SEL_kind.of img) (GOV_SHAPE_SEL_island.of img) (GOV_SHAPE_SEL_index.of img) plain
  else if b = SLOT_CH_CTL.geo.base then
    let c := if bit ones 1 then slotOffReqWrite i plain else plain
    if bit ones 2 then slotUnlockWrite i c else c
  else if b = CIPH_PAD_SEL.geo.base then ciphPadSelWrite (CIPH_PAD_SEL_paddock.of img) plain
  else if b = CIPH_ENTROPY.geo.base then entropyFlagClear (ones % 4) c
  else if b = TWIN_KICK.geo.base then twinKickWrite ones c
  else if b = TWIN_CROOK.geo.base then crookLoopErrClear (ones / 2 ^ 24) c
  else if b = TWIN_HEALTH_SEL.geo.base then twinHealthSelWrite img plain
  else if b = RING_SQ_CTL.geo.base then c.writeSqCtl i img ones
  else if b = RING_SQ_DB.geo.base then (if bit ones 0 then sqDoorbell i c else c)
  else if b = RING_CQ_CFG.geo.base then cqEnableWrite i img c
  else if b = RING_CQ_HEAD.geo.base then cqHeadWrite i (RING_CQ_HEAD_head.of img) c
  else if b = WIN_COMMIT.geo.base then (if bit ones 0 then winCommitWrite c else c)
  else if b = EVT_STATUS.geo.base then evtStatusClear i ones c
  else if b = EVT_ENABLE.geo.base then evtEnableWrite i img c
  else if b = EVT_ROUTE.geo.base then evtRouteWrite i img c
  else plain

/-- CMDQ_SEQ_VIEW (R186): the next admission number of the volume selected, 0 where this chip does not own its fold. -/
def Chip.showSeq (c : Chip) : Chip :=
  let n := match c.vols.get? (c.get CMDQ_SEQ_SEL_volume) with
    | some v => if c.flag TWIN_FOLD_STAT_gate_open v.fold then v.nextSeq else 0
    | none => 0
  if c.get CMDQ_SEQ_VIEW_next_seq = n % 2 ^ 64 then c else c.set CMDQ_SEQ_VIEW_next_seq n

/-- A write into the MSI-X table (R405): address, or data with the mask bit; an unmasked vector sends what is due. -/
def Chip.writeMsix (c : Chip) (a v m : Nat) : Chip :=
  let k := (a - 0x48000) / 16
  let e := c.mgmt.msix.getD k ⟨0, 0, true⟩
  if a % 16 = 0 then
    { c with mgmt := { c.mgmt with msix := c.mgmt.msix.put k { e with addr := mergeBits e.addr v m } } }
  else
    let img := mergeBits (e.data % 2 ^ 32 + b2n e.masked * 2 ^ 32) v m
    let c := { c with mgmt := { c.mgmt with msix := c.mgmt.msix.put k ⟨e.addr, img % 2 ^ 32, bit img 32⟩ } }
    if e.masked && !bit img 32 then msixVectorUnmask k c else c

/-- A write under a mask at an 8-byte aligned offset of BAR0: where no register is, and at an index that the grade lacks, it is ignored (R5, R12); a register that its chapter reserves for
firmware ignores the host, which is counted (R403). -/
def Chip.writeBar0 (c : Chip) (a v m : Nat) (byHost : Bool) : Chip :=
  if 0x48000 ≤ a ∧ a < 0x48400 then c.writeMsix a v m
  else match findReg a with
    | none => c
    | some (r, i, j) =>
      if r.geo.absence.absent c.id i then c
      else if byHost && !r.hostWritable then { c with mgmt := { c.mgmt with ignored := c.mgmt.ignored + 1 } }
      else (c.writeActs r i j (v % 2 ^ 64) (m % 2 ^ 64) byHost).showSeq

/-- REGISTER_WRITE (R11, R403): a write of 1, 2, 4 or 8 bytes by the management host, or by firmware. One that crosses an 8-byte boundary is an Unsupported Request, reported through AER. -/
def registerWrite (offset size value : Nat) (byHost : Bool) (c : Chip) : Chip :=
  if ! [1, 2, 4, 8].contains size then c
  else
    let at_ := offset % 8
    if 8 < at_ + size then ((c.send (.aerReport false)).raise 0x725).raise 0x729
    else c.writeBar0 (offset - at_) (value % 2 ^ (8 * size) * 2 ^ (8 * at_)) ((2 ^ (8 * size) - 1) * 2 ^ (8 * at_)) byHost

/-- A read of PMC_CNT of an even counter of a chained pair latches its odd counter (R478). -/
def Chip.latchChain (c : Chip) (a : Nat) : Chip :=
  match PMC_CNT.geo.index? a with
  | some (i, _) => if i % 2 = 0 && c.flag PMC_CFG_chained i then c.set PMC_CHAIN_HI_high (c.get PMC_CNT_count (i + 1)) else c
  | none => c

def bar0Size : Nat := 16777216

/-- Offset of a command that reads or writes BAR0: 8-byte aligned, within BAR0. -/
def bar0Refusal (offset count : Nat) : Option (Nat × Nat) := refuseIf (offset % 8 ≠ 0 || decide (bar0Size < offset + 8 * count)) 0x0102 32

/-- REG_READ (0x0C30, R428). -/
def regRead (h : Hdr) (offset count : Nat) : Chip → Chip :=
  runCommand ⟨0x0C30, false, .r, paramBytes [4, 2]⟩ h [] (fun c =>
    Res.guard c [bar0Refusal offset count, refuseIf (decide (count = 0) || decide (500 < count)) 0x0102 36]
      (fun c =>
        let r := (List.range count).foldl (fun (acc : Chip × Bytes) k =>
          let a := offset + 8 * k
          (acc.1.latchChain a, acc.2 ++ le 8 (acc.1.readBar0 a).toNat)) (c, [])
        Res.ok r.1 r.2))

/-- REG_WRITE (0x0C31, R428): only fields that the management host may write directly. -/
def regWrite (h : Hdr) (offset mask value : Nat) : Chip → Chip :=
  runCommand ⟨0x0C31, false, .w, paramBytes [4, 8, 8]⟩ h [] (fun c =>
    Res.guard c [bar0Refusal offset 1] (fun c => Res.ok (c.writeBar0 offset value mask true)))

/-! ### Mirror sessions (R46 to R49, R457) -/

/-- MIRROR_SET (0x0C10, R48). -/
def mirrorSet (h : Hdr) (session image : Nat) : Chip → Chip :=
  runCommand ⟨0x0C10, false, .w, paramBytes [1, 8]⟩ h [] (fun c =>
    let src := SWX_MIR_CTL_src_port.of image
    let dst := SWX_MIR_CTL_dst_port.of image
    let bySession := decide (SWX_MIR_CTL_src_kind.of image = 1)
    let toPort := decide (SWX_MIR_CTL_dst_kind.of image = 0)
    Res.guard c [refuseIf (decide (4 ≤ session)) 0x0102 32, (if bySession then none else portRefusal c (src / 4) 40), (if toPort then portRefusal c (dst / 4) 40 else none),
        refuseIf (c.flag FUSE_STAT_isolation && (bySession || c.carries src (some .roce))) 0x0301,
        refuseIf (toPort && !bySession && dst = src) 0x0102 40, refuseIf (toPort && c.carries dst none) 0x0203]
      (fun c =>
        let c := (c.writeImage SWX_MIR_CTL image session).judgeMirror session
        Res.ok { c with swx := { c.swx with mirror := c.swx.mirror.put session ⟨0, false⟩ } }))

/-- MIRROR_CLEAR (0x0C11). -/
def mirrorClear (h : Hdr) (session : Nat) : Chip → Chip :=
  runCommand ⟨0x0C11, false, .w, paramBytes [1]⟩ h [] (fun c =>
    Res.guard c [refuseIf (decide (4 ≤ session)) 0x0102 32]
      (fun c => Res.ok (({ c with swx := { c.swx with mirror := c.swx.mirror.del session } } : Chip).writeImage SWX_MIR_CTL 0 session)))

/-! ### Long operations that end (R432, R433, R451) -/

def serdesRecord (group time : Nat) (r : LaneResult) : Bytes :=
  le 1 0x10 ++ le 1 group ++ le 1 r.lane ++ le 1 (b2n r.failed) ++ le 4 r.errors ++ le 2 r.margin ++ zeros 6 ++ le 8 r.tested ++ le 8 time

/-- LONGOP_END: an operation whose work this chip does not see ends: FW_IMAGE_WRITE, whose image is verified now, and SERDES_TEST with its lanes' results; `failure` is the status of one that failed. -/
def longopEnd (slot failure : Nat) (results : List LaneResult) (c : Chip) : Chip :=
  match c.mgmt.ops.get? slot with
  | none => c
  | some op =>
    let at_ := fun (k : Nat) => op.args.getD k 0
    if ! [2, 8].contains (loState (c.lo slot)) then c
    else if op.opcode = 0x0B00 then
      if failure ≠ 0 then c.loEnd slot 6 failure
      else (c.loProgress slot (ceilDiv (at_ 2) 1024) 0 (some 3)).imageWritten slot (at_ 0) (at_ 1) (at_ 2)
    else if op.opcode = 0x0C01 then
      if failure ≠ 0 then c.loEnd slot 6 failure
      else
        let bad := (results.filter (·.failed)).length
        let c := results.foldl (fun (c : Chip) r => c.loResult slot (serdesRecord (at_ 0) c.now r)) c
        (c.loProgress slot results.length bad).loEnd slot (if bad = 0 then 4 else 5) 0
    else c

end Sys2Proof.Machine
end

