-- ==== Sys2Proof/Machine/Reset.lean ====
section
/-!
DEFINITION. Resets and the start steps (chapter 14 of the spec, R440 to R446, R449, R453, R458 to R466): what a cold, a warm and an island reset leave, the steps ST00 to ST13 with their ledger entries
and rules, and the commands and pins that reset the chip.
-/

namespace Sys2Proof.Machine

/-! ### What a cold reset leaves (R464) -/

/-- Release every line, turn every gate off, assert every PERST_N (R440). -/
def Chip.pinsOff (c : Chip) : Chip :=
  let c := c.releaseLines
  c.slotList.foldl (fun (c : Chip) s =>
    let c := if c.gateIsOn s then c.send (.slotGate s 0) else c
    let c := (c.setPath s 0).set SLOT_CH_STAT_pg 0 s
    if c.flag SLOT_CH_CTL_perst_rel s then c.perst s true else c) c

/-- The chip as a cold reset leaves it: fuses, SPI-NOR and what the pins show. -/
def Chip.coldChip (c : Chip) : Chip :=
  let c := c.pinsOff
  let b : Chip := { blankChip c.id with
    clk := c.clk
    freeN := c.freeN
    out := c.out
    fuses := c.fuses
    flash := c.flash
    stripes := { stripes0 with areaSeq := c.stripes.areaSeq, listSeq := c.stripes.listSeq }
    evt := { evt0 with atStart := c.evt.atStart } }
  let b := c.slotList.foldl (fun (b : Chip) s =>
    ((b.set SLOT_CH_STAT_present (c.get SLOT_CH_STAT_present s) s).set SLOT_CH_STAT_seated (c.get SLOT_CH_STAT_seated s) s).set SLOT_CH_STAT_partner_on
      (c.get SLOT_CH_STAT_partner_on s) s) b
  let lines := c.foldMask TWIN_FOLD_STAT_partner_line
  (allFolds.foldl (fun (b : Chip) f => b.setFlag TWIN_FOLD_STAT_partner_line (bit lines f) f) b).showCrook 0

/-! ### What a warm reset leaves (R434, R464, R466) -/

/-- Registers that a warm reset keeps whole: they show what is kept elsewhere (fuses, SPI-NOR, slot power, long operations, the map's layout, the tallies). -/
def keptRegs : List Nat :=
  [LONGOP_STATUS, LONGOP_TOTAL, LONGOP_RESULT_COUNT, LONGOP_RES_BASE, LONGOP_RES_PROD, LONGOP_RES_CONS, LONGOP_INFO, LONGOP_START, FUSE_STAT, FUSE_KEYHASH, FUSE_RAW, SLOT_CEIL, SLOT_CH_STAT, SLOT_TH_STAT,
   SLOT_GLB_STAT, SLOT_BTN_STAT, LEDGER_RULE, LEDGER_RULE_DRV, LEDGER_HOLD_SLOTS, LEDGER_IMAGE, LEDGER_ENTRY, MAP_TBL_CFG, MAP_TBL_SEED, MAP_TBL_STAT, MAP_TBL_NEXT, MAP_RGN_CFG, MAP_FB_STAT,
   TALLY_BANK, TALLY_CLOSED, TALLY_BASE, TALLY_ACC, TALLY_ACC_FIRST, TALLY_ACC_LAST, CIPH_DEV_FP].map (fun (r : Reg) => r.geo.base)

/-- The registers as a warm reset leaves them. -/
def Chip.warmRegs (c : Chip) : Chip :=
  let stackSet := c.get CACHE_STATUS_stacks
  let lines := c.foldMask TWIN_FOLD_STAT_partner_line
  let fuses := (c.get TWIN_STATUS_pair_fuse, c.get SLOT_GLB_CFG_forced_en, c.get CIPH_STATUS_debug_open)
  let c := c.resetRegs (regMap.filter (fun r => !keptRegs.contains r.geo.base)) true
  let c := (((c.set CACHE_STATUS_stacks stackSet).set TWIN_STATUS_pair_fuse fuses.1).set SLOT_GLB_CFG_forced_en fuses.2.1).set CIPH_STATUS_debug_open fuses.2.2
  (allFolds.foldl (fun (c : Chip) f => c.setFlag TWIN_FOLD_STAT_partner_line (bit lines f) f) c).showCrook 0

/-- Lines that survive in HBM: versions whose data is whole and that are not superseded, Committing ones being Dirty again, Clean and Mirror lines. A dump test ends with the reset and does not begin again: R217
speaks of a dump, and the spec does not say what a warm reset does to a test (DESIGN CHOICE, assumption 65). -/
def warmCache (k : CacheState) : CacheState :=
  let whole := fun (l : Line) => l.newer = 0 && l.st ≠ LineSt.filling && l.st ≠ LineSt.evicting && !(l.st = LineSt.clean && l.poisoned)
  let back := fun (l : Line) => ({ l with pins := 0, st := if l.st = LineSt.committing then LineSt.dirty else l.st } : Line)
  let sets := k.sets.mapVals (fun _ (s : CacheSet) => { s with ways := (s.ways.keep (fun _ l => whole l)).mapVals (fun _ l => back l) })
  { cache0 with
    sets := sets.keep (fun _ s => !(s.ways.isEmpty && s.plru = 0))
    dump := { dump0 with imageSeq := k.dump.imageSeq, newestTest := k.dump.newestTest } }

/-- Mirroring starts again; the deltas that the partner has not acknowledged are kept for the next pairing. -/
def warmMirror (m : Mirror) : Mirror :=
  let deltas := m.unacked.filterMap (fun (x : Nat × MirRec) => match x.2 with
    | .delta fold paddock volume adm dseq d => some (⟨fold, paddock, volume, adm, dseq, d⟩ : DeltaRec)
    | _ => none)
  { mirror0 with journal := m.journal, missed := m.missed ++ deltas }

/-- The STRP islands: the journal in HBM survives; what was in flight is gone. -/
def warmStripes (s : Stripes) : Stripes :=
  { stripes0 with
    flocks := s.flocks.mapVals (fun _ (f : Flock) => { f with replayed := false })
    entries := (s.entries.keep (fun _ e => e.state ≠ 0)).mapVals (fun _ (e : JEntry) => { e with reads := [], recs := 0 })
    entryId := s.entryId
    jgen := s.jgen
    annexUsed := s.annexUsed
    drvId := s.drvId
    reconId := s.reconId
    lost := s.lost
    areaSeq := s.areaSeq
    listSeq := s.listSeq
    bgId := s.bgId
    shearNs := s.shearNs }

/-- The management side: the endpoint's configuration, PSKs and long operations are kept, rings, sessions and replies are not. -/
def warmMgmt (m : Mgmt) : Mgmt :=
  { mgmt0 with
    psks := m.psks
    ops := m.ops.mapVals (fun _ (op : LongOp) => { op with src := .record })
    opUse := m.opUse
    msix := m.msix
    pba := m.pba
    msixEn := m.msixEn
    msixMask := m.msixMask
    bme := m.bme
    memEn := m.memEn
    d3 := m.d3
    barSizing := m.barSizing
    cmdBits := m.cmdBits
    intLine := m.intLine
    linkUp := m.linkUp
    ignored := m.ignored
    eventLast := m.eventLast
    carried := m.carried }

/-- A slot keeps its path and its thermal model; what firmware ran on it is gone. -/
def warmSlot (r : SlotRun) : SlotRun :=
  { r with trainFails := 0, removeAt := none, forcedAt := none, quiesced := false, offAsked := false, forcedOff := false, refusedAt := none, linkDownAt := none }

/-- The chip as a warm reset leaves it. -/
def Chip.warmChip (c : Chip) : Chip :=
  let c := c.releaseLines
  let c := c.slotList.foldl (fun (c : Chip) s =>
    let c := if c.flag SLOT_CH_CTL_pwarn s then c.pwarn s false else c
    if c.flag SLOT_CH_CTL_perst_rel s then c.perst s true else c) c
  let c := c.warmRegs
  let t := c.twin
  let c : Chip := { c with
    mgmt := warmMgmt c.mgmt
    evt := { evt0 with atStart := c.evt.atStart }
    tally := { c.tally with waitingReads := [], throttledSince := [] }
    swx := swx0
    ports := { ports0 with lastTickClk := c.ports.lastTickClk, ptpLastClk := c.ports.ptpLastClk, ppsLastNs := c.ports.ppsLastNs, srcInForce := c.ports.srcInForce, utcInForce := c.ports.utcInForce }
    heldOut := []
    conns := []
    ctrls := []
    vols := c.vols.mapVals (fun _ (v : Volume) => { v with marks := [] })
    map := { c.map with learns := [], paths := [], foreign := [], foreignSeq := none, logging := 0, recentLogging := 0, learnWait := [], foreignWait := [],
                         rehash := c.map.rehash.mapVals (fun _ (r : Rehash) => { r with pos := r.fence }) }
    intake := { intake0 with order := c.intake.order, fwdNext := c.intake.fwdNext }
    shape := shape0
    creditQ := []
    connects := (0, 0)
    lost := []
    cache := warmCache c.cache
    mirror := warmMirror c.mirror
    twin := { twin0 with seq := t.seq, everPaired := t.everPaired, mine := t.mine, partner := t.partner, faults := t.faults, margin := t.margin, dirtyNs := t.dirtyNs, reportNo := t.reportNo,
                         myMask := t.myMask, theirMask := t.theirMask, corr := t.corr, uncorr := t.uncorr }
    stripes := warmStripes c.stripes
    cipher := { cipher0 with kek := c.cipher.kek, partnerKek := c.cipher.partnerKek, pads := c.cipher.pads, psks := c.cipher.psks, recSeq := c.cipher.recSeq }
    gov := { gov0 with pathSent := c.gov.pathSent }
    slots := c.slots.mapVals (fun _ (r : SlotRun) => warmSlot r) }
  let c := (List.range 32).foldl (fun (c : Chip) w => c.refreshSummary w) (c.tallyFlag 3)
  let c := [0, 1].foldl (fun (c : Chip) h => c.setChunks h (c.freeChunks h)) c
  let c := c.map.rehash.foldl (fun (c : Chip) x => c.set LONGOP_STATUS_status (loWord 8 3 (loErrs (c.lo x.2.slot)) x.2.fence) x.2.slot) c
  let c := c.set MAP_STATUS_rehash_busy (maskOf c.map.rehash.keys)
  c.stripes.flocks.keys.foldl (fun (c : Chip) n => c.showFlock n) (((c.showLines).showJnl).showLost)

/-- Operations without a fence end in state 6 with 0x0600; a rehash resumes at its own (R149, R434). -/
def Chip.endUnfenced (c : Chip) : Chip :=
  let fenced := (c.stripes.entries.keep (fun _ e => e.kind = 5 && e.isOpen)).vals.map (fun e => e.args.getD 4 64)
  (c.mgmt.ops.keys.filter (fun i => [1, 2, 3, 8].contains (loState (c.lo i)) && !fenced.contains i && !c.map.rehash.any (fun x => x.2.slot = i))).foldl (fun (c : Chip) i => c.loEnd i 6 0x0600) c

/-! ### Starts and their steps (R442, R443, R446) -/

def Chip.updRules (c : Chip) (f : RuleRecord → RuleRecord) : Chip := ({ c with flash := { c.flash with rules := f c.flash.rules } } : Chip).showRules

def Chip.updAttempts (c : Chip) (k n : Nat) : Chip := { c with flash := { c.flash with attempts := c.flash.attempts.put k n } }

/-- The start is held at its step (R446). -/
def Chip.holdStart (c : Chip) : Chip := ((c.updRules (fun r => { r with hold := true })).set LEDGER_STAT_held 1).raise 0x749

/-- ST13: in service. -/
def Chip.inService (c : Chip) : Chip :=
  let c : Chip := { c with start := { c.start with inServiceNs := c.clk } }
  let c := (((c.set GLB_START_in_service 1).raise 0x753).raiseIf c.start.warm 0x750).ledgerAppend 13 1 0 c.start.configErrs
  c.updAttempts 13 0

/-- A step is entered: its ledger entry, its attempt count, and what it begins with. -/
def Chip.enterStep (c : Chip) (k : Nat) : Chip :=
  let c := c.updAttempts k (min 15 (c.flash.attempts.getD k 0 + 1))
  let c : Chip := { c with start := { c.start with configErrs := 0 } }
  let c := (c.set GLB_START_step k).ledgerAppend k 0 0 0
  if k = 7 then (c.set TWIN_CTL_en 1).openExchange
  else if k = 8 then [32, 33].foldl (fun (c : Chip) s => perstReleaseDelay s c) c
  else if k = 10 then (List.range 32).foldl (fun (c : Chip) s => perstReleaseDelay s c) c
  else if k = 13 then c.inService
  else c

/-- A start begins: at ST00 when cold, at ST03 when warm; while the hold stands it is held at once. -/
def Chip.beginStart (c : Chip) (warm : Bool) : Chip :=
  let n := (c.flash.startNo + 1) % 2 ^ 32
  let c : Chip := { c with
    flash := { c.flash with startNo := n }
    start := { start0 with porst := false, warm := warm, st00Ns := if warm then c.start.st00Ns else c.clk, running := c.start.running } }
  let c := ((c.set LEDGER_STAT_start_no n).setFlag LEDGER_STAT_warm warm).enterStep (if warm then 3 else 0)
  if c.flash.rules.hold then (c.set LEDGER_STAT_held 1).raise 0x749 else c

def Chip.coldStart (c : Chip) : Chip := c.coldChip.beginStart false

/-- How a step ended, and what follows: the next step, a restart by AON, a restart after a new rule, a hold, recovery mode. -/
inductive Fate where
  | goOn | restart | ruled | hold | recovery
  deriving DecidableEq, Repr

structure StepEnd where
  chip    : Chip
  outcome : Nat
  reason  : Nat
  detail  : Nat
  fate    : Fate
  deriving DecidableEq, Repr

def done (c : Chip) : StepEnd := ⟨c, 1, 0, 0, .goOn⟩

/-- A failure that lets the start go on (R445). -/
def went (c : Chip) (reason detail : Nat) : StepEnd := ⟨c, 2, reason, detail, .goOn⟩

/-- A failure that the table does not cover restarts the chip (R445). -/
def again (c : Chip) (reason detail : Nat) : StepEnd := ⟨c, 2, reason, detail, .restart⟩

/-- The outcome goes into the ledger, with the configuration packets that failed where the step has no detail of its own; then the start goes on, or ends (R443, R445, R446, R449). -/
def Chip.endStep (e : StepEnd) : Chip :=
  let c := e.chip
  let k := c.get GLB_START_step
  let tries := c.flash.attempts.getD k 0
  let c := c.ledgerAppend k e.outcome e.reason (if e.reason = 0 then c.start.configErrs else e.detail)
  let c := (c.raiseIf (e.outcome = 2) 0x740).raiseIf (decide (3 ≤ e.outcome)) 0x741
  let c := if e.outcome = 2 then c else c.updAttempts k 0
  match e.fate with
  | .goOn => c.enterStep (k + 1)
  | .restart => if 3 ≤ tries then c.holdStart else { c with start := { c.start with failed := true } }
  | .ruled => { c with start := { c.start with failed := true } }
  | .hold => c.holdStart
  | .recovery => (c.set LEDGER_STAT_recovery 1).raise 0x744

/-! ### ST01 to ST06 (R58, R189, R352, R444, R445, R448, R449, R458) -/

/-- ST01: the fuses are sensed. -/
def Chip.endFuses (c : Chip) : StepEnd :=
  let c := c.senseFuses
  let errs := c.get FUSE_STAT_crc_err
  let c := (bitList errs 38).foldl (fun (c : Chip) _ => c.raise 0x74D) c
  if bit errs 0 then ⟨c, 2, 1, errs, .hold⟩ else if errs ≠ 0 then went c 1 errs else done c

/-- ST02: directory, rule record and ledger are shown; what cannot be read is rewritten empty. -/
def Chip.endLedger (c : Chip) (reason detail : Nat) : StepEnd :=
  let c := if reason ≠ 1 then c
    else
      let c : Chip := { c with flash := { c.flash with ledger := [], ledgerSeq := 0, attempts := [], rules := rules0, lastFail := [] } }
      (c.resetRegs [LEDGER_ENTRY] false).raise 0x74A
  let c := c.flash.ledger.foldl (fun (c : Chip) e => c.showLedger e.1 e.2) c
  let c := (c.showRules).set LEDGER_IMAGE_preferred c.flash.preferred
  if reason = 0 then done c else if reason = 1 then went c 1 detail else again c reason detail

/-- An image is started. -/
def Chip.runImage (c : Chip) (slot : Nat) (trial : Bool) : Chip :=
  let m := c.imageAt slot
  let c : Chip := { c with
    start := { c.start with running := slot, trialRun := trial, release := m.release, proto := m.proto }
    flash := { c.flash with trialOpen := trial } }
  let c := ((c.set LEDGER_IMAGE_running slot).setFlag LEDGER_IMAGE_trial trial).set LEDGER_IMAGE_release m.release
  (c.set LEDGER_IMAGE_preferred c.flash.preferred).showImages

/-- ST03: a trial that did not last is given up (event 0x74B); the slot on trial, or else the preferred one, is started if it verifies, else the other; else recovery mode. -/
def Chip.endImage (c : Chip) : StepEnd :=
  let c := if c.flash.trialOpen then (({ c with flash := { c.flash with trialOpen := false } } : Chip)).raise 0x74B else c
  let trial := c.flash.trial
  let c : Chip := { c with flash := { c.flash with trial := false } }
  let first := if trial then 1 - c.flash.preferred else c.flash.preferred
  let good := fun (s : Nat) => c.fuseValid 3 && c.imageVerdict (c.imageAt s) = 0
  if good first then done (c.runImage first trial)
  else if good (1 - first) then
    let c := c.raise 0x743
    let c := if trial then c
      else ({ c with flash := { c.flash with preferred := 1 - first } } : Chip).updRules (fun r => { r with prefMoved := true })
    went (c.runImage (1 - first) false) 1 first
  else ⟨c.showImages, 2, 2, 0, .recovery⟩

/-- ST04: the stacks are trained and HBM is laid out; a stack that failed in two consecutive starts is left out. -/
def Chip.endTraining (c : Chip) (reason detail : Nat) : StepEnd :=
  let bad := detail % 4
  if reason = 1 then
    let twice := bad &&& c.flash.lastFail.getD 4 0
    let c : Chip := { c with flash := { c.flash with lastFail := c.flash.lastFail.put 4 bad } }
    if c.id.half || twice = 0 || bad = 3 then again c 1 bad
    else ⟨c.updRules (fun r => { r with stackOff := twice }), 2, 1, bad, .ruled⟩
  else if reason ≠ 0 then again c reason detail
  else
    let c : Chip := { c with flash := { c.flash with lastFail := c.flash.lastFail.del 4 } }
    let off := c.flash.rules.stackOff
    if c.id.half || off = 0 then done c
    else
      let c := ((c.set CACHE_STATUS_stacks (3 - off)).raise 0x745).raise 0x31A
      let c := ((c.set TALLY_BASE_base_64b (tallyBase true c.homeStack / 64)).set PMC_SMP_BASE_base_64b (smpBase true c.homeStack / 64)).set WIN_XFER_base_2m (xferBase true c.homeStack / 2097152)
      let c := (List.range 64).foldl (fun (c : Chip) i => c.set LONGOP_RES_BASE_base_64b (resBase true i c.homeStack / 64) i) c
      ⟨c, 3, 0, 0, .goOn⟩

/-- ST05: stage 2 runs, the lanes are tested, the governor and the cipher are enabled, rings are fetched; without a configuration record that verifies, event 0x754 (R449). -/
def Chip.endUnits (c : Chip) (reason detail : Nat) (found : StepFound) : StepEnd :=
  let bad : List Nat × List Nat × Bool := match found with
    | .units lanes ports stage2Bad => (lanes, ports, stage2Bad)
    | _ => ([], [], false)
  if bad.2.2 then
    let c : Chip := { c with flash := { c.flash with images := c.flash.images.upd c.start.running (fun m => { m with sound := false }) } }
    again c.showImages reason detail
  else if reason ≠ 0 && bad.1 = [] && bad.2.1 = [] then again c reason detail
  else
    let c := (List.range (laneCount c.id)).foldl (fun (c : Chip) l => if bad.1.contains l then c.laneState l 2 else (c.katPass l).laneState l 0) c
    let c : Chip := { c with start := { c.start with deadPorts := maskOf bad.2.1 } }
    let c := (((c.set GOV_CTL_en 1).set CIPH_CTL_en 1).set CIPH_STATUS_entropy_ok 1).set CIPH_STATUS_drbg_ready 1
    let c := c.set GLB_ID_release c.start.release
    let fp := Config.sha384 c.devicePub
    let c := [0, 1].foldl (fun (c : Chip) j => c.set CIPH_DEV_FP_fp (unle ((fp.drop (8 * j)).take 8)) j) c
    let c := ((List.range 16).foldl (fun (c : Chip) r => c.sqRead r) c).raiseIf c.shelfCopy.isNone 0x754
    if bad.1 ≠ [] then went c 1 (maskOf bad.1) else if bad.2.1 ≠ [] then went c 2 (maskOf bad.2.1) else done c

/-- ST06: lanes that fail; those that failed in the last start too are disabled from the next one on; those disabled by rule are shown. -/
def Chip.endSerdes (c : Chip) (reason detail : Nat) (found : StepFound) : StepEnd :=
  let bad : Nat × Nat × Nat := match found with
    | .lanes eth part drv => (eth, part, drv)
    | _ => (0, 0, 0)
  if 1 < reason then again c reason detail
  else
    let eth := bad.1 ||| maskOf c.ports.trainFails.keys
    let last := fun (k : Nat) => c.flash.lastFail.getD k 0
    let old := c.flash.rules
    let rules : RuleRecord := { old with ethOff := old.ethOff ||| (eth &&& last 60), partOff := old.partOff ||| (bad.2.1 &&& last 61), drvOff := old.drvOff ||| (bad.2.2 &&& last 62) }
    let c : Chip := { c with flash := { c.flash with lastFail := ((c.flash.lastFail.put 60 eth).put 61 bad.2.1).put 62 bad.2.2 } }
    let c := (List.range 8).foldl (fun (c : Chip) p => c.set PORT_STATUS_lane_disabled (bits old.ethOff (4 * p + 3) (4 * p)) p) c
    let active := old.ethOff ≠ 0 || old.partOff ≠ 0 || old.drvOff ≠ 0
    let c := (c.raiseIf active 0x742).updRules (fun _ => rules)
    let groups := b2n (eth ≠ 0) + 2 * b2n (bad.2.2 ≠ 0) + 4 * b2n (bad.2.1 ≠ 0)
    if groups ≠ 0 then went c 1 groups else if active then ⟨c, 3, 0, 0, .goOn⟩ else done c

/-! ### ST08 and ST09 (R216, R243, R263, R256, R365, R445, R459, R461, R470) -/

/-- ST08: the records of the shelf. A warm start holds them in HBM. -/
def Chip.loadRecords (c : Chip) (found : StepFound) : Chip :=
  match found with
  | .records paddocks hosts grants vols flocks =>
    if c.start.warm then c
    else
      let c : Chip := { c with
        paddocks := paddocks
        hosts := hosts
        grants := grants
        grantNo := maxOr 0 (grants.vals.map (fun g => g.serial + 1))
        vols := vols
        stripes := { c.stripes with flocks := flocks.mapVals (fun _ (f : Flock) => { f with replayed := false }) } }
      flocks.keys.foldl (fun (c : Chip) n => c.showFlock n) c
  | _ => c

/-- The vaults hold nothing that verifies. -/
def replay0 : Replay :=
  { keys := none
    journal := none
    partner := []
    imageSeq := 0
    newestTest := 0
    image := false
    closed := false
    events := []
    lines := []
    missing := []
    deltas := []
    logTop := []
    lost := []
    stale := [] }

/-- The key record (R365). -/
def Chip.loadKeys (c : Chip) (k : Option KeyRecord) : Chip :=
  match k with
  | none => c
  | some k => { c with cipher := { c.cipher with kek := k.kek.map (fun x => (k.kekId, x)), pads := k.pads, recSeq := k.seq } }

def Chip.showKek (c : Chip) : Chip :=
  match c.cipher.kek with
  | some k => (c.set CIPH_KEK_ID_kek_id k.1).set CIPH_STATUS_kek_loaded 1
  | none => c

/-- The journal copy chosen; where none verifies every flock is to be scrubbed (event 0x394). -/
def Chip.loadJournal (c : Chip) (r : Replay) : Chip :=
  let j := r.journal.getD (0, [])
  let c : Chip := { c with
    mirror := { c.mirror with journal := r.partner }
    stripes := { c.stripes with
      entries := j.2.mapVals (fun _ (e : JEntry) => { e with reads := [], recs := 0, mseq := 0 })
      jgen := j.1
      entryId := maxOr 0 (j.2.keys.map (· + 1))
      annexUsed := ((j.2.vals.filter (fun e => e.annex && e.isOpen)).map JEntry.blocks).sum
      lost := r.lost } }
  if r.journal.isSome then c
  else
    let c : Chip := { c with stripes := { c.stripes with flocks := c.stripes.flocks.mapVals (fun _ (f : Flock) => { f with needScrub := true }) } }
    c.raise 0x394

/-- Restore a line of an image: Dirty, or Mirror where its descriptor says so. -/
def Chip.restoreLine (c : Chip) (l : Line) : Chip :=
  let l : Line := { l with pins := 0, bornNs := c.clk, st := if l.st = LineSt.mirror then LineSt.mirror else LineSt.dirty }
  match c.placeLine l with
  | some c => c
  | none => { c with cache := { c.cache with waiting := c.cache.waiting ++ [l] } }

/-- The replay of a cold start. -/
def Chip.replay (c : Chip) (r : Replay) : Chip :=
  let c := (c.loadKeys r.keys).showKek
  let c := c.loadJournal r
  let c := (c.updDump (fun d => { d with imageSeq := r.imageSeq, newestTest := r.newestTest })).raiseIf (r.image && !r.closed) 0x315
  let c := ((c.set CACHE_DUMP_STAT_image_seq r.imageSeq).setFlag CACHE_DUMP_STAT_last_closed (r.image && r.closed)).set STRIPE_LOST_STAT_marked r.lost.length
  let c : Chip := { c with
    map := { c.map with recent := r.deltas, logTop := r.logTop }
    evt := { c.evt with atStart := r.events.foldl (fun l e => addNew e l) c.evt.atStart } }
  let c := r.lines.foldl (fun (c : Chip) l => c.restoreLine l) c
  let c := r.stale.foldl (fun (c : Chip) x => c.updFlock x.1 (fun f => { f with stale := f.stale.put x.2.1 x.2.2 })) c
  c.stripes.flocks.keys.foldl (fun (c : Chip) n => c.showFlock n) ((c.showLost).showBg)

/-- The end of ST09: numbers resume (R168), cache and commits are enabled, recorded events are raised (R470), the dump is armed (R441). -/
def Chip.endReplay (c : Chip) : Chip :=
  let c := (c.vols.keys.foldl (fun (c : Chip) v => c.resumeSeq v) c).raiseIf (!c.vols.isEmpty) 0x290
  let c := ((c.set CACHE_CTL_en 1).set STRIPE_CTL_en 1).refreshLimit
  let c := c.evt.atStart.foldl (fun (c : Chip) e => c.raiseAs e true) c
  let c : Chip := { c with evt := { c.evt with atStart := [] } }
  ((c.showLines).showJnl).settleArmed

/-- ST09. What is missing makes the chip start once more with the replay retry flag, and is lost the second time. -/
def Chip.endStep9 (c : Chip) (reason detail : Nat) (found : StepFound) : StepEnd :=
  let r := match found with
    | .replay r => r
    | _ => replay0
  if 1 < reason then again c reason detail
  else if c.start.warm then
    done (c.showKek.endReplay)
  else if r.missing ≠ [] && !c.flash.rules.replayRetry then
    ⟨(c.updRules (fun x => { x with replayRetry := true })).raise 0x747, 2, 1, r.missing.length, .ruled⟩
  else
    let c := if c.flash.rules.replayRetry then c.updRules (fun x => { x with replayRetry := false }) else c
    let c := ({ c with start := { c.start with missing := r.missing } } : Chip).raiseIf (r.missing ≠ []) 0x748
    let c := (c.replay r).endReplay
    if r.missing ≠ [] then ⟨c, 3, 0, 0, .goOn⟩ else done c

/-! ### ST10 (R243, R265, R299, R434, R445) -/

/-- An open kind 5 entry of this chip resumes its operation in state 8 with its handle; after a cold start its slot is restored from the entry. -/
def Chip.resumeOwn (c : Chip) (x : Nat × JEntry) : Chip :=
  let e := x.2
  let at_ := fun (i : Nat) => e.args.getD i 0
  let i := at_ 4
  let opcode := bgOpcode (at_ 0)
  let c := if c.mgmt.ops.has i then c
    else
      let op : LongOp := ⟨opcode, at_ 10, .record, 2, 0, false, 2, 0, false, 0, [e.flock, at_ 9, at_ 8]⟩
      let c : Chip := { c with mgmt := { c.mgmt with ops := c.mgmt.ops.put i op, opUse := c.mgmt.opUse.put i (at_ 10 / 64) } }
      let c := ((c.set LONGOP_TOTAL_total (at_ 7) i).set LONGOP_RESULT_COUNT_count (at_ 11) i).set LONGOP_RES_BASE_base_64b (resBase c.oneStack i c.homeStack / 64) i
      ((c.set LONGOP_INFO_opcode opcode i).set LONGOP_INFO_handle (at_ 10) i).set LONGOP_START_start_ns e.openedNs i
  let c := c.set LONGOP_STATUS_status (loWord 8 (at_ 1) (at_ 6) (at_ 5)) i
  let other := c.stripes.bg.any (fun b => b.2.flock = e.flock && exclusive b.2.kind)
  let n := c.stripes.bgId
  let o : BgOp := { bg0 with
    kind := at_ 0, flock := e.flock, member := at_ 9, slot := i, step := at_ 1, folds := at_ 2, pos := at_ 3, mode := at_ 8, entry := some x.1, fenceNs := c.clk,
    queued := exclusive (at_ 0) && other }
  let c : Chip := { c with stripes := { c.stripes with bgId := n + 1, bg := c.stripes.bg.put n o } }
  ((if o.queued then c.loSetState i 1 else c).set STRIPE_BG_POS_position o.pos o.flock).raise 0x404

/-- A flock's members have come up: its open entries of the folds whose line this chip holds are replayed, its fences resume. -/
def Chip.bringUp (c : Chip) (n : Nat) : Chip :=
  let mine := c.stripes.entries.keep (fun _ e => decide (e.kind ≤ 4) && e.isOpen && e.flock = n && c.flag TWIN_FOLD_STAT_own_line e.fold)
  let c := mine.foldl (fun (c : Chip) x => c.replayEntry x.1) c
  let c := c.updFlock n (fun f => { f with replayed := true })
  let fences := c.stripes.entries.keep (fun _ e => e.kind = 5 && e.isOpen && e.flock = n)
  (fences.foldl (fun (c : Chip) x => c.resumeOwn x) c).showFlock n

/-- ST10. Slots that faulted are held off from the next start on. -/
def Chip.endDrives (c : Chip) (reason detail : Nat) : StepEnd :=
  let c := (c.stripes.flocks.keys.foldl (fun (c : Chip) n => c.bringUp n) c).showOps
  let c := (c.slotList.filter (fun s => !isVault s && c.flag DRV_NVME_STAT_ready s && (c.memberOf s).isSome)).foldl (fun (c : Chip) s => c.adminSend s 5 0) c
  if reason = 0 then done c
  else if reason = 1 then went (c.updRules (fun r => { r with holdSlots := (r.holdSlots ||| detail) % 2 ^ 34 })) 1 (detail % 2 ^ 34)
  else again c reason detail

/-! ### ST11 (R137, R445, R461, R462) -/

/-- A rehash that was under way goes on after a cold start from its last fence, in a slot of its own (R149): entries past the fence are found by the probe of both tables. -/
def Chip.resumeRehash (c : Chip) (h : Nat) (r : Rehash) : Chip :=
  match c.loStart c.selfHdr 0x0302 (2 ^ (c.table h r.k).s) [h, r.k, r.newS] with
  | none => c
  | some (c, i, _) =>
    let c : Chip := { c with map := { c.map with rehash := c.map.rehash.put h { r with slot := i, pos := r.fence } } }
    let c := ((c.set MAP_TBL_NEXT_base_64b (r.newBase / 64) h r.k).set MAP_TBL_NEXT_s r.newS h r.k).set MAP_TBL_NEXT_active 1 h r.k
    (c.set LONGOP_STATUS_status (loWord 8 3 0 r.fence) i).set MAP_STATUS_rehash_busy (setBit (c.get MAP_STATUS_rehash_busy) h true)

/-- Lay out the tables of the map: as an image has them, else as a new map, under new seeds. On an SV3432 with one stack the sizes are those of the SV1816. -/
def Chip.layMap (c : Chip) (m : Option MapImage) : Chip :=
  let rebuilt := c.oneStack && !c.id.half
  match (if rebuilt then none else m) with
  | some m =>
    let c := m.tables.foldl (fun (c : Chip) t => ((c.set MAP_TBL_CFG_base_64b t.base t.half t.k).set MAP_TBL_CFG_s t.s t.half t.k).set MAP_TBL_SEED_seed t.seed t.half t.k) c
    m.rehash.foldl (fun (c : Chip) x => c.resumeRehash x.1 x.2) { c with map := { c.map with rgnSeed := m.rgnSeed, freeArea := m.freeArea } }
  | none =>
    let c := (List.range 42).foldl (fun (c : Chip) i =>
      let h := i / 21
      let k := i % 21
      let f := c.fresh
      let c := f.2.set MAP_TBL_SEED_seed f.1 h k
      if rebuilt then (c.set MAP_TBL_CFG_base_64b (mapTableBase c.layoutId h k c.homeStack / 64) h k).set MAP_TBL_CFG_s (rstTableS c.layoutId k) h k else c) c
    [0, 1].foldl (fun (c : Chip) h =>
      let f := c.fresh
      let c : Chip := { f.2 with map := { f.2.map with rgnSeed := f.2.map.rgnSeed.put h (f.1 % 2 ^ 64) } }
      if rebuilt then c.set MAP_RGN_CFG_base_64b (mapTableBase c.layoutId h 21 c.homeStack / 64) h else c) c

/-- Apply a delta of the log to the map; an epoch that the volume's record already has stays. Answers whether it found room. -/
def Chip.loadDelta (acc : Bool × Chip) (r : DeltaRec) : Bool × Chip :=
  let c := acc.2
  let old : Bool := match r.change with
    | .epoch volume epoch _ => (c.vols.get? volume).any (fun v => decide (epoch ≤ v.epoch))
    | _ => false
  if old then (acc.1, { c with map := { c.map with recent := c.map.recent ++ [r] } })
  else
    let x := c.applyDelta r
    (acc.1 && x.1, x.2)

/-- Load the map; answers whether every entry found room. -/
def Chip.loadMap (c : Chip) (m : Option MapImage) : Bool × Chip :=
  let c := c.layMap m
  let ins := ((m.map (·.entries)).getD []).foldl (fun (acc : Bool × Chip) e =>
    let x := acc.2.insertEntry e
    (acc.1 && x.1, x.2)) (true, c)
  let rgn := ((m.map (·.regions)).getD []).foldl (fun (c : Chip) x => (c.rgnBits x.1 x.2.1 x.2.2 true).getD (c.setFilterOnly x.1 true)) ins.2
  let c := ((m.map (·.filterOnly)).getD []).foldl (fun (c : Chip) l => c.setFilterOnly l true) rgn
  let ds := c.map.recent
  let c : Chip := { c with map := { c.map with recent := [], dseq := maxOr ((m.map (·.dseq)).getD 0) (((m.map (·.dseq)).getD 0) :: ds.map (·.dseq)) } }
  let r := ds.foldl Chip.loadDelta (ins.1, c)
  (r.1, [0, 1].foldl (fun (c : Chip) h => (c.setChunks h (c.freeChunks h)).showRegions h) r.2)

/-- Does any table hold more than 90 % of its slots? -/
def Chip.mapCrowded (c : Chip) : Bool :=
  (List.range 42).any (fun i =>
    let t := c.table (i / 21) (i % 21)
    decide (2 ^ t.s * 4 * 90 < c.get MAP_TBL_STAT_entries (i / 21) (i % 21) * 100))

/-- A block whose newest dumped version is lost takes the lost marker under a repair entry, with its parity, and is listed (R461). -/
def Chip.loseAtStart (c : Chip) (volume lba : Nat) : Chip :=
  match (c.vols.get? volume).bind (fun v => c.entryOf v (acreOf lba)) with
  | none => c
  | some e =>
    match c.flock? e.flock with
    | none => c
    | some f =>
      let p := f.place (e.acre (acreOf lba)) (lba % 1024)
      let fold := (f.foldOf p.1).getD 0
      if e.zero || !c.flag TWIN_FOLD_STAT_own_line fold then c
      else
        let x : JEntry := { entry0 with
          kind := 4, replayed := true, flock := e.flock, stripe := p.1, fold := fold, lo := p.2.2, hi := p.2.2, openedNs := c.now, bad := [p.2.1 * 16 + p.2.2],
          written := maskOf [p.2.1, f.w, f.w + 1] }
        let r := c.addEntry x
        (r.2.readEntry r.1 (x.planReads f)).entryGathered r.1

/-- ST11. A warm start keeps the map in HBM. -/
def Chip.endMap (c : Chip) (reason detail : Nat) (found : StepFound) : StepEnd :=
  let m := match found with
    | .map m => some m
    | _ => none
  let paired := decide (c.get TWIN_STATUS_pair_state = 1)
  if 2 < reason || (reason = 2 && !paired) then again c reason detail
  else
    let r := if c.start.warm then (true, c) else c.loadMap m
    let c := r.2.set MAP_CTL_en 1
    let tight := c.oneStack && !c.id.half && (!r.1 || c.mapCrowded)
    if reason = 1 || tight then
      let c := ({ c with start := { c.start with misfit := true } } : Chip).releaseLines
      went (c.raise 0x752) 1 detail
    else
      let c := c.start.missing.foldl (fun (c : Chip) x => c.loseAtStart x.1 x.2) c
      let c : Chip := { c with start := { c.start with missing := [] } }
      if reason = 2 then went c 2 detail else done c

/-! ### ST12 (R58, R81, R442) -/

/-- Firmware enables the sub-ports of a port that its configuration has left off, and gives the priorities their classes. -/
def Chip.enablePort (c : Chip) (p : Nat) : Chip :=
  let img := c.readReg PORT_CFG p 0
  let subs := maskOf ((List.range 4).filter (fun s => subLanes (PORT_CFG_mode.of img) s ≠ []))
  let c := if PORT_CFG_sub_en.of img = 0 then c.writePortCfg p (img + subs * 2 ^ PORT_CFG_sub_en.lo) else c
  if c.get PORT_PRIO_MAP_cls_map p = 0 then c.set PORT_PRIO_MAP_cls_map 0x016A p else c

/-- ST12: sub-ports, transports, intake and tallies are enabled. A sub-port on a disabled lane stays down, with its event. -/
def Chip.endPorts (c : Chip) (reason detail : Nat) : StepEnd :=
  let c := ((List.range 8).filter (fun p => !portAbsent c.id p)).foldl (fun (c : Chip) p => c.enablePort p) c
  let c := (((c.set DROVE_DRV_CFG_en 1).set CMDQ_CTL_en 1).set TALLY_CTL_en 1)
  let off := c.subsOn.filter (fun s => (subLanes (c.portMode (s / 4)) (s % 4)).any (fun l => bit (c.get PORT_STATUS_lane_disabled (s / 4)) l))
  let c := off.foldl (fun (c : Chip) s => c.raise (portEvent (s / 4) 5)) c
  if reason = 0 then done c else if reason = 1 then went c 1 detail else again c reason detail

/-! ### The rows of the start -/

/-- Does a start run that takes its steps? -/
def Chip.starting (c : Chip) : Bool :=
  !c.start.porst && !c.start.failed && !c.flag LEDGER_STAT_held && !c.flag LEDGER_STAT_recovery && !c.flag GLB_START_in_service

/-- How the step in hand ended. -/
def Chip.stepEnd (c : Chip) (reason detail : Nat) (found : StepFound) : StepEnd :=
  match c.get GLB_START_step with
  | 0 => if reason = 0 then done c else again c reason detail
  | 1 => c.endFuses
  | 2 => c.endLedger reason detail
  | 3 => c.endImage
  | 4 => c.endTraining reason detail
  | 5 => c.endUnits reason detail found
  | 6 => c.endSerdes reason detail found
  | 7 =>
    let c := c.claimStart false
    if reason = 0 then done c else if reason = 1 then went c 1 detail else again c reason detail
  | 8 =>
    let c := c.loadRecords found
    if reason = 0 then done c else if reason = 1 then went c 1 detail else again c reason detail
  | 9 => c.endStep9 reason detail found
  | 10 => c.endDrives reason detail
  | 11 => c.endMap reason detail found
  | 12 => c.endPorts reason detail
  | _ => done c

/-- START_STEP_DONE (R442 to R445): the step in hand ends, with the reason and detail that the ledger takes and what it found. -/
def startStepDone (reason detail : Nat) (found : StepFound) (c : Chip) : Chip := if c.starting then Chip.endStep (c.stepEnd reason detail found) else c

/-- START_STEP_TIMEOUT (R445): the step has not ended in time; steps whose failure the table covers end so, the others restart the chip. -/
def startStepTimeout (reason detail : Nat) (c : Chip) : Chip :=
  if !c.starting then c
  else if [4, 7, 8, 10, 12].contains (c.get GLB_START_step) then Chip.endStep (c.stepEnd (if reason = 0 then 1 else reason) detail .nothing)
  else Chip.endStep (again c reason detail)

/-- AON_RESTART (R445): after the failure of a step AON starts the chip from ST00. -/
def aonRestart (c : Chip) : Chip := if c.start.failed then c.coldStart else c

/-- PORST_ASSERT (R440). -/
def porstAssert (c : Chip) : Chip :=
  let c := c.pinsOff
  { c with start := { c.start with porst := true }, gov := { c.gov with tripped := false } }

/-- PORST_RELEASE (R442, R446): a cold start; a hold has ended. -/
def porstRelease (c : Chip) : Chip :=
  if c.start.porst then ({ c with flash := { c.flash with rules := { c.flash.rules with hold := false } } } : Chip).coldStart else c

/-- POWER_RETURN (R211): in dump-done the return of power starts the chip from cold. -/
def powerReturn (c : Chip) : Chip := if c.cache.dump.phase = 4 then c.coldStart else c

/-- WARM_RESET (R463): WARM_RST_N, or command. During a dump for a loss of power the dump starts again from its first segment (R217). -/
def warmReset (c : Chip) : Chip :=
  if c.start.porst || c.cache.dump.phase = 4 then c
  else if c.powerDump then ((c.updDump (fun d => { d with restarted := true })).dumpEvent 0x314).dumpWrite
  else (c.warmChip.endUnfenced).beginStart true

/-! ### Island resets (R21, R463 to R465) -/

/-- The switch discards the messages to and from an attach point, and both sides count from 0 again; the discarded are counted (R21, R45). A message that was pushed out is not in the
switch: its notice goes to its source, which resends it, unless the source is what is reset. A copy that is discarded leaves its tap's store. -/
def Chip.discardAt (c : Chip) (ap : Nat) : Chip :=
  let before := c.occAll
  let w := c.swx
  let hit := fun (x : Cell) => x.src = ap || x.dst = ap
  let gone := w.queues.vals.flatMap (fun q => q.filter hit)
  let rest := (w.held ++ w.reorder ++ w.bad ++ w.resend).filter hit
  let lost := ((gone ++ rest).map (fun x => (x.src, x.msgId))).eraseDups
  let flown := w.flight.keep (fun k f => k / 65536 = ap || f.dst = ap)
  let dropped := fun (k : Nat) => k / 65536 = ap || flown.has k
  let pair := fun (k : Nat) => k / 32 = ap || k % 32 = ap
  let mine := fun (m : KeptMsg) => decide (m.src = ap) || (decide (m.dst = ap) && !w.notices.any (fun n => n.1 = m.src && n.2.1 = m.msgId))
  let freed := w.copies.keep (fun k _ => dropped k)
  let c : Chip := { c with swx := { w with
    queues := (w.queues.mapVals (fun _ q => q.filter (fun x => !hit x))).keep (fun _ q => !q.isEmpty)
    held := w.held.filter (fun x => !hit x)
    reorder := w.reorder.filter (fun x => !hit x)
    bad := w.bad.filter (fun x => !hit x)
    resend := w.resend.filter (fun x => !hit x)
    replay := w.replay.mapVals (fun _ q => q.filter (fun x => !hit x))
    kept := w.kept.filter (fun m => !mine m)
    notices := w.notices.filter (fun n => n.1 ≠ ap)
    reports := w.reports.filter (fun r => r.1 ≠ ap)
    flight := w.flight.keep (fun k _ => !flown.has k)
    poisoned := w.poisoned.filter (fun p => !flown.has (flightKey p.1 p.2))
    asm := w.asm.keep (fun k _ => !pair (k / 65536))
    copies := w.copies.keep (fun k _ => !dropped k)
    copyStore := freed.foldl (fun t e => t.updD (e.1 / 65536) 0 (fun n => n - e.2.bytes.length)) w.copyStore
    seqNext := w.seqNext.keep (fun k _ => !pair k)
    seqExpect := w.seqExpect.keep (fun k _ => !pair k) } }
  let c := gone.foldl (fun (c : Chip) x => (c.lessen SWX_CLASS_STAT_occ 1 x.cls).lessen SWX_OUT_STAT_queued 1 x.dst) c
  (c.bumpS SWX_RESET_DISCARD_discarded SWX_RESET_DISCARD_stuck lost.length).refreshBuffer before

/-- Instances of registers return to their reset values, but for what a warm reset keeps (R464). -/
def Chip.resetAt (c : Chip) (rs : List Reg) (at_ : List Nat) : Chip :=
  { c with regs := c.regs.keep (fun k _ => !rs.any (fun r => match r.geo.index? (k / 64) with
      | some (i, _) => at_.contains i && r.fields.any (fun f => f.lo = k % 64 && !f.kept)
      | none => false)) }

/-- A PORT island: its links retrain. Its port's registers are at reset, and firmware enables its sub-ports again; lanes disabled by rule stay so. -/
def Chip.resetPort (c : Chip) (p : Nat) : Chip :=
  let c := [0, 1, 2, 3].foldl (fun (c : Chip) s => subportLinkChange (4 * p + s) false none c) c
  let off := c.get PORT_STATUS_lane_disabled p
  ((c.resetAt (regsPort.filter (fun r => r.geo.absence = .port)) [p]).set PORT_STATUS_lane_disabled off p).enablePort p

/-- DRIVE side: outstanding commands time out at once, PERST_N is pulsed (R465); the registers of the slot's drive port are at reset. -/
def Chip.resetPortSlot (c : Chip) (s : Nat) : Chip :=
  let own := [DRV_LINK_CFG, DRV_LINK_STAT, DRV_NVME_STAT]
  if !c.slotOk s then c
  else if !c.flag DRV_LINK_STAT_up s then c.resetAt own [s]
  else
    let c := c.linkLost s
    let out := c.stripes.drv.filter (fun e => e.2.slot = s && e.2.pen = 0)
    let c := (out.foldl (fun (c : Chip) e => c.timeOut e.1 e.2) c).resetAt own [s]
    let c := ((c.perst s true).perst s false).updRun s (fun r => { r with trainFails := 0, trainGen := min 2 (c.get DRV_LINK_CFG_max_gen s) })
    c.showLed s

/-- Entries of a parity island are taken from HBM and replayed; drive commands made for them count no more. -/
def Chip.resetStrp (c : Chip) (k : Nat) : Chip :=
  let mine := (c.stripes.entries.keep (fun _ e => decide (e.kind ≤ 4) && e.isOpen && c.strpOf e.stripe = k)).keys
  let ours := fun (d : DrvCmd) => match d.use with
    | .entryRead n _ => mine.contains n
    | .entryWrite n _ => mine.contains n
    | .background _ _ => true
    | _ => false
  let drv := (c.stripes.drv.keep (fun _ d => !(ours d && d.pen = 3))).mapVals (fun _ (d : DrvCmd) => if ours d then { d with use := .admin 0 } else d)
  let c : Chip := { c with stripes := { c.stripes with drv := drv } }
  let c := mine.foldl (fun (c : Chip) n => c.replayEntry n) c
  let ops := c.stripes.bg.keep (fun _ o => decide (o.kind ≤ 4) && !o.queued)
  ops.foldl (fun (c : Chip) x =>
    let at_ := minOr x.2.pos (x.2.aside ++ [x.2.pos])
    let at_ := minOr at_ (x.2.cur.toList ++ [at_])
    let c := c.updBg x.1 (fun o => { o with pos := at_, cur := none, owed := [], singles := [], have_ := [], bad := [], penned := [], writes := [], phase := 0 })
    (c.loSetState x.2.slot 8).raise 0x404) c

/-- A command island: what is not admitted is discarded, the sessions with commands there are lost, numbers resume (R168). -/
def Chip.resetCmd (c : Chip) (k : Nat) : Chip :=
  let here := c.intake.cmds.keep (fun key _ => key / 16384 = k)
  let c := (here.vals.filter (fun x => x.fwd.isNone)).foldl (fun (c : Chip) x => c.loseQueue x.ctx) c
  let c := (here.keep (fun _ x => x.fwd.isSome && x.st = .queued)).foldl (fun (c : Chip) x => c.dropCmd x.1 x.2) c
  let mine := c.vols.keep (fun _ v => v.fold % c.cmdIslands.length = k)
  (mine.keys.foldl (fun (c : Chip) v => c.resumeSeq v) c).raiseIf (!mine.isEmpty) 0x290

/-- A cipher island: its caches are zeroed (R364); a lane whose tests pass is in service, one whose tests fail is disabled with event 0x484 (R351). What the tests come to is a free value. -/
def Chip.resetCiph (c : Chip) (isl : Nat) : Chip :=
  let c := ({ c with cipher := { c.cipher with ctxs := c.cipher.ctxs.put isl [] } } : Chip).showCtxs isl
  let f := c.fresh
  ((List.range 8).filter (fun i => decide (isl * 8 + i < laneCount c.id))).foldl (fun (c : Chip) i =>
    if bit f.1 i then (c.katPass (isl * 8 + i)).laneState (isl * 8 + i) 0 else (c.raise 0x484).laneState (isl * 8 + i) 2) f.2

/-- What follows the reset of one island (R465). Registers that are the island's own, its instance of an indexed register, are at reset (R464); registers that all islands of a kind share stay, and so do those of
the map, which show what HBM keeps (assumption 134). -/
def Chip.recoverIsland (c : Chip) (i : Nat) : Chip :=
  if i ≤ 7 then c.resetPort i
  else if i ≤ 11 then (c.conns.keys.filter (fun x => x / 65536 = i - 8)).foldl (fun (c : Chip) x => c.loseQueue x) c
  else if i ≤ 13 then c
  else if i ≤ 17 then (c.resetCmd (i - 14)).resetAt [CMDQ_ISL_STAT, CMDQ_ISL_TAGS] [i - 14]
  else if i ≤ 19 then c
  else if i ≤ 23 then (c.resetStrp (i - 20)).resetAt [STRIPE_ISL_STAT] [i - 20]
  else if i ≤ 26 then (c.resetAt [CIPH_LANE] ((List.range 8).map (fun l => 8 * (i - 24) + l))).resetCiph (i - 24)
  else if i ≤ 30 then (List.range 8).foldl (fun (c : Chip) s => c.resetPortSlot (8 * (i - 27) + s)) c
  else if i = 31 then [32, 33].foldl (fun (c : Chip) s => c.resetPortSlot s) c
  else c

/-- One island is reset. A reset of a SWX, CACHE, MGMT or PART island that lasts longer than split_ms is carried out as a warm reset; AON has none (R463). -/
def islandReset (island : Nat) (long : Bool) (c : Chip) : Chip :=
  if 36 ≤ island || islandAbsent c.id island then c
  else if long && [18, 19, 32, 33, 34, 35].contains island then warmReset c
  else
    let c := match attachPoint island with
      | some ap => c.discardAt ap
      | none => c
    let away := fun (k : Nat) => decide (k / 64 ≠ island) && decide (k % 64 ≠ island)
    let c : Chip := { c with swx := { c.swx with
      stiles := c.swx.stiles.keep (fun k _ => away k),
      stileWait := c.swx.stileWait.keep (fun k _ => away k) } }
    ((c.raise 0x751).tallyFlag 3).recoverIsland island

/-- ISLAND_WATCHDOG_EXPIRY (R463): idle with work queued for 100 ms. -/
def islandWatchdogExpiry (island : Nat) (c : Chip) : Chip := islandReset island false c

def chipResetInfo : CmdInfo := ⟨0x0B10, false, .w, paramBytes [1, 1]⟩

/-- The refusal of a CHIP_RESET's parameters. -/
def Chip.resetRefusal (c : Chip) (kind island : Nat) : Option (Nat × Nat) :=
  if 3 ≤ kind then some (0x0102, 32) else if kind = 2 then (if island = 36 then some (0x0102, 33) else islandRefusal c island 33) else none

/-- CHIP_RESET (0x0B10, R463): the reply goes out first. A chip that owns no fold says in its last whistle that it leaves (R398). -/
def chipReset (h : Hdr) (kind island : Nat) (c : Chip) : Chip :=
  let go := (c.refusal chipResetInfo h []).isNone && (c.resetRefusal kind island).isNone
  let c := runCommand chipResetInfo h [] (fun c => Res.guard c [c.resetRefusal kind island] (fun c => Res.ok c)) c
  if !go then c
  else
    let c := match c.cqOf h.src with
      | some q => cqDrain q c.mgmt.replies.length c
      | none => c
    if kind = 2 then islandReset island false c
    else
      let c := if c.foldMask TWIN_FOLD_STAT_own_line = 0 && c.flag TWIN_CTL_en then c.whistle true else c
      if kind = 1 then c.coldStart else warmReset c

end Sys2Proof.Machine
end

