-- ==== Sys2Proof/Machine/Settle.lean ====
section
/-!
DEFINITION. When a command acts at all (a chip that is stopped, dumping or withdrawn takes no part in most of them), and what the block settles at the end of a
command that may have freed or ended something: queue pairs lost, reads and writes that can end, commits, marks, erasures, and the registers that show counts of all these.
-/

namespace Sys2Proof.Machine

/-- Nothing but AON and the pins acts: the chip has tripped (R311), PORST_N is asserted (R440), a failed start waits for AON (R445), or the dump is done (R211). -/
def Chip.stopped (c : Chip) : Bool :=
  c.gov.tripped || c.start.porst || c.start.failed || decide (c.cache.dump.phase = 4)

/-- Who takes part in a command. `up`: the running chip. `network`: the network side and admission, which end with a dump for a loss of power and with the chip's withdrawal (R211, R376). `work`: what
submits or commits anew, which ends with such a dump (R211, step 3). `gated`: the islands that its step 4 power-gates. `aon`: the always-on island. `pin`: a pin of the chip. -/
inductive Gate where
  | up
  | network
  | work
  | gated
  | aon
  | pin
  deriving DecidableEq, Repr

/-- Do the parts that a command acts on run? -/
def Gate.admits (g : Gate) (c : Chip) : Bool :=
  match g with
  | .up => !c.stopped
  | .network => !c.stopped && !c.powerDump && !c.twin.withdrawn
  | .work => !c.stopped && !c.powerDump
  | .gated => !c.stopped && !(c.powerDump && c.cache.dump.gated)
  | .aon => !c.start.porst
  | .pin => true

/-- A command's effect on the chip: none while its parts do not run. -/
def Chip.under (g : Gate) (f : Chip → Chip) (c : Chip) : Chip := if g.admits c then f c else c

/-- Work that waited for the DRBG goes on once it runs (R349). -/
def Chip.settleDrbg (c : Chip) : Chip :=
  if c.drbgStopped then c
  else
    let ws := c.cipher.drbgWait
    ws.foldl (fun (c : Chip) w => match w with
      | .rehash half k s slot => c.rehashAsked half k s slot
      | .flock h flock width z n slots blocks => Chip.finishLater flockCreateInfo h (c.makeFlock flock width z n slots blocks)
      | .fuse h => Chip.finishLater fuseProgramInfo h (Res.ok c.burnRoot)) { c with cipher := { c.cipher with drbgWait := [] } }

/-- What the block settles at the end of a command. -/
def Chip.settle (c : Chip) : Chip :=
  if c.stopped then c
  else
    let c := if c.powerDump then c.dropRemovals else c.settleOwner
    let c := ((Chip.settleLost 4096 c).forwardWaiting).numberFlushes
    let c := (c.settleDrbg.nextRehash.settlePlacing).wakeLearns.retryDelta.commitCrowded
    let c := (c.wakeReads.settleStripes).endIo
    let c := (c.supersede.runMarks).settleErase.settleRetire
    let c := c.settleFlush.settleArmed
    (c.showCmds.showLines).showSeq

/-- Host commands whose message was lost in the switch fail with Internal Error (R36, R175): one that waits for admission at once, one under way where it ends. -/
def Chip.settleDamaged (c : Chip) : Chip :=
  if c.swx.damaged.isEmpty then c
  else
    let keys := c.swx.damaged
    let c : Chip := { c with swx := { c.swx with damaged := [] } }
    (keys.foldl (fun (c : Chip) key =>
      match c.intake.cmds.get? key with
      | some k => if k.st = .queued then c.finishCmd key stInternal else c.updCmd key (fun k => { k with bad := if k.bad = 0 then stInternal else k.bad })
      | none => c) c).settle

/-- What a step on an empty queue lets pass: one microsecond of elapsed time, and of the timebase while the chip runs, in which the ports hand on what has come in (assumption 2, DESIGN CHOICE). The LED chain
is latched every 5 ms (R336). -/
def Chip.tick (c : Chip) : Chip :=
  let latch := decide (c.clk / 5000000 < (c.clk + 1000) / 5000000)
  let c : Chip := { c with clk := c.clk + 1000, now := if c.stopped then c.now else c.now + 1000 }
  if c.stopped then c
  else
    let c := c.drainIngress
    if latch then c.send (.ledChain c.ledChain) else c

end Sys2Proof.Machine
end

