-- ==== Sys2Proof/Machine/State.lean ====
section
/-!
DEFINITION. The machine's state: everything the block holds, and the commands that wait for it, first in, first out. With it the reasons a step can stop, the state after reset, and
how a command's effect on the chip becomes a step of the state.
-/

namespace Sys2Proof.Machine

structure State where
  chip    : Chip
  pending : List Instr
  deriving DecidableEq, Repr

/-- The faults of a step. There is none: no row of the table stops the block, and a register offset, slot or address that does not exist has its effect in the spec (R5, R12, R410). -/
inductive Fault where
  deriving DecidableEq, Repr

/-- The refusals of a step. -/
inductive Refusal where
  /-- Raised by an arm of `exec` for a command without a meaning; safe, since the machine stops. No arm raises it. -/
  | notModelled (mnemonic : String)
  deriving DecidableEq, Repr

/-- The machine right after reset: an SV3432, chip A of its pair, just released from PORST_N, at ST00 (R442); no command waits (assumption 1). -/
def State.reset : State := ⟨porstRelease (freshChip ⟨false, false, 0⟩), []⟩

/-- A command's effect on the chip, while the parts that it acts on run; the queue stays. -/
def State.run (s : State) (g : Gate) (f : Chip → Chip) : Host.Outcome State Fault Refusal :=
  .next { s with chip := s.chip.under g f }

/-- The same, and the block settles what the command has freed or ended. -/
def State.runSettled (s : State) (g : Gate) (f : Chip → Chip) : Host.Outcome State Fault Refusal :=
  s.run g (fun c => (f c).settle)

end Sys2Proof.Machine
end

