-- ==== Sys2Proof/Machine/ExecCache.lean ====
section
/-!
DEFINITION. The meanings of the commands of the write buffer, the mirror and the dump. Each is its row's function on the chip, run while the parts that it acts on run (Machine/Settle.lean).
-/

namespace Sys2Proof.Machine

/-- VOLUME_RANGE_OP (R207): Marker that cleans, flushes or invalidates a block range on the range engines of the stacks concerned. -/
def execVolumeRangeOp (h : Hdr) (volume op lba count : Nat) (s : State) : Host.Outcome State Fault Refusal := s.runSettled .up (volumeRangeOp h volume op lba count)

/-- CACHE_MODE_SET (R206): Switches a volume or the chip to write-through with a drain, or back to write-back. -/
def execCacheModeSet (h : Hdr) (scope volume image : Nat) (s : State) : Host.Outcome State Fault Refusal := s.runSettled .up (cacheModeSet h scope volume image)

/-- HOLDUP_SET (R209): Sets hold-up energy, dump power, vault rate and quiesce time and returns the hold-up bound. -/
def execHoldupSet (h : Hdr) (joules watts mbps quiesceMs : Nat) (s : State) : Host.Outcome State Fault Refusal := s.runSettled .up (holdupSet h joules watts mbps quiesceMs)

/-- DUMP_TEST (R212): Long operation that writes a test dump image without a power loss and resumes service. -/
def execDumpTest (h : Hdr) (s : State) : Host.Outcome State Fault Refusal := s.runSettled .up (dumpTest h)

/-- VAULT_AREA_SET (R213): Writes the dump, checkpoint, record and key-record area registers. -/
def execVaultAreaSet (h : Hdr) (dumpCfg dumpArea ckptArea recArea keyArea : Nat) (s : State) : Host.Outcome State Fault Refusal := s.runSettled .up (vaultAreaSet h dumpCfg dumpArea ckptArea recArea keyArea)

/-- VERSION_ROOM_FREED (R194): A version waiting for a way or overflow slot is created when room frees. -/
def execVersionRoomFreed (s : State) : Host.Outcome State Fault Refusal := s.runSettled .work versionRoomFreed

/-- LIMIT_ROOM_FREED (R201): Versions or mirror records held at the dirty limit proceed as dirty bytes fall. -/
def execLimitRoomFreed (s : State) : Host.Outcome State Fault Refusal := s.runSettled .work limitRoomFreed

/-- DIRTY_AGE_EXPIRY (R201): A Dirty line older than age_ms is offered for commit by read-modify-write. -/
def execDirtyAgeExpiry (volume lba seq : Nat) (s : State) : Host.Outcome State Fault Refusal := s.runSettled .work (dirtyAgeExpiry volume lba seq)

/-- MIRROR_LINE_RX (R202): A partner line record becomes a Mirror line and is acknowledged. -/
def execMirrorLineRx (mseq : Nat) (l : Line) (s : State) : Host.Outcome State Fault Refusal := s.runSettled .gated (mirrorLineRx mseq l)

/-- RETIRE_RX (R202): A retire record frees the Mirror lines of its block run at or below its seq. -/
def execRetireRx (mseq volume fold lba count seq : Nat) (s : State) : Host.Outcome State Fault Refusal := s.runSettled .gated (retireRx mseq volume fold lba count seq)

/-- JOURNAL_ENTRY_RX (R202): A partner journal entry record is held in the mirror. -/
def execJournalEntryRx (mseq entry : Nat) (e : JEntry) (s : State) : Host.Outcome State Fault Refusal := s.runSettled .gated (journalEntryRx mseq entry e)

/-- MAP_DELTA_RX (R508): A partner map delta is applied in mseq order to this chip's tables. -/
def execMapDeltaRx (mseq : Nat) (r : DeltaRec) (s : State) : Host.Outcome State Fault Refusal := s.runSettled .gated (mapDeltaRx mseq r)

/-- DISCARD_RX (R206): A discard record drops the named Mirror copies. -/
def execDiscardRx (mseq volume fold lba count : Nat) (s : State) : Host.Outcome State Fault Refusal := s.runSettled .gated (discardRx mseq volume fold lba count)

/-- MIRROR_ACK_RX (R203): A held_mseq acknowledgement completes held writes and releases waiting commits. -/
def execMirrorAckRx (held : Nat) (s : State) : Host.Outcome State Fault Refusal := s.runSettled .gated (mirrorAckRx held)

/-- MIRROR_ACK_SEND (R203): The receiver sends held_mseq at least every 2 µs while records arrive. -/
def execMirrorAckSend (s : State) : Host.Outcome State Fault Refusal := s.runSettled .gated mirrorAckSend

/-- MIRROR_ACK_OVERDUE (R219): A mirror acknowledgement outstanding over 1 ms raises event 0x305. -/
def execMirrorAckOverdue (s : State) : Host.Outcome State Fault Refusal := s.run .gated mirrorAckOverdue

/-- HBM_ECC_ERROR (R208): An HBM ECC error is corrected, or the line is dropped, refetched or poisoned by state. -/
def execHbmEccError (place key way : Nat) (uncorrectable : Bool) (s : State) : Host.Outcome State Fault Refusal := s.runSettled .up (hbmEccError place key way uncorrectable)

/-- PARTNER_LINE_REFETCH (R208): A line refetched from the partner's Mirror copy replaces the damaged one. -/
def execPartnerLineRefetch (volume lba seq : Nat) (copy : Option Blk) (s : State) : Host.Outcome State Fault Refusal := s.runSettled .up (partnerLineRefetch volume lba seq copy)

/-- DRAIN_COMPLETE (R206): A drain scope holds no Dirty or Committing line and its draining bit clears. -/
def execDrainComplete (scope : Nat) (s : State) : Host.Outcome State Fault Refusal := s.runSettled .gated (drainComplete scope)

/-- RANGE_OP_COMPLETE (R207): A range operation finishes on all its engines and replies. -/
def execRangeOpComplete (s : State) : Host.Outcome State Fault Refusal := s.runSettled .gated rangeOpComplete

/-- DUMP_PWR_FAIL (R210): PWR_FAIL_N asserted for filter_us starts the power-loss dump. -/
def execDumpPwrFail (s : State) : Host.Outcome State Fault Refusal := s.runSettled .up dumpPwrFail

/-- DUMP_SAG (R210): The 12 V input below sag_mv for filter_us starts the dump. -/
def execDumpSag (s : State) : Host.Outcome State Fault Refusal := s.runSettled .up dumpSag

/-- DUMP_QUIESCE_END (R211): At quiesce_ms or when member writes finish, unfinished writes are abandoned and islands gated. -/
def execDumpQuiesceEnd (s : State) : Host.Outcome State Fault Refusal := s.runSettled .up dumpQuiesceEnd

/-- DUMP_SEGMENT_WRITTEN (R214): A dump segment is written to the vaults and the next begins. -/
def execDumpSegmentWritten (ok32 ok33 : Bool) (s : State) : Host.Outcome State Fault Refusal := s.runSettled .up (dumpSegmentWritten ok32 ok33)

/-- DUMP_CLOSE_DONE (R211): The closing record is flushed on the vaults and the slot rails are released. -/
def execDumpCloseDone (s : State) : Host.Outcome State Fault Refusal := s.runSettled .up dumpCloseDone

end Sys2Proof.Machine
end

