-- ==== Sys2Proof/Machine/ExecCipher.lean ====
section
/-!
DEFINITION. The meanings of the commands of the cipher engine and its keys. Each is its row's function on the chip, run while the parts that it acts on run (Machine/Settle.lean).
-/

namespace Sys2Proof.Machine

/-- MGMT_PSK_SET (R427): Installs a management PSK with a role. -/
def execMgmtPskSet (h : Hdr) (index role : Nat) (blob identity : Bytes) (s : State) : Host.Outcome State Fault Refusal := s.run .up (mgmtPskSet h index role blob identity)

/-- KEK_IMPORT (R356): Unwraps a shelf KEK by ECDH with the device key and stores it in the key record. -/
def execKekImport (h : Hdr) (kekId : Nat) (point wrapped : Bytes) (s : State) : Host.Outcome State Fault Refusal := s.run .up (kekImport h kekId point wrapped)

/-- DEVICE_KEY_GET (R355): Returns the device public key and serial number. -/
def execDeviceKeyGet (h : Hdr) (s : State) : Host.Outcome State Fault Refusal := s.run .up (deviceKeyGet h)

/-- PADDOCK_KEY_IMPORT (R357): Imports a paddock seed blob under the KEK, optionally restoring g_cur. -/
def execPaddockKeyImport (h : Hdr) (paddock hasGcur gCur : Nat) (blob : Bytes) (s : State) : Host.Outcome State Fault Refusal := s.runSettled .up (paddockKeyImport h paddock hasGcur gCur blob)

/-- PADDOCK_KEY_STATUS (R435): Returns the paddock key views. -/
def execPaddockKeyStatus (h : Hdr) (paddock : Nat) (s : State) : Host.Outcome State Fault Refusal := s.run .up (paddockKeyStatus h paddock)

/-- PSK_IMPORT (R357): Imports a PSK blob bound to an identity. -/
def execPskImport (h : Hdr) (blob identity : Bytes) (s : State) : Host.Outcome State Fault Refusal := s.run .up (pskImport h blob identity)

/-- PSK_CLEAR (R357): Removes a PSK; open connections keep their keys. -/
def execPskClear (h : Hdr) (keyId : Nat) (s : State) : Host.Outcome State Fault Refusal := s.run .up (pskClear h keyId)

/-- PADDOCK_REKEY (R360): Starts a generation advance of a paddock. -/
def execPaddockRekey (h : Hdr) (paddock : Nat) (s : State) : Host.Outcome State Fault Refusal := s.runSettled .up (paddockRekey h paddock)

/-- GEN_LIMIT_SET (R360): Sets the generation soft limit and KAT interval. -/
def execGenLimitSet (h : Hdr) (image : Nat) (s : State) : Host.Outcome State Fault Refusal := s.run .up (genLimitSet h image)

/-- CIPH_CTL_SET (R368): Writes the cipher control register. -/
def execCiphCtlSet (h : Hdr) (image : Nat) (s : State) : Host.Outcome State Fault Refusal := s.run .up (ciphCtlSet h image)

/-- LANE_SET (R351): Returns a disabled cipher lane to service after tests, or disables a lane. -/
def execLaneSet (h : Hdr) (lane action : Nat) (testsPass : Bool) (s : State) : Host.Outcome State Fault Refusal := s.run .up (laneSet h lane action testsPass)

/-- CIPH_PAD_SEL_WRITE (R368): Writing the paddock select takes a snapshot of its key views. -/
def execCiphPadSelWrite (paddock : Nat) (s : State) : Host.Outcome State Fault Refusal := s.run .up (ciphPadSelWrite paddock)

/-- ENTROPY_FLAG_CLEAR (R368): Writing 1 clears a latched entropy health-test failure bit. -/
def execEntropyFlagClear (mask : Nat) (s : State) : Host.Outcome State Fault Refusal := s.run .up (entropyFlagClear mask)

/-- LANE_PARITY_FAULT (R350): A lane parity fault discards the output, recomputes it elsewhere and quarantines the lane. -/
def execLaneParityFault (lane : Nat) (s : State) : Host.Outcome State Fault Refusal := s.run .up (laneParityFault lane)

/-- QUARANTINE_EXPIRY (R351): After 10 ms a quarantined lane is tested and returned or disabled. -/
def execQuarantineExpiry (lane : Nat) (testsPass : Bool) (s : State) : Host.Outcome State Fault Refusal := s.run .up (quarantineExpiry lane testsPass)

/-- KAT_INTERVAL (R352): Every kat_interval_s an idle island tests one lane. -/
def execKatInterval (isl : Nat) (pass : Bool) (s : State) : Host.Outcome State Fault Refusal := s.run .up (katInterval isl pass)

/-- ENTROPY_HEALTH_FAIL (R349): A failed entropy health test discards the output. -/
def execEntropyHealthFail (test : Nat) (s : State) : Host.Outcome State Fault Refusal := s.run .up (entropyHealthFail test)

/-- DRBG_RESEED (R348): Every 1 s the DRBG reseeds, or stops after 2^32 requests without a reseed. -/
def execDrbgReseed (pass : Bool) (requests : Nat) (s : State) : Host.Outcome State Fault Refusal := s.runSettled .up (drbgReseed pass requests)

/-- CONTEXT_FETCH_DONE (R364): A cipher context is unwrapped into the cache and its waiting request proceeds. -/
def execContextFetchDone (isl kind index : Nat) (ok : Bool) (s : State) : Host.Outcome State Fault Refusal := s.runSettled .up (contextFetchDone isl kind index ok)

/-- GEN_COUNT_EXCHANGE (R359): Every 100 ms block counts are exchanged and a soft limit may start an advance. -/
def execGenCountExchange (counts : List (Nat × Nat × Nat)) (kek : Option Nat) (s : State) : Host.Outcome State Fault Refusal := s.runSettled .up (genCountExchange counts kek)

/-- GEN_ADVANCE_ACK (R360): Both acknowledgements received, each chip encrypts under the new generation. -/
def execGenAdvanceAck (paddock gen : Nat) (s : State) : Host.Outcome State Fault Refusal := s.runSettled .up (genAdvanceAck paddock gen)

/-- KEY_RECORD_WRITTEN (R365): A key record written to the usable vaults lets a key change take effect. -/
def execKeyRecordWritten (ok32 ok33 : Bool) (s : State) : Host.Outcome State Fault Refusal := s.runSettled .up (keyRecordWritten ok32 ok33)

/-- GEN_ADVANCE_PROPOSAL_RX (R360): A chip receives the partner's proposal of a new generation, writes it to its key record and acknowledges. -/
def execGenAdvanceProposalRx (paddock gen : Nat) (s : State) : Host.Outcome State Fault Refusal := s.runSettled .up (genAdvanceProposalRx paddock gen)

end Sys2Proof.Machine
end

