-- ==== Sys2Proof/Machine/ExecCommand.lean ====
section
/-!
DEFINITION. The meanings of the commands of command intake, admission and the NVMe commands. Each is its row's function on the chip, run while the parts that it acts on run (Machine/Settle.lean).
-/

namespace Sys2Proof.Machine

/-- COMMAND_ADMIT (R168): The arbiter chooses a command, which takes the volume's next admission number and is resolved. -/
def execCommandAdmit (isl : Nat) (s : State) : Host.Outcome State Fault Refusal := s.runSettled .network (commandAdmit isl)

/-- URGENT_WINDOW_EXPIRY (R165): A 10 µs urgent window ends and the urgent count restarts. -/
def execUrgentWindowExpiry (isl : Nat) (s : State) : Host.Outcome State Fault Refusal := s.run .gated (urgentWindowExpiry isl)

/-- TIMING_WHEEL_SLOT (R282): A wheel slot comes round and its volume queues become eligible or move to the fine wheel. -/
def execTimingWheelSlot (isl : Nat) (s : State) : Host.Outcome State Fault Refusal := s.run .gated (timingWheelSlot isl)

/-- NVME_READ (R171): An admitted Read pins its entitled versions and is served block by block. -/
def execNvmeRead (isl tag : Nat) (s : State) : Host.Outcome State Fault Refusal := s.runSettled .network (nvmeRead isl tag)

/-- NVME_WRITE (R170): An admitted Write creates line versions tagged with its number. -/
def execNvmeWrite (isl tag : Nat) (s : State) : Host.Outcome State Fault Refusal := s.runSettled .network (nvmeWrite isl tag)

/-- NVME_FLUSH (R173): A Flush waits for earlier write-class commands of the volume, or of every granted volume. -/
def execNvmeFlush (isl tag : Nat) (s : State) : Host.Outcome State Fault Refusal := s.runSettled .network (nvmeFlush isl tag)

/-- NVME_WRITE_ZEROES (R173): Whole acres are deallocated and partial acres written as zero versions. -/
def execNvmeWriteZeroes (isl tag : Nat) (s : State) : Host.Outcome State Fault Refusal := s.runSettled .network (nvmeWriteZeroes isl tag)

/-- NVME_DSM (R173): Dataset Management deallocates its ranges, or with no deallocate attribute takes no effect. -/
def execNvmeDsm (isl tag : Nat) (s : State) : Host.Outcome State Fault Refusal := s.runSettled .network (nvmeDsm isl tag)

/-- NVME_COMPARE (R173): A Compare reads as a Read and completes with Compare Failure on mismatch. -/
def execNvmeCompare (isl tag : Nat) (s : State) : Host.Outcome State Fault Refusal := s.runSettled .network (nvmeCompare isl tag)

/-- NVME_VERIFY (R173): A Verify reads and checks every block's check field without placing data. -/
def execNvmeVerify (isl tag : Nat) (s : State) : Host.Outcome State Fault Refusal := s.runSettled .network (nvmeVerify isl tag)

/-- RESV_REGISTER (R129): Reservation Register acts as a barrier and changes registrations. -/
def execResvRegister (isl tag : Nat) (s : State) : Host.Outcome State Fault Refusal := s.runSettled .network (resvRegister isl tag)

/-- RESV_ACQUIRE (R129): Reservation Acquire acts as a barrier; Preempt and Abort aborts unadmitted commands. -/
def execResvAcquire (isl tag : Nat) (s : State) : Host.Outcome State Fault Refusal := s.runSettled .network (resvAcquire isl tag)

/-- RESV_RELEASE (R129): Reservation Release acts as a barrier and releases or clears the reservation. -/
def execResvRelease (isl tag : Nat) (s : State) : Host.Outcome State Fault Refusal := s.runSettled .network (resvRelease isl tag)

/-- RESV_REPORT (R128): Reservation Report returns the volume's reservation state. -/
def execResvReport (isl tag : Nat) (s : State) : Host.Outcome State Fault Refusal := s.runSettled .network (resvReport isl tag)

/-- NVME_ABORT (R177): An Abort is evaluated at the target's ordering stage and aborts or reports not aborted. -/
def execNvmeAbort (tag : Nat) (s : State) : Host.Outcome State Fault Refusal := s.runSettled .network (nvmeAbort tag)

/-- KEEP_ALIVE (R176): A Keep Alive restarts the controller's Keep Alive timer. -/
def execKeepAlive (tag : Nat) (s : State) : Host.Outcome State Fault Refusal := s.runSettled .network (keepAlive tag)

/-- KEEP_ALIVE_EXPIRY (R176): The Keep Alive time-out expires and the association and its queue pairs are lost. -/
def execKeepAliveExpiry (cntlid : Nat) (s : State) : Host.Outcome State Fault Refusal := s.runSettled .network (keepAliveExpiry cntlid)

/-- FABRICS_CONNECT (R126): A Connect is matched against the access table and creates a queue with its fixed class. -/
def execFabricsConnect (tag : Nat) (s : State) : Host.Outcome State Fault Refusal := s.runSettled .network (fabricsConnect tag)

/-- FABRICS_DISCONNECT (R176): A Disconnect loses its queue pair, or on the admin queue the association. -/
def execFabricsDisconnect (tag : Nat) (s : State) : Host.Outcome State Fault Refusal := s.runSettled .network (fabricsDisconnect tag)

/-- PROPERTY_GET (R184): Fabrics Property Get returns a controller property. -/
def execPropertyGet (tag : Nat) (s : State) : Host.Outcome State Fault Refusal := s.runSettled .network (propertyGet tag)

/-- PROPERTY_SET (R184): Fabrics Property Set writes a controller property. -/
def execPropertySet (tag : Nat) (s : State) : Host.Outcome State Fault Refusal := s.runSettled .network (propertySet tag)

/-- IDENTIFY_CMD (R184): Admin Identify returns the supported CNS data. -/
def execIdentifyCmd (tag : Nat) (s : State) : Host.Outcome State Fault Refusal := s.runSettled .network (identifyCmd tag)

/-- GET_LOG_PAGE (R184): Admin Get Log Page returns a supported log page. -/
def execGetLogPage (tag : Nat) (s : State) : Host.Outcome State Fault Refusal := s.runSettled .network (getLogPage tag)

/-- SET_FEATURES (R184): Admin Set Features changes a supported feature such as the Keep Alive Timer. -/
def execSetFeatures (tag : Nat) (s : State) : Host.Outcome State Fault Refusal := s.runSettled .network (setFeatures tag)

/-- GET_FEATURES (R184): Admin Get Features reports a feature value in force. -/
def execGetFeatures (tag : Nat) (s : State) : Host.Outcome State Fault Refusal := s.runSettled .network (getFeatures tag)

/-- ASYNC_EVENT_REQUEST (R184): An Asynchronous Event Request stays outstanding for ANA, namespace or reservation events. -/
def execAsyncEventRequest (tag : Nat) (s : State) : Host.Outcome State Fault Refusal := s.runSettled .network (asyncEventRequest tag)

/-- NAMESPACE_MANAGEMENT (R184): Namespace Management creates or deletes a namespace for a permitted host. -/
def execNamespaceManagement (tag : Nat) (s : State) : Host.Outcome State Fault Refusal := s.runSettled .network (namespaceManagement tag)

/-- NAMESPACE_ATTACHMENT (R184): Namespace Attachment attaches or detaches a namespace. -/
def execNamespaceAttachment (tag : Nat) (s : State) : Host.Outcome State Fault Refusal := s.runSettled .network (namespaceAttachment tag)

/-- LINE_FILL_COMPLETE (R193): A line's data is complete; a version becomes Dirty and is mirrored, releasing waiting reads. -/
def execLineFillComplete (volume lba seq : Nat) (s : State) : Host.Outcome State Fault Refusal := s.runSettled .work (lineFillComplete volume lba seq)

end Sys2Proof.Machine
end

