-- ==== Sys2Proof/Machine/ExecEvents.lean ====
section
/-!
DEFINITION. The meanings of the commands of events, counters, tallies, the clock and health. Each is its row's function on the chip, run while the parts that it acts on run (Machine/Settle.lean).
-/

namespace Sys2Proof.Machine

/-- HEALTH_REPORT_GET (R397): Returns this chip's or the partner's last health report. -/
def execHealthReportGet (h : Hdr) (which : Nat) (s : State) : Host.Outcome State Fault Refusal := s.run .up (healthReportGet h which)

/-- EVT_CFG_SET (R471): Sets the route and enable of a range of events, optionally raising the test event. -/
def execEvtCfgSet (h : Hdr) (first count vector route enable test : Nat) (s : State) : Host.Outcome State Fault Refusal := s.run .up (evtCfgSet h first count vector route enable test)

/-- EVT_READ (R472): Reads firmware event-log entries. -/
def execEvtRead (h : Hdr) (first max : Nat) (s : State) : Host.Outcome State Fault Refusal := s.run .up (evtRead h first max)

/-- EVT_SUBSCRIBE (R473): Sets a session's event subscription mask and coalescing time. -/
def execEvtSubscribe (h : Hdr) (coalMs mask : Nat) (s : State) : Host.Outcome State Fault Refusal := s.run .up (evtSubscribe h coalMs mask)

/-- PMC_SELECT (R477): Stops, optionally clears and restarts a range of counters with a new kind, island and mode. -/
def execPmcSelect (h : Hdr) (first count kind island mode clear : Nat) (s : State) : Host.Outcome State Fault Refusal := s.run .up (pmcSelect h first count kind island mode clear)

/-- PMC_SAMPLE_SET (R479): Sets a counter's sampling reload value. -/
def execPmcSampleSet (h : Hdr) (counter reload : Nat) (s : State) : Host.Outcome State Fault Refusal := s.run .up (pmcSampleSet h counter reload)

/-- PMC_CHAIN_SET (R478): Chains or unchains a counter pair on the SV1816; replies 0x0200 on the SV3432. -/
def execPmcChainSet (h : Hdr) (even enable : Nat) (s : State) : Host.Outcome State Fault Refusal := s.run .up (pmcChainSet h even enable)

/-- TALLY_READ (R486): Reads the tally meters of a minute, waiting for its seal, from this chip or the partner copy. -/
def execTallyRead (h : Hdr) (minute first chip : Nat) (s : State) : Host.Outcome State Fault Refusal := s.run .up (tallyRead h minute first chip)

/-- TALLY_COLLECTED (R483): Marks the sealed bank of a minute collected. -/
def execTallyCollected (h : Hdr) (minute chip : Nat) (s : State) : Host.Outcome State Fault Refusal := s.run .up (tallyCollected h minute chip)

/-- TALLY_ACCUM_READ (R483): Reads the uncollected accumulator, optionally zeroing each paddock returned. -/
def execTallyAccumRead (h : Hdr) (first chip clear : Nat) (s : State) : Host.Outcome State Fault Refusal := s.run .up (tallyAccumRead h first chip clear)

/-- TWIN_HEALTH_SEL_WRITE (R399): Writing the health select takes a snapshot of the chosen report. -/
def execTwinHealthSelWrite (value : Nat) (s : State) : Host.Outcome State Fault Refusal := s.run .up (twinHealthSelWrite value)

/-- EVT_STATUS_CLEAR (R471): Writing 1 clears an event status bit and re-arms its MSI-X message. -/
def execEvtStatusClear (w mask : Nat) (s : State) : Host.Outcome State Fault Refusal := s.run .up (evtStatusClear w mask)

/-- EVT_ENABLE_WRITE (R471): Setting enable while the status bit is 1 sends the event's message at once. -/
def execEvtEnableWrite (w enable : Nat) (s : State) : Host.Outcome State Fault Refusal := s.run .up (evtEnableWrite w enable)

/-- EVT_ROUTE_WRITE (R474): A route change while the status bit is 1 sends the message to the new vector once. -/
def execEvtRouteWrite (e image : Nat) (s : State) : Host.Outcome State Fault Refusal := s.run .up (evtRouteWrite e image)

/-- PMC_SAT_REARM (R487): Writing 1 to sat_valid re-arms the saturation latch. -/
def execPmcSatRearm (s : State) : Host.Outcome State Fault Refusal := s.run .up pmcSatRearm

/-- PMC_SMP_CONS_WRITE (R479): The host frees sample ring records. -/
def execPmcSmpConsWrite (cons : Nat) (s : State) : Host.Outcome State Fault Refusal := s.run .up (pmcSmpConsWrite cons)

/-- MINUTE_TICK (R69): The minute number exceeds the last ticked, writing PORT_TICK_LAST and swapping tally banks. -/
def execMinuteTick (s : State) : Host.Outcome State Fault Refusal := s.run .up minuteTick

/-- TALLY_SEAL_EXPIRY (R481): 100 µs after the tick the closed bank is sealed and sent to the partner. -/
def execTallySealExpiry (s : State) : Host.Outcome State Fault Refusal := s.run .up tallySealExpiry

/-- TALLY_COPY_RX (R484): The partner's sealed bank and accumulator copy is stored. -/
def execTallyCopyRx (minute flags : Nat) (meters : List (Nat × Nat)) (accFirst accLast accFlags : Nat) (acc : List (Nat × Nat)) (s : State) : Host.Outcome State Fault Refusal := s.run .up (tallyCopyRx minute flags meters accFirst accLast accFlags acc)

/-- TALLY_COPY_TIMEOUT (R484): No partner copy 1 s after a tick raises event 0x794. -/
def execTallyCopyTimeout (s : State) : Host.Outcome State Fault Refusal := s.run .up tallyCopyTimeout

/-- HEALTH_REPORT_TIMER (R397): Every second a health report is published and sent to the partner. -/
def execHealthReportTimer (s : State) : Host.Outcome State Fault Refusal := s.run .up healthReportTimer

/-- HEALTH_REPORT_RX (R397): A partner health report is stored and new failure bits raised. -/
def execHealthReportRx (raw : Bytes) (s : State) : Host.Outcome State Fault Refusal := s.run .up (healthReportRx raw)

/-- EVENT_LOG_INTERVAL (R472): At most once per 1 ms per event a log entry is made. -/
def execEventLogInterval (e : Nat) (s : State) : Host.Outcome State Fault Refusal := s.run .up (eventLogInterval e)

/-- PMC_INCREMENT (R476): An island adds its occurrences to the selected counters, saturating at the top. -/
def execPmcIncrement (island kind n skid tag state : Nat) (s : State) : Host.Outcome State Fault Refusal := s.run .up (pmcIncrement island kind n skid tag state)

/-- REFCLK_OUT_OF_TOLERANCE (R494): SYSCLK_25M departs from the ETH_REFCLK reference by more than ±100 ppm, raising event 0x7E6. -/
def execRefclkOutOfTolerance (s : State) : Host.Outcome State Fault Refusal := s.run .up refclkOutOfTolerance

/-- MGMT_CORE_WATCHDOG (R488): A management core's watchdog expires and the core is restarted, raising event 0x7E1. -/
def execMgmtCoreWatchdog (s : State) : Host.Outcome State Fault Refusal := s.run .up mgmtCoreWatchdog

/-- SELF_TEST_RUN (R396): An idle unit runs its self-test (HBM patrol every patrol_h, parity patterns, SerDes margins) and failures set health bits. -/
def execSelfTestRun (kind : Nat) (pass : Bool) (margin : Nat) (s : State) : Host.Outcome State Fault Refusal := s.run .up (selfTestRun kind pass margin)

/-- PMBUS_ALERT (R498): PMB_ALERT_N is asserted by a regulator and is logged. -/
def execPmbusAlert (s : State) : Host.Outcome State Fault Refusal := s.run .up pmbusAlert

end Sys2Proof.Machine
end

