-- ==== Sys2Proof/Machine/ExecManage.lean ====
section
/-!
DEFINITION. The meanings of the commands of the endpoint, sessions, rings, long operations and registers. Each is its row's function on the chip, run while the parts that it acts on run (Machine/Settle.lean).
-/

namespace Sys2Proof.Machine

/-- NOP (R435): Management command that does nothing and replies success; it keeps a session open. -/
def execNop (h : Hdr) (s : State) : Host.Outcome State Fault Refusal := s.run .up (nop h)

/-- IDENTIFY (R435): Returns the grade, revision, chip, release, protocol and serial number. -/
def execIdentify (h : Hdr) (s : State) : Host.Outcome State Fault Refusal := s.run .up (identify h)

/-- STATUS_GET (R435): Returns the start step, pair state, owned folds, GLB_CFG_GEN and governor and cache status images. -/
def execStatusGet (h : Hdr) (s : State) : Host.Outcome State Fault Refusal := s.run .up (statusGet h)

/-- PAD (R421): A pad entry in a submission ring skips units and gets no reply. -/
def execPad (r len64 : Nat) (s : State) : Host.Outcome State Fault Refusal := s.run .up (pad r len64)

/-- MGMT_PSK_CLEAR (R427): Removes a management PSK. -/
def execMgmtPskClear (h : Hdr) (index : Nat) (s : State) : Host.Outcome State Fault Refusal := s.run .up (mgmtPskClear h index)

/-- MGMT_SESSION_CFG (R427): Sets the management port, enable and idle time of in-band sessions. -/
def execMgmtSessionCfg (h : Hdr) (port enable idleS : Nat) (s : State) : Host.Outcome State Fault Refusal := s.run .up (mgmtSessionCfg h port enable idleS)

/-- MGMT_SESSION_LIST (R435): Lists open management sessions. -/
def execMgmtSessionList (h : Hdr) (s : State) : Host.Outcome State Fault Refusal := s.run .up (mgmtSessionList h)

/-- LONGOP_STATUS (R430): Returns the eight registers of a long-operation slot. -/
def execLongopStatus (h : Hdr) (handle : Nat) (s : State) : Host.Outcome State Fault Refusal := s.run .up (longopStatus h handle)

/-- LONGOP_PAUSE (R431): Moves a queued or running long operation to paused. -/
def execLongopPause (h : Hdr) (handle : Nat) (s : State) : Host.Outcome State Fault Refusal := s.runSettled .up (longopPause h handle)

/-- LONGOP_RESUME (R431): Returns a paused long operation to the state it left. -/
def execLongopResume (h : Hdr) (handle : Nat) (s : State) : Host.Outcome State Fault Refusal := s.runSettled .up (longopResume h handle)

/-- LONGOP_CANCEL (R431): Cancels a long operation at its next fence, or at once when it has none. -/
def execLongopCancel (h : Hdr) (handle : Nat) (s : State) : Host.Outcome State Fault Refusal := s.runSettled .up (longopCancel h handle)

/-- LONGOP_LIST (R435): Lists the 64 long-operation slots. -/
def execLongopList (h : Hdr) (s : State) : Host.Outcome State Fault Refusal := s.run .up (longopList h)

/-- LONGOP_RELEASE (R429): Frees the slot of a finished long operation. -/
def execLongopRelease (h : Hdr) (handle : Nat) (s : State) : Host.Outcome State Fault Refusal := s.run .up (longopRelease h handle)

/-- LONGOP_RESULTS_READ (R432): Reads result records of a long operation and optionally frees them. -/
def execLongopResultsRead (h : Hdr) (handle index advance : Nat) (s : State) : Host.Outcome State Fault Refusal := s.run .up (longopResultsRead h handle index advance)

/-- SERDES_TEST (R432): Long operation that runs PRBS or eye scans on a lane group and writes result records. -/
def execSerdesTest (h : Hdr) (group lane kind durationMs : Nat) (s : State) : Host.Outcome State Fault Refusal := s.run .up (serdesTest h group lane kind durationMs)

/-- MIRROR_SET (R48): Sets up a mirror session, refusing an invalid destination port. -/
def execMirrorSet (h : Hdr) (session image : Nat) (s : State) : Host.Outcome State Fault Refusal := s.run .up (mirrorSet h session image)

/-- MIRROR_CLEAR (R48): Removes a mirror session. -/
def execMirrorClear (h : Hdr) (session : Nat) (s : State) : Host.Outcome State Fault Refusal := s.run .up (mirrorClear h session)

/-- CAPTURE_RING_SET (R426): Sets the capture ring base, size, coalescing and producer write-back address. -/
def execCaptureRingSet (h : Hdr) (base cfg wb : Nat) (s : State) : Host.Outcome State Fault Refusal := s.run .up (captureRingSet h base cfg wb)

/-- REG_READ (R428): Reads BAR0 registers on behalf of a session. -/
def execRegRead (h : Hdr) (offset count : Nat) (s : State) : Host.Outcome State Fault Refusal := s.run .up (regRead h offset count)

/-- REG_WRITE (R428): Writes directly writable BAR0 fields under a mask on behalf of a session. -/
def execRegWrite (h : Hdr) (offset mask value : Nat) (s : State) : Host.Outcome State Fault Refusal := s.runSettled .up (regWrite h offset mask value)

/-- REGISTER_WRITE (R11): A write to a BAR0 register that has no row of its own sets its RW fields. -/
def execRegisterWrite (offset size value : Nat) (byHost : Bool) (s : State) : Host.Outcome State Fault Refusal := s.runSettled .up (registerWrite offset size value byHost)

/-- SQ_ENABLE_WRITE (R419): Writing en starts a submission ring at start_head with phase 1, or stops it. -/
def execSqEnableWrite (r : Nat) (en : Bool) (startHead : Nat) (s : State) : Host.Outcome State Fault Refusal := s.run .up (sqEnableWrite r en startHead)

/-- SQ_CLEAR_ERR (R422): Writing clear_err resumes a ring in error at its latched entry. -/
def execSqClearErr (r : Nat) (s : State) : Host.Outcome State Fault Refusal := s.run .up (sqClearErr r)

/-- SQ_DOORBELL (R419): Writing poll reads the next submission entry at once. -/
def execSqDoorbell (r : Nat) (s : State) : Host.Outcome State Fault Refusal := s.run .up (sqDoorbell r)

/-- CQ_ENABLE_WRITE (R423): Setting a completion ring's en starts it at tail 0 with phase 1. -/
def execCqEnableWrite (q image : Nat) (s : State) : Host.Outcome State Fault Refusal := s.run .up (cqEnableWrite q image)

/-- CQ_HEAD_WRITE (R423): The host frees completion ring units, restarting coalescing and releasing held replies. -/
def execCqHeadWrite (q head : Nat) (s : State) : Host.Outcome State Fault Refusal := s.run .up (cqHeadWrite q head)

/-- CAPTURE_CONS_WRITE (R426): The host frees capture ring space. -/
def execCaptureConsWrite (cons : Nat) (s : State) : Host.Outcome State Fault Refusal := s.run .up (captureConsWrite cons)

/-- WIN_COMMIT_WRITE (R409): Copies the window shadows into the active set at a TLP boundary and raises WIN_EPOCH. -/
def execWinCommitWrite (s : State) : Host.Outcome State Fault Refusal := s.run .up winCommitWrite

/-- WIN_UR_LAST_REARM (R437): Writing 1 to valid re-arms the window refusal latch. -/
def execWinUrLastRearm (s : State) : Host.Outcome State Fault Refusal := s.run .up winUrLastRearm

/-- LONGOP_RES_CONS_WRITE (R432): The host frees long-operation result records. -/
def execLongopResConsWrite (index cons : Nat) (s : State) : Host.Outcome State Fault Refusal := s.run .up (longopResConsWrite index cons)

/-- SQ_POLL (R419): poll_us after finding no entry the chip reads the ring head again. -/
def execSqPoll (r : Nat) (s : State) : Host.Outcome State Fault Refusal := s.run .up (sqPoll r)

/-- SQ_ENTRY_FETCHED (R419): A ring entry is fetched whole and dispatched, or found malformed and the ring stopped. -/
def execSqEntryFetched (r : Nat) (p : Packet) (s : State) : Host.Outcome State Fault Refusal := s.run .up (sqEntryFetched r p)

/-- REPLY_WRITE (R423): A reply is written to its completion ring, or held while the ring is full. -/
def execReplyWrite (q : Nat) (s : State) : Host.Outcome State Fault Refusal := s.run .up (replyWrite q)

/-- CQ_COALESCE_EXPIRY (R424): The oldest reply coal_us old sends the ring's MSI-X vector. -/
def execCqCoalesceExpiry (q : Nat) (s : State) : Host.Outcome State Fault Refusal := s.run .up (cqCoalesceExpiry q)

/-- CAPTURE_COAL_EXPIRY (R426): cap_coal_us after written records event 0x72A is raised. -/
def execCaptureCoalExpiry (s : State) : Host.Outcome State Fault Refusal := s.run .up captureCoalExpiry

/-- SESSION_ACCEPT (R427): A management TCP connection is accepted with TLS, or reset beyond four sessions. -/
def execSessionAccept (port address psk : Nat) (handshakeOk : Bool) (s : State) : Host.Outcome State Fault Refusal := s.run .up (sessionAccept port address psk handshakeOk)

/-- SESSION_PACKET_RX (R427): A session packet is taken whole and dispatched under the PSK's role. -/
def execSessionPacketRx (session : Nat) (p : Packet) (s : State) : Host.Outcome State Fault Refusal := s.run .up (sessionPacketRx session p)

/-- SESSION_IDLE_EXPIRY (R427): A session with no packet for idle_s is closed. -/
def execSessionIdleExpiry (session : Nat) (s : State) : Host.Outcome State Fault Refusal := s.run .up (sessionIdleExpiry session)

/-- EVENT_NOTICE_COAL (R473): At most once per coal_ms subscribed log entries are sent as a notice. -/
def execEventNoticeCoal (session : Nat) (queueFull : Bool) (s : State) : Host.Outcome State Fault Refusal := s.run .up (eventNoticeCoal session queueFull)

/-- LONGOP_END (R433): A long operation ends, raising 0x72E and writing a final reply when requested. -/
def execLongopEnd (slot failure : Nat) (results : List LaneResult) (s : State) : Host.Outcome State Fault Refusal := s.run .up (longopEnd slot failure results)

/-- FLR (R407): Function Level Reset restores endpoint, ring and window registers and stops rings. -/
def execFlr (s : State) : Host.Outcome State Fault Refusal := s.run .up flr

/-- BME_CLEAR (R408): Clearing Bus Master Enable stops DMA and pauses rings at latched heads. -/
def execBmeClear (s : State) : Host.Outcome State Fault Refusal := s.run .up bmeClear

/-- BME_SET (R408): Setting Bus Master Enable writes held replies, resumes rings and sends due messages. -/
def execBmeSet (s : State) : Host.Outcome State Fault Refusal := s.run .up bmeSet

/-- D3HOT_ENTRY (R407): Entry to D3hot pauses the rings. -/
def execD3hotEntry (s : State) : Host.Outcome State Fault Refusal := s.run .up d3hotEntry

/-- D0_RETURN (R407): Return to D0 keeps every register and resumes the rings. -/
def execD0Return (s : State) : Host.Outcome State Fault Refusal := s.run .up d0Return

/-- ENDPOINT_LINK_CHANGE (R438): The endpoint link goes down or up. -/
def execEndpointLinkChange (up : Bool) (s : State) : Host.Outcome State Fault Refusal := s.run .up (endpointLinkChange up)

/-- BAR2_TLP (R410): A BAR2 TLP is translated to HBM or refused as Unsupported Request. -/
def execBar2Tlp (x len : Nat) (data : Option Bytes) (hbmError : Bool) (s : State) : Host.Outcome State Fault Refusal := s.run .up (bar2Tlp x len data hbmError)

/-- MGMT_SESSION_CLOSE_RX (R427): The peer closes a management session, raising event 0x72C and discarding its pending final replies. -/
def execMgmtSessionCloseRx (session : Nat) (s : State) : Host.Outcome State Fault Refusal := s.run .up (mgmtSessionCloseRx session)

/-- MSIX_VECTOR_UNMASK (R474): A write that unmasks an MSI-X vector sends the pending message if its event status bit or ring condition still holds. -/
def execMsixVectorUnmask (v : Nat) (s : State) : Host.Outcome State Fault Refusal := s.run .up (msixVectorUnmask v)

/-- CONFIG_SPACE_WRITE (R406): A configuration write to the endpoint header, such as BAR sizing or the Command register, takes effect. -/
def execConfigSpaceWrite (offset value : Nat) (s : State) : Host.Outcome State Fault Refusal := s.run .up (configSpaceWrite offset value)

end Sys2Proof.Machine
end

