-- ==== Sys2Proof/Machine/ExecPorts.lean ====
section
/-!
DEFINITION. The meanings of the commands of the network ports. Each is its row's function on the chip, run while the parts that it acts on run (Machine/Settle.lean).
-/

namespace Sys2Proof.Machine

/-- PORT_CFG_SET (R55): Writes a port's mode, priority map, PFC and FEC threshold registers. -/
def execPortCfgSet (h : Hdr) (port cfg prio pfc fec : Nat) (s : State) : Host.Outcome State Fault Refusal := s.run .up (portCfgSet h port cfg prio pfc fec)

/-- PORT_ADDR_SET (R61): Sets a sub-port's MAC, IPv4, IPv6 and VLAN addresses. -/
def execPortAddrSet (h : Hdr) (port sub mac : Nat) (ipv4 : List Nat) (ipv6 : List HostPrefix) (vlans : List Nat) (s : State) : Host.Outcome State Fault Refusal := s.run .up (portAddrSet h port sub mac ipv4 ipv6 vlans)

/-- PORT_DSCP_SET (R62): Loads the 64 DSCP map entries of a port. -/
def execPortDscpSet (h : Hdr) (port : Nat) (table : List Nat) (s : State) : Host.Outcome State Fault Refusal := s.run .up (portDscpSet h port table)

/-- TIME_CFG_SET (R68): Writes PORT_TIME_CFG and optionally PORT_PPS_SEC; a source change takes effect at the next tick. -/
def execTimeCfgSet (h : Hdr) (cfg pps : Nat) (s : State) : Host.Outcome State Fault Refusal := s.run .up (timeCfgSet h cfg pps)

/-- HURDLE_SET (R76): Programs or removes a session's hurdle meters, divided over the ports of its paths. -/
def execHurdleSet (h : Hdr) (context cir pir cbs pbs mode : Nat) (s : State) : Host.Outcome State Fault Refusal := s.run .up (hurdleSet h context cir pir cbs pbs mode)

/-- HURDLE_PADDOCK_SET (R76): Sets a paddock's red action and fallback meter. -/
def execHurdlePaddockSet (h : Hdr) (paddock red cir pir cbs pbs : Nat) (s : State) : Host.Outcome State Fault Refusal := s.run .up (hurdlePaddockSet h paddock red cir pir cbs pbs)

/-- LOOPBACK_SET (R81): Sets a port's loopback mode. -/
def execLoopbackSet (h : Hdr) (port loopback : Nat) (s : State) : Host.Outcome State Fault Refusal := s.run .up (loopbackSet h port loopback)

/-- PFC_WATCHDOG_CLEAR (R64): Clearing a watchdog_tripped bit makes the port honour pause on that priority again. -/
def execPfcWatchdogClear (port mask : Nat) (s : State) : Host.Outcome State Fault Refusal := s.run .up (pfcWatchdogClear port mask)

/-- FRAME_RECEIVE (R60): A sub-port checks an arriving frame, discards and counts bad ones, prioritises and passes the rest on. -/
def execFrameReceive (sub : Nat) (f : Frame) (occ : Nat) (s : State) : Host.Outcome State Fault Refusal := s.run .network (frameReceive sub f occ)

/-- SLOW_PATH_FRAME (R61): Firmware answers ARP, neighbour discovery or echo, or takes LLDP or PTP from the slow path. -/
def execSlowPathFrame (sub kind addr : Nat) (s : State) : Host.Outcome State Fault Refusal := s.run .network (slowPathFrame sub kind addr)

/-- LLDP_ADVERTISE_TIMER (R61): Every 30 s firmware sends LLDP advertisements. -/
def execLldpAdvertiseTimer (s : State) : Host.Outcome State Fault Refusal := s.run .network lldpAdvertiseTimer

/-- SUBPORT_LINK_CHANGE (R57): A sub-port's link comes up or goes down. -/
def execSubportLinkChange (sub : Nat) (x : LinkChange) (s : State) : Host.Outcome State Fault Refusal := s.run .gated (subportLinkChange sub x.up x.partner)

/-- LANE_TRAINING_FAIL (R58): A lane fails training, recorded for the ledger rule. -/
def execLaneTrainingFail (port lane : Nat) (s : State) : Host.Outcome State Fault Refusal := s.run .gated (laneTrainingFail port lane)

/-- PFC_PAUSE_RX (R63): A received pause stops egress of the paused priority for the quanta given. -/
def execPfcPauseRx (port prio quanta : Nat) (s : State) : Host.Outcome State Fault Refusal := s.run .network (pfcPauseRx port prio quanta)

/-- PFC_PAUSE_EXPIRY (R63): The pause quanta of a priority run out and its held frames are sent. -/
def execPfcPauseExpiry (port prio : Nat) (s : State) : Host.Outcome State Fault Refusal := s.run .gated (pfcPauseExpiry port prio)

/-- PFC_WATCHDOG_EXPIRY (R64): A priority paused longer than watchdog_ms stops honouring pause and sends held frames. -/
def execPfcWatchdogExpiry (port prio : Nat) (s : State) : Host.Outcome State Fault Refusal := s.run .gated (pfcWatchdogExpiry port prio)

/-- FEC_RATE_CHECK (R82): Uncorrectable codewords per second above PORT_FEC_THR raise the FEC event. -/
def execFecRateCheck (port : Nat) (s : State) : Host.Outcome State Fault Refusal := s.run .gated (fecRateCheck port)

/-- PTP_MSG_RX (R67): Firmware runs the BMCA and servo on a PTP message, stepping or slewing the timebase. -/
def execPtpMsgRx (sub domain form : Nat) (m : PtpMsg) (utc : Nat) (s : State) : Host.Outcome State Fault Refusal := s.run .network (ptpMsgRx sub domain form m utc)

/-- PTP_LOSS_TIMEOUT (R70): Three seconds without announce or sync enter holdover. -/
def execPtpLossTimeout (s : State) : Host.Outcome State Fault Refusal := s.run .up ptpLossTimeout

/-- PPS_EDGE (R68): A PPS_IN edge advances PORT_PPS_SEC and aligns the second. -/
def execPpsEdge (falling : Bool) (s : State) : Host.Outcome State Fault Refusal := s.run .up (ppsEdge falling)

/-- PPS_EDGE_MISSING (R70): An edge missing from its window is supplied by the timebase with event 0x083. -/
def execPpsEdgeMissing (s : State) : Host.Outcome State Fault Refusal := s.run .up ppsEdgeMissing

end Sys2Proof.Machine
end

