-- ==== Sys2Proof/Machine/ExecPower.lean ====
section
/-!
DEFINITION. The meanings of the commands of shaping, the governor and the slots. Each is its row's function on the chip, run while the parts that it acts on run (Machine/Settle.lean).
-/

namespace Sys2Proof.Machine

/-- SLOT_POWER_SET (R332): Sets or withdraws a slot's enable, starting it or running a controlled off. -/
def execSlotPowerSet (h : Hdr) (slot on : Nat) (s : State) : Host.Outcome State Fault Refusal := s.run .up (slotPowerSet h slot on)

/-- SLOT_CURVE_SET (R327): Writes a path's eight curve points, refused against order and fuse ceilings. -/
def execSlotCurveSet (h : Hdr) (slot : Nat) (images : List Nat) (s : State) : Host.Outcome State Fault Refusal := s.run .up (slotCurveSet h slot images)

/-- SLOT_CFG_SET (R341): Writes a slot's channel configuration, limits and thermal registers. -/
def execSlotCfgSet (h : Hdr) (slot cfg lim thCfg thParam : Nat) (s : State) : Host.Outcome State Fault Refusal := s.run .up (slotCfgSet h slot cfg lim thCfg thParam)

/-- SLOT_UNLOCK (R330): Clears a slot channel's lock and fault count. -/
def execSlotUnlock (h : Hdr) (slot : Nat) (s : State) : Host.Outcome State Fault Refusal := s.run .up (slotUnlock h slot)

/-- SLOT_LED_SET (R337): Sets locate or an override pattern, applied by the sideband owner. -/
def execSlotLedSet (h : Hdr) (slot image : Nat) (s : State) : Host.Outcome State Fault Refusal := s.run .up (slotLedSet h slot image)

/-- SLOT_REMOVE (R338): Requests removal of a slot as a short press does, replying at confirmation or refusal. -/
def execSlotRemove (h : Hdr) (slot : Nat) (s : State) : Host.Outcome State Fault Refusal := s.run .up (slotRemove h slot)

/-- SLOT_MI_READ (R322): Returns an NVMe-MI poll result or data structure of a slot. -/
def execSlotMiRead (h : Hdr) (slot kind type controller : Nat) (response : Option Bytes) (s : State) : Host.Outcome State Fault Refusal := s.run .up (slotMiRead h slot kind type controller response)

/-- SLOT_STATUS_GET (R435): Returns a slot's channel, fault, thermal, counter and drive status images. -/
def execSlotStatusGet (h : Hdr) (slot : Nat) (s : State) : Host.Outcome State Fault Refusal := s.run .up (slotStatusGet h slot)

/-- SLOT_GLB_SET (R341): Writes SLOT_GLB_CFG. -/
def execSlotGlbSet (h : Hdr) (image : Nat) (s : State) : Host.Outcome State Fault Refusal := s.run .up (slotGlbSet h image)

/-- DRIVE_LINK_SET (R317): Writes a slot's link configuration and DRV_CFG. -/
def execDriveLinkSet (h : Hdr) (slot link cfg : Nat) (s : State) : Host.Outcome State Fault Refusal := s.run .up (driveLinkSet h slot link cfg)

/-- SHAPE_SET (R280): Sets a paddock or volume shaping contract with both buckets full. -/
def execShapeSet (h : Hdr) (kind index cr pr burst peakBurst : Nat) (s : State) : Host.Outcome State Fault Refusal := s.runSettled .up (shapeSet h kind index cr pr burst peakBurst)

/-- SHAPE_CLEAR (R285): Removes a shaping contract and makes a held queue eligible at once. -/
def execShapeClear (h : Hdr) (kind index : Nat) (s : State) : Host.Outcome State Fault Refusal := s.runSettled .up (shapeClear h kind index)

/-- SHAPE_OVERHEAD_SET (R279): Sets a paddock's per-command cost overhead. -/
def execShapeOverheadSet (h : Hdr) (paddock overhead : Nat) (s : State) : Host.Outcome State Fault Refusal := s.run .up (shapeOverheadSet h paddock overhead)

/-- GATE_SET (R286): Sets a slot's gate enable and up to eight windows, applied at once. -/
def execGateSet (h : Hdr) (slot enable : Nat) (images : List Nat) (s : State) : Host.Outcome State Fault Refusal := s.run .up (gateSet h slot enable images)

/-- GATE_CFG_SET (R288): Writes the gate guard multiplier. -/
def execGateCfgSet (h : Hdr) (image : Nat) (s : State) : Host.Outcome State Fault Refusal := s.run .up (gateCfgSet h image)

/-- GOV_CAP_SET (R291): Sets the shelf power cap and this chip's share and triggers the cap exchange. -/
def execGovCapSet (h : Hdr) (image : Nat) (s : State) : Host.Outcome State Fault Refusal := s.run .up (govCapSet h image)

/-- GOV_CLASS_SET (R294): Sets the energy class weights and lane cap. -/
def execGovClassSet (h : Hdr) (image : Nat) (s : State) : Host.Outcome State Fault Refusal := s.run .up (govClassSet h image)

/-- GOV_COST_SET (R290): Loads or freezes a slot's cost-table entry. -/
def execGovCostSet (h : Hdr) (slot cls image : Nat) (s : State) : Host.Outcome State Fault Refusal := s.run .up (govCostSet h slot cls image)

/-- GOV_CTL_SET (R312): Writes the governor control register. -/
def execGovCtlSet (h : Hdr) (image : Nat) (s : State) : Host.Outcome State Fault Refusal := s.run .up (govCtlSet h image)

/-- PD_SET (R309): Forces a power domain on, clock-gated or power-gated, or returns it to automatic control. -/
def execPdSet (h : Hdr) (domain req : Nat) (s : State) : Host.Outcome State Fault Refusal := s.run .up (pdSet h domain req)

/-- ISLAND_POINT_SET (R302): Writes an island's slowest allowed point and pin. -/
def execIslandPointSet (h : Hdr) (island maxPoint pin : Nat) (s : State) : Host.Outcome State Fault Refusal := s.run .up (islandPointSet h island maxPoint pin)

/-- VF_CALIBRATE (R304): Long operation that calibrates the points of one island or all islands. -/
def execVfCalibrate (h : Hdr) (island : Nat) (s : State) : Host.Outcome State Fault Refusal := s.run .up (vfCalibrate h island)

/-- VF_CFG_SET (R301): Writes guard steps, headroom and recalibration period. -/
def execVfCfgSet (h : Hdr) (image : Nat) (s : State) : Host.Outcome State Fault Refusal := s.run .up (vfCfgSet h image)

/-- DRIVE_PS_SET (R300): Sets a slot's operational ceiling, non-operational state and idle time. -/
def execDrivePsSet (h : Hdr) (slot lowest np idleMs : Nat) (s : State) : Host.Outcome State Fault Refusal := s.run .up (drivePsSet h slot lowest np idleMs)

/-- THERMAL_SET (R310): Sets the warn, throttle and critical temperature thresholds. -/
def execThermalSet (h : Hdr) (warn throttle crit : Nat) (s : State) : Host.Outcome State Fault Refusal := s.run .up (thermalSet h warn throttle crit)

/-- GOV_TEMP_PEAK_CLR (R312): A write of peak_clr clears the peak temperature. -/
def execGovTempPeakClr (s : State) : Host.Outcome State Fault Refusal := s.run .up govTempPeakClr

/-- GOV_SHAPE_SEL_WRITE (R312): Writing the shape select takes a snapshot of the selected contract's views. -/
def execGovShapeSelWrite (kind island index : Nat) (s : State) : Host.Outcome State Fault Refusal := s.run .up (govShapeSelWrite kind island index)

/-- SLOT_OFF_REQ_WRITE (R333): Writing off_req starts a controlled off of the slot path. -/
def execSlotOffReqWrite (slot : Nat) (s : State) : Host.Outcome State Fault Refusal := s.run .up (slotOffReqWrite slot)

/-- SLOT_UNLOCK_WRITE (R330): Writing unlock clears the channel's lock and count. -/
def execSlotUnlockWrite (slot : Nat) (s : State) : Host.Outcome State Fault Refusal := s.run .up (slotUnlockWrite slot)

/-- SLOT_FAULT_REARM (R341): Writing 1 to valid re-arms a path's fault latch. -/
def execSlotFaultRearm (slot : Nat) (s : State) : Host.Outcome State Fault Refusal := s.run .up (slotFaultRearm slot)

/-- SLOT_EVT_LAST_REARM (R341): Writing 1 to valid re-arms the shared slot event latch. -/
def execSlotEvtLastRearm (s : State) : Host.Outcome State Fault Refusal := s.run .up slotEvtLastRearm

/-- GOV_CREDIT_INTERVAL (R294): Every 100 µs AON computes the budget and credits the drive lanes. -/
def execGovCreditInterval (s : State) : Host.Outcome State Fault Refusal := s.run .up govCreditInterval

/-- TELEMETRY_SAMPLE (R293): Every 10 µs the sensors and rail monitors are summed and thresholds judged. -/
def execTelemetrySample (draw : Nat) (railFailed : Bool) (temps : List (Option Int)) (s : State) : Host.Outcome State Fault Refusal := s.runSettled .up (telemetrySample draw railFailed temps)

/-- THERMAL_TRIP (R311): A sensor at 115 °C asserts THERMTRIP_N and stops every island clock but AON. -/
def execThermalTrip (s : State) : Host.Outcome State Fault Refusal := s.run .up thermalTrip

/-- COST_LEARN_INTERVAL (R290): Every 100 ms cost tables are scaled toward measured energy and sums exchanged. -/
def execCostLearnInterval (measured theirs : List (Nat × Nat)) (busyThere : List Nat) (s : State) : Host.Outcome State Fault Refusal := s.run .up (costLearnInterval measured theirs busyThere)

/-- CAP_EXCHANGE_RX (R292): The partner's cap and share are compared and a mismatch resolved. -/
def execCapExchangeRx (cap share : Nat) (s : State) : Host.Outcome State Fault Refusal := s.run .up (capExchangeRx cap share)

/-- SHARE_DIVISION (R284): Every 1 ms the chip's contract share is divided among its CMD islands. -/
def execShareDivision (s : State) : Host.Outcome State Fault Refusal := s.run .up shareDivision

/-- DEMAND_EXCHANGE (R284): Every 100 ms paddock demand is exchanged and the contract shared between the chips. -/
def execDemandExchange (theirs : List (Nat × Nat)) (s : State) : Host.Outcome State Fault Refusal := s.run .up (demandExchange theirs)

/-- ISLAND_POINT_INTERVAL (R302): Every 1 ms firmware chooses each slowable island's point from its activity. -/
def execIslandPointInterval (acts : List Nat) (s : State) : Host.Outcome State Fault Refusal := s.run .up (islandPointInterval acts)

/-- RAIL_SETTLED (R303): The core rail or island regulator reaches its voltage and the faster clock is switched. -/
def execRailSettled (island : Nat) (core : Bool) (s : State) : Host.Outcome State Fault Refusal := s.run .up (railSettled island core)

/-- CANARY_WARN_TRIP (R306): A warn-path near-miss raises the voltage 5 mV and schedules recalibration. -/
def execCanaryWarnTrip (island : Nat) (s : State) : Host.Outcome State Fault Refusal := s.run .up (canaryWarnTrip island)

/-- CANARY_FAIL_TRIP (R306): A fail-path trip raises voltage, slows the island one point and marks recalibration. -/
def execCanaryFailTrip (island : Nat) (s : State) : Host.Outcome State Fault Refusal := s.run .up (canaryFailTrip island)

/-- RECAL_TIMER (R304): recal_s elapses or a scheduled recalibration runs. -/
def execRecalTimer (island act : Nat) (trips : List (Option Nat)) (s : State) : Host.Outcome State Fault Refusal := s.run .up (recalTimer island act trips)

/-- PMBUS_NO_ACK (R307): The core rail fails three PMBus attempts and moves to higher voltage points stop. -/
def execPmbusNoAck (s : State) : Host.Outcome State Fault Refusal := s.run .up pmbusNoAck

/-- GATE_WINDOW_EDGE (R286): A slot's time gate opens or closes as the minute of the day crosses a window edge. -/
def execGateWindowEdge (slot : Nat) (s : State) : Host.Outcome State Fault Refusal := s.run .up (gateWindowEdge slot)

/-- IDLE_NP_EXPIRY (R300): A member idle for idle_np_ms moves to its non-operational power state. -/
def execIdleNpExpiry (slot : Nat) (s : State) : Host.Outcome State Fault Refusal := s.run .up (idleNpExpiry slot)

/-- DOMAIN_IDLE (R309): A domain idle with empty stiles for 10 µs, or gating conditions met, is gated. -/
def execDomainIdle (domain : Nat) (s : State) : Host.Outcome State Fault Refusal := s.run .up (domainIdle domain)

/-- DOMAIN_WAKE_REQUEST (R309): A write toward a gated domain requests its wake. -/
def execDomainWakeRequest (domain sender : Nat) (s : State) : Host.Outcome State Fault Refusal := s.run .up (domainWakeRequest domain sender)

/-- SHORT_CIRCUIT_TRIP (R326): The comparator pulls the gate off within 1 µs when current passes sc_ma. -/
def execShortCircuitTrip (slot amps : Nat) (s : State) : Host.Outcome State Fault Refusal := s.runSettled .aon (shortCircuitTrip slot amps)

/-- PATH_SAMPLE (R324): Every 1 µs AON samples path current and voltages, updating curve accumulators and fault checks. -/
def execPathSample (slot amps vout vin : Nat) (s : State) : Host.Outcome State Fault Refusal := s.runSettled .aon (pathSample slot amps vout vin)

/-- THERMAL_MODEL_STEP (R328): Every 10 µs the MOSFET junction model updates and may fault. -/
def execThermalModelStep (slot : Nat) (diode : Option Int) (s : State) : Host.Outcome State Fault Refusal := s.runSettled .aon (thermalModelStep slot diode)

/-- POWER_GOOD (R325): VOUT reaches pg_mv and the gate is fully enhanced. -/
def execPowerGood (slot : Nat) (s : State) : Host.Outcome State Fault Refusal := s.run .aon (powerGood slot)

/-- RAMP_TIMEOUT (R325): Power good not reached within ramp_to_ms is a ramp fault. -/
def execRampTimeout (slot : Nat) (s : State) : Host.Outcome State Fault Refusal := s.runSettled .aon (rampTimeout slot)

/-- RETRY_TIMER_EXPIRY (R330): The retry timer ends and the path starts if its conditions hold. -/
def execRetryTimerExpiry (slot : Nat) (s : State) : Host.Outcome State Fault Refusal := s.run .aon (retryTimerExpiry slot)

/-- FAULT_COUNT_CLEAR (R330): 60 s of power good without fault clears the fault count. -/
def execFaultCountClear (slot : Nat) (s : State) : Host.Outcome State Fault Refusal := s.run .aon (faultCountClear slot)

/-- INSERT_DELAY_EXPIRY (R331): ins_delay_ms after insertion the path starts ramping. -/
def execInsertDelayExpiry (slot : Nat) (s : State) : Host.Outcome State Fault Refusal := s.run .aon (insertDelayExpiry slot)

/-- PRESENCE_CHANGE (R331): SLOT_PRSNT_N changes; a lost drive turns the path off without a fault. -/
def execPresenceChange (slot : Nat) (present : Bool) (s : State) : Host.Outcome State Fault Refusal := s.runSettled .aon (presenceChange slot present)

/-- SEAT_CHANGE (R332): SLOT_SEAT_N changes on a vault slot, losing power or enabling a seating start. -/
def execSeatChange (slot : Nat) (seated : Bool) (s : State) : Host.Outcome State Fault Refusal := s.runSettled .aon (seatChange slot seated)

/-- VAULT_SEAT_START (R332): Presence and seating held 50 ms start a privileged vault slot in AON. -/
def execVaultSeatStart (slot : Nat) (s : State) : Host.Outcome State Fault Refusal := s.run .aon (vaultSeatStart slot)

/-- RAMP_DOWN_DONE (R331): VOUT below 1,000 mV or 100 ms ends a ramp-down. -/
def execRampDownDone (slot : Nat) (s : State) : Host.Outcome State Fault Refusal := s.run .aon (rampDownDone slot)

/-- PWARN_LEAD_EXPIRY (R333): pwarn_lead_ms after the warning PERST_N is asserted and the gate ramps down. -/
def execPwarnLeadExpiry (slot : Nat) (s : State) : Host.Outcome State Fault Refusal := s.runSettled .aon (pwarnLeadExpiry slot)

/-- PWARN_FOLLOW (R333): A withdrawn chip's AON turns its path off when the partner holds the warning 20 ms. -/
def execPwarnFollow (slot : Nat) (s : State) : Host.Outcome State Fault Refusal := s.runSettled .aon (pwarnFollow slot)

/-- BUTTON_RELEASE (R335): A button release is classed and a short press requests removal, power or unlock. -/
def execButtonRelease (slot heldMs : Nat) (s : State) : Host.Outcome State Fault Refusal := s.run .up (buttonRelease slot heldMs)

/-- BUTTON_LONG_PRESS (R339): A press held 5 s with the forced fuse set starts forced removal in AON. -/
def execButtonLongPress (slot : Nat) (s : State) : Host.Outcome State Fault Refusal := s.run .up (buttonLongPress slot)

/-- REMOVAL_BLINK_EXPIRY (R338): 5 s after a confirmed removal request both chips warn and the partner is asked to switch off. -/
def execRemovalBlinkExpiry (slot : Nat) (s : State) : Host.Outcome State Fault Refusal := s.run .up (removalBlinkExpiry slot)

/-- PARTNER_OFF_REPORT (R338): The partner reports its path off and the owner ramps its own down. -/
def execPartnerOffReport (slot : Nat) (s : State) : Host.Outcome State Fault Refusal := s.runSettled .up (partnerOffReport slot)

/-- PARTNER_OFF_TIMEOUT (R338): No partner off report within 1,000 ms lifts the quiesce and shows refusal. -/
def execPartnerOffTimeout (slot : Nat) (s : State) : Host.Outcome State Fault Refusal := s.run .up (partnerOffTimeout slot)

/-- FORCED_WARNING_EXPIRY (R339): 15 s into forced removal both chips warn and cut the gates. -/
def execForcedWarningExpiry (slot : Nat) (s : State) : Host.Outcome State Fault Refusal := s.runSettled .up (forcedWarningExpiry slot)

/-- LINK_TRAIN_TIMEOUT (R317): A drive link not in L0 within train_to_ms retrains or drops a generation. -/
def execLinkTrainTimeout (slot : Nat) (s : State) : Host.Outcome State Fault Refusal := s.runSettled .up (linkTrainTimeout slot)

/-- DRIVE_LINK_DOWN (R320): A powered slot's link goes down and its commands are timed out at once. -/
def execDriveLinkDown (slot : Nat) (s : State) : Host.Outcome State Fault Refusal := s.runSettled .up (driveLinkDown slot)

/-- LINK_FAIL_EXPIRY (R320): No link within link_fail_ms fails the drive. -/
def execLinkFailExpiry (slot : Nat) (s : State) : Host.Outcome State Fault Refusal := s.runSettled .up (linkFailExpiry slot)

/-- MI_POLL_TIMER (R322): The sideband owner polls each present powered slot over NVMe-MI. -/
def execMiPollTimer (slot : Nat) (answer : Option (Int × Bool × Bool)) (s : State) : Host.Outcome State Fault Refusal := s.run .up (miPollTimer slot answer)

/-- PERST_RELEASE_DELAY (R317): Firmware releases a slot's PERST_N no sooner than 100 ms after the channel reports power good. -/
def execPerstReleaseDelay (slot : Nat) (s : State) : Host.Outcome State Fault Refusal := s.run .up (perstReleaseDelay slot)

/-- DRIVE_ADMIN_COMPLETE (R300): A drive admin command (Set Features Power Management, registration, shutdown notification) completes or fails, changing power state, rsv_held or shutdown state. -/
def execDriveAdminComplete (slot kind : Nat) (ok : Bool) (s : State) : Host.Outcome State Fault Refusal := s.runSettled .gated (driveAdminComplete slot kind ok)

/-- REMOVAL_REQUEST_RX (R338): The non-owner chip receives the sideband owner's quiesce or switch-off request for a slot and quiesces the drive or asserts PERST_N and ramps its path down. -/
def execRemovalRequestRx (slot kind : Nat) (s : State) : Host.Outcome State Fault Refusal := s.run .up (removalRequestRx slot kind)

/-- DRIVE_PS_REQUEST_RX (R299): Chip A receives chip B's request or activity report for a drive's power state and sends the Set Features. -/
def execDrivePsRequestRx (slot : Nat) (request : Option (Nat × Bool)) (s : State) : Host.Outcome State Fault Refusal := s.run .up (drivePsRequestRx slot request)

/-- DOMAIN_WAKE_DONE (R309): A waking domain finishes waking within 1 µs or 50 µs, retraining SerDes where needed, and releases its stile back-pressure. -/
def execDomainWakeDone (domain : Nat) (s : State) : Host.Outcome State Fault Refusal := s.run .up (domainWakeDone domain)

end Sys2Proof.Machine
end

