-- ==== Sys2Proof/Machine/ExecStart.lean ====
section
/-!
DEFINITION. The meanings of the commands of start-up, firmware, fuses and resets. Each is its row's function on the chip, run while the parts that it acts on run (Machine/Settle.lean).
-/

namespace Sys2Proof.Machine

/-- FW_IMAGE_WRITE (R451): Long operation that erases, programs and verifies the inactive image slot. -/
def execFwImageWrite (h : Hdr) (slot offset length : Nat) (s : State) : Host.Outcome State Fault Refusal := s.run .up (fwImageWrite h slot offset length)

/-- FW_IMAGE_SELECT (R449): Changes the preferred image, marks a trial, or advances the anti-rollback count. -/
def execFwImageSelect (h : Hdr) (slot trial advance : Nat) (s : State) : Host.Outcome State Fault Refusal := s.run .up (fwImageSelect h slot trial advance)

/-- FW_INFO_GET (R467): Returns the running slot, fuse rollback count and both image descriptions. -/
def execFwInfoGet (h : Hdr) (s : State) : Host.Outcome State Fault Refusal := s.run .up (fwInfoGet h)

/-- LEDGER_READ (R467): Returns start-ledger entries oldest first. -/
def execLedgerRead (h : Hdr) (first : Nat) (s : State) : Host.Outcome State Fault Refusal := s.run .up (ledgerRead h first)

/-- LEDGER_RULE_CLEAR (R444): Removes rules from the rule record by mask. -/
def execLedgerRuleClear (h : Hdr) (mask : Nat) (s : State) : Host.Outcome State Fault Refusal := s.run .up (ledgerRuleClear h mask)

/-- SHELF_RECORD_WRITE (R449): Writes the older copy of the shelf configuration record from the exchange area. -/
def execShelfRecordWrite (h : Hdr) (offset length : Nat) (s : State) : Host.Outcome State Fault Refusal := s.run .up (shelfRecordWrite h offset length)

/-- SHELF_RECORD_READ (R467): Reads the shelf configuration record into the exchange area. -/
def execShelfRecordRead (h : Hdr) (offset : Nat) (s : State) : Host.Outcome State Fault Refusal := s.run .up (shelfRecordRead h offset)

/-- CHIP_RESET (R463): Performs a warm, cold or island reset by command. -/
def execChipReset (h : Hdr) (kind island : Nat) (s : State) : Host.Outcome State Fault Refusal := s.runSettled .up (chipReset h kind island)

/-- FUSE_PROGRAM (R455): Blows one fuse field and then its CRC, on PCIe rings only. -/
def execFuseProgram (h : Hdr) (field generate slot privilege value : Nat) (s : State) : Host.Outcome State Fault Refusal := s.run .up (fuseProgram h field generate slot privilege value)

/-- FUSE_SEAL (R456): Blows the seal fuse once root key, key hash and debug lock are valid. -/
def execFuseSeal (h : Hdr) (word : Nat) (s : State) : Host.Outcome State Fault Refusal := s.run .up (fuseSeal h word)

/-- ISLAND_RESET (R465): An island alone is reset, its stiles and queued messages discarded and its unit recovered. -/
def execIslandReset (island : Nat) (long : Bool) (s : State) : Host.Outcome State Fault Refusal := s.runSettled .up (islandReset island long)

/-- ISLAND_WATCHDOG_EXPIRY (R463): An island idle with work queued for 100 ms is reset by firmware. -/
def execIslandWatchdogExpiry (island : Nat) (s : State) : Host.Outcome State Fault Refusal := s.runSettled .up (islandWatchdogExpiry island)

/-- PORST_ASSERT (R440): PORST_N asserted drives crook lines released, gates off and PERST_N asserted. -/
def execPorstAssert (s : State) : Host.Outcome State Fault Refusal := s.run .pin porstAssert

/-- PORST_RELEASE (R442): PORST_N released starts a cold start at ST00. -/
def execPorstRelease (s : State) : Host.Outcome State Fault Refusal := s.run .pin porstRelease

/-- WARM_RESET (R463): WARM_RST_N held 1 µs releases crook lines and starts at ST03. -/
def execWarmReset (s : State) : Host.Outcome State Fault Refusal := s.runSettled .up warmReset

/-- START_STEP_DONE (R442): A start step ends, its outcome is written to the ledger and the next step begins. -/
def execStartStepDone (reason detail : Nat) (found : StepFound) (s : State) : Host.Outcome State Fault Refusal := s.runSettled .up (startStepDone reason detail found)

/-- START_STEP_TIMEOUT (R445): A step past its time-out fails and is handled by the ledger rules. -/
def execStartStepTimeout (reason detail : Nat) (s : State) : Host.Outcome State Fault Refusal := s.runSettled .up (startStepTimeout reason detail)

/-- AON_RESTART (R445): AON restarts the chip from ST00 without PORST_N after a step failure. -/
def execAonRestart (s : State) : Host.Outcome State Fault Refusal := s.runSettled .aon aonRestart

/-- TRIAL_PROMOTE (R449): A trial image in service for 600 s becomes the preference. -/
def execTrialPromote (s : State) : Host.Outcome State Fault Refusal := s.run .up trialPromote

/-- POWER_RETURN (R211): PWR_FAIL_N deasserts or the 12 V input returns while AON holds the chip in dump-done, and AON starts the chip from cold. -/
def execPowerReturn (s : State) : Host.Outcome State Fault Refusal := s.runSettled .aon powerReturn

end Sys2Proof.Machine
end

