-- ==== Sys2Proof/Machine/ExecStripes.lean ====
section
/-!
DEFINITION. The meanings of the commands of flocks, stripes, members and background work. Each is its row's function on the chip, run while the parts that it acts on run (Machine/Settle.lean).
-/

namespace Sys2Proof.Machine

/-- MAP_REVERSE (R361): Returns the acre record of a physical acre. -/
def execMapReverse (h : Hdr) (flock pa : Nat) (s : State) : Host.Outcome State Fault Refusal := s.run .up (mapReverse h flock pa)

/-- FLOCK_CREATE (R224): Checks members, builds the layout table, writes labels and creates a flock on both chips. -/
def execFlockCreate (h : Hdr) (flock width z n : Nat) (slots qualified : List Nat) (blocks : Nat) (s : State) : Host.Outcome State Fault Refusal := s.runSettled .up (flockCreate h flock width z n slots qualified blocks)

/-- FLOCK_DELETE (R221): Deletes a flock that holds no acres. -/
def execFlockDelete (h : Hdr) (flock : Nat) (s : State) : Host.Outcome State Fault Refusal := s.runSettled .up (flockDelete h flock)

/-- FLOCK_GET (R435): Returns a flock label and its status and acre counts. -/
def execFlockGet (h : Hdr) (flock : Nat) (s : State) : Host.Outcome State Fault Refusal := s.run .up (flockGet h flock)

/-- ACRE_GROUP_SET (R227): Reassigns an empty acre group to a fold or leaves it unassigned. -/
def execAcreGroupSet (h : Hdr) (flock fold group : Nat) (s : State) : Host.Outcome State Fault Refusal := s.runSettled .up (acreGroupSet h flock fold group)

/-- REBUILD_START (R258): Starts a rebuild of a flock's owned stripes as a long operation. -/
def execRebuildStart (h : Hdr) (flock : Nat) (s : State) : Host.Outcome State Fault Refusal := s.runSettled .up (rebuildStart h flock)

/-- COPYBACK_START (R267): Names a replacement drive and starts copy-back to a member slot. -/
def execCopybackStart (h : Hdr) (flock member slot : Nat) (s : State) : Host.Outcome State Fault Refusal := s.runSettled .up (copybackStart h flock member slot)

/-- SCRUB_START (R268): Starts a scrub of a flock in report or repair mode from a first stripe. -/
def execScrubStart (h : Hdr) (flock mode first : Nat) (s : State) : Host.Outcome State Fault Refusal := s.runSettled .up (scrubStart h flock mode first)

/-- MEMBER_FAIL (R255): Fails a flock member by command. -/
def execMemberFail (h : Hdr) (flock member : Nat) (s : State) : Host.Outcome State Fault Refusal := s.runSettled .up (memberFail h flock member)

/-- LOST_LIST_READ (R263): Reads records of the lost-block list. -/
def execLostListRead (h : Hdr) (first : Nat) (s : State) : Host.Outcome State Fault Refusal := s.run .up (lostListRead h first)

/-- DRIVE_TMO_SET (R180): Sets a slot's drive command time-out. -/
def execDriveTmoSet (h : Hdr) (slot tmo : Nat) (s : State) : Host.Outcome State Fault Refusal := s.run .up (driveTmoSet h slot tmo)

/-- CMDQ_TAGS_PEAK_CLR (R186): A write of peak_clr clears a CMD island's peak in-flight count. -/
def execCmdqTagsPeakClr (isl : Nat) (s : State) : Host.Outcome State Fault Refusal := s.run .up (cmdqTagsPeakClr isl)

/-- CMDQ_TMO_LAST_REARM (R186): Writing 1 to valid re-arms the drive time-out latch. -/
def execCmdqTmoLastRearm (s : State) : Host.Outcome State Fault Refusal := s.run .up cmdqTmoLastRearm

/-- JNL_PEAK_CLR (R250): A write of peak_clr clears the peak of open journal entries. -/
def execJnlPeakClr (s : State) : Host.Outcome State Fault Refusal := s.run .up jnlPeakClr

/-- STRIPE_GATE_LAST_REARM (R250): Writing 1 to valid re-arms the crook gate refusal latch. -/
def execStripeGateLastRearm (s : State) : Host.Outcome State Fault Refusal := s.run .up stripeGateLastRearm

/-- STRIPE_VERIFY_LAST_REARM (R250): Writing 1 to valid re-arms the check mismatch latch. -/
def execStripeVerifyLastRearm (s : State) : Host.Outcome State Fault Refusal := s.run .up stripeVerifyLastRearm

/-- STRIPE_LAYOUT_SEL_WRITE (R250): Writing the layout select takes a snapshot of the selected row. -/
def execStripeLayoutSelWrite (flock row : Nat) (s : State) : Host.Outcome State Fault Refusal := s.run .up (stripeLayoutSelWrite flock row)

/-- LOST_OVERFLOW_CLEAR (R276): Writing 1 clears the lost-list overflow flag once the list holds fewer than 65,536 records. -/
def execLostOverflowClear (s : State) : Host.Outcome State Fault Refusal := s.run .up lostOverflowClear

/-- COMMIT_OFFER (R237): The assembler takes Dirty runs of a stripe into a commit and stages ciphertext and parity. -/
def execCommitOffer (flock stripe : Nat) (s : State) : Host.Outcome State Fault Refusal := s.runSettled .work (commitOffer flock stripe)

/-- JOURNAL_HELD (R238): A journal entry held by the partner or a checkpoint lets its member writes be submitted. -/
def execJournalHeld (entry : Nat) (s : State) : Host.Outcome State Fault Refusal := s.runSettled .work (journalHeld entry)

/-- MEMBER_WRITE_COMPLETE (R246): A member write completes, setting done, retrying on error, and retiring the entry. -/
def execMemberWriteComplete (slot cid outcome : Nat) (s : State) : Host.Outcome State Fault Refusal := s.runSettled .gated (memberWriteComplete slot cid outcome)

/-- DRIVE_READ_COMPLETE (R234): A member read completes, is decrypted and checked, or reconstructed and repaired. -/
def execDriveReadComplete (slot cid : Nat) (ok : Bool) (blocks : List Bytes) (s : State) : Host.Outcome State Fault Refusal := s.runSettled .gated (driveReadComplete slot cid ok blocks)

/-- DRIVE_CMD_TIMEOUT (R180): A drive command passes tmo_ms; its tag is penned and an Abort sent. -/
def execDriveCmdTimeout (slot cid : Nat) (s : State) : Host.Outcome State Fault Refusal := s.runSettled .gated (driveCmdTimeout slot cid)

/-- DRIVE_ABORT_COMPLETE (R181): A drive Abort reports aborted, freeing the tag, or not aborted. -/
def execDriveAbortComplete (slot cid : Nat) (aborted : Bool) (s : State) : Host.Outcome State Fault Refusal := s.runSettled .gated (driveAbortComplete slot cid aborted)

/-- LATE_DRIVE_COMPLETION (R181): A completion of a penned command is dropped, or used for a member write. -/
def execLateDriveCompletion (slot cid outcome : Nat) (s : State) : Host.Outcome State Fault Refusal := s.runSettled .gated (lateDriveCompletion slot cid outcome)

/-- PEN_LIMIT_EXPIRY (R181): A pen older than pen_limit_ms or too many pens reset the drive controller. -/
def execPenLimitExpiry (slot : Nat) (s : State) : Host.Outcome State Fault Refusal := s.run .gated (penLimitExpiry slot)

/-- CONTROLLER_RESET_DONE (R181): A drive controller reset completes, freeing pens and resolving commands, or fails the drive. -/
def execControllerResetDone (slot : Nat) (ok : Bool) (s : State) : Host.Outcome State Fault Refusal := s.runSettled .gated (controllerResetDone slot ok)

/-- DRIVE_WAKE_TIMEOUT (R182): A drive not operational within wake_ms lets waiting reads be reconstructed. -/
def execDriveWakeTimeout (slot : Nat) (s : State) : Host.Outcome State Fault Refusal := s.runSettled .up (driveWakeTimeout slot)

/-- CHECKPOINT_TIMER (R241): interval_ms or an entry count starts a journal checkpoint on the vaults. -/
def execCheckpointTimer (s : State) : Host.Outcome State Fault Refusal := s.runSettled .work checkpointTimer

/-- CHECKPOINT_WRITE_DONE (R242): A checkpoint write completes or fails on a vault. -/
def execCheckpointWriteDone (ok32 ok33 : Bool) (s : State) : Host.Outcome State Fault Refusal := s.runSettled .up (checkpointWriteDone ok32 ok33)

/-- RB_DELAY_EXPIRY (R255): A member absent for rb_delay_s becomes failed. -/
def execRbDelayExpiry (flock member : Nat) (s : State) : Host.Outcome State Fault Refusal := s.runSettled .work (rbDelayExpiry flock member)

/-- REBUILD_STRIPE_DONE (R259): A stripe's reconstructed strips are written to their targets and the rebuild advances. -/
def execRebuildStripeDone (slot : Nat) (s : State) : Host.Outcome State Fault Refusal := s.runSettled .gated (rebuildStripeDone slot)

/-- RESYNC_STRIPE_DONE (R256): A stale region's strips are written to the returned member. -/
def execResyncStripeDone (slot : Nat) (s : State) : Host.Outcome State Fault Refusal := s.runSettled .gated (resyncStripeDone slot)

/-- COPYBACK_STRIPE_DONE (R267): A stripe's strip is copied to the replacement member. -/
def execCopybackStripeDone (slot : Nat) (s : State) : Host.Outcome State Fault Refusal := s.runSettled .gated (copybackStripeDone slot)

/-- SCRUB_STRIPE_DONE (R269): A stripe is read, checked, compared and repaired as the mode states. -/
def execScrubStripeDone (slot : Nat) (s : State) : Host.Outcome State Fault Refusal := s.runSettled .gated (scrubStripeDone slot)

/-- FENCE_TIMER (R264): After 256 stripes or 1 s the operation's kind-5 fence entry is rewritten. -/
def execFenceTimer (slot : Nat) (s : State) : Host.Outcome State Fault Refusal := s.runSettled .gated (fenceTimer slot)

/-- PEN_RESOLVED_REVISIT (R261): A stripe set aside for a penned block is settled once the pen resolves. -/
def execPenResolvedRevisit (slot : Nat) (s : State) : Host.Outcome State Fault Refusal := s.runSettled .work (penResolvedRevisit slot)

/-- SCRUB_PERIOD_EXPIRY (R268): period_days after the last scrub began an automatic scrub starts. -/
def execScrubPeriodExpiry (flock : Nat) (s : State) : Host.Outcome State Fault Refusal := s.runSettled .work (scrubPeriodExpiry flock)

/-- LANE_RELEASE (R295): A lane with positive level releases its head command to the drive and is charged. -/
def execLaneRelease (slot lane : Nat) (s : State) : Host.Outcome State Fault Refusal := s.runSettled .work (laneRelease slot lane)

/-- DRIVE_LINK_UP (R317): A drive port's link reaches L0, after which queues are created, registration is made, R318 is checked and resync, copy-back or replay of the member may begin. -/
def execDriveLinkUp (slot gen width : Nat) (fit : Bool) (cntlid label : Nat) (s : State) : Host.Outcome State Fault Refusal := s.runSettled .up (driveLinkUp slot gen width fit cntlid label)

/-- LOST_BLOCK_CHANGE_RX (R263): A chip receives a lost-block addition or removal from its partner and updates its own list and record areas. -/
def execLostBlockChangeRx (add : Bool) (r : LostRec) (s : State) : Host.Outcome State Fault Refusal := s.runSettled .up (lostBlockChangeRx add r)

/-- RECORD_AREA_WRITE_DONE (R509): A write of a stale mark, lost-block list change or flock record to a vault record area completes or fails. -/
def execRecordAreaWriteDone (ok32 ok33 : Bool) (s : State) : Host.Outcome State Fault Refusal := s.runSettled .up (recordAreaWriteDone ok32 ok33)

end Sys2Proof.Machine
end

