-- ==== Sys2Proof/Machine/ExecSwitch.lean ====
section
/-!
DEFINITION. The meanings of the commands of the cell switch. Each is its row's function on the chip, run while the parts that it acts on run (Machine/Settle.lean).
-/

namespace Sys2Proof.Machine

/-- SWX_CLASS_CFG_WRITE (R39): A class configuration write takes effect at the next cell time or is refused with event 0x7CC. -/
def execSwxClassCfgWrite (k image : Nat) (s : State) : Host.Outcome State Fault Refusal := s.run .up (swxClassCfgWrite k image)

/-- SWX_PEAK_CLR (R52): A write of peak_clr clears the buffer's peak occupancy. -/
def execSwxPeakClr (s : State) : Host.Outcome State Fault Refusal := s.run .up swxPeakClr

/-- SWX_RESEQ_ERR_REARM (R52): Writing 1 to valid re-arms the resequencer time-out latch. -/
def execSwxReseqErrRearm (s : State) : Host.Outcome State Fault Refusal := s.run .up swxReseqErrRearm

/-- CELL_ENQUEUE (R40): An arriving cell is admitted from reserve or shared pool, makes room by push-out, or holds its input. -/
def execCellEnqueue (x : Cell) (s : State) : Host.Outcome State Fault Refusal := s.run .up (cellEnqueue x)

/-- CELL_TIME_MATCH (R28): Each plane matches inputs to outputs in three rounds and moves one cell per match, stamping seq. -/
def execCellTimeMatch (bad : List Nat) (ecc : Option (Bool × Nat × Nat)) (s : State) : Host.Outcome State Fault Refusal := s.run .up (fun c => (cellTimeMatch bad ecc c).settleDamaged)

/-- HCRC_FAIL (R33): A cell with a failing header CRC is discarded and replayed from the replay buffer. -/
def execHcrcFail (p out : Nat) (again : Bool) (s : State) : Host.Outcome State Fault Refusal := s.run .up (fun c => (hcrcFail p out again c).settleDamaged)

/-- PUSH_OUT_NOTICE (R42): A source receives a push-out notice and resends the whole message as a new enqueue. -/
def execPushOutNotice (src msgId : Nat) (s : State) : Host.Outcome State Fault Refusal := s.run .up (pushOutNotice src msgId)

/-- FIRST_CELL_LEFT_REPORT (R43): A source learns its evictable message's first cell left the buffer and may drop its copy. -/
def execFirstCellLeftReport (src msgId : Nat) (s : State) : Host.Outcome State Fault Refusal := s.run .up (firstCellLeftReport src msgId)

/-- RESEQ_TIMEOUT (R36): A sequence gap unfilled past reseq_to delivers the message poisoned and resumes. -/
def execReseqTimeout (dst src msgId : Nat) (s : State) : Host.Outcome State Fault Refusal := s.run .up (fun c => (reseqTimeout dst src msgId c).settleDamaged)

/-- STILE_WAKE_TIMEOUT (R20): A gated receiver not releasing back-pressure within wake_to raises event 0x7CA. -/
def execStileWakeTimeout (sender receiver : Nat) (s : State) : Host.Outcome State Fault Refusal := s.run .up (stileWakeTimeout sender receiver)

/-- OUTPUT_STALL_TIMEOUT (R45): An output held at out_ceil for over 1 ms raises event 0x7CB. -/
def execOutputStallTimeout (o : Nat) (s : State) : Host.Outcome State Fault Refusal := s.run .up (outputStallTimeout o)

end Sys2Proof.Machine
end

