-- ==== Sys2Proof/Machine/ExecTransport.lean ====
section
/-!
DEFINITION. The meanings of the commands of Drove, NVMe/TCP and RoCE v2. Each is its row's function on the chip, run while the parts that it acts on run (Machine/Settle.lean).
-/

namespace Sys2Proof.Machine

/-- DROVE_CFG_SET (R121): Writes the Drove configuration, timer, path, key, credit, pool and rate registers. -/
def execDroveCfgSet (h : Hdr) (cfg timer path key credit pool press rate : Nat) (s : State) : Host.Outcome State Fault Refusal := s.run .up (droveCfgSet h cfg timer path key credit pool press rate)

/-- STD_TRANSPORT_SET (R81): Writes the NVMe/TCP and RoCE v2 configuration and rate registers. -/
def execStdTransportSet (h : Hdr) (tcp roce rate : Nat) (s : State) : Host.Outcome State Fault Refusal := s.run .up (stdTransportSet h tcp roce rate)

/-- SESSION_LIST (R435): Lists open connection contexts from a first context. -/
def execSessionList (h : Hdr) (first : Nat) (s : State) : Host.Outcome State Fault Refusal := s.run .up (sessionList h first)

/-- SESSION_CLOSE (R176): Closes a connection context; Drove closes with reason 0x0012. -/
def execSessionClose (h : Hdr) (ctx : Nat) (s : State) : Host.Outcome State Fault Refusal := s.runSettled .up (sessionClose h ctx)

/-- DROVE_CTX_SEL_WRITE (R121): Writing the context select takes a consistent snapshot of the context views. -/
def execDroveCtxSelWrite (ctx : Nat) (s : State) : Host.Outcome State Fault Refusal := s.run .up (droveCtxSelWrite ctx)

/-- TCP_ICREQ (R72): An ICReq negotiates digests and TLS requirements and is answered with ICResp or refused. -/
def execTcpIcreq (r : Rx) (o : TcpOpening) (pfv digests maxR2t : Nat) (s : State) : Host.Outcome State Fault Refusal := s.runSettled .network (tcpIcreq r o.port pfv digests maxR2t o.syn)

/-- TCP_CAPSULE_CMD (R72): A command capsule PDU arrives; in-capsule data is taken or R2T is issued. -/
def execTcpCapsuleCmd (ctx : Nat) (q : Sqe) (data : Bytes) (pdu : TcpPdu) (wellFormed : Bool) (colour : Nat) (s : State) : Host.Outcome State Fault Refusal := s.runSettled .network (tcpCapsuleCmd ctx q data pdu.digestOk wellFormed colour pdu.seg)

/-- TCP_H2C_DATA (R72): An H2CData PDU delivers write data for a command. -/
def execTcpH2cData (ctx cid offset : Nat) (data : Bytes) (pdu : TcpPdu) (s : State) : Host.Outcome State Fault Refusal := s.runSettled .network (tcpH2cData ctx cid offset data pdu.digestOk pdu.seg)

/-- TCP_TERM_REQ (R72): An H2CTermReq from the host terminates the connection. -/
def execTcpTermReq (ctx : Nat) (s : State) : Host.Outcome State Fault Refusal := s.runSettled .network (tcpTermReq ctx)

/-- TCP_RTO_EXPIRY (R72): A TCP segment is retransmitted, or the connection reset after 15 retransmissions. -/
def execTcpRtoExpiry (ctx : Nat) (again : Bool) (s : State) : Host.Outcome State Fault Refusal := s.runSettled .network (tcpRtoExpiry ctx again)

/-- TLS_HANDSHAKE_MSG (R73): A TLS 1.3 PSK handshake message is processed, failing with handshake_failure when unacceptable. -/
def execTlsHandshakeMsg (r : Rx) (o : TcpOpening) (kind modes : Nat) (identity : Bytes) (tls13 suite secp384 verified : Bool) (s : State) : Host.Outcome State Fault Refusal := s.runSettled .network (tlsHandshakeMsg r o.port kind modes identity tls13 suite secp384 verified o.syn)

/-- TLS_KEYUPDATE_RX (R74): A KeyUpdate completes a record key update and lets stopped sending resume. -/
def execTlsKeyupdateRx (ctx : Nat) (asks : Bool) (s : State) : Host.Outcome State Fault Refusal := s.run .network (tlsKeyupdateRx ctx asks)

/-- ROCE_CM_MSG (R75): A connection manager message on QP1 sets up or tears down a queue pair. -/
def execRoceCmMsg (r : Rx) (kind ctx qpn psn : Nat) (good : Bool) (s : State) : Host.Outcome State Fault Refusal := s.runSettled .network (roceCmMsg r kind ctx qpn psn good)

/-- ROCE_SEND_RX (R75): A SEND carrying a capsule arrives; duplicates are recognised by PSN. -/
def execRoceSendRx (ctx psn : Nat) (q : Sqe) (data : Bytes) (ce : Bool) (colour : Nat) (s : State) : Host.Outcome State Fault Refusal := s.runSettled .network (roceSendRx ctx psn q data ce colour)

/-- ROCE_READ_RESPONSE_RX (R75): An RDMA READ response delivers a write command's data. -/
def execRoceReadResponseRx (ctx : Nat) (p : RocePkt) (data : Bytes) (s : State) : Host.Outcome State Fault Refusal := s.runSettled .network (roceReadResponseRx ctx p.psn data p.ce)

/-- ROCE_ACK_RX (R75): A RoCE v2 acknowledgement or NAK for the chip's sends arrives. -/
def execRoceAckRx (ctx : Nat) (p : RocePkt) (kind : Nat) (s : State) : Host.Outcome State Fault Refusal := s.runSettled .network (roceAckRx ctx p.psn kind p.ce)

/-- ROCE_REMOTE_OP_RX (R75): An incoming RDMA READ, WRITE or atomic is NAKed and the queue pair goes to error. -/
def execRoceRemoteOpRx (ctx psn : Nat) (s : State) : Host.Outcome State Fault Refusal := s.runSettled .network (roceRemoteOpRx ctx psn)

/-- ROCE_CNP_RX (R66): A received CNP lowers the send rate and raises alpha. -/
def execRoceCnpRx (ctx : Nat) (s : State) : Host.Outcome State Fault Refusal := s.run .network (roceCnpRx ctx)

/-- ROCE_ALPHA_TIMER (R66): Every alpha_us without a CNP alpha decays. -/
def execRoceAlphaTimer (ctx path : Nat) (s : State) : Host.Outcome State Fault Refusal := s.run .gated (roceAlphaTimer ctx path)

/-- ROCE_INCREASE_TIMER (R66): Every increase_us without a CNP the rate recovers toward target. -/
def execRoceIncreaseTimer (ctx path : Nat) (s : State) : Host.Outcome State Fault Refusal := s.run .gated (roceIncreaseTimer ctx path)

/-- ROCE_MIN_RATE_HOLD (R82): The rate held at min_rate for over 1 s raises event 0x1C7. -/
def execRoceMinRateHold (ctx : Nat) (s : State) : Host.Outcome State Fault Refusal := s.run .gated (roceMinRateHold ctx)

/-- ROCE_ACK_TIMEOUT (R75): An ACK time-out retries, and on exhaustion puts the queue pair in error. -/
def execRoceAckTimeout (ctx : Nat) (s : State) : Host.Outcome State Fault Refusal := s.runSettled .gated (roceAckTimeout ctx)

/-- CONNECT (R84): A Drove CONNECT is answered with ACCEPT, the cached ACCEPT, or REJECT. -/
def execConnect (r : Rx) (verMin verMax hostCid segMax pathsMax firstPsn : Nat) (nonce identity : Bytes) (s : State) : Host.Outcome State Fault Refusal := s.run .network (connect r verMin verMax hostCid segMax pathsMax firstPsn nonce identity)

/-- CONFIRM (R93): A CONFIRM that verifies opens the connection; one that does not is rejected. -/
def execConfirm (cid : Nat) (r : Rx) (proof : Bytes) (s : State) : Host.Outcome State Fault Refusal := s.run .network (confirm cid r proof)

/-- H2C_DATA (R103): An H2C_DATA packet is judged by psn and placed at its offset in the receive buffer. -/
def execH2cData (p : DPkt) (r : Rx) (data : Bytes) (s : State) : Host.Outcome State Fault Refusal := s.runSettled .network (h2cData p r data)

/-- H2C_CMD (R104): An H2C_CMD final is held until its message's data and earlier finals are delivered. -/
def execH2cCmd (p : DPkt) (r : Rx) (q : Sqe) (s : State) : Host.Outcome State Fault Refusal := s.runSettled .network (h2cCmd p r q)

/-- ACK (R110): An ACK from the host frees acknowledged packets and records ce_paths and credit requests. -/
def execAck (p : DPkt) (r : Rx) (x : SackRange) (reqUnits cePaths nextMsn : Nat) (s : State) : Host.Outcome State Fault Refusal := s.runSettled .network (ack p r x.cum x.sack reqUnits cePaths nextMsn)

/-- NACK (R111): A NACK causes the named missing packets to be resent. -/
def execNack (p : DPkt) (r : Rx) (cum : Nat) (ranges : List (Nat × Nat)) (s : State) : Host.Outcome State Fault Refusal := s.runSettled .network (nack p r cum ranges)

/-- PROBE (R101): A PROBE is answered on the same path with PROBE_REPLY. -/
def execProbe (p : DPkt) (r : Rx) (body : Bytes) (s : State) : Host.Outcome State Fault Refusal := s.runSettled .network (probe p r body)

/-- PROBE_REPLY (R101): A PROBE_REPLY clears the path's probe misses and keeps it live. -/
def execProbeReply (p : DPkt) (r : Rx) (s : State) : Host.Outcome State Fault Refusal := s.runSettled .network (probeReply p r)

/-- REKEY (R98): A REKEY is answered with REKEY_ACK and sending moves to the next generation. -/
def execRekey (p : DPkt) (r : Rx) (newGen : Nat) (s : State) : Host.Outcome State Fault Refusal := s.runSettled .network (rekey p r newGen)

/-- REKEY_ACK (R98): A REKEY_ACK moves the initiator to send under the new generation. -/
def execRekeyAck (p : DPkt) (r : Rx) (newGen : Nat) (s : State) : Host.Outcome State Fault Refusal := s.runSettled .network (rekeyAck p r newGen)

/-- CLOSE (R94): A received CLOSE ends the connection and discards undelivered messages. -/
def execClose (p : DPkt) (r : Rx) (reason : Nat) (s : State) : Host.Outcome State Fault Refusal := s.runSettled .network (close p r reason)

/-- REORDER_TIMER_EXPIRY (R112): The reorder timer expires and a NACK names the lowest missing ranges. -/
def execReorderTimerExpiry (ctx : Nat) (s : State) : Host.Outcome State Fault Refusal := s.runSettled .gated (reorderTimerExpiry ctx)

/-- ACK_DELAY_EXPIRY (R108): ack_delay_us after the first unacknowledged packet an ACK is sent. -/
def execAckDelayExpiry (ctx : Nat) (s : State) : Host.Outcome State Fault Refusal := s.runSettled .gated (ackDelayExpiry ctx)

/-- DROVE_RTO_EXPIRY (R109): An unacknowledged packet is resent on another path, or the connection fails after retry_max. -/
def execDroveRtoExpiry (ctx psn : Nat) (s : State) : Host.Outcome State Fault Refusal := s.runSettled .gated (droveRtoExpiry ctx psn)

/-- PROBE_TIMER (R101): A path idle for probe_ms is probed, and unanswered probes mark it down. -/
def execProbeTimer (ctx path : Nat) (s : State) : Host.Outcome State Fault Refusal := s.runSettled .gated (probeTimer ctx path)

/-- CONN_DEAD_EXPIRY (R101): No live path for conn_dead_ms closes the connection with reason 0x0009. -/
def execConnDeadExpiry (ctx : Nat) (s : State) : Host.Outcome State Fault Refusal := s.runSettled .gated (connDeadExpiry ctx)

/-- REKEY_GRACE_EXPIRY (R98): Packets under the old generation stop being accepted and its secrets are erased. -/
def execRekeyGraceExpiry (ctx : Nat) (s : State) : Host.Outcome State Fault Refusal := s.run .gated (rekeyGraceExpiry ctx)

/-- CONNECT_CACHE_EXPIRY (R95): A cached ACCEPT is dropped after connect_cache_ms. -/
def execConnectCacheExpiry (ctx : Nat) (s : State) : Host.Outcome State Fault Refusal := s.runSettled .gated (connectCacheExpiry ctx)

/-- CLOSE_HOLD_EXPIRY (R94): After close_hold_ms the closed connection's context is freed. -/
def execCloseHoldExpiry (ctx : Nat) (s : State) : Host.Outcome State Fault Refusal := s.runSettled .gated (closeHoldExpiry ctx)

/-- CREDIT_GRANT (R115): A waiting credit request is served from the pool when room appears. -/
def execCreditGrant (s : State) : Host.Outcome State Fault Refusal := s.run .network creditGrant

/-- CREDIT_WAIT_EXPIRY (R115): A credit request waiting over 1 ms raises the pool-exhausted event. -/
def execCreditWaitExpiry (ctx : Nat) (s : State) : Host.Outcome State Fault Refusal := s.run .gated (creditWaitExpiry ctx)

/-- COMMAND_INTAKE (R160): A complete capsule with its data enters its CMD island and takes a tag, or waits at intake. -/
def execCommandIntake (ctx : Nat) (q : Sqe) (data : Bytes) (colour : Nat) (s : State) : Host.Outcome State Fault Refusal := s.runSettled .network (commandIntake ctx q data colour)

/-- INTAKE_RELEASE (R162): A command kept at intake enters when a tag or cap room frees. -/
def execIntakeRelease (s : State) : Host.Outcome State Fault Refusal := s.runSettled .network intakeRelease

/-- HOST_COMPLETION_SEND (R32): The DROVE engine sends the final completion once all data is placed and the record arrived. -/
def execHostCompletionSend (ctx : Nat) (s : State) : Host.Outcome State Fault Refusal := s.runSettled .network (hostCompletionSend ctx)

/-- TCP_CLOSE_RX (R176): A host FIN or RST ends an NVMe/TCP connection and its queue pair is lost. -/
def execTcpCloseRx (ctx : Nat) (reset : Bool) (s : State) : Host.Outcome State Fault Refusal := s.runSettled .network (tcpCloseRx ctx reset)

end Sys2Proof.Machine
end

