-- ==== Sys2Proof/Machine/ExecTwin.lean ====
section
/-!
DEFINITION. The meanings of the commands of the twin controllers. Each is its row's function on the chip, run while the parts that it acts on run (Machine/Settle.lean).
-/

namespace Sys2Proof.Machine

/-- TWIN_STATUS_GET (R435): Returns the twin status, whistle, resync, link, crook and fold images. -/
def execTwinStatusGet (h : Hdr) (s : State) : Host.Outcome State Fault Refusal := s.run .up (twinStatusGet h)

/-- FOLD_BELLWETHER_SET (R371): Sets a fold's bellwether on both chips. -/
def execFoldBellwetherSet (h : Hdr) (fold chip : Nat) (s : State) : Host.Outcome State Fault Refusal := s.run .up (foldBellwetherSet h fold chip)

/-- FOLD_MOVE (R394): Starts a handover of a fold to the named chip. -/
def execFoldMove (h : Hdr) (fold chip : Nat) (s : State) : Host.Outcome State Fault Refusal := s.runSettled .up (foldMove h fold chip)

/-- FOLD_HOLD_SET (R393): Sets or clears a fold's hold on automatic failback. -/
def execFoldHoldSet (h : Hdr) (fold hold : Nat) (s : State) : Host.Outcome State Fault Refusal := s.run .up (foldHoldSet h fold hold)

/-- TWIN_SOLO_START (R385): Releases claims held by the chip-pair fuse so an unpaired chip may claim folds. -/
def execTwinSoloStart (h : Hdr) (s : State) : Host.Outcome State Fault Refusal := s.runSettled .up (twinSoloStart h)

/-- TWIN_CFG_SET (R399): Writes the twin control, whistle and failback registers. -/
def execTwinCfgSet (h : Hdr) (ctl whistle failback : Nat) (s : State) : Host.Outcome State Fault Refusal := s.runSettled .up (twinCfgSet h ctl whistle failback)

/-- TWIN_KICK_WRITE (R377): Writing kick restarts the kick window that keeps the whistle generator running. -/
def execTwinKickWrite (kick : Nat) (s : State) : Host.Outcome State Fault Refusal := s.run .up (twinKickWrite kick)

/-- CROOK_LOOP_ERR_CLEAR (R399): Writing 1 clears a fold's crook loop-back mismatch bit. -/
def execCrookLoopErrClear (mask : Nat) (s : State) : Host.Outcome State Fault Refusal := s.run .up (crookLoopErrClear mask)

/-- WHISTLE_SEND (R377): Every 1 ms the generator sends a whistle on both paths. -/
def execWhistleSend (s : State) : Host.Outcome State Fault Refusal := s.run .up whistleSend

/-- KICK_WINDOW_EXPIRY (R377): No kick within kick_to_ms stops the whistle generator. -/
def execKickWindowExpiry (s : State) : Host.Outcome State Fault Refusal := s.run .up kickWindowExpiry

/-- DEADMAN_EXPIRY (R376): The dead-man timer expires and AON releases every crook line and withdraws the chip. -/
def execDeadmanExpiry (s : State) : Host.Outcome State Fault Refusal := s.runSettled .aon deadmanExpiry

/-- WHISTLE_RX (R378): A whistle is checked, resets the path's miss count, or triggers pairing. -/
def execWhistleRx (path : Nat) (raw : Bytes) (s : State) : Host.Outcome State Fault Refusal := s.runSettled .up (whistleRx path raw)

/-- WHISTLE_MISS_INTERVAL (R379): Each 1.1 ms without a whistle raises a path's miss count and may lose the path. -/
def execWhistleMissInterval (path : Nat) (s : State) : Host.Outcome State Fault Refusal := s.run .up (whistleMissInterval path)

/-- PARTNER_DECLARED_FAILED (R380): Both paths lost and partner lines deasserted for 10 µs declare the partner failed. -/
def execPartnerDeclaredFailed (lines : Nat) (s : State) : Host.Outcome State Fault Refusal := s.runSettled .up (partnerDeclaredFailed lines)

/-- SPLIT_TIMEOUT (R384): The partner link down for split_ms without declaration splits the pair. -/
def execSplitTimeout (s : State) : Host.Outcome State Fault Refusal := s.runSettled .up splitTimeout

/-- START_WAIT_EXPIRY (R385): start_wait_s without whistles lets the chip claim the partner's folds. -/
def execStartWaitExpiry (lines : Nat) (s : State) : Host.Outcome State Fault Refusal := s.runSettled .up (startWaitExpiry lines)

/-- CROOK_CLAIM_SETTLE (R374): 10 µs after asserting its line the chip re-reads and its gate opens or not. -/
def execCrookClaimSettle (fold lines : Nat) (s : State) : Host.Outcome State Fault Refusal := s.runSettled .up (crookClaimSettle fold lines)

/-- CROOK_COMPARE (R375): Every 100 µs AON compares line pairs and the non-bellwether releases a tie. -/
def execCrookCompare (lines : Nat) (s : State) : Host.Outcome State Fault Refusal := s.runSettled .up (crookCompare lines)

/-- CROOK_LOOPBACK_CHECK (R396): Every 100 µs each driven line is read back and mismatches raised. -/
def execCrookLoopbackCheck (own : Nat) (s : State) : Host.Outcome State Fault Refusal := s.runSettled .up (crookLoopbackCheck own)

/-- TAKEOVER_RESERVATION_DONE (R390): Preempt and Abort completes on the members and the fold's entries are replayed. -/
def execTakeoverReservationDone (failed : List Nat) (s : State) : Host.Outcome State Fault Refusal := s.runSettled .up (takeoverReservationDone failed)

/-- TAKEOVER_REPLAY_DONE (R390): The fold's entries are replayed, ANA changes and waiting commands are admitted. -/
def execTakeoverReplayDone (fold : Nat) (s : State) : Host.Outcome State Fault Refusal := s.runSettled .up (takeoverReplayDone fold)

/-- FORWARD_RECORD_RX (R387): A forward record of command, data, completion or abort is taken at owner or forwarder. -/
def execForwardRecordRx (r : FwdRec) (s : State) : Host.Outcome State Fault Refusal := s.runSettled .network (forwardRecordRx r)

/-- RESYNC_DONE (R392): The pairing resync ends and held_mseq counts again. -/
def execResyncDone (s : State) : Host.Outcome State Fault Refusal := s.runSettled .up resyncDone

/-- FAILBACK_TIMER (R393): Conditions held for failback_s start the bellwether's handover. -/
def execFailbackTimer (s : State) : Host.Outcome State Fault Refusal := s.runSettled .up failbackTimer

/-- HANDOVER_DRAIN_DONE (R394): The drained giver releases its line and the taker claims the fold. -/
def execHandoverDrainDone (fold lines : Nat) (s : State) : Host.Outcome State Fault Refusal := s.runSettled .up (handoverDrainDone fold lines)

/-- HANDOVER_DRAIN_TIMEOUT (R394): A drain not done within drain_to_ms abandons the handover. -/
def execHandoverDrainTimeout (fold : Nat) (s : State) : Host.Outcome State Fault Refusal := s.runSettled .up (handoverDrainTimeout fold)

/-- PAIR_COMMAND_RX (R417): A pair-scoped command carried over the partner link is applied on this chip and its status returned to the sender. -/
def execPairCommandRx (cmd : PairCmd) (qualified : List Nat) (blocks : Nat) (response : Option Bytes) (s : State) : Host.Outcome State Fault Refusal := s.runSettled .up (pairCommandRx cmd qualified blocks response)

/-- PARTNER_LINK_CHANGE (R384): The partner link goes down, comes up or changes its lane width, starting the split timer or ending a split. -/
def execPartnerLinkChange (lanes : Nat) (s : State) : Host.Outcome State Fault Refusal := s.runSettled .up (partnerLinkChange lanes)

end Sys2Proof.Machine
end

