-- ==== Sys2Proof/Machine/ExecVolumes.lean ====
section
/-!
DEFINITION. The meanings of the commands of paddocks, volumes, hosts and the extent map. Each is its row's function on the chip, run while the parts that it acts on run (Machine/Settle.lean).
-/

namespace Sys2Proof.Machine

/-- PADDOCK_CREATE (R124): Creates a paddock with a unique subsystem NQN and refuses a duplicate NQN with 0x0202. -/
def execPaddockCreate (h : Hdr) (paddock : Nat) (nqn : Bytes) (s : State) : Host.Outcome State Fault Refusal := s.run .up (paddockCreate h paddock nqn)

/-- PADDOCK_DELETE (R124): Deletes a paddock that holds no volumes and no host entries; otherwise the status is resource in use. -/
def execPaddockDelete (h : Hdr) (paddock : Nat) (s : State) : Host.Outcome State Fault Refusal := s.run .up (paddockDelete h paddock)

/-- PADDOCK_ARB_SET (R165): Sets a paddock's arbitration weights pw, hpw, mpw and lpw. -/
def execPaddockArbSet (h : Hdr) (paddock image : Nat) (s : State) : Host.Outcome State Fault Refusal := s.run .up (paddockArbSet h paddock image)

/-- PADDOCK_ERASE (R366): Long operation that barriers, discards versions, destroys keys, installs a new seed and removes every extent entry of the paddock. -/
def execPaddockErase (h : Hdr) (paddock hasSeed : Nat) (blob : Bytes) (s : State) : Host.Outcome State Fault Refusal := s.runSettled .up (paddockErase h paddock hasSeed blob)

/-- PADDOCK_GET (R435): Returns a paddock's volume and host counts, red action, overhead, key_id and generations. -/
def execPaddockGet (h : Hdr) (paddock : Nat) (s : State) : Host.Outcome State Fault Refusal := s.run .up (paddockGet h paddock)

/-- VOLUME_CREATE (R125): Creates a volume record with its paddock, NSID, fold, flock and size, checking NSID and ID reuse. -/
def execVolumeCreate (h : Hdr) (volume paddock nsid fold flock acres : Nat) (s : State) : Host.Outcome State Fault Refusal := s.runSettled .up (volumeCreate h volume paddock nsid fold flock acres)

/-- VOLUME_DELETE (R125): Enters the ordering stage as a barrier marker and removes the volume once earlier commands end. -/
def execVolumeDelete (h : Hdr) (volume : Nat) (s : State) : Host.Outcome State Fault Refusal := s.runSettled .up (volumeDelete h volume)

/-- VOLUME_RESIZE (R125): Changes a volume's size, refusing a shrink while the lineage holds entries at or above the new size. -/
def execVolumeResize (h : Hdr) (volume acres : Nat) (s : State) : Host.Outcome State Fault Refusal := s.runSettled .up (volumeResize h volume acres)

/-- SNAPSHOT_CREATE (R132): Barrier in the source's ordering stage that creates a read-only member and advances the source epoch. -/
def execSnapshotCreate (h : Hdr) (source volume nsid : Nat) (s : State) : Host.Outcome State Fault Refusal := s.runSettled .up (snapshotCreate h source volume nsid)

/-- CLONE_CREATE (R132): Barrier in the source's ordering stage that creates a writable member and advances the source epoch. -/
def execCloneCreate (h : Hdr) (source volume nsid : Nat) (s : State) : Host.Outcome State Fault Refusal := s.runSettled .up (cloneCreate h source volume nsid)

/-- VOLUME_ARB_SET (R165): Sets a volume's arbitration weight vw. -/
def execVolumeArbSet (h : Hdr) (volume image : Nat) (s : State) : Host.Outcome State Fault Refusal := s.run .up (volumeArbSet h volume image)

/-- VOLUME_DETACH (R275): Long operation that makes a clone's acres private and re-keys its entries into a lineage of its own. -/
def execVolumeDetach (h : Hdr) (volume : Nat) (s : State) : Host.Outcome State Fault Refusal := s.runSettled .up (volumeDetach h volume)

/-- VOLUME_GET (R435): Returns the items of a volume record. -/
def execVolumeGet (h : Hdr) (volume : Nat) (s : State) : Host.Outcome State Fault Refusal := s.run .up (volumeGet h volume)

/-- HOST_SET (R126): Creates or changes an access-table host entry with NQN hash, PSK identity, prefixes and connection limit. -/
def execHostSet (h : Hdr) (host paddock connLimit prefixes nqnHash : Nat) (pfx : List HostPrefix) (identity : Bytes) (s : State) : Host.Outcome State Fault Refusal := s.run .up (hostSet h host paddock connLimit prefixes nqnHash pfx identity)

/-- HOST_CLEAR (R126): Removes a host entry from the access table. -/
def execHostClear (h : Hdr) (host : Nat) (s : State) : Host.Outcome State Fault Refusal := s.runSettled .up (hostClear h host)

/-- HOST_GET (R435): Returns a host entry. -/
def execHostGet (h : Hdr) (host : Nat) (s : State) : Host.Outcome State Fault Refusal := s.run .up (hostGet h host)

/-- HOST_CLASS_SET (R164): Sets a queue-ID class band for a host that applies to queues created afterwards. -/
def execHostClassSet (h : Hdr) (host band image : Nat) (s : State) : Host.Outcome State Fault Refusal := s.run .up (hostClassSet h host band image)

/-- GRANT_SET (R127): Joins a host and NSID to a volume read-write or read-only, or sets the mode of an existing grant. -/
def execGrantSet (h : Hdr) (host nsid volume mode : Nat) (s : State) : Host.Outcome State Fault Refusal := s.runSettled .up (grantSet h host nsid volume mode)

/-- GRANT_CLEAR (R127): Clears a grant as a marker that affects commands admitted after it. -/
def execGrantClear (h : Hdr) (host nsid : Nat) (s : State) : Host.Outcome State Fault Refusal := s.runSettled .up (grantClear h host nsid)

/-- GRANT_LIST (R435): Lists a host's grants from a first NSID. -/
def execGrantList (h : Hdr) (host first : Nat) (s : State) : Host.Outcome State Fault Refusal := s.run .up (grantList h host first)

/-- MAP_LOOKUP (R140): Returns the lookup result of a volume LBA. -/
def execMapLookup (h : Hdr) (volume lba : Nat) (s : State) : Host.Outcome State Fault Refusal := s.run .up (mapLookup h volume lba)

/-- MAP_REHASH (R149): Long operation that rehashes one table of one half to a target size. -/
def execMapRehash (h : Hdr) (half k exponent : Nat) (s : State) : Host.Outcome State Fault Refusal := s.runSettled .up (mapRehash h half k exponent)

/-- MAP_STAT_GET (R435): Returns table and fall-back statistics of a half. -/
def execMapStatGet (h : Hdr) (half : Nat) (s : State) : Host.Outcome State Fault Refusal := s.run .up (mapStatGet h half)

/-- SHEAR_START (R270): Starts shearing of the owned folds with the chosen steps; refused while one runs. -/
def execShearStart (h : Hdr) (steps : Nat) (s : State) : Host.Outcome State Fault Refusal := s.runSettled .up (shearStart h steps)

/-- MAP_EXCHANGE_TEST (R155): Opens a path learning exchange window for a given duration. -/
def execMapExchangeTest (h : Hdr) (seconds : Nat) (s : State) : Host.Outcome State Fault Refusal := s.run .up (mapExchangeTest h seconds)

/-- LEARN_PEAK_CLR (R158): A write of peak_clr clears a learn queue's peak. -/
def execLearnPeakClr (half : Nat) (s : State) : Host.Outcome State Fault Refusal := s.run .up (learnPeakClr half)

/-- PATH_AGE_SWEEP (R153): The age sweep visits buckets and removes path entries idle for age_s. -/
def execPathAgeSweep (half : Nat) (s : State) : Host.Outcome State Fault Refusal := s.run .gated (pathAgeSweep half)

/-- LEARNING_MSG_RX (R156): A partner learning message installs or removes a foreign path entry in seq order. -/
def execLearningMsgRx (x : LearningHead) (seq key : Nat) (e : PathEntry) (s : State) : Host.Outcome State Fault Refusal := s.run .gated (learningMsgRx x.op x.chip seq key e)

/-- EXCHANGE_WINDOW_END (R155): At the end of an exchange window all foreign entries are removed. -/
def execExchangeWindowEnd (s : State) : Host.Outcome State Fault Refusal := s.run .gated exchangeWindowEnd

/-- LEARN_COMPLETE (R144): Firmware allocates and fills an acre, inserts the entry and releases the waiting commands. -/
def execLearnComplete (id : Nat) (old : Tab Blk) (s : State) : Host.Outcome State Fault Refusal := s.runSettled .work (learnComplete id old)

/-- REHASH_PROGRESS (R149): A rehash sweeps old buckets to the new table, records fences and finally swaps tables. -/
def execRehashProgress (half n : Nat) (s : State) : Host.Outcome State Fault Refusal := s.runSettled .gated (rehashProgress half n)

/-- SHEAR_PROGRESS (R270): Shearing examines, merges, recounts or re-encrypts the next entries or acres. -/
def execShearProgress (n : Nat) (s : State) : Host.Outcome State Fault Refusal := s.runSettled .gated (shearProgress n)

/-- DETACH_PROGRESS (R275): Detach makes the next acre private or re-keys the next entry. -/
def execDetachProgress (volume n : Nat) (s : State) : Host.Outcome State Fault Refusal := s.runSettled .gated (detachProgress volume n)

/-- SHEAR_INTERVAL_EXPIRY (R270): interval_s after the last pass automatic shearing starts. -/
def execShearIntervalExpiry (s : State) : Host.Outcome State Fault Refusal := s.runSettled .work shearIntervalExpiry

/-- ACRE_FREE (R271): A removed acre becomes free once in-flight commands and older versions end. -/
def execAcreFree (flock pa : Nat) (s : State) : Host.Outcome State Fault Refusal := s.runSettled .gated (acreFree flock pa)

/-- GEN_RETIRE (R362): Once both chips report g_lo unused, its keys are erased and g_lo rises. -/
def execGenRetire (paddock : Nat) (there : Bool) (s : State) : Host.Outcome State Fault Refusal := s.runSettled .up (genRetire paddock there)

/-- MAP_IMAGE_TIMER (R460): Every 900 s a map image is written to the vault map store. -/
def execMapImageTimer (s : State) : Host.Outcome State Fault Refusal := s.run .up mapImageTimer

end Sys2Proof.Machine
end

