-- ==== Sys2Proof/Machine/Dispatch.lean ====
section
/-!
DEFINITION. The meaning of each command, one arm per constructor.
-/

namespace Sys2Proof.Machine

def exec (i : Instr) (s : State) : Host.Outcome State Fault Refusal :=
  match i with
  | .nop h => Sys2Proof.Machine.execNop h s
  | .identify h => Sys2Proof.Machine.execIdentify h s
  | .statusGet h => Sys2Proof.Machine.execStatusGet h s
  | .pad r len64 => Sys2Proof.Machine.execPad r len64 s
  | .paddockCreate h paddock nqn => Sys2Proof.Machine.execPaddockCreate h paddock nqn s
  | .paddockDelete h paddock => Sys2Proof.Machine.execPaddockDelete h paddock s
  | .paddockArbSet h paddock image => Sys2Proof.Machine.execPaddockArbSet h paddock image s
  | .paddockErase h paddock hasSeed blob => Sys2Proof.Machine.execPaddockErase h paddock hasSeed blob s
  | .paddockGet h paddock => Sys2Proof.Machine.execPaddockGet h paddock s
  | .volumeCreate h volume paddock nsid fold flock acres => Sys2Proof.Machine.execVolumeCreate h volume paddock nsid fold flock acres s
  | .volumeDelete h volume => Sys2Proof.Machine.execVolumeDelete h volume s
  | .volumeResize h volume acres => Sys2Proof.Machine.execVolumeResize h volume acres s
  | .snapshotCreate h source volume nsid => Sys2Proof.Machine.execSnapshotCreate h source volume nsid s
  | .cloneCreate h source volume nsid => Sys2Proof.Machine.execCloneCreate h source volume nsid s
  | .volumeArbSet h volume image => Sys2Proof.Machine.execVolumeArbSet h volume image s
  | .volumeDetach h volume => Sys2Proof.Machine.execVolumeDetach h volume s
  | .volumeGet h volume => Sys2Proof.Machine.execVolumeGet h volume s
  | .volumeRangeOp h volume op lba count => Sys2Proof.Machine.execVolumeRangeOp h volume op lba count s
  | .cacheModeSet h scope volume image => Sys2Proof.Machine.execCacheModeSet h scope volume image s
  | .hostSet h host paddock connLimit prefixes nqnHash pfx identity => Sys2Proof.Machine.execHostSet h host paddock connLimit prefixes nqnHash pfx identity s
  | .hostClear h host => Sys2Proof.Machine.execHostClear h host s
  | .hostGet h host => Sys2Proof.Machine.execHostGet h host s
  | .hostClassSet h host band image => Sys2Proof.Machine.execHostClassSet h host band image s
  | .grantSet h host nsid volume mode => Sys2Proof.Machine.execGrantSet h host nsid volume mode s
  | .grantClear h host nsid => Sys2Proof.Machine.execGrantClear h host nsid s
  | .grantList h host first => Sys2Proof.Machine.execGrantList h host first s
  | .droveCfgSet h cfg timer path key credit pool press rate => Sys2Proof.Machine.execDroveCfgSet h cfg timer path key credit pool press rate s
  | .stdTransportSet h tcp roce rate => Sys2Proof.Machine.execStdTransportSet h tcp roce rate s
  | .portCfgSet h port cfg prio pfc fec => Sys2Proof.Machine.execPortCfgSet h port cfg prio pfc fec s
  | .portAddrSet h port sub mac ipv4 ipv6 vlans => Sys2Proof.Machine.execPortAddrSet h port sub mac ipv4 ipv6 vlans s
  | .portDscpSet h port table => Sys2Proof.Machine.execPortDscpSet h port table s
  | .timeCfgSet h cfg pps => Sys2Proof.Machine.execTimeCfgSet h cfg pps s
  | .sessionList h first => Sys2Proof.Machine.execSessionList h first s
  | .sessionClose h ctx => Sys2Proof.Machine.execSessionClose h ctx s
  | .hurdleSet h context cir pir cbs pbs mode => Sys2Proof.Machine.execHurdleSet h context cir pir cbs pbs mode s
  | .hurdlePaddockSet h paddock red cir pir cbs pbs => Sys2Proof.Machine.execHurdlePaddockSet h paddock red cir pir cbs pbs s
  | .mgmtPskSet h index role blob identity => Sys2Proof.Machine.execMgmtPskSet h index role blob identity s
  | .mgmtPskClear h index => Sys2Proof.Machine.execMgmtPskClear h index s
  | .mgmtSessionCfg h port enable idleS => Sys2Proof.Machine.execMgmtSessionCfg h port enable idleS s
  | .mgmtSessionList h => Sys2Proof.Machine.execMgmtSessionList h s
  | .mapLookup h volume lba => Sys2Proof.Machine.execMapLookup h volume lba s
  | .mapReverse h flock pa => Sys2Proof.Machine.execMapReverse h flock pa s
  | .mapRehash h half k exponent => Sys2Proof.Machine.execMapRehash h half k exponent s
  | .mapStatGet h half => Sys2Proof.Machine.execMapStatGet h half s
  | .flockCreate h flock width z n slots qualified blocks => Sys2Proof.Machine.execFlockCreate h flock width z n slots qualified blocks s
  | .flockDelete h flock => Sys2Proof.Machine.execFlockDelete h flock s
  | .flockGet h flock => Sys2Proof.Machine.execFlockGet h flock s
  | .acreGroupSet h flock fold group => Sys2Proof.Machine.execAcreGroupSet h flock fold group s
  | .rebuildStart h flock => Sys2Proof.Machine.execRebuildStart h flock s
  | .copybackStart h flock member slot => Sys2Proof.Machine.execCopybackStart h flock member slot s
  | .scrubStart h flock mode first => Sys2Proof.Machine.execScrubStart h flock mode first s
  | .shearStart h steps => Sys2Proof.Machine.execShearStart h steps s
  | .memberFail h flock member => Sys2Proof.Machine.execMemberFail h flock member s
  | .lostListRead h first => Sys2Proof.Machine.execLostListRead h first s
  | .longopStatus h handle => Sys2Proof.Machine.execLongopStatus h handle s
  | .longopPause h handle => Sys2Proof.Machine.execLongopPause h handle s
  | .longopResume h handle => Sys2Proof.Machine.execLongopResume h handle s
  | .longopCancel h handle => Sys2Proof.Machine.execLongopCancel h handle s
  | .longopList h => Sys2Proof.Machine.execLongopList h s
  | .longopRelease h handle => Sys2Proof.Machine.execLongopRelease h handle s
  | .longopResultsRead h handle index advance => Sys2Proof.Machine.execLongopResultsRead h handle index advance s
  | .slotPowerSet h slot on => Sys2Proof.Machine.execSlotPowerSet h slot on s
  | .slotCurveSet h slot images => Sys2Proof.Machine.execSlotCurveSet h slot images s
  | .slotCfgSet h slot cfg lim thCfg thParam => Sys2Proof.Machine.execSlotCfgSet h slot cfg lim thCfg thParam s
  | .slotUnlock h slot => Sys2Proof.Machine.execSlotUnlock h slot s
  | .slotLedSet h slot image => Sys2Proof.Machine.execSlotLedSet h slot image s
  | .slotRemove h slot => Sys2Proof.Machine.execSlotRemove h slot s
  | .slotMiRead h slot kind type controller response => Sys2Proof.Machine.execSlotMiRead h slot kind type controller response s
  | .slotStatusGet h slot => Sys2Proof.Machine.execSlotStatusGet h slot s
  | .slotGlbSet h image => Sys2Proof.Machine.execSlotGlbSet h image s
  | .driveTmoSet h slot tmo => Sys2Proof.Machine.execDriveTmoSet h slot tmo s
  | .driveLinkSet h slot link cfg => Sys2Proof.Machine.execDriveLinkSet h slot link cfg s
  | .holdupSet h joules watts mbps quiesceMs => Sys2Proof.Machine.execHoldupSet h joules watts mbps quiesceMs s
  | .dumpTest h => Sys2Proof.Machine.execDumpTest h s
  | .vaultAreaSet h dumpCfg dumpArea ckptArea recArea keyArea => Sys2Proof.Machine.execVaultAreaSet h dumpCfg dumpArea ckptArea recArea keyArea s
  | .shapeSet h kind index cr pr burst peakBurst => Sys2Proof.Machine.execShapeSet h kind index cr pr burst peakBurst s
  | .shapeClear h kind index => Sys2Proof.Machine.execShapeClear h kind index s
  | .shapeOverheadSet h paddock overhead => Sys2Proof.Machine.execShapeOverheadSet h paddock overhead s
  | .gateSet h slot enable images => Sys2Proof.Machine.execGateSet h slot enable images s
  | .gateCfgSet h image => Sys2Proof.Machine.execGateCfgSet h image s
  | .govCapSet h image => Sys2Proof.Machine.execGovCapSet h image s
  | .govClassSet h image => Sys2Proof.Machine.execGovClassSet h image s
  | .govCostSet h slot cls image => Sys2Proof.Machine.execGovCostSet h slot cls image s
  | .govCtlSet h image => Sys2Proof.Machine.execGovCtlSet h image s
  | .pdSet h domain req => Sys2Proof.Machine.execPdSet h domain req s
  | .islandPointSet h island maxPoint pin => Sys2Proof.Machine.execIslandPointSet h island maxPoint pin s
  | .vfCalibrate h island => Sys2Proof.Machine.execVfCalibrate h island s
  | .vfCfgSet h image => Sys2Proof.Machine.execVfCfgSet h image s
  | .drivePsSet h slot lowest np idleMs => Sys2Proof.Machine.execDrivePsSet h slot lowest np idleMs s
  | .thermalSet h warn throttle crit => Sys2Proof.Machine.execThermalSet h warn throttle crit s
  | .kekImport h kekId point wrapped => Sys2Proof.Machine.execKekImport h kekId point wrapped s
  | .deviceKeyGet h => Sys2Proof.Machine.execDeviceKeyGet h s
  | .paddockKeyImport h paddock hasGcur gCur blob => Sys2Proof.Machine.execPaddockKeyImport h paddock hasGcur gCur blob s
  | .paddockKeyStatus h paddock => Sys2Proof.Machine.execPaddockKeyStatus h paddock s
  | .pskImport h blob identity => Sys2Proof.Machine.execPskImport h blob identity s
  | .pskClear h keyId => Sys2Proof.Machine.execPskClear h keyId s
  | .paddockRekey h paddock => Sys2Proof.Machine.execPaddockRekey h paddock s
  | .genLimitSet h image => Sys2Proof.Machine.execGenLimitSet h image s
  | .ciphCtlSet h image => Sys2Proof.Machine.execCiphCtlSet h image s
  | .laneSet h lane action testsPass => Sys2Proof.Machine.execLaneSet h lane action testsPass s
  | .twinStatusGet h => Sys2Proof.Machine.execTwinStatusGet h s
  | .foldBellwetherSet h fold chip => Sys2Proof.Machine.execFoldBellwetherSet h fold chip s
  | .foldMove h fold chip => Sys2Proof.Machine.execFoldMove h fold chip s
  | .foldHoldSet h fold hold => Sys2Proof.Machine.execFoldHoldSet h fold hold s
  | .twinSoloStart h => Sys2Proof.Machine.execTwinSoloStart h s
  | .healthReportGet h which => Sys2Proof.Machine.execHealthReportGet h which s
  | .twinCfgSet h ctl whistle failback => Sys2Proof.Machine.execTwinCfgSet h ctl whistle failback s
  | .evtCfgSet h first count vector route enable test => Sys2Proof.Machine.execEvtCfgSet h first count vector route enable test s
  | .evtRead h first max => Sys2Proof.Machine.execEvtRead h first max s
  | .evtSubscribe h coalMs mask => Sys2Proof.Machine.execEvtSubscribe h coalMs mask s
  | .pmcSelect h first count kind island mode clear => Sys2Proof.Machine.execPmcSelect h first count kind island mode clear s
  | .pmcSampleSet h counter reload => Sys2Proof.Machine.execPmcSampleSet h counter reload s
  | .pmcChainSet h even enable => Sys2Proof.Machine.execPmcChainSet h even enable s
  | .tallyRead h minute first chip => Sys2Proof.Machine.execTallyRead h minute first chip s
  | .tallyCollected h minute chip => Sys2Proof.Machine.execTallyCollected h minute chip s
  | .tallyAccumRead h first chip clear => Sys2Proof.Machine.execTallyAccumRead h first chip clear s
  | .fwImageWrite h slot offset length => Sys2Proof.Machine.execFwImageWrite h slot offset length s
  | .fwImageSelect h slot trial advance => Sys2Proof.Machine.execFwImageSelect h slot trial advance s
  | .fwInfoGet h => Sys2Proof.Machine.execFwInfoGet h s
  | .ledgerRead h first => Sys2Proof.Machine.execLedgerRead h first s
  | .ledgerRuleClear h mask => Sys2Proof.Machine.execLedgerRuleClear h mask s
  | .shelfRecordWrite h offset length => Sys2Proof.Machine.execShelfRecordWrite h offset length s
  | .shelfRecordRead h offset => Sys2Proof.Machine.execShelfRecordRead h offset s
  | .chipReset h kind island => Sys2Proof.Machine.execChipReset h kind island s
  | .fuseProgram h field generate slot privilege value => Sys2Proof.Machine.execFuseProgram h field generate slot privilege value s
  | .fuseSeal h word => Sys2Proof.Machine.execFuseSeal h word s
  | .loopbackSet h port loopback => Sys2Proof.Machine.execLoopbackSet h port loopback s
  | .serdesTest h group lane kind durationMs => Sys2Proof.Machine.execSerdesTest h group lane kind durationMs s
  | .mirrorSet h session image => Sys2Proof.Machine.execMirrorSet h session image s
  | .mirrorClear h session => Sys2Proof.Machine.execMirrorClear h session s
  | .captureRingSet h base cfg wb => Sys2Proof.Machine.execCaptureRingSet h base cfg wb s
  | .mapExchangeTest h seconds => Sys2Proof.Machine.execMapExchangeTest h seconds s
  | .regRead h offset count => Sys2Proof.Machine.execRegRead h offset count s
  | .regWrite h offset mask value => Sys2Proof.Machine.execRegWrite h offset mask value s
  | .registerWrite offset size value byHost => Sys2Proof.Machine.execRegisterWrite offset size value byHost s
  | .swxClassCfgWrite k image => Sys2Proof.Machine.execSwxClassCfgWrite k image s
  | .swxPeakClr => Sys2Proof.Machine.execSwxPeakClr s
  | .swxReseqErrRearm => Sys2Proof.Machine.execSwxReseqErrRearm s
  | .pfcWatchdogClear port mask => Sys2Proof.Machine.execPfcWatchdogClear port mask s
  | .droveCtxSelWrite ctx => Sys2Proof.Machine.execDroveCtxSelWrite ctx s
  | .learnPeakClr half => Sys2Proof.Machine.execLearnPeakClr half s
  | .cmdqTagsPeakClr isl => Sys2Proof.Machine.execCmdqTagsPeakClr isl s
  | .cmdqTmoLastRearm => Sys2Proof.Machine.execCmdqTmoLastRearm s
  | .jnlPeakClr => Sys2Proof.Machine.execJnlPeakClr s
  | .stripeGateLastRearm => Sys2Proof.Machine.execStripeGateLastRearm s
  | .stripeVerifyLastRearm => Sys2Proof.Machine.execStripeVerifyLastRearm s
  | .stripeLayoutSelWrite flock row => Sys2Proof.Machine.execStripeLayoutSelWrite flock row s
  | .lostOverflowClear => Sys2Proof.Machine.execLostOverflowClear s
  | .govTempPeakClr => Sys2Proof.Machine.execGovTempPeakClr s
  | .govShapeSelWrite kind island index => Sys2Proof.Machine.execGovShapeSelWrite kind island index s
  | .slotOffReqWrite slot => Sys2Proof.Machine.execSlotOffReqWrite slot s
  | .slotUnlockWrite slot => Sys2Proof.Machine.execSlotUnlockWrite slot s
  | .slotFaultRearm slot => Sys2Proof.Machine.execSlotFaultRearm slot s
  | .slotEvtLastRearm => Sys2Proof.Machine.execSlotEvtLastRearm s
  | .ciphPadSelWrite paddock => Sys2Proof.Machine.execCiphPadSelWrite paddock s
  | .entropyFlagClear mask => Sys2Proof.Machine.execEntropyFlagClear mask s
  | .twinKickWrite kick => Sys2Proof.Machine.execTwinKickWrite kick s
  | .crookLoopErrClear mask => Sys2Proof.Machine.execCrookLoopErrClear mask s
  | .twinHealthSelWrite value => Sys2Proof.Machine.execTwinHealthSelWrite value s
  | .sqEnableWrite r en startHead => Sys2Proof.Machine.execSqEnableWrite r en startHead s
  | .sqClearErr r => Sys2Proof.Machine.execSqClearErr r s
  | .sqDoorbell r => Sys2Proof.Machine.execSqDoorbell r s
  | .cqEnableWrite q image => Sys2Proof.Machine.execCqEnableWrite q image s
  | .cqHeadWrite q head => Sys2Proof.Machine.execCqHeadWrite q head s
  | .captureConsWrite cons => Sys2Proof.Machine.execCaptureConsWrite cons s
  | .winCommitWrite => Sys2Proof.Machine.execWinCommitWrite s
  | .winUrLastRearm => Sys2Proof.Machine.execWinUrLastRearm s
  | .longopResConsWrite index cons => Sys2Proof.Machine.execLongopResConsWrite index cons s
  | .evtStatusClear w mask => Sys2Proof.Machine.execEvtStatusClear w mask s
  | .evtEnableWrite w enable => Sys2Proof.Machine.execEvtEnableWrite w enable s
  | .evtRouteWrite e image => Sys2Proof.Machine.execEvtRouteWrite e image s
  | .pmcSatRearm => Sys2Proof.Machine.execPmcSatRearm s
  | .pmcSmpConsWrite cons => Sys2Proof.Machine.execPmcSmpConsWrite cons s
  | .cellEnqueue x => Sys2Proof.Machine.execCellEnqueue x s
  | .cellTimeMatch bad ecc => Sys2Proof.Machine.execCellTimeMatch bad ecc s
  | .hcrcFail p out again => Sys2Proof.Machine.execHcrcFail p out again s
  | .pushOutNotice src msgId => Sys2Proof.Machine.execPushOutNotice src msgId s
  | .firstCellLeftReport src msgId => Sys2Proof.Machine.execFirstCellLeftReport src msgId s
  | .reseqTimeout dst src msgId => Sys2Proof.Machine.execReseqTimeout dst src msgId s
  | .stileWakeTimeout sender receiver => Sys2Proof.Machine.execStileWakeTimeout sender receiver s
  | .outputStallTimeout o => Sys2Proof.Machine.execOutputStallTimeout o s
  | .islandReset island long => Sys2Proof.Machine.execIslandReset island long s
  | .islandWatchdogExpiry island => Sys2Proof.Machine.execIslandWatchdogExpiry island s
  | .frameReceive sub f occ => Sys2Proof.Machine.execFrameReceive sub f occ s
  | .slowPathFrame sub kind addr => Sys2Proof.Machine.execSlowPathFrame sub kind addr s
  | .lldpAdvertiseTimer => Sys2Proof.Machine.execLldpAdvertiseTimer s
  | .subportLinkChange sub x => Sys2Proof.Machine.execSubportLinkChange sub x s
  | .laneTrainingFail port lane => Sys2Proof.Machine.execLaneTrainingFail port lane s
  | .pfcPauseRx port prio quanta => Sys2Proof.Machine.execPfcPauseRx port prio quanta s
  | .pfcPauseExpiry port prio => Sys2Proof.Machine.execPfcPauseExpiry port prio s
  | .pfcWatchdogExpiry port prio => Sys2Proof.Machine.execPfcWatchdogExpiry port prio s
  | .fecRateCheck port => Sys2Proof.Machine.execFecRateCheck port s
  | .ptpMsgRx sub domain form m utc => Sys2Proof.Machine.execPtpMsgRx sub domain form m utc s
  | .ptpLossTimeout => Sys2Proof.Machine.execPtpLossTimeout s
  | .ppsEdge falling => Sys2Proof.Machine.execPpsEdge falling s
  | .ppsEdgeMissing => Sys2Proof.Machine.execPpsEdgeMissing s
  | .minuteTick => Sys2Proof.Machine.execMinuteTick s
  | .tallySealExpiry => Sys2Proof.Machine.execTallySealExpiry s
  | .tallyCopyRx minute flags meters accFirst accLast accFlags acc => Sys2Proof.Machine.execTallyCopyRx minute flags meters accFirst accLast accFlags acc s
  | .tallyCopyTimeout => Sys2Proof.Machine.execTallyCopyTimeout s
  | .tcpIcreq r o pfv digests maxR2t => Sys2Proof.Machine.execTcpIcreq r o pfv digests maxR2t s
  | .tcpCapsuleCmd ctx q data pdu wellFormed colour => Sys2Proof.Machine.execTcpCapsuleCmd ctx q data pdu wellFormed colour s
  | .tcpH2cData ctx cid offset data pdu => Sys2Proof.Machine.execTcpH2cData ctx cid offset data pdu s
  | .tcpTermReq ctx => Sys2Proof.Machine.execTcpTermReq ctx s
  | .tcpRtoExpiry ctx again => Sys2Proof.Machine.execTcpRtoExpiry ctx again s
  | .tlsHandshakeMsg r o kind modes identity tls13 suite secp384 verified => Sys2Proof.Machine.execTlsHandshakeMsg r o kind modes identity tls13 suite secp384 verified s
  | .tlsKeyupdateRx ctx asks => Sys2Proof.Machine.execTlsKeyupdateRx ctx asks s
  | .roceCmMsg r kind ctx qpn psn good => Sys2Proof.Machine.execRoceCmMsg r kind ctx qpn psn good s
  | .roceSendRx ctx psn q data ce colour => Sys2Proof.Machine.execRoceSendRx ctx psn q data ce colour s
  | .roceReadResponseRx ctx p data => Sys2Proof.Machine.execRoceReadResponseRx ctx p data s
  | .roceAckRx ctx p kind => Sys2Proof.Machine.execRoceAckRx ctx p kind s
  | .roceRemoteOpRx ctx psn => Sys2Proof.Machine.execRoceRemoteOpRx ctx psn s
  | .roceCnpRx ctx => Sys2Proof.Machine.execRoceCnpRx ctx s
  | .roceAlphaTimer ctx path => Sys2Proof.Machine.execRoceAlphaTimer ctx path s
  | .roceIncreaseTimer ctx path => Sys2Proof.Machine.execRoceIncreaseTimer ctx path s
  | .roceMinRateHold ctx => Sys2Proof.Machine.execRoceMinRateHold ctx s
  | .roceAckTimeout ctx => Sys2Proof.Machine.execRoceAckTimeout ctx s
  | .connect r verMin verMax hostCid segMax pathsMax firstPsn nonce identity => Sys2Proof.Machine.execConnect r verMin verMax hostCid segMax pathsMax firstPsn nonce identity s
  | .confirm cid r proof => Sys2Proof.Machine.execConfirm cid r proof s
  | .h2cData p r data => Sys2Proof.Machine.execH2cData p r data s
  | .h2cCmd p r q => Sys2Proof.Machine.execH2cCmd p r q s
  | .ack p r x reqUnits cePaths nextMsn => Sys2Proof.Machine.execAck p r x reqUnits cePaths nextMsn s
  | .nack p r cum ranges => Sys2Proof.Machine.execNack p r cum ranges s
  | .probe p r body => Sys2Proof.Machine.execProbe p r body s
  | .probeReply p r => Sys2Proof.Machine.execProbeReply p r s
  | .rekey p r newGen => Sys2Proof.Machine.execRekey p r newGen s
  | .rekeyAck p r newGen => Sys2Proof.Machine.execRekeyAck p r newGen s
  | .close p r reason => Sys2Proof.Machine.execClose p r reason s
  | .reorderTimerExpiry ctx => Sys2Proof.Machine.execReorderTimerExpiry ctx s
  | .ackDelayExpiry ctx => Sys2Proof.Machine.execAckDelayExpiry ctx s
  | .droveRtoExpiry ctx psn => Sys2Proof.Machine.execDroveRtoExpiry ctx psn s
  | .probeTimer ctx path => Sys2Proof.Machine.execProbeTimer ctx path s
  | .connDeadExpiry ctx => Sys2Proof.Machine.execConnDeadExpiry ctx s
  | .rekeyGraceExpiry ctx => Sys2Proof.Machine.execRekeyGraceExpiry ctx s
  | .connectCacheExpiry ctx => Sys2Proof.Machine.execConnectCacheExpiry ctx s
  | .closeHoldExpiry ctx => Sys2Proof.Machine.execCloseHoldExpiry ctx s
  | .creditGrant => Sys2Proof.Machine.execCreditGrant s
  | .creditWaitExpiry ctx => Sys2Proof.Machine.execCreditWaitExpiry ctx s
  | .pathAgeSweep half => Sys2Proof.Machine.execPathAgeSweep half s
  | .learningMsgRx x seq key e => Sys2Proof.Machine.execLearningMsgRx x seq key e s
  | .exchangeWindowEnd => Sys2Proof.Machine.execExchangeWindowEnd s
  | .commandIntake ctx q data colour => Sys2Proof.Machine.execCommandIntake ctx q data colour s
  | .intakeRelease => Sys2Proof.Machine.execIntakeRelease s
  | .commandAdmit isl => Sys2Proof.Machine.execCommandAdmit isl s
  | .urgentWindowExpiry isl => Sys2Proof.Machine.execUrgentWindowExpiry isl s
  | .timingWheelSlot isl => Sys2Proof.Machine.execTimingWheelSlot isl s
  | .nvmeRead isl tag => Sys2Proof.Machine.execNvmeRead isl tag s
  | .nvmeWrite isl tag => Sys2Proof.Machine.execNvmeWrite isl tag s
  | .nvmeFlush isl tag => Sys2Proof.Machine.execNvmeFlush isl tag s
  | .nvmeWriteZeroes isl tag => Sys2Proof.Machine.execNvmeWriteZeroes isl tag s
  | .nvmeDsm isl tag => Sys2Proof.Machine.execNvmeDsm isl tag s
  | .nvmeCompare isl tag => Sys2Proof.Machine.execNvmeCompare isl tag s
  | .nvmeVerify isl tag => Sys2Proof.Machine.execNvmeVerify isl tag s
  | .resvRegister isl tag => Sys2Proof.Machine.execResvRegister isl tag s
  | .resvAcquire isl tag => Sys2Proof.Machine.execResvAcquire isl tag s
  | .resvRelease isl tag => Sys2Proof.Machine.execResvRelease isl tag s
  | .resvReport isl tag => Sys2Proof.Machine.execResvReport isl tag s
  | .nvmeAbort tag => Sys2Proof.Machine.execNvmeAbort tag s
  | .keepAlive tag => Sys2Proof.Machine.execKeepAlive tag s
  | .keepAliveExpiry cntlid => Sys2Proof.Machine.execKeepAliveExpiry cntlid s
  | .fabricsConnect tag => Sys2Proof.Machine.execFabricsConnect tag s
  | .fabricsDisconnect tag => Sys2Proof.Machine.execFabricsDisconnect tag s
  | .propertyGet tag => Sys2Proof.Machine.execPropertyGet tag s
  | .propertySet tag => Sys2Proof.Machine.execPropertySet tag s
  | .identifyCmd tag => Sys2Proof.Machine.execIdentifyCmd tag s
  | .getLogPage tag => Sys2Proof.Machine.execGetLogPage tag s
  | .setFeatures tag => Sys2Proof.Machine.execSetFeatures tag s
  | .getFeatures tag => Sys2Proof.Machine.execGetFeatures tag s
  | .asyncEventRequest tag => Sys2Proof.Machine.execAsyncEventRequest tag s
  | .namespaceManagement tag => Sys2Proof.Machine.execNamespaceManagement tag s
  | .namespaceAttachment tag => Sys2Proof.Machine.execNamespaceAttachment tag s
  | .learnComplete id old => Sys2Proof.Machine.execLearnComplete id old s
  | .rehashProgress half n => Sys2Proof.Machine.execRehashProgress half n s
  | .lineFillComplete volume lba seq => Sys2Proof.Machine.execLineFillComplete volume lba seq s
  | .versionRoomFreed => Sys2Proof.Machine.execVersionRoomFreed s
  | .limitRoomFreed => Sys2Proof.Machine.execLimitRoomFreed s
  | .dirtyAgeExpiry volume lba seq => Sys2Proof.Machine.execDirtyAgeExpiry volume lba seq s
  | .mirrorLineRx mseq l => Sys2Proof.Machine.execMirrorLineRx mseq l s
  | .retireRx mseq volume fold lba count seq => Sys2Proof.Machine.execRetireRx mseq volume fold lba count seq s
  | .journalEntryRx mseq entry e => Sys2Proof.Machine.execJournalEntryRx mseq entry e s
  | .mapDeltaRx mseq r => Sys2Proof.Machine.execMapDeltaRx mseq r s
  | .discardRx mseq volume fold lba count => Sys2Proof.Machine.execDiscardRx mseq volume fold lba count s
  | .mirrorAckRx held => Sys2Proof.Machine.execMirrorAckRx held s
  | .mirrorAckSend => Sys2Proof.Machine.execMirrorAckSend s
  | .mirrorAckOverdue => Sys2Proof.Machine.execMirrorAckOverdue s
  | .hostCompletionSend ctx => Sys2Proof.Machine.execHostCompletionSend ctx s
  | .hbmEccError place key way uncorrectable => Sys2Proof.Machine.execHbmEccError place key way uncorrectable s
  | .partnerLineRefetch volume lba seq copy => Sys2Proof.Machine.execPartnerLineRefetch volume lba seq copy s
  | .drainComplete scope => Sys2Proof.Machine.execDrainComplete scope s
  | .rangeOpComplete => Sys2Proof.Machine.execRangeOpComplete s
  | .dumpPwrFail => Sys2Proof.Machine.execDumpPwrFail s
  | .dumpSag => Sys2Proof.Machine.execDumpSag s
  | .dumpQuiesceEnd => Sys2Proof.Machine.execDumpQuiesceEnd s
  | .dumpSegmentWritten ok32 ok33 => Sys2Proof.Machine.execDumpSegmentWritten ok32 ok33 s
  | .dumpCloseDone => Sys2Proof.Machine.execDumpCloseDone s
  | .commitOffer flock stripe => Sys2Proof.Machine.execCommitOffer flock stripe s
  | .journalHeld entry => Sys2Proof.Machine.execJournalHeld entry s
  | .memberWriteComplete slot cid outcome => Sys2Proof.Machine.execMemberWriteComplete slot cid outcome s
  | .driveReadComplete slot cid ok blocks => Sys2Proof.Machine.execDriveReadComplete slot cid ok blocks s
  | .driveCmdTimeout slot cid => Sys2Proof.Machine.execDriveCmdTimeout slot cid s
  | .driveAbortComplete slot cid aborted => Sys2Proof.Machine.execDriveAbortComplete slot cid aborted s
  | .lateDriveCompletion slot cid outcome => Sys2Proof.Machine.execLateDriveCompletion slot cid outcome s
  | .penLimitExpiry slot => Sys2Proof.Machine.execPenLimitExpiry slot s
  | .controllerResetDone slot ok => Sys2Proof.Machine.execControllerResetDone slot ok s
  | .driveWakeTimeout slot => Sys2Proof.Machine.execDriveWakeTimeout slot s
  | .checkpointTimer => Sys2Proof.Machine.execCheckpointTimer s
  | .checkpointWriteDone ok32 ok33 => Sys2Proof.Machine.execCheckpointWriteDone ok32 ok33 s
  | .rbDelayExpiry flock member => Sys2Proof.Machine.execRbDelayExpiry flock member s
  | .rebuildStripeDone slot => Sys2Proof.Machine.execRebuildStripeDone slot s
  | .resyncStripeDone slot => Sys2Proof.Machine.execResyncStripeDone slot s
  | .copybackStripeDone slot => Sys2Proof.Machine.execCopybackStripeDone slot s
  | .scrubStripeDone slot => Sys2Proof.Machine.execScrubStripeDone slot s
  | .shearProgress n => Sys2Proof.Machine.execShearProgress n s
  | .detachProgress volume n => Sys2Proof.Machine.execDetachProgress volume n s
  | .fenceTimer slot => Sys2Proof.Machine.execFenceTimer slot s
  | .penResolvedRevisit slot => Sys2Proof.Machine.execPenResolvedRevisit slot s
  | .scrubPeriodExpiry flock => Sys2Proof.Machine.execScrubPeriodExpiry flock s
  | .shearIntervalExpiry => Sys2Proof.Machine.execShearIntervalExpiry s
  | .acreFree flock pa => Sys2Proof.Machine.execAcreFree flock pa s
  | .govCreditInterval => Sys2Proof.Machine.execGovCreditInterval s
  | .laneRelease slot lane => Sys2Proof.Machine.execLaneRelease slot lane s
  | .telemetrySample draw railFailed temps => Sys2Proof.Machine.execTelemetrySample draw railFailed temps s
  | .thermalTrip => Sys2Proof.Machine.execThermalTrip s
  | .costLearnInterval measured theirs busyThere => Sys2Proof.Machine.execCostLearnInterval measured theirs busyThere s
  | .capExchangeRx cap share => Sys2Proof.Machine.execCapExchangeRx cap share s
  | .shareDivision => Sys2Proof.Machine.execShareDivision s
  | .demandExchange theirs => Sys2Proof.Machine.execDemandExchange theirs s
  | .islandPointInterval acts => Sys2Proof.Machine.execIslandPointInterval acts s
  | .railSettled island core => Sys2Proof.Machine.execRailSettled island core s
  | .canaryWarnTrip island => Sys2Proof.Machine.execCanaryWarnTrip island s
  | .canaryFailTrip island => Sys2Proof.Machine.execCanaryFailTrip island s
  | .recalTimer island act trips => Sys2Proof.Machine.execRecalTimer island act trips s
  | .pmbusNoAck => Sys2Proof.Machine.execPmbusNoAck s
  | .gateWindowEdge slot => Sys2Proof.Machine.execGateWindowEdge slot s
  | .idleNpExpiry slot => Sys2Proof.Machine.execIdleNpExpiry slot s
  | .domainIdle domain => Sys2Proof.Machine.execDomainIdle domain s
  | .domainWakeRequest domain sender => Sys2Proof.Machine.execDomainWakeRequest domain sender s
  | .shortCircuitTrip slot amps => Sys2Proof.Machine.execShortCircuitTrip slot amps s
  | .pathSample slot amps vout vin => Sys2Proof.Machine.execPathSample slot amps vout vin s
  | .thermalModelStep slot diode => Sys2Proof.Machine.execThermalModelStep slot diode s
  | .powerGood slot => Sys2Proof.Machine.execPowerGood slot s
  | .rampTimeout slot => Sys2Proof.Machine.execRampTimeout slot s
  | .retryTimerExpiry slot => Sys2Proof.Machine.execRetryTimerExpiry slot s
  | .faultCountClear slot => Sys2Proof.Machine.execFaultCountClear slot s
  | .insertDelayExpiry slot => Sys2Proof.Machine.execInsertDelayExpiry slot s
  | .presenceChange slot present => Sys2Proof.Machine.execPresenceChange slot present s
  | .seatChange slot seated => Sys2Proof.Machine.execSeatChange slot seated s
  | .vaultSeatStart slot => Sys2Proof.Machine.execVaultSeatStart slot s
  | .rampDownDone slot => Sys2Proof.Machine.execRampDownDone slot s
  | .pwarnLeadExpiry slot => Sys2Proof.Machine.execPwarnLeadExpiry slot s
  | .pwarnFollow slot => Sys2Proof.Machine.execPwarnFollow slot s
  | .buttonRelease slot heldMs => Sys2Proof.Machine.execButtonRelease slot heldMs s
  | .buttonLongPress slot => Sys2Proof.Machine.execButtonLongPress slot s
  | .removalBlinkExpiry slot => Sys2Proof.Machine.execRemovalBlinkExpiry slot s
  | .partnerOffReport slot => Sys2Proof.Machine.execPartnerOffReport slot s
  | .partnerOffTimeout slot => Sys2Proof.Machine.execPartnerOffTimeout slot s
  | .forcedWarningExpiry slot => Sys2Proof.Machine.execForcedWarningExpiry slot s
  | .linkTrainTimeout slot => Sys2Proof.Machine.execLinkTrainTimeout slot s
  | .driveLinkDown slot => Sys2Proof.Machine.execDriveLinkDown slot s
  | .linkFailExpiry slot => Sys2Proof.Machine.execLinkFailExpiry slot s
  | .miPollTimer slot answer => Sys2Proof.Machine.execMiPollTimer slot answer s
  | .laneParityFault lane => Sys2Proof.Machine.execLaneParityFault lane s
  | .quarantineExpiry lane testsPass => Sys2Proof.Machine.execQuarantineExpiry lane testsPass s
  | .katInterval isl pass => Sys2Proof.Machine.execKatInterval isl pass s
  | .entropyHealthFail test => Sys2Proof.Machine.execEntropyHealthFail test s
  | .drbgReseed pass requests => Sys2Proof.Machine.execDrbgReseed pass requests s
  | .contextFetchDone isl kind index ok => Sys2Proof.Machine.execContextFetchDone isl kind index ok s
  | .genCountExchange counts kek => Sys2Proof.Machine.execGenCountExchange counts kek s
  | .genAdvanceAck paddock gen => Sys2Proof.Machine.execGenAdvanceAck paddock gen s
  | .genRetire paddock there => Sys2Proof.Machine.execGenRetire paddock there s
  | .keyRecordWritten ok32 ok33 => Sys2Proof.Machine.execKeyRecordWritten ok32 ok33 s
  | .whistleSend => Sys2Proof.Machine.execWhistleSend s
  | .kickWindowExpiry => Sys2Proof.Machine.execKickWindowExpiry s
  | .deadmanExpiry => Sys2Proof.Machine.execDeadmanExpiry s
  | .whistleRx path raw => Sys2Proof.Machine.execWhistleRx path raw s
  | .whistleMissInterval path => Sys2Proof.Machine.execWhistleMissInterval path s
  | .partnerDeclaredFailed lines => Sys2Proof.Machine.execPartnerDeclaredFailed lines s
  | .splitTimeout => Sys2Proof.Machine.execSplitTimeout s
  | .startWaitExpiry lines => Sys2Proof.Machine.execStartWaitExpiry lines s
  | .crookClaimSettle fold lines => Sys2Proof.Machine.execCrookClaimSettle fold lines s
  | .crookCompare lines => Sys2Proof.Machine.execCrookCompare lines s
  | .crookLoopbackCheck own => Sys2Proof.Machine.execCrookLoopbackCheck own s
  | .takeoverReservationDone failed => Sys2Proof.Machine.execTakeoverReservationDone failed s
  | .takeoverReplayDone fold => Sys2Proof.Machine.execTakeoverReplayDone fold s
  | .forwardRecordRx r => Sys2Proof.Machine.execForwardRecordRx r s
  | .resyncDone => Sys2Proof.Machine.execResyncDone s
  | .failbackTimer => Sys2Proof.Machine.execFailbackTimer s
  | .handoverDrainDone fold lines => Sys2Proof.Machine.execHandoverDrainDone fold lines s
  | .handoverDrainTimeout fold => Sys2Proof.Machine.execHandoverDrainTimeout fold s
  | .healthReportTimer => Sys2Proof.Machine.execHealthReportTimer s
  | .healthReportRx raw => Sys2Proof.Machine.execHealthReportRx raw s
  | .sqPoll r => Sys2Proof.Machine.execSqPoll r s
  | .sqEntryFetched r p => Sys2Proof.Machine.execSqEntryFetched r p s
  | .replyWrite q => Sys2Proof.Machine.execReplyWrite q s
  | .cqCoalesceExpiry q => Sys2Proof.Machine.execCqCoalesceExpiry q s
  | .captureCoalExpiry => Sys2Proof.Machine.execCaptureCoalExpiry s
  | .sessionAccept port address psk handshakeOk => Sys2Proof.Machine.execSessionAccept port address psk handshakeOk s
  | .sessionPacketRx session p => Sys2Proof.Machine.execSessionPacketRx session p s
  | .sessionIdleExpiry session => Sys2Proof.Machine.execSessionIdleExpiry session s
  | .eventNoticeCoal session queueFull => Sys2Proof.Machine.execEventNoticeCoal session queueFull s
  | .longopEnd slot failure results => Sys2Proof.Machine.execLongopEnd slot failure results s
  | .flr => Sys2Proof.Machine.execFlr s
  | .bmeClear => Sys2Proof.Machine.execBmeClear s
  | .bmeSet => Sys2Proof.Machine.execBmeSet s
  | .d3hotEntry => Sys2Proof.Machine.execD3hotEntry s
  | .d0Return => Sys2Proof.Machine.execD0Return s
  | .endpointLinkChange up => Sys2Proof.Machine.execEndpointLinkChange up s
  | .bar2Tlp x len data hbmError => Sys2Proof.Machine.execBar2Tlp x len data hbmError s
  | .porstAssert => Sys2Proof.Machine.execPorstAssert s
  | .porstRelease => Sys2Proof.Machine.execPorstRelease s
  | .warmReset => Sys2Proof.Machine.execWarmReset s
  | .startStepDone reason detail found => Sys2Proof.Machine.execStartStepDone reason detail found s
  | .startStepTimeout reason detail => Sys2Proof.Machine.execStartStepTimeout reason detail s
  | .aonRestart => Sys2Proof.Machine.execAonRestart s
  | .trialPromote => Sys2Proof.Machine.execTrialPromote s
  | .mapImageTimer => Sys2Proof.Machine.execMapImageTimer s
  | .eventLogInterval e => Sys2Proof.Machine.execEventLogInterval e s
  | .pmcIncrement island kind n skid tag state => Sys2Proof.Machine.execPmcIncrement island kind n skid tag state s
  | .driveLinkUp slot gen width fit cntlid label => Sys2Proof.Machine.execDriveLinkUp slot gen width fit cntlid label s
  | .perstReleaseDelay slot => Sys2Proof.Machine.execPerstReleaseDelay slot s
  | .driveAdminComplete slot kind ok => Sys2Proof.Machine.execDriveAdminComplete slot kind ok s
  | .powerReturn => Sys2Proof.Machine.execPowerReturn s
  | .pairCommandRx cmd qualified blocks response => Sys2Proof.Machine.execPairCommandRx cmd qualified blocks response s
  | .removalRequestRx slot kind => Sys2Proof.Machine.execRemovalRequestRx slot kind s
  | .genAdvanceProposalRx paddock gen => Sys2Proof.Machine.execGenAdvanceProposalRx paddock gen s
  | .lostBlockChangeRx add r => Sys2Proof.Machine.execLostBlockChangeRx add r s
  | .drivePsRequestRx slot request => Sys2Proof.Machine.execDrivePsRequestRx slot request s
  | .recordAreaWriteDone ok32 ok33 => Sys2Proof.Machine.execRecordAreaWriteDone ok32 ok33 s
  | .partnerLinkChange lanes => Sys2Proof.Machine.execPartnerLinkChange lanes s
  | .tcpCloseRx ctx reset => Sys2Proof.Machine.execTcpCloseRx ctx reset s
  | .mgmtSessionCloseRx session => Sys2Proof.Machine.execMgmtSessionCloseRx session s
  | .msixVectorUnmask v => Sys2Proof.Machine.execMsixVectorUnmask v s
  | .configSpaceWrite offset value => Sys2Proof.Machine.execConfigSpaceWrite offset value s
  | .refclkOutOfTolerance => Sys2Proof.Machine.execRefclkOutOfTolerance s
  | .mgmtCoreWatchdog => Sys2Proof.Machine.execMgmtCoreWatchdog s
  | .selfTestRun kind pass margin => Sys2Proof.Machine.execSelfTestRun kind pass margin s
  | .domainWakeDone domain => Sys2Proof.Machine.execDomainWakeDone domain s
  | .pmbusAlert => Sys2Proof.Machine.execPmbusAlert s

end Sys2Proof.Machine
end

