-- ==== Sys2Proof/WellFormed.lean ====
section
/-!
DEFINITION. Which commands a sender could send at all: a header as R412 and R413 lay it out, and every operand within the width that R435, a register or a packet field gives it.
The meanings themselves are total: they answer any command, ill-formed ones too, as the spec answers values out of range. Operands of arrivals and expiries whose width no rule states are held
to the width of the register that shows them, or to 64 bits.
-/

namespace Sys2Proof

open Sys2Proof.Machine

/-- A header of a command packet (R412, R413). -/
def headerOk (h : Hdr) : Bool :=
  decide (1 ≤ h.fmt) && decide (h.fmt ≤ 3) && decide (1 ≤ h.len64) && decide (h.len64 ≤ 64) && decide (h.paddock < 2 ^ 16) &&
  decide (h.tag < if h.fmt = 1 then 2 ^ 32 else 2 ^ 64) && decide (h.deadlineMs < if h.fmt = 1 then 1 else 2 ^ 32) &&
  decide (h.expectGen < if h.fmt = 3 then 2 ^ 64 else 1)

/-- The header of a management command. -/
def Instr.header : Instr → Option Hdr
  | .nop h => some h
  | .identify h => some h
  | .statusGet h => some h
  | .paddockCreate h _ _ => some h
  | .paddockDelete h _ => some h
  | .paddockArbSet h _ _ => some h
  | .paddockErase h _ _ _ => some h
  | .paddockGet h _ => some h
  | .volumeCreate h _ _ _ _ _ _ => some h
  | .volumeDelete h _ => some h
  | .volumeResize h _ _ => some h
  | .snapshotCreate h _ _ _ => some h
  | .cloneCreate h _ _ _ => some h
  | .volumeArbSet h _ _ => some h
  | .volumeDetach h _ => some h
  | .volumeGet h _ => some h
  | .volumeRangeOp h _ _ _ _ => some h
  | .cacheModeSet h _ _ _ => some h
  | .hostSet h _ _ _ _ _ _ _ => some h
  | .hostClear h _ => some h
  | .hostGet h _ => some h
  | .hostClassSet h _ _ _ => some h
  | .grantSet h _ _ _ _ => some h
  | .grantClear h _ _ => some h
  | .grantList h _ _ => some h
  | .droveCfgSet h _ _ _ _ _ _ _ _ => some h
  | .stdTransportSet h _ _ _ => some h
  | .portCfgSet h _ _ _ _ _ => some h
  | .portAddrSet h _ _ _ _ _ _ => some h
  | .portDscpSet h _ _ => some h
  | .timeCfgSet h _ _ => some h
  | .sessionList h _ => some h
  | .sessionClose h _ => some h
  | .hurdleSet h _ _ _ _ _ _ => some h
  | .hurdlePaddockSet h _ _ _ _ _ _ => some h
  | .mgmtPskSet h _ _ _ _ => some h
  | .mgmtPskClear h _ => some h
  | .mgmtSessionCfg h _ _ _ => some h
  | .mgmtSessionList h => some h
  | .mapLookup h _ _ => some h
  | .mapReverse h _ _ => some h
  | .mapRehash h _ _ _ => some h
  | .mapStatGet h _ => some h
  | .flockCreate h _ _ _ _ _ _ _ => some h
  | .flockDelete h _ => some h
  | .flockGet h _ => some h
  | .acreGroupSet h _ _ _ => some h
  | .rebuildStart h _ => some h
  | .copybackStart h _ _ _ => some h
  | .scrubStart h _ _ _ => some h
  | .shearStart h _ => some h
  | .memberFail h _ _ => some h
  | .lostListRead h _ => some h
  | .longopStatus h _ => some h
  | .longopPause h _ => some h
  | .longopResume h _ => some h
  | .longopCancel h _ => some h
  | .longopList h => some h
  | .longopRelease h _ => some h
  | .longopResultsRead h _ _ _ => some h
  | .slotPowerSet h _ _ => some h
  | .slotCurveSet h _ _ => some h
  | .slotCfgSet h _ _ _ _ _ => some h
  | .slotUnlock h _ => some h
  | .slotLedSet h _ _ => some h
  | .slotRemove h _ => some h
  | .slotMiRead h _ _ _ _ _ => some h
  | .slotStatusGet h _ => some h
  | .slotGlbSet h _ => some h
  | .driveTmoSet h _ _ => some h
  | .driveLinkSet h _ _ _ => some h
  | .holdupSet h _ _ _ _ => some h
  | .dumpTest h => some h
  | .vaultAreaSet h _ _ _ _ _ => some h
  | .shapeSet h _ _ _ _ _ _ => some h
  | .shapeClear h _ _ => some h
  | .shapeOverheadSet h _ _ => some h
  | .gateSet h _ _ _ => some h
  | .gateCfgSet h _ => some h
  | .govCapSet h _ => some h
  | .govClassSet h _ => some h
  | .govCostSet h _ _ _ => some h
  | .govCtlSet h _ => some h
  | .pdSet h _ _ => some h
  | .islandPointSet h _ _ _ => some h
  | .vfCalibrate h _ => some h
  | .vfCfgSet h _ => some h
  | .drivePsSet h _ _ _ _ => some h
  | .thermalSet h _ _ _ => some h
  | .kekImport h _ _ _ => some h
  | .deviceKeyGet h => some h
  | .paddockKeyImport h _ _ _ _ => some h
  | .paddockKeyStatus h _ => some h
  | .pskImport h _ _ => some h
  | .pskClear h _ => some h
  | .paddockRekey h _ => some h
  | .genLimitSet h _ => some h
  | .ciphCtlSet h _ => some h
  | .laneSet h _ _ _ => some h
  | .twinStatusGet h => some h
  | .foldBellwetherSet h _ _ => some h
  | .foldMove h _ _ => some h
  | .foldHoldSet h _ _ => some h
  | .twinSoloStart h => some h
  | .healthReportGet h _ => some h
  | .twinCfgSet h _ _ _ => some h
  | .evtCfgSet h _ _ _ _ _ _ => some h
  | .evtRead h _ _ => some h
  | .evtSubscribe h _ _ => some h
  | .pmcSelect h _ _ _ _ _ _ => some h
  | .pmcSampleSet h _ _ => some h
  | .pmcChainSet h _ _ => some h
  | .tallyRead h _ _ _ => some h
  | .tallyCollected h _ _ => some h
  | .tallyAccumRead h _ _ _ => some h
  | .fwImageWrite h _ _ _ => some h
  | .fwImageSelect h _ _ _ => some h
  | .fwInfoGet h => some h
  | .ledgerRead h _ => some h
  | .ledgerRuleClear h _ => some h
  | .shelfRecordWrite h _ _ => some h
  | .shelfRecordRead h _ => some h
  | .chipReset h _ _ => some h
  | .fuseProgram h _ _ _ _ _ => some h
  | .fuseSeal h _ => some h
  | .loopbackSet h _ _ => some h
  | .serdesTest h _ _ _ _ => some h
  | .mirrorSet h _ _ => some h
  | .mirrorClear h _ => some h
  | .captureRingSet h _ _ _ => some h
  | .mapExchangeTest h _ => some h
  | .regRead h _ _ => some h
  | .regWrite h _ _ _ => some h
  | _ => none

/-- The operands that are numbers, each with its width in bits. -/
def Instr.operands : Instr → List (Nat × Nat)
  | .nop _ => []
  | .identify _ => []
  | .statusGet _ => []
  | .pad r len64 => [(r, 8), (len64, 32)]
  | .paddockCreate _ paddock _ => [(paddock, 16)]
  | .paddockDelete _ paddock => [(paddock, 16)]
  | .paddockArbSet _ paddock image => [(paddock, 16), (image, 32)]
  | .paddockErase _ paddock hasSeed _ => [(paddock, 16), (hasSeed, 8)]
  | .paddockGet _ paddock => [(paddock, 16)]
  | .volumeCreate _ volume paddock nsid fold flock acres => [(volume, 16), (paddock, 16), (nsid, 16), (fold, 8), (flock, 8), (acres, 64)]
  | .volumeDelete _ volume => [(volume, 16)]
  | .volumeResize _ volume acres => [(volume, 16), (acres, 64)]
  | .snapshotCreate _ source volume nsid => [(source, 16), (volume, 16), (nsid, 32)]
  | .cloneCreate _ source volume nsid => [(source, 16), (volume, 16), (nsid, 32)]
  | .volumeArbSet _ volume image => [(volume, 16), (image, 32)]
  | .volumeDetach _ volume => [(volume, 16)]
  | .volumeGet _ volume => [(volume, 16)]
  | .volumeRangeOp _ volume op lba count => [(volume, 16), (op, 8), (lba, 64), (count, 64)]
  | .cacheModeSet _ scope volume image => [(scope, 8), (volume, 16), (image, 32)]
  | .hostSet _ host paddock connLimit prefixes nqnHash _ _ => [(host, 16), (paddock, 16), (connLimit, 16), (prefixes, 8), (nqnHash, 64)]
  | .hostClear _ host => [(host, 16)]
  | .hostGet _ host => [(host, 16)]
  | .hostClassSet _ host band image => [(host, 16), (band, 8), (image, 32)]
  | .grantSet _ host nsid volume mode => [(host, 16), (nsid, 16), (volume, 16), (mode, 8)]
  | .grantClear _ host nsid => [(host, 16), (nsid, 16)]
  | .grantList _ host first => [(host, 16), (first, 16)]
  | .droveCfgSet _ cfg timer path key credit pool press rate => [(cfg, 64), (timer, 64), (path, 64), (key, 64), (credit, 64), (pool, 64), (press, 64), (rate, 64)]
  | .stdTransportSet _ tcp roce rate => [(tcp, 8 * DROVE_TCP_CFG.bytes), (roce, 8 * DROVE_ROCE_CFG.bytes), (rate, 8 * DROVE_ROCE_RATE.bytes)]
  | .portCfgSet _ port cfg prio pfc fec => [(port, 8), (cfg, 32), (prio, 32), (pfc, 64), (fec, 32)]
  | .portAddrSet _ port sub mac _ _ _ => [(port, 8), (sub, 8), (mac, 48)]
  | .portDscpSet _ port _ => [(port, 8)]
  | .timeCfgSet _ cfg pps => [(cfg, 64), (pps, 64)]
  | .sessionList _ first => [(first, 32)]
  | .sessionClose _ ctx => [(ctx, 32)]
  | .hurdleSet _ context cir pir cbs pbs mode => [(context, 32), (cir, 16), (pir, 16), (cbs, 32), (pbs, 32), (mode, 8)]
  | .hurdlePaddockSet _ paddock red cir pir cbs pbs => [(paddock, 16), (red, 8), (cir, 16), (pir, 16), (cbs, 32), (pbs, 32)]
  | .mgmtPskSet _ index role _ _ => [(index, 8), (role, 8)]
  | .mgmtPskClear _ index => [(index, 8)]
  | .mgmtSessionCfg _ port enable idleS => [(port, 16), (enable, 8), (idleS, 16)]
  | .mgmtSessionList _ => []
  | .mapLookup _ volume lba => [(volume, 16), (lba, 64)]
  | .mapReverse _ flock pa => [(flock, 8), (pa, 32)]
  | .mapRehash _ half k exponent => [(half, 8), (k, 8), (exponent, 8)]
  | .mapStatGet _ half => [(half, 8)]
  | .flockCreate _ flock width z n _ _ blocks => [(flock, 8), (width, 8), (z, 8), (n, 8), (blocks, 64)]
  | .flockDelete _ flock => [(flock, 8)]
  | .flockGet _ flock => [(flock, 8)]
  | .acreGroupSet _ flock fold group => [(flock, 8), (fold, 8), (group, 32)]
  | .rebuildStart _ flock => [(flock, 8)]
  | .copybackStart _ flock member slot => [(flock, 8), (member, 8), (slot, 8)]
  | .scrubStart _ flock mode first => [(flock, 8), (mode, 8), (first, 64)]
  | .shearStart _ steps => [(steps, 8)]
  | .memberFail _ flock member => [(flock, 8), (member, 8)]
  | .lostListRead _ first => [(first, 32)]
  | .longopStatus _ handle => [(handle, 32)]
  | .longopPause _ handle => [(handle, 32)]
  | .longopResume _ handle => [(handle, 32)]
  | .longopCancel _ handle => [(handle, 32)]
  | .longopList _ => []
  | .longopRelease _ handle => [(handle, 32)]
  | .longopResultsRead _ handle index advance => [(handle, 32), (index, 32), (advance, 8)]
  | .slotPowerSet _ slot on => [(slot, 8), (on, 8)]
  | .slotCurveSet _ slot _ => [(slot, 8)]
  | .slotCfgSet _ slot cfg lim thCfg thParam => [(slot, 8), (cfg, 64), (lim, 64), (thCfg, 64), (thParam, 64)]
  | .slotUnlock _ slot => [(slot, 8)]
  | .slotLedSet _ slot image => [(slot, 8), (image, 32)]
  | .slotRemove _ slot => [(slot, 8)]
  | .slotMiRead _ slot kind type controller _ => [(slot, 8), (kind, 8), (type, 8), (controller, 16)]
  | .slotStatusGet _ slot => [(slot, 8)]
  | .slotGlbSet _ image => [(image, 64)]
  | .driveTmoSet _ slot tmo => [(slot, 8), (tmo, 16)]
  | .driveLinkSet _ slot link cfg => [(slot, 8), (link, 32), (cfg, 64)]
  | .holdupSet _ joules watts mbps quiesceMs => [(joules, 16), (watts, 16), (mbps, 16), (quiesceMs, 8)]
  | .dumpTest _ => []
  | .vaultAreaSet _ dumpCfg dumpArea ckptArea recArea keyArea => [(dumpCfg, 64), (dumpArea, 64), (ckptArea, 64), (recArea, 64), (keyArea, 64)]
  | .shapeSet _ kind index cr pr burst peakBurst => [(kind, 8), (index, 16), (cr, 32), (pr, 32), (burst, 32), (peakBurst, 32)]
  | .shapeClear _ kind index => [(kind, 8), (index, 16)]
  | .shapeOverheadSet _ paddock overhead => [(paddock, 16), (overhead, 16)]
  | .gateSet _ slot enable _ => [(slot, 8), (enable, 8)]
  | .gateCfgSet _ image => [(image, 64)]
  | .govCapSet _ image => [(image, 64)]
  | .govClassSet _ image => [(image, 64)]
  | .govCostSet _ slot cls image => [(slot, 8), (cls, 8), (image, 64)]
  | .govCtlSet _ image => [(image, 32)]
  | .pdSet _ domain req => [(domain, 8), (req, 8)]
  | .islandPointSet _ island maxPoint pin => [(island, 8), (maxPoint, 8), (pin, 8)]
  | .vfCalibrate _ island => [(island, 8)]
  | .vfCfgSet _ image => [(image, 64)]
  | .drivePsSet _ slot lowest np idleMs => [(slot, 8), (lowest, 8), (np, 8), (idleMs, 32)]
  | .thermalSet _ warn throttle crit => [(warn, 8), (throttle, 8), (crit, 8)]
  | .kekImport _ kekId _ _ => [(kekId, 64)]
  | .deviceKeyGet _ => []
  | .paddockKeyImport _ paddock hasGcur gCur _ => [(paddock, 16), (hasGcur, 8), (gCur, 32)]
  | .paddockKeyStatus _ paddock => [(paddock, 16)]
  | .pskImport _ _ _ => []
  | .pskClear _ keyId => [(keyId, 64)]
  | .paddockRekey _ paddock => [(paddock, 16)]
  | .genLimitSet _ image => [(image, 64)]
  | .ciphCtlSet _ image => [(image, 32)]
  | .laneSet _ lane action _ => [(lane, 8), (action, 8)]
  | .twinStatusGet _ => []
  | .foldBellwetherSet _ fold chip => [(fold, 8), (chip, 8)]
  | .foldMove _ fold chip => [(fold, 8), (chip, 8)]
  | .foldHoldSet _ fold hold => [(fold, 8), (hold, 8)]
  | .twinSoloStart _ => []
  | .healthReportGet _ which => [(which, 8)]
  | .twinCfgSet _ ctl whistle failback => [(ctl, 32), (whistle, 64), (failback, 64)]
  | .evtCfgSet _ first count vector route enable test => [(first, 16), (count, 16), (vector, 8), (route, 8), (enable, 8), (test, 8)]
  | .evtRead _ first max => [(first, 32), (max, 16)]
  | .evtSubscribe _ coalMs mask => [(coalMs, 16), (mask, 2048)]
  | .pmcSelect _ first count kind island mode clear => [(first, 16), (count, 16), (kind, 16), (island, 8), (mode, 8), (clear, 8)]
  | .pmcSampleSet _ counter reload => [(counter, 16), (reload, 64)]
  | .pmcChainSet _ even enable => [(even, 16), (enable, 8)]
  | .tallyRead _ minute first chip => [(minute, 64), (first, 16), (chip, 8)]
  | .tallyCollected _ minute chip => [(minute, 64), (chip, 8)]
  | .tallyAccumRead _ first chip clear => [(first, 16), (chip, 8), (clear, 8)]
  | .fwImageWrite _ slot offset length => [(slot, 8), (offset, 32), (length, 32)]
  | .fwImageSelect _ slot trial advance => [(slot, 8), (trial, 8), (advance, 8)]
  | .fwInfoGet _ => []
  | .ledgerRead _ first => [(first, 8)]
  | .ledgerRuleClear _ mask => [(mask, 32)]
  | .shelfRecordWrite _ offset length => [(offset, 32), (length, 32)]
  | .shelfRecordRead _ offset => [(offset, 32)]
  | .chipReset _ kind island => [(kind, 8), (island, 8)]
  | .fuseProgram _ field generate slot privilege value => [(field, 8), (generate, 8), (slot, 8), (privilege, 8), (value, 384)]
  | .fuseSeal _ word => [(word, 32)]
  | .loopbackSet _ port loopback => [(port, 8), (loopback, 8)]
  | .serdesTest _ group lane kind durationMs => [(group, 8), (lane, 8), (kind, 8), (durationMs, 32)]
  | .mirrorSet _ session image => [(session, 8), (image, 64)]
  | .mirrorClear _ session => [(session, 8)]
  | .captureRingSet _ base cfg wb => [(base, 64), (cfg, 32), (wb, 64)]
  | .mapExchangeTest _ seconds => [(seconds, 16)]
  | .regRead _ offset count => [(offset, 32), (count, 16)]
  | .regWrite _ offset mask value => [(offset, 32), (mask, 64), (value, 64)]
  | .registerWrite offset size value _ => [(offset, 32), (size, 64), (value, 64)]
  | .swxClassCfgWrite k image => [(k, 8), (image, 64)]
  | .swxPeakClr => []
  | .swxReseqErrRearm => []
  | .pfcWatchdogClear port mask => [(port, 8), (mask, 64)]
  | .droveCtxSelWrite ctx => [(ctx, 32)]
  | .learnPeakClr half => [(half, 8)]
  | .cmdqTagsPeakClr isl => [(isl, 8)]
  | .cmdqTmoLastRearm => []
  | .jnlPeakClr => []
  | .stripeGateLastRearm => []
  | .stripeVerifyLastRearm => []
  | .stripeLayoutSelWrite flock row => [(flock, 8), (row, 32)]
  | .lostOverflowClear => []
  | .govTempPeakClr => []
  | .govShapeSelWrite kind island index => [(kind, 8), (island, 8), (index, 32)]
  | .slotOffReqWrite slot => [(slot, 8)]
  | .slotUnlockWrite slot => [(slot, 8)]
  | .slotFaultRearm slot => [(slot, 8)]
  | .slotEvtLastRearm => []
  | .ciphPadSelWrite paddock => [(paddock, 16)]
  | .entropyFlagClear mask => [(mask, 64)]
  | .twinKickWrite kick => [(kick, 32)]
  | .crookLoopErrClear mask => [(mask, 64)]
  | .twinHealthSelWrite value => [(value, 64)]
  | .sqEnableWrite r _ startHead => [(r, 8), (startHead, 64)]
  | .sqClearErr r => [(r, 8)]
  | .sqDoorbell r => [(r, 8)]
  | .cqEnableWrite q image => [(q, 8), (image, 64)]
  | .cqHeadWrite q head => [(q, 8), (head, 32)]
  | .captureConsWrite cons => [(cons, 32)]
  | .winCommitWrite => []
  | .winUrLastRearm => []
  | .longopResConsWrite index cons => [(index, 8), (cons, 32)]
  | .evtStatusClear w mask => [(w, 8), (mask, 64)]
  | .evtEnableWrite w enable => [(w, 8), (enable, 64)]
  | .evtRouteWrite e image => [(e, 16), (image, 64)]
  | .pmcSatRearm => []
  | .pmcSmpConsWrite cons => [(cons, 32)]
  | .cellEnqueue _ => []
  | .cellTimeMatch _ _ => []
  | .hcrcFail p out _ => [(p, 8), (out, 64)]
  | .pushOutNotice src msgId => [(src, 8), (msgId, 16)]
  | .firstCellLeftReport src msgId => [(src, 8), (msgId, 16)]
  | .reseqTimeout dst src msgId => [(dst, 8), (src, 8), (msgId, 16)]
  | .stileWakeTimeout sender receiver => [(sender, 64), (receiver, 64)]
  | .outputStallTimeout o => [(o, 8)]
  | .islandReset island _ => [(island, 8)]
  | .islandWatchdogExpiry island => [(island, 8)]
  | .frameReceive sub _ occ => [(sub, 8), (occ, 32)]
  | .slowPathFrame sub kind addr => [(sub, 8), (kind, 8), (addr, 64)]
  | .lldpAdvertiseTimer => []
  | .subportLinkChange sub _ => [(sub, 8)]
  | .laneTrainingFail port lane => [(port, 8), (lane, 8)]
  | .pfcPauseRx port prio quanta => [(port, 8), (prio, 8), (quanta, 16)]
  | .pfcPauseExpiry port prio => [(port, 8), (prio, 8)]
  | .pfcWatchdogExpiry port prio => [(port, 8), (prio, 8)]
  | .fecRateCheck port => [(port, 8)]
  | .ptpMsgRx sub domain form _ utc => [(sub, 8), (domain, 8), (form, 8), (utc, 16)]
  | .ptpLossTimeout => []
  | .ppsEdge _ => []
  | .ppsEdgeMissing => []
  | .minuteTick => []
  | .tallySealExpiry => []
  | .tallyCopyRx minute flags _ accFirst accLast accFlags _ => [(minute, 64), (flags, 64), (accFirst, 64), (accLast, 64), (accFlags, 64)]
  | .tallyCopyTimeout => []
  | .tcpIcreq _ o pfv digests maxR2t => [(o.port, 16), (pfv, 64), (digests, 64), (maxR2t, 64)]
  | .tcpCapsuleCmd ctx _ _ _ _ colour => [(ctx, 32), (colour, 64)]
  | .tcpH2cData ctx cid offset _ _ => [(ctx, 32), (cid, 16), (offset, 32)]
  | .tcpTermReq ctx => [(ctx, 32)]
  | .tcpRtoExpiry ctx _ => [(ctx, 32)]
  | .tlsHandshakeMsg _ o kind modes _ _ _ _ _ => [(o.port, 16), (kind, 8), (modes, 64)]
  | .tlsKeyupdateRx ctx _ => [(ctx, 32)]
  | .roceCmMsg _ kind ctx qpn psn _ => [(kind, 8), (ctx, 32), (qpn, 24), (psn, 32)]
  | .roceSendRx ctx psn _ _ _ colour => [(ctx, 32), (psn, 32), (colour, 64)]
  | .roceReadResponseRx ctx p _ => [(ctx, 32), (p.psn, 32)]
  | .roceAckRx ctx p kind => [(ctx, 32), (p.psn, 32), (kind, 8)]
  | .roceRemoteOpRx ctx psn => [(ctx, 32), (psn, 32)]
  | .roceCnpRx ctx => [(ctx, 32)]
  | .roceAlphaTimer ctx path => [(ctx, 32), (path, 8)]
  | .roceIncreaseTimer ctx path => [(ctx, 32), (path, 8)]
  | .roceMinRateHold ctx => [(ctx, 32)]
  | .roceAckTimeout ctx => [(ctx, 32)]
  | .connect _ verMin verMax hostCid segMax pathsMax firstPsn _ _ => [(verMin, 16), (verMax, 16), (hostCid, 32), (segMax, 16), (pathsMax, 64), (firstPsn, 32)]
  | .confirm cid _ _ => [(cid, 32)]
  | .h2cData _ _ _ => []
  | .h2cCmd _ _ _ => []
  | .ack _ _ x reqUnits cePaths nextMsn => [(x.cum, 32), (x.sack, 64), (reqUnits, 16), (cePaths, 8), (nextMsn, 32)]
  | .nack _ _ cum _ => [(cum, 32)]
  | .probe _ _ _ => []
  | .probeReply _ _ => []
  | .rekey _ _ newGen => [(newGen, 32)]
  | .rekeyAck _ _ newGen => [(newGen, 32)]
  | .close _ _ reason => [(reason, 32)]
  | .reorderTimerExpiry ctx => [(ctx, 32)]
  | .ackDelayExpiry ctx => [(ctx, 32)]
  | .droveRtoExpiry ctx psn => [(ctx, 32), (psn, 32)]
  | .probeTimer ctx path => [(ctx, 32), (path, 8)]
  | .connDeadExpiry ctx => [(ctx, 32)]
  | .rekeyGraceExpiry ctx => [(ctx, 32)]
  | .connectCacheExpiry ctx => [(ctx, 32)]
  | .closeHoldExpiry ctx => [(ctx, 32)]
  | .creditGrant => []
  | .creditWaitExpiry ctx => [(ctx, 32)]
  | .pathAgeSweep half => [(half, 8)]
  | .learningMsgRx x seq key _ => [(x.op, 8), (x.chip, 8), (seq, 32), (key, 21)]
  | .exchangeWindowEnd => []
  | .commandIntake ctx _ _ colour => [(ctx, 32), (colour, 64)]
  | .intakeRelease => []
  | .commandAdmit isl => [(isl, 8)]
  | .urgentWindowExpiry isl => [(isl, 8)]
  | .timingWheelSlot isl => [(isl, 8)]
  | .nvmeRead isl tag => [(isl, 8), (tag, 16)]
  | .nvmeWrite isl tag => [(isl, 8), (tag, 16)]
  | .nvmeFlush isl tag => [(isl, 8), (tag, 16)]
  | .nvmeWriteZeroes isl tag => [(isl, 8), (tag, 16)]
  | .nvmeDsm isl tag => [(isl, 8), (tag, 16)]
  | .nvmeCompare isl tag => [(isl, 8), (tag, 16)]
  | .nvmeVerify isl tag => [(isl, 8), (tag, 16)]
  | .resvRegister isl tag => [(isl, 8), (tag, 16)]
  | .resvAcquire isl tag => [(isl, 8), (tag, 16)]
  | .resvRelease isl tag => [(isl, 8), (tag, 16)]
  | .resvReport isl tag => [(isl, 8), (tag, 16)]
  | .nvmeAbort tag => [(tag, 16)]
  | .keepAlive tag => [(tag, 16)]
  | .keepAliveExpiry cntlid => [(cntlid, 16)]
  | .fabricsConnect tag => [(tag, 16)]
  | .fabricsDisconnect tag => [(tag, 16)]
  | .propertyGet tag => [(tag, 16)]
  | .propertySet tag => [(tag, 16)]
  | .identifyCmd tag => [(tag, 16)]
  | .getLogPage tag => [(tag, 16)]
  | .setFeatures tag => [(tag, 16)]
  | .getFeatures tag => [(tag, 16)]
  | .asyncEventRequest tag => [(tag, 16)]
  | .namespaceManagement tag => [(tag, 16)]
  | .namespaceAttachment tag => [(tag, 16)]
  | .learnComplete id _ => [(id, 64)]
  | .rehashProgress half n => [(half, 8), (n, 16)]
  | .lineFillComplete volume lba seq => [(volume, 16), (lba, 64), (seq, 64)]
  | .versionRoomFreed => []
  | .limitRoomFreed => []
  | .dirtyAgeExpiry volume lba seq => [(volume, 16), (lba, 64), (seq, 64)]
  | .mirrorLineRx mseq _ => [(mseq, 32)]
  | .retireRx mseq volume fold lba count seq => [(mseq, 32), (volume, 16), (fold, 8), (lba, 64), (count, 16), (seq, 64)]
  | .journalEntryRx mseq entry _ => [(mseq, 32), (entry, 16)]
  | .mapDeltaRx mseq _ => [(mseq, 32)]
  | .discardRx mseq volume fold lba count => [(mseq, 32), (volume, 16), (fold, 8), (lba, 64), (count, 16)]
  | .mirrorAckRx held => [(held, 32)]
  | .mirrorAckSend => []
  | .mirrorAckOverdue => []
  | .hostCompletionSend ctx => [(ctx, 32)]
  | .hbmEccError place key way _ => [(place, 8), (key, 64), (way, 8)]
  | .partnerLineRefetch volume lba seq _ => [(volume, 16), (lba, 64), (seq, 64)]
  | .drainComplete scope => [(scope, 64)]
  | .rangeOpComplete => []
  | .dumpPwrFail => []
  | .dumpSag => []
  | .dumpQuiesceEnd => []
  | .dumpSegmentWritten _ _ => []
  | .dumpCloseDone => []
  | .commitOffer flock stripe => [(flock, 8), (stripe, 32)]
  | .journalHeld entry => [(entry, 16)]
  | .memberWriteComplete slot cid outcome => [(slot, 8), (cid, 16), (outcome, 64)]
  | .driveReadComplete slot cid _ _ => [(slot, 8), (cid, 16)]
  | .driveCmdTimeout slot cid => [(slot, 8), (cid, 16)]
  | .driveAbortComplete slot cid _ => [(slot, 8), (cid, 16)]
  | .lateDriveCompletion slot cid outcome => [(slot, 8), (cid, 16), (outcome, 64)]
  | .penLimitExpiry slot => [(slot, 8)]
  | .controllerResetDone slot _ => [(slot, 8)]
  | .driveWakeTimeout slot => [(slot, 8)]
  | .checkpointTimer => []
  | .checkpointWriteDone _ _ => []
  | .rbDelayExpiry flock member => [(flock, 8), (member, 8)]
  | .rebuildStripeDone slot => [(slot, 8)]
  | .resyncStripeDone slot => [(slot, 8)]
  | .copybackStripeDone slot => [(slot, 8)]
  | .scrubStripeDone slot => [(slot, 8)]
  | .shearProgress n => [(n, 16)]
  | .detachProgress volume n => [(volume, 16), (n, 16)]
  | .fenceTimer slot => [(slot, 8)]
  | .penResolvedRevisit slot => [(slot, 8)]
  | .scrubPeriodExpiry flock => [(flock, 8)]
  | .shearIntervalExpiry => []
  | .acreFree flock pa => [(flock, 8), (pa, 32)]
  | .govCreditInterval => []
  | .laneRelease slot lane => [(slot, 8), (lane, 8)]
  | .telemetrySample draw _ _ => [(draw, 32)]
  | .thermalTrip => []
  | .costLearnInterval _ _ _ => []
  | .capExchangeRx cap share => [(cap, 32), (share, 32)]
  | .shareDivision => []
  | .demandExchange _ => []
  | .islandPointInterval _ => []
  | .railSettled island _ => [(island, 8)]
  | .canaryWarnTrip island => [(island, 8)]
  | .canaryFailTrip island => [(island, 8)]
  | .recalTimer island act _ => [(island, 8), (act, 8)]
  | .pmbusNoAck => []
  | .gateWindowEdge slot => [(slot, 8)]
  | .idleNpExpiry slot => [(slot, 8)]
  | .domainIdle domain => [(domain, 8)]
  | .domainWakeRequest domain sender => [(domain, 8), (sender, 64)]
  | .shortCircuitTrip slot amps => [(slot, 8), (amps, 32)]
  | .pathSample slot amps vout vin => [(slot, 8), (amps, 32), (vout, 32), (vin, 32)]
  | .thermalModelStep slot _ => [(slot, 8)]
  | .powerGood slot => [(slot, 8)]
  | .rampTimeout slot => [(slot, 8)]
  | .retryTimerExpiry slot => [(slot, 8)]
  | .faultCountClear slot => [(slot, 8)]
  | .insertDelayExpiry slot => [(slot, 8)]
  | .presenceChange slot _ => [(slot, 8)]
  | .seatChange slot _ => [(slot, 8)]
  | .vaultSeatStart slot => [(slot, 8)]
  | .rampDownDone slot => [(slot, 8)]
  | .pwarnLeadExpiry slot => [(slot, 8)]
  | .pwarnFollow slot => [(slot, 8)]
  | .buttonRelease slot heldMs => [(slot, 8), (heldMs, 64)]
  | .buttonLongPress slot => [(slot, 8)]
  | .removalBlinkExpiry slot => [(slot, 8)]
  | .partnerOffReport slot => [(slot, 8)]
  | .partnerOffTimeout slot => [(slot, 8)]
  | .forcedWarningExpiry slot => [(slot, 8)]
  | .linkTrainTimeout slot => [(slot, 8)]
  | .driveLinkDown slot => [(slot, 8)]
  | .linkFailExpiry slot => [(slot, 8)]
  | .miPollTimer slot _ => [(slot, 8)]
  | .laneParityFault lane => [(lane, 8)]
  | .quarantineExpiry lane _ => [(lane, 8)]
  | .katInterval isl _ => [(isl, 8)]
  | .entropyHealthFail test => [(test, 8)]
  | .drbgReseed _ requests => [(requests, 64)]
  | .contextFetchDone isl kind index _ => [(isl, 8), (kind, 8), (index, 32)]
  | .genCountExchange _ _ => []
  | .genAdvanceAck paddock gen => [(paddock, 16), (gen, 32)]
  | .genRetire paddock _ => [(paddock, 16)]
  | .keyRecordWritten _ _ => []
  | .whistleSend => []
  | .kickWindowExpiry => []
  | .deadmanExpiry => []
  | .whistleRx path _ => [(path, 8)]
  | .whistleMissInterval path => [(path, 8)]
  | .partnerDeclaredFailed lines => [(lines, 8)]
  | .splitTimeout => []
  | .startWaitExpiry lines => [(lines, 8)]
  | .crookClaimSettle fold lines => [(fold, 8), (lines, 8)]
  | .crookCompare lines => [(lines, 8)]
  | .crookLoopbackCheck own => [(own, 32)]
  | .takeoverReservationDone _ => []
  | .takeoverReplayDone fold => [(fold, 8)]
  | .forwardRecordRx _ => []
  | .resyncDone => []
  | .failbackTimer => []
  | .handoverDrainDone fold lines => [(fold, 8), (lines, 8)]
  | .handoverDrainTimeout fold => [(fold, 8)]
  | .healthReportTimer => []
  | .healthReportRx _ => []
  | .sqPoll r => [(r, 8)]
  | .sqEntryFetched r _ => [(r, 8)]
  | .replyWrite q => [(q, 8)]
  | .cqCoalesceExpiry q => [(q, 8)]
  | .captureCoalExpiry => []
  | .sessionAccept port address psk _ => [(port, 8), (address, 64), (psk, 64)]
  | .sessionPacketRx session _ => [(session, 8)]
  | .sessionIdleExpiry session => [(session, 8)]
  | .eventNoticeCoal session _ => [(session, 8)]
  | .longopEnd slot failure _ => [(slot, 8), (failure, 64)]
  | .flr => []
  | .bmeClear => []
  | .bmeSet => []
  | .d3hotEntry => []
  | .d0Return => []
  | .endpointLinkChange _ => []
  | .bar2Tlp x len _ _ => [(x, 8), (len, 64)]
  | .porstAssert => []
  | .porstRelease => []
  | .warmReset => []
  | .startStepDone reason detail _ => [(reason, 32), (detail, 64)]
  | .startStepTimeout reason detail => [(reason, 32), (detail, 64)]
  | .aonRestart => []
  | .trialPromote => []
  | .mapImageTimer => []
  | .eventLogInterval e => [(e, 16)]
  | .pmcIncrement island kind n skid tag state => [(island, 8), (kind, 8), (n, 16), (skid, 64), (tag, 16), (state, 8)]
  | .driveLinkUp slot gen width _ cntlid label => [(slot, 8), (gen, 32), (width, 64), (cntlid, 16), (label, 8)]
  | .perstReleaseDelay slot => [(slot, 8)]
  | .driveAdminComplete slot kind _ => [(slot, 8), (kind, 8)]
  | .powerReturn => []
  | .pairCommandRx _ _ blocks _ => [(blocks, 64)]
  | .removalRequestRx slot kind => [(slot, 8), (kind, 8)]
  | .genAdvanceProposalRx paddock gen => [(paddock, 16), (gen, 32)]
  | .lostBlockChangeRx _ _ => []
  | .drivePsRequestRx slot _ => [(slot, 8)]
  | .recordAreaWriteDone _ _ => []
  | .partnerLinkChange lanes => [(lanes, 32)]
  | .tcpCloseRx ctx _ => [(ctx, 32)]
  | .mgmtSessionCloseRx session => [(session, 8)]
  | .msixVectorUnmask v => [(v, 16)]
  | .configSpaceWrite offset value => [(offset, 32), (value, 64)]
  | .refclkOutOfTolerance => []
  | .mgmtCoreWatchdog => []
  | .selfTestRun kind _ margin => [(kind, 8), (margin, 16)]
  | .domainWakeDone domain => [(domain, 8)]
  | .pmbusAlert => []

/-- Lists of register images: how many images a command carries, and their width. -/
def Instr.images : Instr → Option (List Nat × Nat × Nat)
  | .portDscpSet _ _ table => some (table, 64, 8)
  | .slotCurveSet _ _ images => some (images, 8, 64)
  | .gateSet _ _ _ images => some (images, 8, 32)
  | _ => none

/-- Strings of bytes whose length a rule fixes or bounds (R124, R356, R378, R397), cells (R24, R25), and the 4,096-byte blocks that a drive returns (R234). -/
def Instr.bytesOk : Instr → Bool
  | .paddockCreate _ _ nqn => decide (nqn.length ≤ 223)
  | .kekImport _ _ _ wrapped => decide (wrapped.length = 48)
  | .driveReadComplete _ _ _ blocks => blocks.all (fun b => decide (b.length = 4096))
  | .cellEnqueue x => x.legal
  | .whistleRx _ raw => decide (raw.length = 32)
  | .healthReportRx raw => decide (raw.length = 256)
  | _ => true

/-- A command that a sender could send. -/
def Instr.wellFormed (i : Instr) : Bool :=
  (match i.header with
    | some h => headerOk h
    | none => true) &&
  i.operands.all (fun x => decide (x.1 < 2 ^ x.2)) &&
  (match i.images with
    | some (l, n, w) => decide (l.length = n) && l.all (fun v => decide (v < 2 ^ w))
    | none => true) &&
  i.bytesOk

end Sys2Proof
end

