-- ==== Sys2Proof/Safety.lean ====
section
/-!
DEFINITION. The terms in which claims speak of a run: what a command comes to, which parts of the chip it leaves alone, when the general checks on a management command pass, and what a
chip holds still while it is stopped.
-/

namespace Sys2Proof.Machine

/-! ### Outcomes -/

/-- The command completes: the next state has the same queue, and its chip satisfies `P`. -/
def Runs (i : Instr) (s : State) (P : Chip → Prop) : Prop := ∃ c, exec i s = .next { s with chip := c } ∧ P c

/-- The command completes, and then the block settles what it has freed or ended (`Chip.settle`): `P` holds of the chip that is settled. -/
def RunsSettled (i : Instr) (s : State) (P : Chip → Prop) : Prop := ∃ c, exec i s = .next { s with chip := c.settle } ∧ P c

/-- A management command passes the general checks (R413, R415, R428, R446, R453) and comes to a result that satisfies `P`: its reply then leaves as `Chip.finish` says. -/
def Answers (i : Instr) (s : State) (k : CmdInfo) (h : Hdr) (P : Res → Prop) : Prop :=
  ∃ r : Res, exec i s = .next { s with chip := Chip.finish k h r } ∧ P r

/-- The same for a command after which the block settles. -/
def AnswersSettled (i : Instr) (s : State) (k : CmdInfo) (h : Hdr) (P : Res → Prop) : Prop :=
  ∃ r : Res, exec i s = .next { s with chip := (Chip.finish k h r).settle } ∧ P r

/-- The running chip, and no general check refuses the command. -/
abbrev Ready (s : State) (k : CmdInfo) (h : Hdr) (paddocks : List Nat) : Prop := Gate.up.admits s.chip = true ∧ s.chip.refusal k h paddocks = none

/-- A pair-scoped command is applied here (R417): it is local, comes from the partner or the shelf record, or the chip is neither split nor refused and, while paired, the partner accepts it. -/
abbrev PairOk (s : State) (h : Hdr) : Prop :=
  h.localOnly = true ∨ h.src = .partner ∨ h.src = .record ∨
    (s.chip.get TWIN_STATUS_pair_state ≠ 3 ∧ s.chip.get TWIN_STATUS_pair_state ≠ 4 ∧ (s.chip.get TWIN_STATUS_pair_state = 1 → h.partner ≤ 2))

/-- A result that a command of kind R gives: success, the chip as it was (the command has left the queue of those fetched), and this data. -/
def Reads (s : State) (h : Hdr) (op : Nat) (r : Res) (data : Bytes) : Prop :=
  r.status = 0 ∧ r.later = false ∧ r.chip = s.chip.unfetch h op ∧ r.data = data

/-- The parts of the chip that a command acts on run. -/
abbrev Live (g : Gate) (s : State) : Prop := g.admits s.chip = true

/-! ### Frames -/

/-- The parts of the chip. -/
inductive Part where
  | regs | hbm | now | clk | freeN | out | fuses | mgmt | evt | tally | flash | start | swx | ports | heldOut | conns | ctrls | paddocks | hosts | grants | grantNo | vols | map | intake
  | shape | creditQ | connects | lost | cache | mirror | twin | stripes | cipher | gov | slots
  deriving DecidableEq, Repr

/-- Is a part the same in two chips? -/
def Part.same (p : Part) (c d : Chip) : Prop :=
  match p with
  | .regs => d.regs = c.regs
  | .hbm => d.hbm = c.hbm
  | .now => d.now = c.now
  | .clk => d.clk = c.clk
  | .freeN => d.freeN = c.freeN
  | .out => d.out = c.out
  | .fuses => d.fuses = c.fuses
  | .mgmt => d.mgmt = c.mgmt
  | .evt => d.evt = c.evt
  | .tally => d.tally = c.tally
  | .flash => d.flash = c.flash
  | .start => d.start = c.start
  | .swx => d.swx = c.swx
  | .ports => d.ports = c.ports
  | .heldOut => d.heldOut = c.heldOut
  | .conns => d.conns = c.conns
  | .ctrls => d.ctrls = c.ctrls
  | .paddocks => d.paddocks = c.paddocks
  | .hosts => d.hosts = c.hosts
  | .grants => d.grants = c.grants
  | .grantNo => d.grantNo = c.grantNo
  | .vols => d.vols = c.vols
  | .map => d.map = c.map
  | .intake => d.intake = c.intake
  | .shape => d.shape = c.shape
  | .creditQ => d.creditQ = c.creditQ
  | .connects => d.connects = c.connects
  | .lost => d.lost = c.lost
  | .cache => d.cache = c.cache
  | .mirror => d.mirror = c.mirror
  | .twin => d.twin = c.twin
  | .stripes => d.stripes = c.stripes
  | .cipher => d.cipher = c.cipher
  | .gov => d.gov = c.gov
  | .slots => d.slots = c.slots

/-- Two chips agree but for the parts listed. The identity never differs. -/
def Chip.sameBut (ps : List Part) (c d : Chip) : Prop := d.id = c.id ∧ ∀ p, p ∉ ps → p.same c d

/-- Every register field outside a set of keys reads as before; the chips have the same identity, so that unlisted keys read the same. -/
def Chip.regsBut (S : Nat → Prop) (c d : Chip) : Prop := ∀ k, ¬ S k → Tab.get? d.regs k = Tab.get? c.regs k

/-- A frame: the parts listed may differ, and of the registers only those whose keys are in the set. -/
def Chip.keeps (ps : List Part) (S : Nat → Prop) (c d : Chip) : Prop := c.sameBut ps d ∧ c.regsBut S d

/-- The register keys of BAR0 offsets from `lo` up to `hi`. -/
def inRange (lo hi k : Nat) : Prop := lo * 64 ≤ k ∧ k < hi * 64

/-- The keys of a register's fields at its indices. -/
def regKeys (r : Reg) (i j k : Nat) : Prop := ∃ f ∈ r.fields, k = f.key i j

/-- The fields that firmware writes hold what an image of the register says (R415). -/
def Chip.shows (c : Chip) (r : Reg) (img : Nat) (i : Nat := 0) (j : Nat := 0) : Prop := ∀ f ∈ r.fields, f.ty = .rw → c.get f i j = f.of img

/-- The registers of the event unit (R471): what raising an event may change of the register file. -/
def evtKeys : Nat → Prop := inRange 0x80000 0x8C000

/-- The parts that raising an event may change. -/
def evtParts : List Part := [.regs, .evt, .mgmt, .out]

/-! ### The switch and the ports -/

/-- A source offers a cell (R24, R26): a message may hold it, both attach points are present, and it continues what its source has begun. -/
abbrev Chip.offers (c : Chip) (x : Cell) : Prop := x.legal = true ∧ attachAbsent c.id x.src = false ∧ attachAbsent c.id x.dst = false ∧ c.continues x = true

/-- A sub-port takes frames from its line (R55, R59): it is enabled and exists in the mode of its port, which is neither looped back nor an analysis port. -/
abbrev Chip.takesFrames (c : Chip) (sub : Nat) : Prop :=
  sub < 32 ∧ portAbsent c.id (sub / 4) = false ∧ bit (c.get PORT_CFG_sub_en (sub / 4)) (sub % 4) = true ∧ c.subExists sub = true ∧ c.looped sub = false ∧ c.analysis sub = false

/-- Every sub-port sends what it is given: no priority is paused, no port is looped back, none is an analysis port (R48, R63, R81). -/
abbrev Chip.plainPorts (c : Chip) : Prop :=
  c.ports.paused = [] ∧ (∀ p, p < 8 → c.get PORT_CFG_loopback p % 3 = 0) ∧ ∀ m, m < 4 → c.flag SWX_MIR_CTL_en m = true → c.flag SWX_MIR_CTL_dst_kind m = true

/-- No mirror session is enabled. -/
abbrev Chip.mirrorOff (c : Chip) : Prop := ∀ m, m < 4 → c.flag SWX_MIR_CTL_en m = false

/-! ### Connections -/

/-- The parts that a packet, timer or completion of a connection may change: its context, what is sent, what is mirrored, metered and counted, the path table and the pool. -/
def netParts : List Part := [.conns, .cipher, .regs, .out, .mgmt, .evt, .tally, .hbm, .heldOut, .swx, .map, .creditQ, .lost, .freeN, .ports]

/-- The parts that hearing a Drove packet may change whatever it holds: its connection, the lane that opens it and its path's age. -/
def heardParts : List Part := [.conns, .cipher, .regs, .map]

/-- Every connection but one is as before. -/
def Chip.others (c : Chip) (ctx : Nat) (d : Chip) : Prop := ∀ x, x ≠ ctx → d.conns.get? x = c.conns.get? x

/-- The context of a connection afterwards. -/
def Chip.conn (c : Chip) (ctx : Nat) (P : Conn → Prop) : Prop := ∃ m, c.conns.get? ctx = some m ∧ P m

/-- No count of a connection is near a mark of R97, and no move to another generation is due. -/
abbrev Conn.calm (n : Conn) : Prop :=
  n.sent + 16 < 2 ^ 31 ∧ n.received + 16 < 2 ^ 31 ∧ max n.hostData (max n.nextData n.oldData) + 16 < stopAt ∧ n.moveDue = false

/-- An open connection of a transport. -/
abbrev Chip.opened (c : Chip) (t : Transport) (ctx : Nat) (n : Conn) : Prop := c.conns.get? ctx = some n ∧ n.transport = t ∧ n.state = .opened ∧ n.failed = false

/-- A packet of an open Drove connection passes the checks that every encrypted packet goes through (R86 to R90, R93, R97, R99). -/
abbrev Chip.hears (c : Chip) (p : DPkt) (r : Rx) (type ctx : Nat) (n : Conn) : Prop :=
  c.byCid p.cid = some (ctx, n) ∧ c.opened .drove ctx n ∧ c.takesDrove r n.udpPort = true ∧ p.cipher = none ∧ p.tagOk = true ∧ p.gen = n.gen % 256 ∧ p.shapeOk type n.pathsMax = true ∧ n.calm

/-- The packet's number is the next in order, and none beyond it has come (R107). -/
abbrev Conn.inOrder (n : Conn) (p : DPkt) : Prop := p.psn = n.rxCum ∧ n.rxBits = [] ∧ n.rxCum < 2 ^ 32

/-- The queue pair of a context is recorded as lost (R176). -/
def Chip.loses (c : Chip) (ctx : Nat) : Prop := ∃ q, (ctx, q) ∈ c.lost

/-- A Drove packet of a type leaves on a path with this number, under this generation. -/
def Chip.sends (c : Chip) (ctx path type psn gen : Nat) : Prop := ∃ hdr body srcPort dstPort, .drove ctx path type psn gen hdr body srcPort dstPort ect0 ∈ c.out

/-- A PDU of an NVMe/TCP connection leaves, whatever its segments' headers say. -/
def Chip.sendsPdu (c : Chip) (ctx kind cid : Nat) (body : Bytes) : Prop := ∃ seq mss ecn ece tsEcho, .tcpPdu ctx kind cid body seq mss ecn ece tsEcho ∈ c.out

/-- Nothing of an NVMe/TCP connection's stream is in flight or waits, and its sending is not stopped (R72, R74). -/
abbrev Conn.tcpIdle (n : Conn) : Prop := n.unacked = [] ∧ n.txWait = [] ∧ n.stopped = false

/-! ### Host commands -/

/-- The parts that the end of a host command may change. -/
def cmdParts : List Part := [.intake, .map, .conns, .ctrls, .cache, .stripes, .regs, .tally, .hbm, .evt, .mgmt, .out]

/-- A host command that this chip has admitted, for a host of its own. -/
abbrev Chip.admitted (c : Chip) (key : Nat) (k : HostCmd) : Prop := c.intake.cmds.get? key = some k ∧ k.st = .admitted ∧ k.fwd = none ∧ k.silent = false

/-- An admitted I/O command of an opcode on a volume. -/
abbrev Chip.ioWaits (c : Chip) (key opc : Nat) (k : HostCmd) (n : Nat) (v : Volume) : Prop :=
  c.admitted key k ∧ k.io = true ∧ k.sqe.opc = opc ∧ k.volume = some n ∧ c.vols.get? n = some v

/-- An admitted admin or Fabrics command of an opcode, with its connection. -/
abbrev Chip.adminWaits (c : Chip) (tag opc : Nat) (k : HostCmd) (n : Conn) : Prop :=
  c.admitted (cmdKey 0 tag) k ∧ k.io = false ∧ k.sqe.opc = opc ∧ c.conns.get? k.ctx = some n

/-- The same on the admin queue of a controller. -/
abbrev Chip.ctrlWaits (c : Chip) (tag opc : Nat) (k : HostCmd) (n : Conn) (t : Ctrl) : Prop :=
  c.adminWaits tag opc k n ∧ n.connected = true ∧ n.qid = 0 ∧ c.ctrls.get? n.ctrl = some t

/-- A host command ends (R174, R175): its tag is free, and its completion record stands last. -/
def Chip.ends (c d : Chip) (key : Nat) (k : HostCmd) (code dw0 : Nat) (data : List Bytes := []) (close : Bool := false) : Prop :=
  d.intake.cmds.get? key = none ∧ d.intake.done = c.intake.done ++ [⟨k.ctx, k.sqe.cid, code / 256, code % 256, dw0, k.sqe.key, data, close, k.sqe.invalidates⟩]

/-- A version of a block that is being made: its line is filling, or it waits for room (R193, R194, R201). -/
def Chip.making (c : Chip) (volume lba seq : Nat) (data : Bytes) : Prop :=
  (∃ e ∈ c.lines, e.2.2.volume = volume ∧ e.2.2.lba = lba ∧ e.2.2.seq = seq ∧ e.2.2.data = data ∧ e.2.2.st = .filling) ∨
    ∃ l ∈ c.cache.waiting, l.volume = volume ∧ l.lba = lba ∧ l.seq = seq ∧ l.data = data ∧ l.st = .filling

/-! ### Management commands -/

/-- A management command that no general check refuses comes to a result that satisfies `P`. -/
def Asked (i : Instr) (s : State) (k : CmdInfo) (h : Hdr) (paddocks : List Nat) (P : Res → Prop) : Prop := Ready s k h paddocks → Answers i s k h P

/-- The same for a pair-scoped command that is applied here. -/
def AskedPair (i : Instr) (s : State) (k : CmdInfo) (h : Hdr) (paddocks : List Nat) (P : Res → Prop) : Prop := Ready s k h paddocks → PairOk s h → Answers i s k h P

/-- The same for a command after which the block settles. -/
def AskedSettled (i : Instr) (s : State) (k : CmdInfo) (h : Hdr) (paddocks : List Nat) (P : Res → Prop) : Prop := Ready s k h paddocks → AnswersSettled i s k h P

/-- The same for a pair-scoped command after which the block settles. -/
def AskedPairSettled (i : Instr) (s : State) (k : CmdInfo) (h : Hdr) (paddocks : List Nat) (P : Res → Prop) : Prop :=
  Ready s k h paddocks → PairOk s h → AnswersSettled i s k h P

/-- A long operation is accepted (R429, R430): its reply gives the handle of a slot in which it runs, with this total. -/
def Res.longOp (r : Res) (i opcode total : Nat) : Prop :=
  r.status = 1 ∧ r.later = false ∧ r.handle % 64 = i ∧ (r.chip.mgmt.ops.get? i).map (fun o => (o.opcode, o.handle)) = some (opcode, r.handle) ∧ loState (r.chip.lo i) = 2 ∧
    r.chip.get LONGOP_TOTAL_total i = total % 2 ^ LONGOP_TOTAL_total.width

/-- A drive's command identifier names this command: its place among the chip's drive commands, and the command (R180). -/
abbrev Chip.tagIs (c : Chip) (slot cid n : Nat) (d : DrvCmd) : Prop := c.tagOf slot cid = some (n, d) ∧ c.stripes.drv.get? n = some d

/-- A member read's completion has freed its tag and been counted, and nothing has been made of its blocks yet (R234). -/
def Chip.readIn (c : Chip) (n : Nat) (d : DrvCmd) : Chip := ((c.learnEst d).dropDrv n).cntStripe 4

/-- A background operation of the stripes stands among those of the chip. -/
def Chip.hasBg (c : Chip) (P : BgOp → Prop) : Prop := ∃ i o, c.stripes.bg.get? i = some o ∧ P o

/-- The parts of the storage side, and what its work reports: stripes and drives, lines, the map, mirroring, volumes, the ciphers, host commands, HBM, registers, events. -/
def storeParts : List Part :=
  [.stripes, .cache, .map, .mirror, .vols, .cipher, .intake, .conns, .ctrls, .slots, .gov, .shape, .tally, .hbm, .freeN, .regs, .evt, .mgmt, .out]

/-! ### Slots -/

/-- The parts that a slot's path, link and removal may change. -/
def slotParts : List Part := .slots :: .stripes :: evtParts

/-- A path has faulted (R330): gate off and PERST_N asserted at once, the fault counted and latched, the retry timer started; the third fault locks the channel. -/
def Chip.faulted (c d : Chip) (slot kind : Nat) : Prop :=
  d.get SLOT_CH_STAT_fault_cnt slot = min 3 (c.get SLOT_CH_STAT_fault_cnt slot + 1) ∧ d.pathState slot = (if c.get SLOT_CH_STAT_fault_cnt slot + 1 < 3 then 5 else 6) ∧
    d.flag SLOT_CH_STAT_pg slot = false ∧ .slotGate slot 0 ∈ d.out ∧ .slotPerst slot true ∈ d.out ∧
    (c.flag SLOT_CH_FAULT_valid slot = false → d.get SLOT_CH_FAULT_kind slot = kind ∧ d.flag SLOT_CH_FAULT_valid slot = true) ∧
    (d.run slot).retryEnd = some (c.clk + clamp 100 60000 (c.get SLOT_CH_CFG_retry_ms slot) * 1000000) ∧ c.sameBut slotParts d

/-! ### The twin controllers -/

/-- A little-endian field of a whistle. -/
def whistleField (raw : Bytes) (o n : Nat) : Nat := unle ((raw.drop o).take n)

/-- A chip accepts a whistle (R378): its length, its mark and its check agree, its number is later than the last of its path, and the chip has not withdrawn. -/
abbrev Chip.takesWhistle (c : Chip) (path : Nat) (raw : Bytes) : Prop :=
  path < 2 ∧ raw.length = 32 ∧ whistleField raw 0 2 = 0x5357 ∧ whistleField raw 28 4 = crc32c (raw.take 28) ∧ c.twin.withdrawn = false ∧
    ∀ x ∈ c.twin.seen.get? path, 0 < ahead 32 (whistleField raw 4 4) x ∧ ahead 32 (whistleField raw 4 4) x < 2 ^ 31

/-- The parts that pairing, a takeover or a handover may change. -/
def twinParts : List Part := [.twin, .mirror, .cache, .ctrls, .intake, .map, .vols, .tally, .hbm, .regs, .evt, .mgmt, .out, .stripes, .conns]

/-- No two chips' lines of a fold are asserted, and the fold is nobody's (R373). -/
abbrev Chip.freeFold (c : Chip) (f : Nat) : Prop := f < 8 ∧ c.flag TWIN_FOLD_STAT_own_line f = false ∧ c.flag TWIN_FOLD_STAT_partner_line f = false ∧ c.get TWIN_FOLD_STAT_phase f = 0

/-- A fold is being claimed: its line is driven, and the reason of the claim stands. -/
def Chip.claiming (c : Chip) (f why : Nat) : Prop :=
  c.flag TWIN_FOLD_STAT_own_line f = true ∧ c.get TWIN_FOLD_STAT_phase f = 1 ∧ c.twin.claims.get? f = some why ∧ c.flag TWIN_FOLD_STAT_gate_open f = false

/-- The long operations of moves are among the 64 (R429). -/
abbrev Chip.movesOk (c : Chip) : Prop := ∀ m ∈ c.twin.moves, ∀ i, m.2.2 = some i → i < 64

/-- `d` is what the carried command alone leaves of the chip `c`; a carried creation of a namespace (R184) gives the volume that it made its LBA format beside. -/
def PairCmd.after (c d : Chip) : PairCmd → Chip
  | .namespaceCreate v _ _ _ _ _ b => if c.vols.has v then d else { d with vols := d.vols.upd v (fun x => { x with lbaf := b }) }
  | _ => d

/-- The command that a command carried to the partner is (R417), with what this chip finds when it runs. -/
def PairCmd.asInstr (h : Hdr) (qualified : List Nat) (blocks : Nat) (response : Option Bytes) : PairCmd → Instr
  | .paddockCreate p nqn => .paddockCreate h p nqn
  | .paddockDelete p => .paddockDelete h p
  | .paddockArbSet p x => .paddockArbSet h p x
  | .paddockErase p none => .paddockErase h p 0 []
  | .paddockErase p (some b) => .paddockErase h p 1 b
  | .volumeCreate v p n f k a => .volumeCreate h v p n f k a
  | .namespaceCreate v p n f k a _ => .volumeCreate h v p n f k a
  | .volumeDelete v => .volumeDelete h v
  | .volumeResize v a => .volumeResize h v a
  | .snapshotCreate s v n => .snapshotCreate h s v n
  | .cloneCreate s v n => .cloneCreate h s v n
  | .volumeArbSet v x => .volumeArbSet h v x
  | .volumeDetach v => .volumeDetach h v
  | .volumeRangeOp v o l n => .volumeRangeOp h v o l n
  | .cacheModeSet s v x => .cacheModeSet h s v x
  | .hostSet i p l n q ps x => .hostSet h i p l n q ps x
  | .hostClear i => .hostClear h i
  | .hostClassSet i b x => .hostClassSet h i b x
  | .grantSet i n v m => .grantSet h i n v m
  | .grantClear i n => .grantClear h i n
  | .hurdleSet x a b d e m => .hurdleSet h x a b d e m
  | .hurdlePaddockSet p r a b d e => .hurdlePaddockSet h p r a b d e
  | .flockCreate f w z n ss => .flockCreate h f w z n ss qualified blocks
  | .flockDelete f => .flockDelete h f
  | .acreGroupSet f d g => .acreGroupSet h f d g
  | .memberFail f m => .memberFail h f m
  | .slotPowerSet s x => .slotPowerSet h s x
  | .slotUnlock s => .slotUnlock h s
  | .slotLedSet s x => .slotLedSet h s x
  | .slotRemove s => .slotRemove h s
  | .slotMiRead s k t x => .slotMiRead h s k t x response
  | .shapeSet k i a b d e => .shapeSet h k i a b d e
  | .shapeClear k i => .shapeClear h k i
  | .shapeOverheadSet p x => .shapeOverheadSet h p x
  | .gateSet s e xs => .gateSet h s e xs
  | .drivePsSet s l n i => .drivePsSet h s l n i
  | .paddockKeyImport p g x b => .paddockKeyImport h p g x b
  | .pskImport b i => .pskImport h b i
  | .pskClear k => .pskClear h k
  | .paddockRekey p => .paddockRekey h p
  | .genLimitSet x => .genLimitSet h x
  | .foldBellwetherSet f x => .foldBellwetherSet h f x
  | .foldMove f x => .foldMove h f x
  | .foldHoldSet f x => .foldHoldSet h f x
  | .twinCfgSet a b d => .twinCfgSet h a b d
  | .mapExchangeTest s => .mapExchangeTest h s

/-! ### What every management command goes through -/

/-- The opcode, scope, kind and parameter bytes of a management command (R435), its header, and the paddocks that its parameters name; none for what is not a management command. -/
def Instr.command : Instr → Option (CmdInfo × Hdr × List Nat)
  | .nop h => some (⟨0x0000, false, .r, 0⟩, h, [])
  | .identify h => some (⟨0x0001, false, .r, 0⟩, h, [])
  | .statusGet h => some (⟨0x0002, false, .r, 0⟩, h, [])
  | .paddockCreate h paddock nqn => some (⟨0x0100, true, .w, paramBytes [2, 2] + 4 + nqn.length⟩, h, [paddock])
  | .paddockDelete h paddock => some (⟨0x0101, true, .w, paramBytes [2]⟩, h, [paddock])
  | .paddockArbSet h paddock _ => some (⟨0x0102, true, .w, paramBytes [2, 4]⟩, h, [paddock])
  | .paddockErase h paddock hasSeed _ => some (⟨0x0103, true, .l, if hasSeed = 1 then 104 else paramBytes [2, 1]⟩, h, [paddock])
  | .paddockGet h paddock => some (⟨0x0104, false, .r, paramBytes [2]⟩, h, [paddock])
  | .volumeCreate h _ paddock _ _ _ _ => some (⟨0x0110, true, .w, paramBytes [2, 2, 2, 1, 1, 8]⟩, h, [paddock])
  | .volumeDelete h _ => some (⟨0x0111, true, .w, paramBytes [2]⟩, h, [])
  | .volumeResize h _ _ => some (⟨0x0112, true, .w, paramBytes [2, 8]⟩, h, [])
  | .snapshotCreate h _ _ _ => some (memberInfo false, h, [])
  | .cloneCreate h _ _ _ => some (memberInfo true, h, [])
  | .volumeArbSet h _ _ => some (⟨0x0115, true, .w, paramBytes [2, 4]⟩, h, [])
  | .volumeDetach h _ => some (⟨0x0116, true, .l, paramBytes [2]⟩, h, [])
  | .volumeGet h _ => some (⟨0x0117, false, .r, paramBytes [2]⟩, h, [])
  | .volumeRangeOp h _ _ _ _ => some (rangeInfo, h, [])
  | .cacheModeSet h _ _ _ => some (⟨0x0131, true, .w, paramBytes [1, 1, 2, 4]⟩, h, [])
  | .hostSet h _ paddock _ _ _ _ identity => some (⟨0x0200, true, .w, paramBytes [2, 2, 2, 1, 1, 8] + 96 + identity.length⟩, h, [paddock])
  | .hostClear h _ => some (⟨0x0201, true, .w, paramBytes [2]⟩, h, [])
  | .hostGet h _ => some (⟨0x0202, false, .r, paramBytes [2]⟩, h, [])
  | .hostClassSet h _ _ _ => some (⟨0x0204, true, .w, paramBytes [2, 1, 4]⟩, h, [])
  | .grantSet h _ _ _ _ => some (⟨0x0210, true, .w, paramBytes [2, 2, 2, 1]⟩, h, [])
  | .grantClear h _ _ => some (⟨0x0211, true, .w, paramBytes [2, 2]⟩, h, [])
  | .grantList h _ _ => some (⟨0x0212, false, .r, paramBytes [2, 2]⟩, h, [])
  | .droveCfgSet h _ _ _ _ _ _ _ _ => some (⟨0x0220, false, .w, paramBytes [8, 8, 8, 8, 8, 8, 8, 8]⟩, h, [])
  | .stdTransportSet h _ _ _ => some (⟨0x0221, false, .w, paramBytes [DROVE_TCP_CFG.bytes, DROVE_ROCE_CFG.bytes, DROVE_ROCE_RATE.bytes]⟩, h, [])
  | .portCfgSet h _ _ _ _ _ => some (⟨0x0222, false, .w, paramBytes [1, 4, 4, 8, 4]⟩, h, [])
  | .portAddrSet h _ _ _ _ _ _ => some (⟨0x0223, false, .w, paramBytes [1, 1] + 6 + 16 + 96 + 32⟩, h, [])
  | .portDscpSet h _ _ => some (⟨0x0224, false, .w, paramBytes [1] + 7 + 64⟩, h, [])
  | .timeCfgSet h _ _ => some (⟨0x0225, false, .w, paramBytes [8, 8]⟩, h, [])
  | .sessionList h _ => some (⟨0x0228, false, .r, paramBytes [4]⟩, h, [])
  | .sessionClose h _ => some (⟨0x0229, false, .w, paramBytes [4]⟩, h, [])
  | .hurdleSet h _ _ _ _ _ _ => some (⟨0x0230, true, .w, paramBytes [4, 2, 2, 4, 4, 1]⟩, h, [])
  | .hurdlePaddockSet h paddock _ _ _ _ _ => some (⟨0x0231, true, .w, paramBytes [2, 1, 2, 2, 4, 4]⟩, h, [paddock])
  | .mgmtPskSet h _ _ _ identity => some (⟨0x0240, false, .w, paramBytes [1, 1, 1] + 5 + 96 + identity.length⟩, h, [])
  | .mgmtPskClear h _ => some (⟨0x0241, false, .w, paramBytes [1]⟩, h, [])
  | .mgmtSessionCfg h _ _ _ => some (⟨0x0242, false, .w, paramBytes [2, 1, 2]⟩, h, [])
  | .mgmtSessionList h => some (⟨0x0243, false, .r, 0⟩, h, [])
  | .mapLookup h _ _ => some (⟨0x0300, false, .r, paramBytes [2, 8]⟩, h, [])
  | .mapReverse h _ _ => some (⟨0x0301, false, .r, paramBytes [1, 4]⟩, h, [])
  | .mapRehash h _ _ _ => some (⟨0x0302, false, .l, paramBytes [1, 1, 1]⟩, h, [])
  | .mapStatGet h _ => some (⟨0x0303, false, .r, paramBytes [1]⟩, h, [])
  | .flockCreate h _ _ _ _ _ _ _ => some (⟨0x0400, true, .w, 36⟩, h, [])
  | .flockDelete h _ => some (⟨0x0401, true, .w, paramBytes [1]⟩, h, [])
  | .flockGet h _ => some (⟨0x0402, false, .r, paramBytes [1]⟩, h, [])
  | .acreGroupSet h _ _ _ => some (⟨0x0404, true, .w, paramBytes [1, 1, 4]⟩, h, [])
  | .rebuildStart h _ => some (⟨0x0410, false, .l, paramBytes [1]⟩, h, [])
  | .copybackStart h _ _ _ => some (⟨0x0411, false, .l, paramBytes [1, 1, 1]⟩, h, [])
  | .scrubStart h _ _ _ => some (⟨0x0412, false, .l, paramBytes [1, 1, 8]⟩, h, [])
  | .shearStart h _ => some (⟨0x0413, false, .l, paramBytes [1]⟩, h, [])
  | .memberFail h _ _ => some (⟨0x0414, true, .w, paramBytes [1, 1]⟩, h, [])
  | .lostListRead h _ => some (⟨0x0415, false, .r, paramBytes [4]⟩, h, [])
  | .longopStatus h _ => some (⟨0x0500, false, .r, paramBytes [4]⟩, h, [])
  | .longopPause h _ => some (⟨0x0501, false, .w, paramBytes [4]⟩, h, [])
  | .longopResume h _ => some (⟨0x0502, false, .w, paramBytes [4]⟩, h, [])
  | .longopCancel h _ => some (⟨0x0503, false, .w, paramBytes [4]⟩, h, [])
  | .longopList h => some (⟨0x0504, false, .r, 0⟩, h, [])
  | .longopRelease h _ => some (⟨0x0505, false, .w, paramBytes [4]⟩, h, [])
  | .longopResultsRead h _ _ _ => some (⟨0x0506, false, .r, paramBytes [4, 4, 1]⟩, h, [])
  | .slotPowerSet h _ _ => some (⟨0x0600, true, .w, paramBytes [1, 1]⟩, h, [])
  | .slotCurveSet h _ _ => some (⟨0x0601, false, .w, paramBytes [1, 8, 8, 8, 8, 8, 8, 8, 8]⟩, h, [])
  | .slotCfgSet h _ _ _ _ _ => some (⟨0x0602, false, .w, paramBytes [1, 8, 8, 8, 8]⟩, h, [])
  | .slotUnlock h _ => some (⟨0x0603, true, .w, paramBytes [1]⟩, h, [])
  | .slotLedSet h _ _ => some (⟨0x0604, true, .w, paramBytes [1, 4]⟩, h, [])
  | .slotRemove h _ => some (⟨0x0605, true, .w, paramBytes [1]⟩, h, [])
  | .slotMiRead h _ _ _ _ _ => some (⟨0x0606, true, .r, paramBytes [1, 1, 1, 2]⟩, h, [])
  | .slotStatusGet h _ => some (⟨0x0607, false, .r, paramBytes [1]⟩, h, [])
  | .slotGlbSet h _ => some (⟨0x0608, false, .w, paramBytes [8]⟩, h, [])
  | .driveTmoSet h _ _ => some (⟨0x0610, false, .w, paramBytes [1, 2]⟩, h, [])
  | .driveLinkSet h _ _ _ => some (⟨0x0611, false, .w, paramBytes [1, 4, 8]⟩, h, [])
  | .holdupSet h _ _ _ _ => some (⟨0x0620, false, .w, paramBytes [2, 2, 2, 1]⟩, h, [])
  | .dumpTest h => some (⟨0x0621, false, .l, 0⟩, h, [])
  | .vaultAreaSet h _ _ _ _ _ => some (⟨0x0622, false, .w, paramBytes [8, 8, 8, 8, 8]⟩, h, [])
  | .shapeSet h kind index _ _ _ _ => some (⟨0x0700, true, .w, paramBytes [1, 2, 4, 4, 4, 4]⟩, h, if kind = 0 then [index] else [])
  | .shapeClear h kind index => some (⟨0x0701, true, .w, paramBytes [1, 2]⟩, h, if kind = 0 then [index] else [])
  | .shapeOverheadSet h paddock _ => some (⟨0x0702, true, .w, paramBytes [2, 2]⟩, h, [paddock])
  | .gateSet h _ _ _ => some (⟨0x0710, true, .w, paramBytes [1, 1, 4, 4, 4, 4, 4, 4, 4, 4]⟩, h, [])
  | .gateCfgSet h _ => some (⟨0x0711, false, .w, paramBytes [8]⟩, h, [])
  | .govCapSet h _ => some (⟨0x0720, false, .w, paramBytes [8]⟩, h, [])
  | .govClassSet h _ => some (⟨0x0721, false, .w, paramBytes [8]⟩, h, [])
  | .govCostSet h _ _ _ => some (⟨0x0722, false, .w, paramBytes [1, 1, 8]⟩, h, [])
  | .govCtlSet h _ => some (⟨0x0723, false, .w, paramBytes [4]⟩, h, [])
  | .pdSet h _ _ => some (⟨0x0730, false, .w, paramBytes [1, 1]⟩, h, [])
  | .islandPointSet h _ _ _ => some (⟨0x0731, false, .w, paramBytes [1, 1, 1]⟩, h, [])
  | .vfCalibrate h _ => some (⟨0x0732, false, .l, paramBytes [1]⟩, h, [])
  | .vfCfgSet h _ => some (⟨0x0733, false, .w, paramBytes [8]⟩, h, [])
  | .drivePsSet h _ _ _ _ => some (⟨0x0740, true, .w, paramBytes [1, 1, 1, 4]⟩, h, [])
  | .thermalSet h _ _ _ => some (⟨0x0750, false, .w, paramBytes [1, 1, 1]⟩, h, [])
  | .kekImport h _ _ _ => some (kekImportInfo, h, [])
  | .deviceKeyGet h => some (⟨0x0801, false, .r, 0⟩, h, [])
  | .paddockKeyImport h paddock _ _ _ => some (padImportInfo, h, [paddock])
  | .paddockKeyStatus h paddock => some (⟨0x0803, false, .r, paramBytes [2]⟩, h, [paddock])
  | .pskImport h _ identity => some (⟨0x0804, true, .w, paramBytes [1] + 7 + 96 + identity.length⟩, h, [])
  | .pskClear h _ => some (⟨0x0805, true, .w, paramBytes [8]⟩, h, [])
  | .paddockRekey h paddock => some (⟨0x0806, true, .w, paramBytes [2]⟩, h, [paddock])
  | .genLimitSet h _ => some (⟨0x0807, true, .w, paramBytes [8]⟩, h, [])
  | .ciphCtlSet h _ => some (⟨0x0808, false, .w, paramBytes [4]⟩, h, [])
  | .laneSet h _ _ _ => some (⟨0x0809, false, .w, paramBytes [1, 1]⟩, h, [])
  | .twinStatusGet h => some (⟨0x0900, false, .r, 0⟩, h, [])
  | .foldBellwetherSet h _ _ => some (⟨0x0901, true, .w, paramBytes [1, 1]⟩, h, [])
  | .foldMove h _ _ => some (⟨0x0902, true, .l, paramBytes [1, 1]⟩, h, [])
  | .foldHoldSet h _ _ => some (⟨0x0903, true, .w, paramBytes [1, 1]⟩, h, [])
  | .twinSoloStart h => some (⟨0x0904, false, .w, 0⟩, h, [])
  | .healthReportGet h _ => some (⟨0x0905, false, .r, paramBytes [1]⟩, h, [])
  | .twinCfgSet h _ _ _ => some (⟨0x0906, true, .w, paramBytes [4, 8, 8]⟩, h, [])
  | .evtCfgSet h _ _ _ _ _ _ => some (⟨0x0A00, false, .w, paramBytes [2, 2, 1, 1, 1, 1]⟩, h, [])
  | .evtRead h _ _ => some (⟨0x0A01, false, .r, paramBytes [4, 2]⟩, h, [])
  | .evtSubscribe h _ _ => some (⟨0x0A03, false, .w, paramBytes [2, 2, 4] + 256⟩, h, [])
  | .pmcSelect h _ _ _ _ _ _ => some (⟨0x0A10, false, .w, paramBytes [2, 2, 2, 1, 1, 1]⟩, h, [])
  | .pmcSampleSet h _ _ => some (⟨0x0A11, false, .w, paramBytes [2, 2, 4, 8]⟩, h, [])
  | .pmcChainSet h _ _ => some (⟨0x0A12, false, .w, paramBytes [2, 1]⟩, h, [])
  | .tallyRead h _ _ _ => some (tallyReadInfo, h, [])
  | .tallyCollected h _ _ => some (⟨0x0A21, false, .w, paramBytes [8, 1]⟩, h, [])
  | .tallyAccumRead h _ _ _ => some (⟨0x0A22, false, .r, paramBytes [2, 1, 1]⟩, h, [])
  | .fwImageWrite h _ _ _ => some (⟨0x0B00, false, .l, paramBytes [1, 4, 4]⟩, h, [])
  | .fwImageSelect h _ _ _ => some (⟨0x0B01, false, .w, paramBytes [1, 1, 1]⟩, h, [])
  | .fwInfoGet h => some (⟨0x0B02, false, .r, 0⟩, h, [])
  | .ledgerRead h _ => some (⟨0x0B03, false, .r, paramBytes [1]⟩, h, [])
  | .ledgerRuleClear h _ => some (⟨0x0B04, false, .w, paramBytes [4]⟩, h, [])
  | .shelfRecordWrite h _ _ => some (⟨0x0B05, false, .w, paramBytes [4, 4]⟩, h, [])
  | .shelfRecordRead h _ => some (⟨0x0B06, false, .r, paramBytes [4]⟩, h, [])
  | .chipReset h _ _ => some (chipResetInfo, h, [])
  | .fuseProgram h _ _ _ _ _ => some (⟨0x0B20, false, .w, paramBytes [1, 1, 1, 1, 4] + 48⟩, h, [])
  | .fuseSeal h _ => some (⟨0x0B21, false, .w, paramBytes [4]⟩, h, [])
  | .loopbackSet h _ _ => some (⟨0x0C00, false, .w, paramBytes [1, 1]⟩, h, [])
  | .serdesTest h _ _ _ _ => some (⟨0x0C01, false, .l, paramBytes [1, 1, 1, 4]⟩, h, [])
  | .mirrorSet h _ _ => some (⟨0x0C10, false, .w, paramBytes [1, 8]⟩, h, [])
  | .mirrorClear h _ => some (⟨0x0C11, false, .w, paramBytes [1]⟩, h, [])
  | .captureRingSet h _ _ _ => some (⟨0x0C12, false, .w, paramBytes [8, 4, 8]⟩, h, [])
  | .mapExchangeTest h _ => some (⟨0x0C20, true, .w, paramBytes [2]⟩, h, [])
  | .regRead h _ _ => some (⟨0x0C30, false, .r, paramBytes [4, 2]⟩, h, [])
  | .regWrite h _ _ _ => some (⟨0x0C31, false, .w, paramBytes [4, 8, 8]⟩, h, [])
  | _ => none

/-- A command comes to this chip: at once, or settled. -/
def Becomes (i : Instr) (s : State) (d : Chip) : Prop := exec i s = .next { s with chip := d } ∨ exec i s = .next { s with chip := d.settle }

/-- A management command comes to a result that satisfies `P`, and its reply leaves. -/
def Comes (i : Instr) (s : State) (k : CmdInfo) (h : Hdr) (P : Res → Prop) : Prop := ∃ r : Res, Becomes i s (Chip.finish k h r) ∧ P r

/-! ### What holds still -/

/-- The chip is held by PORST_N (R440): lines deasserted, gates off, PERST_N asserted, THERMTRIP_N deasserted; no release waits. -/
abbrev State.inPorst (s : State) : Prop :=
  s.chip.start.porst = true ∧ s.chip.gov.tripped = false ∧ (∀ f, f < 8 → s.chip.flag TWIN_FOLD_STAT_own_line f = false) ∧
    (∀ x ∈ s.chip.slotList, s.chip.pathState x = 0 ∧ s.chip.flag SLOT_CH_CTL_perst_rel x = false) ∧ .porstRelease ∉ s.pending

/-- The chip has tripped for heat (R311), and no PORST_N waits. -/
abbrev State.inTrip (s : State) : Prop :=
  s.chip.gov.tripped = true ∧ s.chip.start.porst = false ∧ s.chip.start.failed = false ∧ s.chip.cache.dump.phase ≠ 4 ∧ .porstAssert ∉ s.pending

/-- The chip is in dump-done (R211, step 8), and neither PORST_N nor the return of power waits. -/
abbrev State.inDumpDone (s : State) : Prop :=
  s.chip.cache.dump.phase = 4 ∧ s.chip.start.porst = false ∧ s.chip.start.failed = false ∧ .porstAssert ∉ s.pending ∧ .powerReturn ∉ s.pending

/-- The rows of the always-on island and of the PORST_N pin: what still acts while the chip is stopped. -/
def Instr.staysOn : Instr → Bool
  | .shortCircuitTrip .. | .pathSample .. | .thermalModelStep .. | .powerGood .. | .rampTimeout .. | .retryTimerExpiry .. | .faultCountClear .. | .insertDelayExpiry .. | .presenceChange ..
  | .seatChange .. | .vaultSeatStart .. | .rampDownDone .. | .pwarnLeadExpiry .. | .pwarnFollow .. | .porstAssert | .porstRelease | .aonRestart | .powerReturn | .deadmanExpiry => true
  | _ => false

/-! ### Starts -/

/-- An entry of the ledger ring of this start (R443, R444). -/
def Chip.ledgered (c : Chip) (step outcome reason : Nat) : Prop :=
  ∃ e ∈ c.flash.ledger.vals, e.step = step ∧ e.outcome = outcome ∧ e.reason = reason ∧ e.startNo = c.flash.startNo

/-- The chip begins a cold start (R442, R464): at ST00, under the next start number; fuses, images and shelf record are as before, everything in registers, SRAM and HBM is gone. -/
def Chip.coldStarted (c d : Chip) : Prop :=
  d.id = c.id ∧ d.get GLB_START_step = 0 ∧ d.flag GLB_START_in_service = false ∧ d.flag LEDGER_STAT_warm = false ∧ d.start.porst = false ∧ d.start.failed = false ∧ d.gov.tripped = false ∧
    d.flash.startNo = (c.flash.startNo + 1) % 2 ^ 32 ∧ d.ledgered 0 0 0 ∧ d.fuses = c.fuses ∧ d.flash.images = c.flash.images ∧ d.flash.shelf = c.flash.shelf ∧ d.hbm = [] ∧
    d.conns = [] ∧ d.ctrls = [] ∧ d.vols = [] ∧ d.paddocks = [] ∧ d.hosts = [] ∧ d.intake.cmds = [] ∧ d.stripes.entries = [] ∧ d.cipher.pads = [] ∧ d.mgmt.sessions = [] ∧
    (∀ f, f < 8 → d.flag TWIN_FOLD_STAT_own_line f = false ∧ d.flag TWIN_FOLD_STAT_gate_open f = false) ∧ d.flag LEDGER_STAT_held = d.flash.rules.hold

/-- The chip begins a warm start (R442, R464): at ST03, under the next start number; HBM, fuses, the records of the shelf and its keys are kept, connections, rings and sessions are gone, every line is released. -/
def Chip.warmStarted (c d : Chip) : Prop :=
  d.id = c.id ∧ d.get GLB_START_step = 3 ∧ d.flag GLB_START_in_service = false ∧ d.flag LEDGER_STAT_warm = true ∧ d.flash.startNo = (c.flash.startNo + 1) % 2 ^ 32 ∧ d.ledgered 3 0 0 ∧
    d.hbm = c.hbm ∧ d.fuses = c.fuses ∧ d.flash.images = c.flash.images ∧ d.paddocks = c.paddocks ∧ d.hosts = c.hosts ∧ d.grants = c.grants ∧ d.cipher.pads = c.cipher.pads ∧
    d.cipher.kek = c.cipher.kek ∧ d.conns = [] ∧ d.ctrls = [] ∧ d.mgmt.sessions = [] ∧
    (∀ f, f < 8 → d.flag TWIN_FOLD_STAT_own_line f = false ∧ d.flag TWIN_FOLD_STAT_gate_open f = false)

end Sys2Proof.Machine
end

