-- ==== Sys2Proof/Certificates/Slice0/Obligations.lean ====
section
/-!
DEFINITION. The statements about the model, for the provers.
-/

open Sys2Proof Sys2Proof.Machine

/-- R52, R39, R20, R45: the register rows and time-outs of the cell switch, with all that they leave. (Where a clause rests on a reading or a choice of the model, it is that of log entries 17 and 21.) -/
def Obligations.SwitchRegisters : Prop :=
  (∀ s : State, Live .up s → Runs .swxPeakClr s (fun c =>
    c.get SWX_BUF_HWM_peak_cells = 0 ∧ (∀ k, k < 8 → c.get SWX_CLASS_STAT_peak k = 0) ∧
    s.chip.keeps [.regs] (fun x => x = SWX_BUF_HWM_peak_cells.key 0 0 ∨ ∃ k, k < 8 ∧ x = SWX_CLASS_STAT_peak.key k 0) c)) ∧
  (∀ s : State, Live .up s → Runs .swxReseqErrRearm s (fun c =>
    c.get SWX_RESEQ_ERR_valid = 0 ∧ s.chip.keeps [.regs] (fun x => x = SWX_RESEQ_ERR_valid.key 0 0) c)) ∧
  (∀ (s : State) (k image : Nat), Live .up s → k < 8 →
    ((List.range 8).map (fun j => if j = k then SWX_CLASS_CFG_rsv_cells.of image else s.chip.get SWX_CLASS_CFG_rsv_cells j)).sum ≤ 114688 →
    SWX_CLASS_CFG_rsv_cells.of image ≤ SWX_CLASS_CFG_ceil_cells.of image →
    Runs (.swxClassCfgWrite k image) s (fun c =>
      c.get SWX_CLASS_CFG_rsv_cells k = SWX_CLASS_CFG_rsv_cells.of image ∧ c.get SWX_CLASS_CFG_ceil_cells k = SWX_CLASS_CFG_ceil_cells.of image ∧
      c.get SWX_CLASS_CFG_weight k = SWX_CLASS_CFG_weight.of image ∧
      s.chip.keeps [.regs] (fun x => x = SWX_CLASS_CFG_rsv_cells.key k 0 ∨ x = SWX_CLASS_CFG_ceil_cells.key k 0 ∨ x = SWX_CLASS_CFG_weight.key k 0 ∨
        x = SWX_BUF_STATUS_shared_free.key 0 0) c)) ∧
  (∀ (s : State) (k image : Nat), Live .up s → k < 8 →
    (114688 < ((List.range 8).map (fun j => if j = k then SWX_CLASS_CFG_rsv_cells.of image else s.chip.get SWX_CLASS_CFG_rsv_cells j)).sum ∨
      SWX_CLASS_CFG_ceil_cells.of image < SWX_CLASS_CFG_rsv_cells.of image) →
    exec (.swxClassCfgWrite k image) s = .next { s with chip := s.chip.raise 0x7CC }) ∧
  (∀ (s : State) (a b : Nat), Live .up s → s.chip.swx.stiles.getD (a * 64 + b) [] ≠ [] →
    Runs (.stileWakeTimeout a b) s (fun c => c = s.chip.raise 0x7CA ∧ s.chip.keeps evtParts evtKeys c)) ∧
  (∀ (s : State) (o : Nat), Live .up s → s.chip.outCeil o ≤ s.chip.get SWX_OUT_STAT_queued o →
    Runs (.outputStallTimeout o) s (fun c => c = s.chip.raise 0x7CB ∧ s.chip.keeps evtParts evtKeys c))

/-- R40, R42, R43: a cell within its class's reserve enters the buffer's queue of its input, output and class; a push-out notice is taken once, and the source offers again what it kept;
a report that the first cell left frees what was kept. (Where a clause rests on a reading or a choice of the model, it is that of log entries 18 and 19.) -/
def Obligations.SwitchCells : Prop :=
  (∀ (s : State) (x : Cell), Live .up s → s.chip.offers x → (∀ y ∈ s.chip.swx.held, y.src ≠ x.src) → s.chip.get SWX_OUT_STAT_queued x.dst < s.chip.outCeil x.dst →
    s.chip.get SWX_CLASS_STAT_occ x.cls < s.chip.get SWX_CLASS_CFG_rsv_cells x.cls →
    Runs (.cellEnqueue x) s (fun c =>
      c.swx.queues = s.chip.swx.queues.updD (qKey x.src x.dst x.cls) [] (fun q => q ++ [{ x with stamp := s.chip.swx.arrivals }]) ∧
      c.swx.held = s.chip.swx.held ∧
      c.get SWX_CLASS_STAT_occ x.cls = min (s.chip.get SWX_CLASS_STAT_occ x.cls + 1) (2 ^ 18 - 1) ∧
      c.get SWX_OUT_STAT_queued x.dst = min (s.chip.get SWX_OUT_STAT_queued x.dst + 1) (2 ^ 18 - 1) ∧
      s.chip.sameBut (.swx :: evtParts) c)) ∧
  (∀ (s : State) (x : Cell), Live .up s → s.chip.offers x → (∀ y ∈ s.chip.swx.held, y.src ≠ x.src) → s.chip.outCeil x.dst ≤ s.chip.get SWX_OUT_STAT_queued x.dst →
    Runs (.cellEnqueue x) s (fun c => c.swx.held = s.chip.swx.held ++ [x] ∧ c.swx.queues = s.chip.swx.queues ∧ s.chip.keeps [.swx] (fun _ => False) c)) ∧
  (∀ (s : State) (src id cls dst : Nat), Live .up s → s.chip.swx.notices = [(src, id, cls, dst)] → s.chip.swx.kept = [] →
    Runs (.pushOutNotice src id) s (fun c => c.swx.notices = [] ∧ s.chip.keeps [.swx] (fun _ => False) c)) ∧
  (∀ (s : State) (src id : Nat), Live .up s → (src, id) ∈ s.chip.swx.reports →
    Runs (.firstCellLeftReport src id) s (fun c =>
      c.swx.reports = s.chip.swx.reports.erase (src, id) ∧ (∀ m ∈ c.swx.kept, ¬ (m.src = src ∧ m.msgId = id)) ∧ c.swx.queues = s.chip.swx.queues ∧
      s.chip.keeps [.swx] (fun _ => False) c))

/-- R27 to R30, R33, R34, R36: a cell alone in the buffer crosses plane 0 and is delivered in sequence; a failing header CRC repeats the cell from the replay buffer; a gap that times out
delivers the message poisoned and latches the pair. (Where a clause rests on a reading or a choice of the model, it is that of log entries 17 and 21.) -/
def Obligations.SwitchPlanes : Prop :=
  (∀ (s : State) (x : Cell) (n : Nat), Live .up s → x.src < 32 → x.dst < 32 → x.cls < 8 → x.mirror = false → x.poison = false →
    s.chip.linkHolds 0 x.dst = false → s.chip.swx.resend = [] → s.chip.swx.queues = [(qKey x.src x.dst x.cls, [x])] → s.chip.swx.held = [] → s.chip.swx.reorder = [] → s.chip.swx.poisoned = [] →
    s.chip.swx.seqNext.getD (x.src * 32 + x.dst) 0 = n → s.chip.swx.seqExpect.getD (x.dst * 32 + x.src) 0 = n → n < 65536 →
    s.chip.flag SWX_OUT_STAT_stalled x.dst = false → s.chip.get SWX_CTL_plane_en = 1 →
    Runs (.cellTimeMatch [] none) s (fun c =>
      c.swx.queues = [] ∧ c.swx.reorder = [] ∧ .cellDelivered { x with seq := n, plane := 0 } ({ x with seq := n, plane := 0 } : Cell).header ∈ c.out ∧
      c.swx.seqNext.getD (x.src * 32 + x.dst) 0 = (n + 1) % 65536 ∧ c.swx.seqExpect.getD (x.dst * 32 + x.src) 0 = (n + 1) % 65536)) ∧
  (∀ (s : State) (x : Cell) (p o : Nat), Live .up s → s.chip.swx.bad = [x] → s.chip.swx.damaged = [] → x.plane = p → x.dst = o → p < 2 →
    s.chip.swx.failRun.getD (p * 32 + o) 0 + 1 ≤ s.chip.get SWX_REPLAY_CFG_fault_limit →
    Runs (.hcrcFail p o true) s (fun c =>
      c.swx.bad = [x] ∧ c.swx.failRun.getD (p * 32 + o) 0 = s.chip.swx.failRun.getD (p * 32 + o) 0 + 1 ∧ s.chip.keeps (.swx :: evtParts) evtKeys c)) ∧
  (∀ (s : State) (x : Cell) (dst src id : Nat), Live .up s → dst < 32 → src < 32 → s.chip.swx.reorder = [x] → x.dst = dst → x.src = src → x.msgId = id → x.mirror = false →
    x.seq < 65536 → s.chip.swx.bad = [] → s.chip.swx.resend = [] → s.chip.flag SWX_RESEQ_ERR_valid = false →
    Runs (.reseqTimeout dst src id) s (fun c =>
      c.get SWX_RESEQ_ERR_valid = 1 ∧ c.get SWX_RESEQ_ERR_dst_ap = dst ∧ c.get SWX_RESEQ_ERR_src_ap = src ∧
      c.get SWX_RESEQ_ERR_expected_seq = s.chip.swx.seqExpect.getD (dst * 32 + src) 0 % 65536 ∧
      .cellDelivered { x with poison := true } ({ x with poison := true } : Cell).header ∈ c.out ∧ .messagePoisoned dst src id ∈ c.out ∧ c.swx.reorder = []))

/-- R471 to R474, R488: the event unit's commands and rows. (Where a clause rests on a reading or a choice of the model, it is that of log entry 138.) -/
def Obligations.EventRows : Prop :=
  (∀ (s : State) (w mask : Nat), Live .up s → w < 32 → Runs (.evtStatusClear w mask) s (fun c =>
    c.get EVT_STATUS_status w = s.chip.get EVT_STATUS_status w &&& ((mask % 2 ^ 64) ^^^ (2 ^ 64 - 1)) ∧
    s.chip.keeps [.regs] (fun x => x = EVT_STATUS_status.key w 0 ∨ x = EVT_SUMMARY_words.key 0 0) c)) ∧
  (∀ (s : State) (w enable : Nat), Live .up s → w < 32 → Runs (.evtEnableWrite w enable) s (fun c =>
    (∀ b, b < 64 → bit (c.get EVT_ENABLE_enable w) b = bit enable b) ∧ s.chip.keeps evtParts evtKeys c)) ∧
  (∀ (s : State) (e image : Nat), Live .up s → e < 2048 → Runs (.evtRouteWrite e image) s (fun c =>
    c.get EVT_ROUTE_vector e = EVT_ROUTE_vector.of image ∧ c.flag EVT_ROUTE_msix e = bit image 6 ∧ c.flag EVT_ROUTE_fw e = bit image 7 ∧ s.chip.keeps evtParts evtKeys c)) ∧
  (∀ (s : State) (e : Nat) (l : LogEntry), Live .up s → s.chip.evt.waiting.get? e = some l →
    ahead 32 (s.chip.get EVT_LOG_STAT_next + 1) s.chip.evt.readTo ≤ 4096 →
    Runs (.eventLogInterval e) s (fun c =>
      c.evt.log.get? (s.chip.get EVT_LOG_STAT_next % 4096) = some l ∧ c.evt.waiting.get? e = none ∧
      c.get EVT_LOG_STAT_next = (s.chip.get EVT_LOG_STAT_next + 1) % 2 ^ 32 ∧ s.chip.keeps evtParts evtKeys c)) ∧
  (∀ s : State, Live .up s → Runs .mgmtCoreWatchdog s (fun c => c = s.chip.raise 0x7E1 ∧ s.chip.keeps evtParts evtKeys c)) ∧
  (∀ (s : State) (h : Hdr) (first vector route enable : Nat), Ready s ⟨0x0A00, false, .w, paramBytes [2, 2, 1, 1, 1, 1]⟩ h [] → first < 2048 → vector < 64 →
    Answers (.evtCfgSet h first 1 vector route enable 0) s ⟨0x0A00, false, .w, paramBytes [2, 2, 1, 1, 1, 1]⟩ h (fun r =>
      r.status = 0 ∧ r.chip.get EVT_ROUTE_vector first = vector ∧ r.chip.flag EVT_ROUTE_msix first = bit route 0 ∧ r.chip.flag EVT_ROUTE_fw first = bit route 1 ∧
      s.chip.keeps evtParts evtKeys r.chip)) ∧
  (∀ (s : State) (h : Hdr) (n max : Nat) (l : LogEntry), Ready s ⟨0x0A01, false, .r, paramBytes [4, 2]⟩ h [] → 1 ≤ max → max ≤ 250 → 0 < n →
    s.chip.get EVT_LOG_STAT_next = n → s.chip.evt.log.get? ((n - 1) % 4096) = some l → n < 2 ^ 32 →
    Answers (.evtRead h (n - 1) max) s ⟨0x0A01, false, .r, paramBytes [4, 2]⟩ h (fun r =>
      r.status = 0 ∧ r.data = le 2 1 ++ zeros 2 ++ le 4 n ++ le 4 (s.chip.get EVT_LOG_STAT_lost) ++ zeros 4 ++
        (le 8 l.timebase ++ le 2 l.event ++ le 1 (b2n l.msixSent + 2 * b2n l.atStart) ++ le 1 0 ++ le 4 l.count) ∧
      s.chip.keeps [.evt, .mgmt] (fun _ => False) r.chip)) ∧
  (∀ (s : State) (h : Hdr) (i coalMs mask : Nat) (m : MgmtSession), Ready s ⟨0x0A03, false, .w, paramBytes [2, 2, 4] + 256⟩ h [] → h.src = .session i →
    s.chip.mgmt.sessions.get? i = some m → 1 ≤ coalMs → coalMs ≤ 60000 →
    Answers (.evtSubscribe h coalMs mask) s ⟨0x0A03, false, .w, paramBytes [2, 2, 4] + 256⟩ h (fun r =>
      r.status = 0 ∧ (∃ n, r.chip.mgmt.sessions.get? i = some n ∧ n.subMask = bitList mask 2048 ∧ n.subTag = h.tag ∧ n.coalMs = coalMs) ∧
      s.chip.keeps [.mgmt] (fun _ => False) r.chip))

/-- R475 to R479, R487: the performance counters. (Where a clause rests on a reading or a choice of the model, it is that of log entry 136.) -/
def Obligations.CounterRows : Prop :=
  (∀ (s : State) (h : Hdr) (i kind island : Nat), Ready s ⟨0x0A10, false, .w, paramBytes [2, 2, 2, 1, 1, 1]⟩ h [] → i < 1024 → kind < 1024 → island < 64 →
    pmcSelectable s.chip.id kind island = true → s.chip.flag PMC_CFG_chained i = false →
    Answers (.pmcSelect h i 1 kind island 1 1) s ⟨0x0A10, false, .w, paramBytes [2, 2, 2, 1, 1, 1]⟩ h (fun r =>
      r.status = 0 ∧ r.chip.get PMC_CFG_kind i = kind ∧ r.chip.get PMC_CFG_island i = island ∧ r.chip.get PMC_CFG_mode i = 1 ∧ r.chip.get PMC_CNT_count i = 0 ∧
      s.chip.sameBut [.regs, .mgmt] r.chip)) ∧
  (∀ (s : State) (h : Hdr) (i reload : Nat), Ready s ⟨0x0A11, false, .w, paramBytes [2, 2, 4, 8]⟩ h [] → i < 1024 →
    Answers (.pmcSampleSet h i reload) s ⟨0x0A11, false, .w, paramBytes [2, 2, 4, 8]⟩ h (fun r =>
      r.status = 0 ∧ r.chip.get PMC_RELOAD_reload i = reload % 2 ^ PMC_RELOAD_reload.width ∧
      s.chip.keeps [.regs, .mgmt] (fun x => x = PMC_RELOAD_reload.key i 0) r.chip)) ∧
  (∀ (s : State) (h : Hdr) (even enable : Nat), Ready s ⟨0x0A12, false, .w, paramBytes [2, 1]⟩ h [] → s.chip.id.half = true → even < 1024 → even % 2 = 0 →
    s.chip.get PMC_CFG_mode even = 0 → s.chip.get PMC_CFG_mode (even + 1) = 0 →
    Answers (.pmcChainSet h even enable) s ⟨0x0A12, false, .w, paramBytes [2, 1]⟩ h (fun r =>
      r.status = 0 ∧ r.chip.flag PMC_CFG_chained even = decide (enable ≠ 0) ∧ r.chip.flag PMC_CFG_chained (even + 1) = decide (enable ≠ 0) ∧
      s.chip.keeps [.regs, .mgmt] (fun x => x = PMC_CFG_chained.key even 0 ∨ x = PMC_CFG_chained.key (even + 1) 0) r.chip)) ∧
  (∀ (s : State) (i island kind n skid tag state : Nat), Live .up s → i < 1024 → pmcSelectable s.chip.id kind island = true →
    s.chip.get PMC_CFG_mode i = 1 → s.chip.get PMC_CFG_kind i = kind → s.chip.get PMC_CFG_island i = island → s.chip.flag PMC_CFG_chained i = false →
    (∀ j, j < 1024 → j ≠ i → s.chip.get PMC_CFG_mode j = 0) → s.chip.get PMC_CNT_count i + n < pmcTop →
    Runs (.pmcIncrement island kind n skid tag state) s (fun c =>
      c.get PMC_CNT_count i = s.chip.get PMC_CNT_count i + n ∧ s.chip.keeps [.regs] (fun x => x = PMC_CNT_count.key i 0) c)) ∧
  (∀ s : State, Live .up s → Runs .pmcSatRearm s (fun c => c.get PMC_STAT_sat_valid = 0 ∧ s.chip.keeps [.regs] (fun x => x = PMC_STAT_sat_valid.key 0 0) c)) ∧
  (∀ (s : State) (n : Nat), Live .up s → Runs (.pmcSmpConsWrite n) s (fun c =>
    c.get PMC_SMP_CONS_cons = n % 2 ^ PMC_SMP_CONS_cons.width ∧ s.chip.keeps [.regs] (fun x => x = PMC_SMP_CONS_cons.key 0 0) c))

/-- R69, R480 to R486: the minute tick, and the tallies from the swap of the banks to their collection. (Where a clause rests on a reading or a choice of the model, it is that of log entry 137.) -/
def Obligations.TallyRows : Prop :=
  (∀ s : State, Live .up s → s.chip.get PORT_TICK_LAST_minute < s.chip.minuteNumber → s.chip.minuteNumber < 2 ^ PORT_TICK_LAST_minute.width → s.chip.flag TALLY_CTL_en = false →
    Runs .minuteTick s (fun c => c.get PORT_TICK_LAST_minute = s.chip.minuteNumber ∧ c.get PORT_TICK_LAST_source = s.chip.tickSrc ∧ c.ports.lastTickClk = s.chip.clk ∧
      s.chip.sameBut (.ports :: evtParts) c)) ∧
  (∀ s : State, Live .up s → s.chip.tally.sealing = true → s.chip.tally.waitingReads = [] → s.chip.get TWIN_STATUS_pair_state ≠ 1 →
    Runs .tallySealExpiry s (fun c => c.get TALLY_BANK_sealed = 1 ∧ c.tally.sealing = false ∧
      s.chip.keeps (.tally :: evtParts) (fun x => evtKeys x ∨ x = TALLY_BANK_sealed.key 0 0) c)) ∧
  (∀ (s : State) (minute flags a b f : Nat), Live .up s → Runs (.tallyCopyRx minute flags [] a b f []) s (fun c =>
    c.tally.partnerHeld = true ∧ c.tally.partnerMinute = minute ∧ c.tally.partnerFlags = flags ∧ c.tally.partnerAccFirst = a ∧ c.tally.partnerAccLast = b ∧
    c.tally.partnerAccFlags = f ∧ c.tally.partnerCleared = [])) ∧
  (∀ s : State, Live .up s → s.chip.tally.copySeen = false → Runs .tallyCopyTimeout s (fun c =>
    c = (s.chip.raise 0x794).cntTally 5 ∧ s.chip.sameBut evtParts c)) ∧
  (∀ (s : State) (h : Hdr) (minute first : Nat), Ready s tallyReadInfo h [] → first < 2048 → s.chip.flag TALLY_BANK_sealed = true → s.chip.get TALLY_CLOSED_minute = minute →
    Answers (.tallyRead h minute first 0) s tallyReadInfo h (fun r => Reads s h 0x0A20 r ((s.chip.unfetch h 0x0A20).tallyData minute first 0))) ∧
  (∀ (s : State) (h : Hdr) (minute : Nat), Ready s ⟨0x0A21, false, .w, paramBytes [8, 1]⟩ h [] → s.chip.flag TALLY_BANK_sealed = true → s.chip.get TALLY_CLOSED_minute = minute →
    Answers (.tallyCollected h minute 0) s ⟨0x0A21, false, .w, paramBytes [8, 1]⟩ h (fun r => r.status = 0 ∧ r.chip.flag TALLY_BANK_collected = true ∧ s.chip.sameBut [.regs, .mgmt] r.chip)) ∧
  (∀ (s : State) (h : Hdr) (first : Nat), Ready s ⟨0x0A22, false, .r, paramBytes [2, 1, 1]⟩ h [] → first < 2048 →
    Answers (.tallyAccumRead h first 0 0) s ⟨0x0A22, false, .r, paramBytes [2, 1, 1]⟩ h (fun r =>
      r.status = 0 ∧ r.chip = s.chip.unfetch h 0x0A22 ∧
      r.data.take 17 = le 8 (s.chip.get TALLY_ACC_FIRST_minute) ++ le 8 (s.chip.get TALLY_ACC_LAST_minute) ++ le 1 (s.chip.get TALLY_ACC_flags)))

/-- R396, R397, R399, R494, R498: health reports, self-tests, and the faults that AON logs. (Where a clause rests on a reading or a choice of the model, it is that of log entry 114.) -/
def Obligations.HealthRows : Prop :=
  (∀ s : State, Live .up s → Runs .healthReportTimer s (fun c =>
    c.twin.reportNo = s.chip.twin.reportNo + 1 ∧ c.twin.myMask = s.chip.failMask ∧ c.twin.faults = 0 ∧ .health c.twin.mine ∈ c.out ∧ s.chip.sameBut (.twin :: evtParts) c)) ∧
  (∀ (s : State) (raw : Bytes), Live .up s → raw.length = 256 → unle (raw.take 4) = 0x5356484C → s.chip.twin.withdrawn = false →
    Runs (.healthReportRx raw) s (fun c => c.twin.partner = raw ∧ c.twin.theirMask = unle ((raw.drop 36).take 4) ∧ s.chip.keeps (.twin :: evtParts) evtKeys c)) ∧
  (∀ (s : State) (h : Hdr) (which : Nat), Ready s ⟨0x0905, false, .r, paramBytes [1]⟩ h [] → which < 2 → s.chip.lastReport which ≠ [] →
    Answers (.healthReportGet h which) s ⟨0x0905, false, .r, paramBytes [1]⟩ h (fun r => Reads s h 0x0905 r (s.chip.lastReport which))) ∧
  (∀ (s : State) (value : Nat), Live .up s → Runs (.twinHealthSelWrite value) s (fun c =>
    c.get TWIN_HEALTH_SEL_which = value % 2 ∧ (∀ j, j < 32 → c.get TWIN_HEALTH_VIEW_bytes j = unle (((padTo 256 (s.chip.lastReport (value % 2))).drop (8 * j)).take 8) % 2 ^ 64) ∧
    s.chip.sameBut [.regs] c)) ∧
  (∀ (s : State) (margin : Nat), Live .up s → s.chip.get TWIN_FAILBACK_CFG_margin_min ≤ margin → Runs (.selfTestRun 3 true margin) s (fun c =>
    c.twin.margin = min margin 255 ∧ c.twin.faults = s.chip.twin.faults ∧ s.chip.keeps [.twin] (fun _ => False) c)) ∧
  (∀ (s : State) (kind margin : Nat), Live .up s → (kind = 1 ∨ kind = 2 ∨ kind = 9) → Runs (.selfTestRun kind false margin) s (fun c =>
    c.twin.faults = setBit s.chip.twin.faults kind true ∧ s.chip.keeps [.twin] (fun _ => False) c)) ∧
  (∀ s : State, Live .up s → Runs .refclkOutOfTolerance s (fun c => c = s.chip.raise 0x7E6 ∧ s.chip.keeps evtParts evtKeys c)) ∧
  (∀ s : State, Live .up s → Runs .pmbusAlert s (fun c => c = s.chip.send .pmbusAlertLogged ∧ s.chip.keeps [.out] (fun _ => False) c))

/-- R55, R59, R61, R62, R68, R76 to R81: the commands that set the ports up. (Where a clause rests on a reading or a choice of the model, it is that of log entries 22 and 24.) -/
def Obligations.PortCommands : Prop :=
  (∀ (s : State) (h : Hdr) (port cfg prio pfc fec : Nat), Ready s ⟨0x0222, false, .w, paramBytes [1, 4, 4, 8, 4]⟩ h [] → portRefusal s.chip port 32 = none →
    Answers (.portCfgSet h port cfg prio pfc fec) s ⟨0x0222, false, .w, paramBytes [1, 4, 4, 8, 4]⟩ h (fun r =>
      r.status = 0 ∧ r.chip.shows PORT_CFG cfg port ∧ r.chip.shows PORT_PRIO_MAP prio port ∧ r.chip.shows PORT_PFC_CFG pfc port ∧ r.chip.shows PORT_FEC_THR fec port ∧
      (s.chip.get PORT_CFG_sub_en port = 0 → PORT_CFG_sub_en.of cfg ≠ 0 → r.chip.portMode port = if PORT_CFG_mode.of cfg = 3 then 0 else PORT_CFG_mode.of cfg) ∧
      (¬ (s.chip.get PORT_CFG_sub_en port = 0 ∧ PORT_CFG_sub_en.of cfg ≠ 0) → r.chip.ports = s.chip.ports) ∧
      s.chip.keeps (.ports :: evtParts) (fun x => regKeys PORT_CFG port 0 x ∨ regKeys PORT_PRIO_MAP port 0 x ∨ regKeys PORT_PFC_CFG port 0 x ∨ regKeys PORT_FEC_THR port 0 x ∨
        x = PORT_STATUS_link_up.key port 0 ∨ evtKeys x) r.chip)) ∧
  (∀ (s : State) (h : Hdr) (port sub mac : Nat) (v4 : List Nat) (v6 : List HostPrefix) (vlans : List Nat),
    Ready s ⟨0x0223, false, .w, paramBytes [1, 1] + 6 + 16 + 96 + 32⟩ h [] → portRefusal s.chip port 32 = none → sub < 4 →
    Answers (.portAddrSet h port sub mac v4 v6 vlans) s ⟨0x0223, false, .w, paramBytes [1, 1] + 6 + 16 + 96 + 32⟩ h (fun r =>
      r.status = 0 ∧
      r.chip.ports.subs.get? (port * 4 + sub) = some ⟨mac, (v4.take 4).filter (· ≠ 0), (v6.take 4).filter (fun p => p.address ≠ 0), (vlans.take 16).filter (· ≠ 0)⟩ ∧
      (∀ k, k ≠ port * 4 + sub → r.chip.ports.subs.get? k = s.chip.ports.subs.get? k) ∧ r.chip.ports.meters = s.chip.ports.meters ∧ s.chip.keeps [.mgmt, .ports] (fun _ => False) r.chip)) ∧
  (∀ (s : State) (h : Hdr) (port d : Nat) (table : List Nat), Ready s ⟨0x0224, false, .w, paramBytes [1] + 7 + 64⟩ h [] → portRefusal s.chip port 32 = none → d < 64 →
    Answers (.portDscpSet h port table) s ⟨0x0224, false, .w, paramBytes [1] + 7 + 64⟩ h (fun r =>
      r.status = 0 ∧ r.chip.shows PORT_DSCP_MAP (table.getD d 0) port d ∧ s.chip.keeps [.regs, .mgmt] (fun x => ∃ e, e < 64 ∧ regKeys PORT_DSCP_MAP port e x) r.chip)) ∧
  (∀ (s : State) (h : Hdr) (cfg pps : Nat), Ready s ⟨0x0225, false, .w, paramBytes [8, 8]⟩ h [] → pps < 2 ^ 64 - 1 →
    Answers (.timeCfgSet h cfg pps) s ⟨0x0225, false, .w, paramBytes [8, 8]⟩ h (fun r =>
      r.status = 0 ∧ r.chip.shows PORT_TIME_CFG cfg ∧ r.chip.get PORT_PPS_SEC_seconds = pps % 2 ^ PORT_PPS_SEC_seconds.width ∧
      s.chip.keeps [.regs, .mgmt] (fun x => regKeys PORT_TIME_CFG 0 0 x ∨ x = PORT_PPS_SEC_seconds.key 0 0) r.chip)) ∧
  (∀ (s : State) (h : Hdr) (cfg : Nat), Ready s ⟨0x0225, false, .w, paramBytes [8, 8]⟩ h [] →
    Answers (.timeCfgSet h cfg (2 ^ 64 - 1)) s ⟨0x0225, false, .w, paramBytes [8, 8]⟩ h (fun r =>
      r.status = 0 ∧ r.chip.shows PORT_TIME_CFG cfg ∧ s.chip.keeps [.regs, .mgmt] (fun x => regKeys PORT_TIME_CFG 0 0 x) r.chip)) ∧
  (∀ (s : State) (h : Hdr) (port loopback : Nat), Ready s ⟨0x0C00, false, .w, paramBytes [1, 1]⟩ h [] → portRefusal s.chip port 32 = none → loopback < 4 →
    Answers (.loopbackSet h port loopback) s ⟨0x0C00, false, .w, paramBytes [1, 1]⟩ h (fun r =>
      r.status = 0 ∧ r.chip.get PORT_CFG_loopback port = loopback ∧ s.chip.keeps [.regs, .mgmt] (fun x => x = PORT_CFG_loopback.key port 0) r.chip)) ∧
  (∀ (s : State) (h : Hdr) (ctx : Nat), Ready s ⟨0x0230, true, .w, paramBytes [4, 2, 2, 4, 4, 1]⟩ h [] → PairOk s h → rangeRefusal s.chip ctx 262144 131072 32 = none → s.chip.conns.has ctx = true →
    Answers (.hurdleSet h ctx 0 0 0 0 2) s ⟨0x0230, true, .w, paramBytes [4, 2, 2, 4, 4, 1]⟩ h (fun r =>
      accepted r.status = true ∧ r.chip.ports.hurdles.get? ctx = none ∧ (∀ port, r.chip.ports.meters.get? (meterKey port ctx) = none) ∧ s.chip.sameBut [.mgmt, .out, .ports] r.chip)) ∧
  (∀ (s : State) (h : Hdr) (ctx cir pir cbs pbs mode : Nat), Ready s ⟨0x0230, true, .w, paramBytes [4, 2, 2, 4, 4, 1]⟩ h [] → PairOk s h → rangeRefusal s.chip ctx 262144 131072 32 = none → s.chip.conns.has ctx = true →
    mode < 2 → 1 ≤ cir → cir ≤ pir → pir ≤ 60000 → (∀ n, s.chip.conns.get? ctx = some n → s.chip.mtu (n.sub / 4) ≤ cbs) → cbs ≤ pbs → pbs ≤ 16777216 →
    Answers (.hurdleSet h ctx cir pir cbs pbs mode) s ⟨0x0230, true, .w, paramBytes [4, 2, 2, 4, 4, 1]⟩ h (fun r =>
      accepted r.status = true ∧ r.chip.ports.hurdles.get? ctx = some ⟨cir, pir, cbs, pbs, decide (mode = 1)⟩ ∧
      (∀ port, port < 8 → (s.chip.conns.get? ctx).map (·.ports) = some [port] → (s.chip.ports.meters.keep (fun key _ => key / 2 ^ 20 = port)).length < 32768 →
        r.chip.ports.meters.get? (meterKey port ctx) = some (match s.chip.ports.meters.get? (meterKey port ctx) with
          | some m => m.retune ⟨cir, pir, cbs, pbs, decide (mode = 1)⟩
          | none => (⟨cir, pir, cbs, pbs, decide (mode = 1)⟩ : Hurdle).full s.chip.clk)) ∧
      s.chip.sameBut (.ports :: evtParts) r.chip)) ∧
  (∀ (s : State) (h : Hdr) (ctx cir pir cbs pbs mode : Nat), Ready s ⟨0x0230, true, .w, paramBytes [4, 2, 2, 4, 4, 1]⟩ h [] → PairOk s h → rangeRefusal s.chip ctx 262144 131072 32 = none → s.chip.conns.has ctx = true →
    mode < 2 → (cir < 1 ∨ 60000 < cir ∨ pir < cir ∨ 60000 < pir ∨ (∃ n, s.chip.conns.get? ctx = some n ∧ cbs < s.chip.mtu (n.sub / 4)) ∨ 16777216 < cbs ∨ pbs < cbs ∨ 16777216 < pbs) →
    Answers (.hurdleSet h ctx cir pir cbs pbs mode) s ⟨0x0230, true, .w, paramBytes [4, 2, 2, 4, 4, 1]⟩ h (fun r => r.status = 0x0102 ∧ s.chip.sameBut [.mgmt] r.chip)) ∧
  (∀ (s : State) (h : Hdr) (p red cir pir cbs pbs : Nat), Ready s ⟨0x0231, true, .w, paramBytes [2, 1, 2, 2, 4, 4]⟩ h [p] → PairOk s h → rangeRefusal s.chip p 4096 2048 32 = none →
    s.chip.paddocks.has p = true → red ≤ 1 → 1 ≤ cir → cir ≤ pir → pir ≤ 60000 → 1518 ≤ cbs → cbs ≤ pbs → pbs ≤ 16777216 →
    Answers (.hurdlePaddockSet h p red cir pir cbs pbs) s ⟨0x0231, true, .w, paramBytes [2, 1, 2, 2, 4, 4]⟩ h (fun r =>
      accepted r.status = true ∧ r.chip.ports.redAction.get? p = some red ∧ r.chip.ports.fallback.get? p = some ⟨cir, pir, cbs, pbs, false⟩ ∧
      (∀ e ∈ s.chip.ports.fbMeters, e.1 % 4096 = p → s.chip.ports.fbMeters.get? e.1 = some e.2 →
        r.chip.ports.fbMeters.get? e.1 = some (e.2.retune ⟨cir, pir, cbs, pbs, false⟩)) ∧
      s.chip.sameBut [.mgmt, .out, .ports] r.chip))

/-- R57 to R64, R82: frames, links, pause and the watchdog. (Where a clause rests on a reading or a choice of the model, it is that of log entries 22 and 24.) -/
def Obligations.PortRows : Prop :=
  (∀ (s : State) (sub occ k : Nat) (f : Frame), Live .network s → s.chip.takesFrames sub →
    frameDrop (s.chip.mtu (sub / 4)) (s.chip.slowLeft (sub / 4)) (s.chip.ports.subs.getD sub ⟨0, [], [], []⟩) f = some k →
    s.chip.get PORT_DROP_CNT_count (sub / 4) k + 1 < 2 ^ PORT_DROP_CNT_count.width - 1 →
    Runs (.frameReceive sub f occ) s (fun c =>
      c.get PORT_DROP_CNT_count (sub / 4) k = s.chip.get PORT_DROP_CNT_count (sub / 4) k + 1 ∧ s.chip.sameBut (if k = 6 then evtParts else [.regs]) c)) ∧
  (∀ (s : State) (sub occ : Nat) (f : Frame), Live .network s → s.chip.takesFrames sub →
    frameDrop (s.chip.mtu (sub / 4)) (s.chip.slowLeft (sub / 4)) (s.chip.ports.subs.getD sub ⟨0, [], [], []⟩) f = none → f.proto ≠ 1 → f.ctx = none →
    s.chip.get PORT_PRIO_MAP_pfc_en (sub / 4) = 0 → (∀ m, m < 4 → s.chip.flag SWX_MIR_CTL_en m = false) →
    Runs (.frameReceive sub f occ) s (fun c =>
      .frameTo (sub / 4) none (s.chip.prioClass (sub / 4) (if s.chip.flag PORT_CFG_trust (sub / 4) then s.chip.get PORT_DSCP_MAP_prio (sub / 4) f.dscp
        else if f.tags = 1 then f.pcp % 8 else 0)) 0 ∈ c.out ∧ s.chip.sameBut [.regs, .ports, .out] c)) ∧
  (∀ (s : State) (sub kind addr : Nat), Live .network s → s.chip.plainPorts → kind ≤ 2 → sub ∈ s.chip.subsOn → (s.chip.ports.subs.getD sub ⟨0, [], [], []⟩).ipv4.contains addr = true →
    exec (.slowPathFrame sub kind addr) s = .next { s with chip := s.chip.send (.slowReply sub kind addr) }) ∧
  (∀ (s : State) (i : Nat), Live .network s → s.chip.plainPorts → s.chip.subsOn = [i] → bit (s.chip.get PORT_STATUS_link_up (i / 4)) (i % 4) = true →
    exec .lldpAdvertiseTimer s = .next { s with chip := s.chip.send (.lldp i) }) ∧
  (∀ (s : State) (sub : Nat) (partner : Option (List Nat)), Live .gated s → sub ∈ s.chip.subsOn → bit (s.chip.get PORT_STATUS_link_up (sub / 4)) (sub % 4) = false →
    bit s.chip.start.deadPorts (sub / 4) = false → (∀ l ∈ subLanes (s.chip.portMode (sub / 4)) (sub % 4), bit (s.chip.get PORT_STATUS_lane_disabled (sub / 4)) l = false) →
    (s.chip.flag PORT_CFG_an_en (sub / 4) = false ∨ ∀ l, partner = some l → (subLanes (s.chip.portMode (sub / 4)) (sub % 4)).length ∈ l) →
    Runs (.subportLinkChange sub ⟨true, partner⟩) s (fun c =>
      bit (c.get PORT_STATUS_link_up (sub / 4)) (sub % 4) = true ∧ (∀ l ∈ subLanes (s.chip.portMode (sub / 4)) (sub % 4), bit (c.get PORT_STATUS_lane_ok (sub / 4)) l = true) ∧
      s.chip.keeps evtParts (fun x => evtKeys x ∨ x = PORT_STATUS_link_up.key (sub / 4) 0 ∨ x = PORT_STATUS_lane_ok.key (sub / 4) 0) c)) ∧
  (∀ (s : State) (sub : Nat) (partner : Option (List Nat)), Live .gated s → bit (s.chip.get PORT_STATUS_link_up (sub / 4)) (sub % 4) = true → sub < 32 →
    Runs (.subportLinkChange sub ⟨false, partner⟩) s (fun c =>
      c.get PORT_STATUS_link_up (sub / 4) = setBit (s.chip.get PORT_STATUS_link_up (sub / 4)) (sub % 4) false % 2 ^ PORT_STATUS_link_up.width ∧
      s.chip.keeps evtParts (fun x => evtKeys x ∨ x = PORT_STATUS_link_up.key (sub / 4) 0) c)) ∧
  (∀ (s : State) (port lane : Nat), Live .gated s → port < 8 → portAbsent s.chip.id port = false → lane < 4 →
    Runs (.laneTrainingFail port lane) s (fun c =>
      c.ports.trainFails.getD (4 * port + lane) 0 = s.chip.ports.trainFails.getD (4 * port + lane) 0 + 1 ∧
      s.chip.keeps (.ports :: evtParts) (fun x => evtKeys x ∨ x = PORT_STATUS_lane_ok.key port 0) c)) ∧
  (∀ (s : State) (port prio quanta : Nat), Live .network s → port < 8 → portAbsent s.chip.id port = false → prio < 8 → bit (s.chip.get PORT_PRIO_MAP_pfc_en port) prio = true →
    bit (s.chip.get PORT_PFC_CFG_watchdog_tripped port) prio = false → 0 < quanta →
    Runs (.pfcPauseRx port prio quanta) s (fun c => c.ports.paused.get? (port * 8 + prio) = some quanta ∧ s.chip.keeps [.ports] (fun _ => False) c)) ∧
  (∀ (s : State) (port prio : Nat), Live .gated s → Runs (.pfcPauseExpiry port prio) s (fun c =>
    c.ports.paused.get? (port * 8 + prio) = none ∧ c.heldOut.get? (port * 8 + prio) = none ∧ c.out = (s.chip.heldOut.getD (port * 8 + prio) []).reverse ++ s.chip.out ∧
    s.chip.keeps [.ports, .heldOut, .out] (fun _ => False) c)) ∧
  (∀ (s : State) (port prio : Nat), Live .gated s → s.chip.get PORT_PFC_CFG_watchdog_ms port ≠ 0 → s.chip.ports.paused.has (port * 8 + prio) = true → prio < 8 → port < 8 →
    Runs (.pfcWatchdogExpiry port prio) s (fun c =>
      c.get PORT_PFC_CFG_watchdog_tripped port = setBit (s.chip.get PORT_PFC_CFG_watchdog_tripped port) prio true % 256 ∧ c.ports.paused.get? (port * 8 + prio) = none ∧
      s.chip.sameBut (.ports :: .heldOut :: evtParts) c)) ∧
  (∀ (s : State) (port mask : Nat), Live .up s → port < 8 → portAbsent s.chip.id port = false → Runs (.pfcWatchdogClear port mask) s (fun c =>
    c.get PORT_PFC_CFG_watchdog_tripped port = (s.chip.get PORT_PFC_CFG_watchdog_tripped port &&& ((mask % 256) ^^^ 255)) % 256 ∧
    s.chip.keeps [.regs] (fun x => x = PORT_PFC_CFG_watchdog_tripped.key port 0) c)) ∧
  (∀ (s : State) (port : Nat), Live .gated s → port < 8 → portAbsent s.chip.id port = false → Runs (.fecRateCheck port) s (fun c =>
    c = ({ s.chip with ports := { s.chip.ports with fecLast := s.chip.ports.fecLast.put port (s.chip.get PORT_FEC_CNT_count port 1) } } : Chip).raiseIf
      (decide (s.chip.get PORT_FEC_THR_uncorr_per_s port < s.chip.get PORT_FEC_CNT_count port 1 - s.chip.ports.fecLast.getD port 0)) (portEvent port 3) ∧
    s.chip.keeps (.ports :: evtParts) evtKeys c))

/-- R67 to R70: the timebase follows PTP and 1PPS, and holds over without them. (Where a clause rests on a reading or a choice of the model, it is that of log entry 23.) -/
def Obligations.TimeRows : Prop :=
  (∀ (s : State) (form utc : Nat) (d : PtpData), Live .network s → form < 3 → s.chip.ports.ptpMaster = none →
    Runs (.ptpMsgRx (s.chip.get PORT_TIME_CFG_ptp_port) (s.chip.get PORT_TIME_CFG_ptp_domain) form (.announce d) utc) s (fun c =>
      c.ports.ptpMaster = some d ∧ c.get PORT_TIME_CFG_utc_offset = utc % 2 ^ PORT_TIME_CFG_utc_offset.width ∧ c.ports.ptpLastClk = s.chip.clk ∧ c.ports.ptpHeard = true ∧
      s.chip.keeps [.regs, .ports] (fun x => x = PORT_TIME_CFG_utc_offset.key 0 0) c)) ∧
  (∀ (s : State) (form t1 : Nat) (d : PtpData) (utc : Nat), Live .network s → form < 3 → s.chip.ports.ptpMaster = some d → s.chip.plainPorts → s.chip.get PORT_TIME_CFG_ptp_port < 32 →
    Runs (.ptpMsgRx (s.chip.get PORT_TIME_CFG_ptp_port) (s.chip.get PORT_TIME_CFG_ptp_domain) form (.sync d.ident t1) utc) s (fun c =>
      c.ports.ptpSync = some (t1, s.chip.now, s.chip.now) ∧ c.ports.ptpLastClk = s.chip.clk ∧ c.out = .ptpDelayReq (s.chip.get PORT_TIME_CFG_ptp_port) form :: s.chip.out ∧
      s.chip.keeps [.ports, .out] (fun _ => False) c)) ∧
  (∀ (s : State) (o : Int) (form t1 t2 t3 t4 : Nat) (d : PtpData) (utc : Nat), Live .network s → form < 3 → s.chip.ports.ptpMaster = some d → s.chip.ports.ptpSync = some (t1, t2, t3) →
    s.chip.minuteNumber ≤ s.chip.get PORT_TICK_LAST_minute → s.chip.ports.srcInForce ≠ 2 → o = (((t2 : Int) - t1) - ((t4 : Int) - t3)) / 2 → 1000000 < o.natAbs → 0 < o → o ≤ s.chip.now →
    Runs (.ptpMsgRx (s.chip.get PORT_TIME_CFG_ptp_port) (s.chip.get PORT_TIME_CFG_ptp_domain) form (.delayResp d.ident t4) utc) s (fun c =>
      c.now + o.toNat = s.chip.now ∧ c.ports.ptpSync = none ∧ s.chip.sameBut (.now :: .ports :: evtParts) c)) ∧
  (∀ (s : State) (o : Int) (form t1 t2 t3 t4 : Nat) (d : PtpData) (utc : Nat), Live .network s → form < 3 → s.chip.ports.ptpMaster = some d → s.chip.ports.ptpSync = some (t1, t2, t3) →
    s.chip.minuteNumber ≤ s.chip.get PORT_TICK_LAST_minute → s.chip.ports.srcInForce ≠ 2 → o = (((t2 : Int) - t1) - ((t4 : Int) - t3)) / 2 → o.natAbs ≤ 1000000 →
    Runs (.ptpMsgRx (s.chip.get PORT_TIME_CFG_ptp_port) (s.chip.get PORT_TIME_CFG_ptp_domain) form (.delayResp d.ident t4) utc) s (fun c =>
      c.get PORT_TIME_STATUS_ptp_locked = 1 ∧ c.get PORT_TIME_STATUS_holdover = 0 ∧ s.chip.sameBut (.now :: .ports :: evtParts) c)) ∧
  (∀ (s : State), Live .up s → s.chip.ports.ptpHeard = true → Runs .ptpLossTimeout s (fun c =>
    c.get PORT_TIME_STATUS_ptp_locked = 0 ∧ c.get PORT_TIME_STATUS_holdover = 1 ∧ c.ports.ptpMaster = none ∧
    s.chip.keeps (.ports :: evtParts) (fun x => evtKeys x ∨ regKeys PORT_TIME_STATUS 0 0 x) c)) ∧
  (∀ (s : State) (falling : Bool), Live .up s → falling = s.chip.flag PORT_TIME_CFG_pps_edge → Runs (.ppsEdge falling) s (fun c =>
    c.get PORT_PPS_SEC_seconds = (s.chip.get PORT_PPS_SEC_seconds + 1) % 2 ^ PORT_PPS_SEC_seconds.width ∧ c.get PORT_TIME_STATUS_pps_seen = 1 ∧ c.ports.ppsLastNs = s.chip.now ∧
    s.chip.keeps [.regs, .ports] (fun x => x = PORT_PPS_SEC_seconds.key 0 0 ∨ x = PORT_TIME_STATUS_pps_seen.key 0 0) c)) ∧
  (∀ (s : State), Live .up s → s.chip.ports.srcInForce = 1 → Runs .ppsEdgeMissing s (fun c =>
    c.get PORT_PPS_SEC_seconds = (s.chip.get PORT_PPS_SEC_seconds + 1) % 2 ^ PORT_PPS_SEC_seconds.width ∧ c.get PORT_TIME_STATUS_pps_seen = 0 ∧
    s.chip.keeps (.ports :: evtParts) (fun x => evtKeys x ∨ x = PORT_PPS_SEC_seconds.key 0 0 ∨ x = PORT_TIME_STATUS_pps_seen.key 0 0) c))

/-- R419 to R422: the submission rings. (Where a clause rests on a reading or a choice of the model, it is that of log entry 121.) -/
def Obligations.RingRows : Prop :=
  (∀ (s : State) (r head : Nat), Live .up s → r < 16 → 64 ≤ s.chip.get RING_SQ_CFG_size_64 r → s.chip.get RING_SQ_CFG_size_64 r ≤ 65536 → s.chip.mgmt.bme = true →
    s.chip.mgmt.d3 = false →
    Runs (.sqEnableWrite r true head) s (fun c =>
      c.get RING_SQ_STAT_state r = 1 ∧ c.get RING_SQ_STAT_phase r = 1 ∧ c.get RING_SQ_STAT_err_reason r = 0 ∧ c.get RING_SQ_STAT_head r = head % 2 ^ RING_SQ_STAT_head.width ∧
      s.chip.keeps [.regs, .out] (fun x => regKeys RING_SQ_CTL r 0 x ∨ regKeys RING_SQ_STAT r 0 x) c)) ∧
  (∀ (s : State) (r head : Nat), Live .up s → r < 16 → Runs (.sqEnableWrite r false head) s (fun c =>
    c.get RING_SQ_STAT_state r = 0 ∧ c.get RING_SQ_CTL_en r = 0 ∧ s.chip.keeps [.regs] (fun x => regKeys RING_SQ_CTL r 0 x ∨ regKeys RING_SQ_STAT r 0 x) c)) ∧
  (∀ (s : State) (r : Nat), Live .up s → r < 16 → s.chip.sqState r = 3 → Runs (.sqClearErr r) s (fun c =>
    c.get RING_SQ_STAT_state r = 1 ∧ c.get RING_SQ_STAT_err_reason r = 0 ∧ c.get RING_SQ_STAT_head r = s.chip.get RING_SQ_STAT_head r ∧
    s.chip.keeps [.regs, .out] (regKeys RING_SQ_STAT r 0) c)) ∧
  (∀ (s : State) (r : Nat), Live .up s → s.chip.sqState r = 1 → s.chip.mgmt.bme = true → s.chip.mgmt.d3 = false → s.chip.sqAllowed r = true →
    (∀ i ∈ [Instr.sqDoorbell r, Instr.sqPoll r],
      exec i s = .next { s with chip := s.chip.send (.hostRead (s.chip.get RING_SQ_BASE_base r * 64 + s.chip.get RING_SQ_STAT_head r * 64) 64) })) ∧
  (∀ (s : State) (r : Nat) (p : Packet), Live .up s → r < 16 → s.chip.sqState r = 1 → s.chip.mgmt.bme = true → s.chip.mgmt.d3 = false → s.chip.sqAllowed r = true →
    malformedReason p (s.chip.get RING_SQ_STAT_head r) (s.chip.get RING_SQ_CFG_size_64 r) = 0 → b2n (bit p.flags 7) = s.chip.get RING_SQ_STAT_phase r →
    p.opcode ≠ 0x00FE → p.opcode ∈ opcodes → s.chip.get RING_SQ_STAT_head r + p.len64 < s.chip.get RING_SQ_CFG_size_64 r → s.chip.get RING_SQ_CFG_size_64 r ≤ 65536 →
    Runs (.sqEntryFetched r p) s (fun c =>
      c.mgmt.fetched = s.chip.mgmt.fetched ++ [⟨.ring r, p.opcode, p.fmt, p.tag, s.chip.clk⟩] ∧ c.get RING_SQ_STAT_head r = s.chip.get RING_SQ_STAT_head r + p.len64 ∧
      s.chip.keeps [.regs, .out, .mgmt] (regKeys RING_SQ_STAT r 0) c)) ∧
  (∀ (s : State) (r : Nat) (p : Packet) (k : Nat), Live .up s → r < 16 → s.chip.sqState r = 1 → s.chip.mgmt.bme = true → s.chip.mgmt.d3 = false → s.chip.sqAllowed r = true →
    malformedReason p (s.chip.get RING_SQ_STAT_head r) (s.chip.get RING_SQ_CFG_size_64 r) = k → 1 ≤ k → k ≤ 5 → b2n (bit p.flags 7) = s.chip.get RING_SQ_STAT_phase r →
    Runs (.sqEntryFetched r p) s (fun c =>
      c.get RING_SQ_STAT_state r = 3 ∧ c.get RING_SQ_STAT_err_reason r = k ∧ c.get RING_SQ_STAT_head r = s.chip.get RING_SQ_STAT_head r ∧
      s.chip.keeps evtParts (fun x => evtKeys x ∨ regKeys RING_SQ_STAT r 0 x) c)) ∧
  (∀ (s : State) (r n : Nat), Live .up s → r < 16 → s.chip.sqState r = 1 → s.chip.mgmt.bme = true → s.chip.mgmt.d3 = false → s.chip.sqAllowed r = true →
    s.chip.get RING_SQ_STAT_phase r ≤ 1 → 1 ≤ n → n ≤ 64 → s.chip.get RING_SQ_STAT_head r + n < s.chip.get RING_SQ_CFG_size_64 r → s.chip.get RING_SQ_CFG_size_64 r ≤ 65536 →
    Runs (.pad r n) s (fun c => c.get RING_SQ_STAT_head r = s.chip.get RING_SQ_STAT_head r + n ∧ s.chip.keeps [.regs, .out] (regKeys RING_SQ_STAT r 0) c))

/-- R423, R424, R426: the completion rings and the capture ring. (Where a clause rests on a reading or a choice of the model, it is that of log entry 121.) -/
def Obligations.CompletionRows : Prop :=
  (∀ (s : State) (q : Nat) (r : Reply), Live .up s → q < 16 → s.chip.cqFirst q = some r → s.chip.flag RING_CQ_CFG_en q = true → s.chip.mgmt.bme = true → s.chip.mgmt.d3 = false →
    s.chip.get RING_CQ_STAT_tail q + replyUnits r ≤ s.chip.get RING_CQ_CFG_size_64 q → s.chip.mgmt.cqUsed.getD q 0 + replyUnits r ≤ s.chip.get RING_CQ_CFG_size_64 q →
    s.chip.flag RING_CQ_STAT_holding q = false →
    Runs (.replyWrite q) s (fun c =>
      c.mgmt.replies = s.chip.mgmt.replies.erase r ∧
      Reply.toRing q (s.chip.get RING_CQ_STAT_tail q) (s.chip.flag RING_CQ_STAT_phase q)
        { r with sqHead := (match r.src with
          | .ring x => s.chip.get RING_SQ_STAT_head x
          | _ => 0) } ∈ c.out ∧
      c.mgmt.cqUsed.getD q 0 = s.chip.mgmt.cqUsed.getD q 0 + replyUnits r ∧ s.chip.sameBut [.regs, .mgmt, .out] c)) ∧
  (∀ (s : State) (q image : Nat), Live .up s → q < 16 → s.chip.flag RING_CQ_CFG_en q = false → RING_CQ_CFG_en.of image = 1 → s.chip.mgmt.replies = [] →
    (∀ r, r < 16 → s.chip.sqState r ≠ 4) →
    Runs (.cqEnableWrite q image) s (fun c =>
      c.get RING_CQ_STAT_tail q = 0 ∧ c.get RING_CQ_STAT_phase q = 1 ∧ c.get RING_CQ_HEAD_head q = 0 ∧ c.flag RING_CQ_CFG_en q = true ∧ s.chip.sameBut [.regs, .mgmt] c)) ∧
  (∀ (s : State) (q head : Nat), Live .up s → q < 16 → s.chip.mgmt.replies = [] → (∀ r, r < 16 → s.chip.sqState r ≠ 4) →
    Runs (.cqHeadWrite q head) s (fun c =>
      c.get RING_CQ_HEAD_head q = head % 2 ^ RING_CQ_HEAD_head.width ∧ c.mgmt.cqCoal.get? q = some ⟨0, 0⟩ ∧ s.chip.sameBut [.regs, .mgmt] c)) ∧
  (∀ (s : State) (q : Nat), Live .up s → s.chip.flag RING_CQ_CFG_irq_en q = true → 0 < (s.chip.mgmt.cqCoal.getD q ⟨0, 0⟩).since →
    exec (.cqCoalesceExpiry q) s = .next { s with chip :=
      ({ s.chip with mgmt := { s.chip.mgmt with cqCoal := s.chip.mgmt.cqCoal.put q ⟨0, 0⟩ } } : Chip).msix (s.chip.get RING_CQ_CFG_vector q) }) ∧
  (∀ (s : State) (n : Nat), Live .up s → Runs (.captureConsWrite n) s (fun c =>
    c.get RING_CAP_CONS_cons = n % 2 ^ RING_CAP_CONS_cons.width ∧ s.chip.keeps [.regs] (fun x => x = RING_CAP_CONS_cons.key 0 0) c)) ∧
  (∀ s : State, Live .up s → s.chip.mgmt.capNew = true → Runs .captureCoalExpiry s (fun c =>
    c.mgmt.capNew = false ∧ c.mgmt.capLastNs = s.chip.clk ∧ s.chip.keeps evtParts evtKeys c)) ∧
  (∀ (s : State) (h : Hdr) (base cfg wb : Nat), Ready s ⟨0x0C12, false, .w, paramBytes [8, 4, 8]⟩ h [] →
    Answers (.captureRingSet h base cfg wb) s ⟨0x0C12, false, .w, paramBytes [8, 4, 8]⟩ h (fun r =>
      r.status = 0 ∧ r.chip.shows RING_CAP_BASE base ∧ r.chip.shows RING_CAP_CFG cfg ∧ r.chip.shows RING_CAP_WB wb ∧ r.chip.get RING_CAP_PROD_prod = 0 ∧
      r.chip.get RING_CAP_CONS_cons = 0 ∧ s.chip.sameBut [.regs, .mgmt] r.chip))

/-- R4, R403 to R411, R437, R438, R474: the PCIe endpoint, its window and its interrupts. (Where a clause rests on a reading or a choice of the model, it is that of log entries 119, 121 and 140.) -/
def Obligations.EndpointRows : Prop :=
  (∀ s : State, Live .up s → Runs .bmeClear s (fun c =>
    c.mgmt.bme = false ∧ (∀ r, r < 16 → s.chip.sqState r = 1 → c.sqState r = 2) ∧ s.chip.sameBut evtParts c)) ∧
  (∀ s : State, Live .up s → Runs .d3hotEntry s (fun c =>
    c.mgmt.d3 = true ∧ (∀ r, r < 16 → s.chip.sqState r = 1 → c.sqState r = 2) ∧ s.chip.sameBut evtParts c)) ∧
  (∀ s : State, Live .up s → s.chip.mgmt.replies = [] → Runs .bmeSet s (fun c => c.mgmt.bme = true ∧ s.chip.sameBut evtParts c)) ∧
  (∀ s : State, Live .up s → s.chip.mgmt.replies = [] → Runs .d0Return s (fun c => c.mgmt.d3 = false ∧ s.chip.sameBut evtParts c)) ∧
  (∀ s : State, Live .up s → Runs .flr s (fun c =>
    c.mgmt.msix = [] ∧ c.mgmt.bme = false ∧ c.mgmt.replies = [] ∧ (∀ r, r < 16 → c.get RING_SQ_STAT_state r = 0) ∧ c.get WIN_ACTIVE_en = 0 ∧ s.chip.sameBut evtParts c)) ∧
  (∀ (s : State) (up : Bool), Live .up s → Runs (.endpointLinkChange up) s (fun c => c.mgmt.linkUp = up ∧ s.chip.keeps evtParts evtKeys c)) ∧
  (∀ (s : State) (v : Nat), Live .up s → Runs (.configSpaceWrite 0x3C v) s (fun c => c.mgmt.intLine = v % 256 ∧ c.configDword 0x3C = v % 256 ∧ c.configDword 0x00 = 0x1F9E + s.chip.get GLB_ID_grade * 2 ^ 16 ∧
      c.configDword 0x160 = s.chip.get GLB_ID_grade + s.chip.get GLB_ID_revision * 2 ^ 16 + s.chip.get GLB_ID_chip * 2 ^ 24 ∧ s.chip.keeps [.mgmt] (fun _ => False) c)) ∧
  (∀ (s : State) (v : Nat), Live .up s → s.chip.mgmt.pba = [] → Runs (.configSpaceWrite 0x90 v) s (fun c =>
    c.mgmt.msixEn = bit v 31 ∧ c.mgmt.msixMask = bit v 30 ∧ s.chip.keeps [.mgmt] (fun _ => False) c)) ∧
  (∀ (s : State) (v : Nat), Live .up s → v ∉ s.chip.mgmt.pba → Runs (.msixVectorUnmask v) s (fun c =>
    (c.mgmt.msix.getD v ⟨0, 0, true⟩).masked = false ∧ s.chip.keeps [.mgmt] (fun _ => False) c)) ∧
  (∀ s : State, Live .up s → Runs .winCommitWrite s (fun c =>
    c.get WIN_ACTIVE_en = s.chip.get WIN_CTL_SH_en % 2 ∧ c.get WIN_ACTIVE_base_2m = s.chip.get WIN_BASE_SH_base_2m % 2 ^ WIN_ACTIVE_base_2m.width ∧
    c.get WIN_EPOCH_epoch = (s.chip.get WIN_EPOCH_epoch + 1) % 2 ^ WIN_EPOCH_epoch.width ∧
    s.chip.keeps evtParts (fun x => evtKeys x ∨ regKeys WIN_ACTIVE 0 0 x ∨ regKeys WIN_EPOCH 0 0 x) c)) ∧
  (∀ s : State, Live .up s → Runs .winUrLastRearm s (fun c => c.get WIN_UR_LAST_valid = 0 ∧ s.chip.keeps [.regs] (fun x => x = WIN_UR_LAST_valid.key 0 0) c)) ∧
  (∀ (s : State) (x len : Nat) (d : Bytes), Live .up s → s.chip.tlpRefused true x len = false → d.length = len →
    Runs (.bar2Tlp x len (some d) false) s (fun c =>
      (∀ a, (a < s.chip.get WIN_ACTIVE_base_2m * 2097152 + x ∨ s.chip.get WIN_ACTIVE_base_2m * 2097152 + x + len ≤ a) → memRead c.hbm a = memRead s.chip.hbm a) ∧
      memReadN c.hbm (s.chip.get WIN_ACTIVE_base_2m * 2097152 + x) len = d ∧ (Memory.wf s.chip.hbm = true → Memory.wf c.hbm = true) ∧
      s.chip.keeps [.hbm] (fun _ => False) c)) ∧
  (∀ (s : State) (x len : Nat), Live .up s → s.chip.tlpRefused false x len = false →
    exec (.bar2Tlp x len none false) s = .next { s with chip := s.chip.send (.tlpData (memReadN s.chip.hbm (s.chip.get WIN_ACTIVE_base_2m * 2097152 + x) len) false) }) ∧
  (∀ (s : State) (x len : Nat), Live .up s → s.chip.tlpRefused false x len = true → s.chip.flag WIN_UR_LAST_valid = false →
    Runs (.bar2Tlp x len none false) s (fun c =>
      c.get WIN_UR_LAST_valid = 1 ∧ c.get WIN_UR_LAST_offset = x % 2 ^ WIN_UR_LAST_offset.width ∧ c.get WIN_UR_LAST_write = 0 ∧ .tlpUnsupported ∈ c.out ∧
      c.hbm = s.chip.hbm ∧ s.chip.keeps evtParts (fun k => evtKeys k ∨ regKeys WIN_UR_LAST 0 0 k) c))

/-- R427, R428, R473: management sessions. (Where a clause rests on a reading or a choice of the model, it is that of log entry 122.) -/
def Obligations.SessionRows : Prop :=
  (∀ (s : State) (port address psk : Nat) (k : MgmtPsk), Live .up s → s.chip.mgmt.mgmtEn = true → s.chip.mgmt.sessions.length < 4 →
    s.chip.mgmt.psks.get? psk = some k →
    Runs (.sessionAccept port address psk true) s (fun c =>
      (∃ m, c.mgmt.sessions.get? (s.chip.mgmt.sessions.freeFrom 4 0) = some m ∧ m.role = k.role ∧ m.port = port ∧ m.address = address) ∧ s.chip.keeps evtParts evtKeys c)) ∧
  (∀ (s : State) (port address psk : Nat), Live .up s → 4 ≤ s.chip.mgmt.sessions.length →
    exec (.sessionAccept port address psk true) s = .next { s with chip := s.chip.send (.tcpReset port) }) ∧
  (∀ (s : State) (i : Nat), Live .up s → s.chip.mgmt.sessions.has i = true → ∀ x ∈ [Instr.sessionIdleExpiry i, Instr.mgmtSessionCloseRx i], Runs x s (fun c =>
    c.mgmt.sessions.get? i = none ∧ .sessionClosed i ∈ c.out ∧ s.chip.keeps evtParts evtKeys c)) ∧
  (∀ (s : State) (i : Nat) (p : Packet) (m : MgmtSession), Live .up s → s.chip.mgmt.sessions.get? i = some m → m.ahead < 64 → 1 ≤ p.fmt → p.fmt ≤ 3 → p.crcOk = true →
    p.opcode ∈ opcodes → p.opcode ≠ 0x00FE →
    Runs (.sessionPacketRx i p) s (fun c =>
      c.mgmt.fetched = s.chip.mgmt.fetched ++ [⟨.session i, p.opcode, p.fmt, p.tag, s.chip.clk⟩] ∧ (c.mgmt.sessions.get? i).map (·.ahead) = some (m.ahead + 1) ∧
      s.chip.keeps [.mgmt] (fun _ => False) c)) ∧
  (∀ (s : State) (i : Nat) (m : MgmtSession), Live .up s → s.chip.mgmt.sessions.get? i = some m → m.waiting ≠ [] → m.subFmt ≠ 3 →
    Runs (.eventNoticeCoal i false) s (fun c =>
      Reply.toSession i ⟨.session i, 0x0A03, m.subFmt, false, 0, m.subTag, 0, 0, 0, 0,
        le 2 (m.waiting.take 250).length ++ le 2 m.lost ++ le 4 0 ++ (m.waiting.take 250).flatMap logBytes⟩ ∈ c.out ∧
      (c.mgmt.sessions.get? i).map (·.waiting) = some (m.waiting.drop 250) ∧ s.chip.keeps [.mgmt, .out] (fun _ => False) c)) ∧
  (∀ (s : State) (h : Hdr) (port enable idle : Nat), Ready s ⟨0x0242, false, .w, paramBytes [2, 1, 2]⟩ h [] →
    Answers (.mgmtSessionCfg h port enable idle) s ⟨0x0242, false, .w, paramBytes [2, 1, 2]⟩ h (fun r =>
      r.status = 0 ∧ r.chip.mgmt.mgmtPort = port ∧ r.chip.mgmt.mgmtEn = decide (enable ≠ 0) ∧ r.chip.mgmt.idleS = idle ∧ s.chip.keeps [.mgmt] (fun _ => False) r.chip)) ∧
  (∀ (s : State) (h : Hdr), Ready s ⟨0x0243, false, .r, 0⟩ h [] → Answers (.mgmtSessionList h) s ⟨0x0243, false, .r, 0⟩ h (fun r =>
    r.status = 0 ∧ r.chip = s.chip.unfetch h 0x0243 ∧ r.data.length = 128)) ∧
  (∀ (s : State) (h : Hdr) (i : Nat), Ready s ⟨0x0241, false, .w, paramBytes [1]⟩ h [] → i < 8 → s.chip.mgmt.psks.has i = true →
    Answers (.mgmtPskClear h i) s ⟨0x0241, false, .w, paramBytes [1]⟩ h (fun r =>
      r.status = 0 ∧ r.chip.mgmt.psks.get? i = none ∧ s.chip.keeps [.mgmt] (fun _ => False) r.chip)) ∧
  (∀ (s : State) (h : Hdr), Ready s ⟨0x0000, false, .r, 0⟩ h [] → Answers (.nop h) s ⟨0x0000, false, .r, 0⟩ h (fun r => Reads s h 0 r [])) ∧
  (∀ (s : State) (h : Hdr), Ready s ⟨0x0001, false, .r, 0⟩ h [] → Answers (.identify h) s ⟨0x0001, false, .r, 0⟩ h (fun r =>
    Reads s h 1 r (le 2 (s.chip.get GLB_ID_grade) ++ le 1 (s.chip.get GLB_ID_revision) ++ le 1 (s.chip.get GLB_ID_chip) ++ le 4 (s.chip.get GLB_ID_release) ++
      le 2 s.chip.start.proto ++ zeros 6 ++ le 8 (s.chip.get GLB_SERIAL_serial)))) ∧
  (∀ (s : State) (h : Hdr), Ready s ⟨0x0002, false, .r, 0⟩ h [] → Answers (.statusGet h) s ⟨0x0002, false, .r, 0⟩ h (fun r =>
    Reads s h 2 r (le 1 (s.chip.get GLB_START_step) ++ le 1 (s.chip.get TWIN_STATUS_pair_state) ++ le 1 s.chip.ownedMask ++ zeros 5 ++ le 8 (s.chip.get GLB_CFG_GEN_cfg_gen) ++
      s.chip.image GOV_STAT ++ s.chip.image CACHE_STATUS)))

/-- R429 to R434: long operations. (Where a clause rests on a reading or a choice of the model, it is that of log entries 33 and 123.) -/
def Obligations.LongOpRows : Prop :=
  (∀ (s : State) (h : Hdr) (x i : Nat), Ready s ⟨0x0500, false, .r, paramBytes [4]⟩ h [] → s.chip.loFind x = some i →
    Answers (.longopStatus h x) s ⟨0x0500, false, .r, paramBytes [4]⟩ h (fun r => r.status = 0 ∧ r.chip = s.chip.unfetch h 0x0500 ∧ r.data.length = 64 ∧
      r.data.take 8 = le 8 (s.chip.readReg LONGOP_STATUS i 0))) ∧
  (∀ (s : State) (h : Hdr) (x i : Nat) (op : LongOp), Ready s ⟨0x0501, false, .w, paramBytes [4]⟩ h [] → s.chip.loFind x = some i → s.chip.mgmt.ops.get? i = some op →
    loState (s.chip.lo i) = 2 → noPause op (loStep (s.chip.lo i)) = false →
    AnswersSettled (.longopPause h x) s ⟨0x0501, false, .w, paramBytes [4]⟩ h (fun r =>
      r.status = 0 ∧ loState (r.chip.lo i) = 3 ∧ (r.chip.mgmt.ops.get? i).map (·.leftState) = some 2 ∧
      s.chip.keeps [.regs, .mgmt] (fun k => k = LONGOP_STATUS_status.key i 0) r.chip)) ∧
  (∀ (s : State) (h : Hdr) (x i : Nat) (op : LongOp), Ready s ⟨0x0502, false, .w, paramBytes [4]⟩ h [] → s.chip.loFind x = some i → s.chip.mgmt.ops.get? i = some op →
    loState (s.chip.lo i) = 3 → op.leftState < 16 →
    AnswersSettled (.longopResume h x) s ⟨0x0502, false, .w, paramBytes [4]⟩ h (fun r =>
      r.status = 0 ∧ loState (r.chip.lo i) = op.leftState ∧ s.chip.keeps [.regs, .mgmt] (fun k => k = LONGOP_STATUS_status.key i 0) r.chip)) ∧
  (∀ (s : State) (h : Hdr) (x i : Nat) (op : LongOp), Ready s ⟨0x0503, false, .w, paramBytes [4]⟩ h [] → s.chip.loFind x = some i → s.chip.mgmt.ops.get? i = some op →
    loState (s.chip.lo i) = 2 → noCancel op (loStep (s.chip.lo i)) = false → hasFences op.opcode = true →
    AnswersSettled (.longopCancel h x) s ⟨0x0503, false, .w, paramBytes [4]⟩ h (fun r =>
      r.status = 0 ∧ (r.chip.mgmt.ops.get? i).map (·.cancelling) = some true ∧ s.chip.keeps [.mgmt] (fun _ => False) r.chip)) ∧
  (∀ (s : State) (h : Hdr), Ready s ⟨0x0504, false, .r, 0⟩ h [] → Answers (.longopList h) s ⟨0x0504, false, .r, 0⟩ h (fun r =>
    r.status = 0 ∧ r.chip = s.chip.unfetch h 0x0504 ∧ r.data.length = 512)) ∧
  (∀ (s : State) (h : Hdr) (x i : Nat) (op : LongOp), Ready s ⟨0x0505, false, .w, paramBytes [4]⟩ h [] → s.chip.loFind x = some i → s.chip.mgmt.ops.get? i = some op →
    finished (loState (s.chip.lo i)) = true →
    Answers (.longopRelease h x) s ⟨0x0505, false, .w, paramBytes [4]⟩ h (fun r =>
      r.status = 0 ∧ r.chip.mgmt.ops.get? i = none ∧ r.chip.lo i = 0 ∧ r.chip.get LONGOP_INFO_handle i = 0 ∧ r.chip.loFind x = none ∧
      s.chip.keeps [.regs, .mgmt] (fun k => regKeys LONGOP_STATUS i 0 k ∨ regKeys LONGOP_TOTAL i 0 k ∨ regKeys LONGOP_INFO i 0 k) r.chip)) ∧
  (∀ (s : State) (h : Hdr) (x i : Nat) (op : LongOp), Ready s ⟨0x0506, false, .r, paramBytes [4, 4, 1]⟩ h [] → s.chip.loFind x = some i → s.chip.mgmt.ops.get? i = some op →
    s.chip.get LONGOP_RES_PROD_prod i = 1 →
    Answers (.longopResultsRead h x 0 0) s ⟨0x0506, false, .r, paramBytes [4, 4, 1]⟩ h (fun r =>
      Reads s h 0x0506 r (le 4 1 ++ zeros 4 ++ memReadN s.chip.hbm (s.chip.get LONGOP_RES_BASE_base_64b i * 64) 32))) ∧
  (∀ (s : State) (i n : Nat), Live .up s → i < 64 → Runs (.longopResConsWrite i n) s (fun c =>
    c.get LONGOP_RES_CONS_cons i = n % 2 ^ LONGOP_RES_CONS_cons.width ∧ s.chip.keeps [.regs] (fun k => k = LONGOP_RES_CONS_cons.key i 0) c)) ∧
  (∀ (s : State) (h : Hdr) (lane kind ms i : Nat), Ready s ⟨0x0C01, false, .l, paramBytes [1, 1, 1, 4]⟩ h [] → lane < 16 → laneAbsent s.chip.id 0 lane = false → kind < 2 → s.chip.loSlot = some i → i < 64 →
    Answers (.serdesTest h 0 lane kind ms) s ⟨0x0C01, false, .l, paramBytes [1, 1, 1, 4]⟩ h (fun r =>
      r.status = 1 ∧ r.handle % 64 = i ∧ loState (r.chip.lo i) = 2 ∧ (r.chip.mgmt.ops.get? i).map (·.opcode) = some 0x0C01 ∧ r.chip.get LONGOP_TOTAL_total i = 1 ∧
      s.chip.sameBut [.regs, .mgmt] r.chip)) ∧
  (∀ (s : State) (i : Nat) (op : LongOp), Live .up s → i < 64 → s.chip.mgmt.ops.get? i = some op → op.opcode = 0x0C01 → loState (s.chip.lo i) = 2 → op.final = false →
    Runs (.longopEnd i 0 []) s (fun c => loState (c.lo i) = 4 ∧ (c.mgmt.ops.get? i).map (·.endedNs) = some s.chip.clk ∧ s.chip.sameBut evtParts c))

/-- R11, R12, R46 to R48, R403, R428: reads and writes of BAR0 and the mirror sessions. (Where a clause rests on a reading or a choice of the model, it is that of log entries 119 and 120.) -/
def Obligations.RegisterAccess : Prop :=
  (∀ (s : State) (v : Nat) (byHost : Bool), Live .up s → v < 2 ^ 32 →
    RunsSettled (.registerWrite SWX_RESEQ_CFG.geo.base 4 v byHost) s (fun c => c.get SWX_RESEQ_CFG_reseq_to = v % 65536 ∧ s.chip.sameBut [.regs] c)) ∧
  (∀ (s : State) (offset v : Nat) (byHost : Bool), Live .up s → offset % 8 = 0 → findReg offset = none → ¬ (0x48000 ≤ offset ∧ offset < 0x48400) →
    RunsSettled (.registerWrite offset 8 v byHost) s (fun c => c = s.chip)) ∧
  (∀ (s : State) (h : Hdr) (v m : Nat), Ready s ⟨0x0C31, false, .w, paramBytes [4, 8, 8]⟩ h [] →
    AnswersSettled (.regWrite h SWX_RESEQ_CFG.geo.base m v) s ⟨0x0C31, false, .w, paramBytes [4, 8, 8]⟩ h (fun r =>
      r.status = 0 ∧ (m % 65536 = 65535 → r.chip.get SWX_RESEQ_CFG_reseq_to = v % 65536) ∧ (m % 65536 = 0 → r.chip.get SWX_RESEQ_CFG_reseq_to = s.chip.get SWX_RESEQ_CFG_reseq_to) ∧
      s.chip.sameBut [.regs, .mgmt] r.chip)) ∧
  (∀ (s : State) (h : Hdr) (offset : Nat), Ready s ⟨0x0C30, false, .r, paramBytes [4, 2]⟩ h [] → offset % 8 = 0 → offset + 8 ≤ bar0Size → PMC_CNT.geo.index? offset = none →
    Answers (.regRead h offset 1) s ⟨0x0C30, false, .r, paramBytes [4, 2]⟩ h (fun r => Reads s h 0x0C30 r (le 8 ((s.chip.unfetch h 0x0C30).readBar0 offset).toNat))) ∧
  (∀ (s : State) (h : Hdr) (n image : Nat), Ready s ⟨0x0C10, false, .w, paramBytes [1, 8]⟩ h [] → n < 4 → SWX_MIR_CTL_src_kind.of image = 0 → SWX_MIR_CTL_dst_kind.of image = 1 →
    SWX_MIR_CTL_dir.of image ≠ 0 → portRefusal s.chip (SWX_MIR_CTL_src_port.of image / 4) 40 = none → s.chip.flag FUSE_STAT_isolation = false →
    Answers (.mirrorSet h n image) s ⟨0x0C10, false, .w, paramBytes [1, 8]⟩ h (fun r =>
      r.status = 0 ∧ r.chip.shows SWX_MIR_CTL image n ∧ r.chip.swx.mirror.get? n = some ⟨0, false⟩ ∧ s.chip.keeps [.regs, .mgmt, .swx] (regKeys SWX_MIR_CTL n 0) r.chip)) ∧
  (∀ (s : State) (h : Hdr) (n : Nat), Ready s ⟨0x0C11, false, .w, paramBytes [1]⟩ h [] → n < 4 →
    Answers (.mirrorClear h n) s ⟨0x0C11, false, .w, paramBytes [1]⟩ h (fun r =>
      r.status = 0 ∧ r.chip.get SWX_MIR_CTL_en n = 0 ∧ r.chip.swx.mirror.get? n = none ∧ s.chip.keeps [.regs, .mgmt, .swx] (regKeys SWX_MIR_CTL n 0) r.chip))

/-- R84, R91 to R95: opening a Drove connection, from the CONNECT to the ACCEPT that is no longer kept. (Where a clause rests on a reading or a choice of the model, it is that of log entries 12, 27 and 28.) -/
def Obligations.DroveOpening : Prop :=
  (∀ (s : State) (r : Rx) (verMin verMax hostCid segMax pathsMax firstPsn v seg : Nat) (nonce identity : Bytes) (k : Nat) (psk : Psk), Live .network s →
    s.chip.takesDrove r (s.chip.get DROVE_DRV_CFG_udp_port) = true → s.chip.flag DROVE_DRV_CFG_en = true → s.chip.drbgStopped = false → s.chip.conns = [] → (if s.chip.connects.1 = s.chip.clk / second then s.chip.connects.2 + 1 else 1) ≤ s.chip.get DROVE_DRV_CFG_connect_rate →
    hostCid ≠ 0 → segMax ∈ [1024, 2048, 4096, 8192] → 1 ≤ pathsMax → pathsMax ≤ 8 → 1 ≤ identity.length → identity.length ≤ 128 →
    (s.chip.versionsOn.filter (fun v => decide (verMin ≤ v) && decide (v ≤ verMax))).getLast? = some v → s.chip.cipher.psks.first? (fun _ p => p.identity = identity) = some (k, psk) →
    s.chip.segmentFor segMax v = some seg → s.chip.plainPorts →
    Runs (.connect r verMin verMax hostCid segMax pathsMax firstPsn nonce identity) s (fun c =>
      (∃ ctx, ctx < s.chip.maxConns ∧ c.conn ctx (fun m => m.transport = .drove ∧ m.state = .opening ∧ m.version = v ∧ m.hostCid = hostCid ∧ m.segSize = seg ∧ m.rxCum = firstPsn ∧
        m.identity = some identity ∧ m.cachedNs = some s.chip.clk ∧ m.pathsMax ≤ pathsMax ∧
        .droveHello r.sub r.srcAddr r.srcPort 0x31 (helloHeader 0x31 hostCid) m.acceptMsg r.dstPort ect0 ∈ c.out)) ∧
      c.conns.length = 1 ∧ s.chip.sameBut (.connects :: netParts) c ∧ (s.chip.mirrorOff → s.chip.keeps [.conns, .connects, .regs, .out, .freeN] (fun x => x = DROVE_RXPOOL_free_units.key 0 0 ∨ regKeys DROVE_DRV_CNT 0 0 x ∨ regKeys DROVE_DRV_CNT 1 0 x ∨ regKeys CIPH_CNT 9 0 x) c))) ∧
  (∀ (s : State) (r : Rx) (verMin verMax hostCid segMax pathsMax firstPsn : Nat) (nonce identity : Bytes), Live .network s → s.chip.takesDrove r (s.chip.get DROVE_DRV_CFG_udp_port) = true → s.chip.flag DROVE_DRV_CFG_en = false →
    exec (.connect r verMin verMax hostCid segMax pathsMax firstPsn nonce identity) s = .next { s with chip := s.chip.cntDrove 0 }) ∧
  (∀ (s : State) (cid ctx : Nat) (r : Rx) (proof : Bytes) (n : Conn), Live .network s → s.chip.byCid cid = some (ctx, n) → s.chip.conns.get? ctx = some n → n.state = .opening →
    s.chip.takesDrove r n.udpPort = true → padTo 16 proof = padTo 16 n.confirm →
    Runs (.confirm cid r proof) s (fun c => c.conn ctx (fun m => m = { n with state := .opened }) ∧ s.chip.others ctx c ∧ s.chip.sameBut [.conns, .regs] c)) ∧
  (∀ (s : State) (cid ctx : Nat) (r : Rx) (proof : Bytes) (n : Conn), Live .network s → s.chip.byCid cid = some (ctx, n) → s.chip.conns.get? ctx = some n → n.state = .opening →
    s.chip.takesDrove r n.udpPort = true → padTo 16 proof ≠ padTo 16 n.confirm → s.chip.plainPorts →
    Runs (.confirm cid r proof) s (fun c =>
      c.conns.get? ctx = none ∧ s.chip.others ctx c ∧
      (∃ h, .droveHello r.sub r.srcAddr r.srcPort 0x33 h (be 2 3 ++ be 2 (s.chip.versionsOn.head?.getD 0) ++ be 2 (s.chip.versionsOn.getLast?.getD 0) ++ be 2 0) r.dstPort ect0 ∈ c.out) ∧
      s.chip.sameBut netParts c)) ∧
  (∀ (s : State) (ctx t : Nat) (n : Conn), Live .gated s → s.chip.conns.get? ctx = some n → n.state = .opened → n.cachedNs = some t →
    RunsSettled (.connectCacheExpiry ctx) s (fun c =>
      c.conn ctx (fun m => m = { n with cachedNs := none, acceptMsg := [] }) ∧ s.chip.others ctx c ∧ s.chip.keeps [.conns] (fun _ => False) c)) ∧
  (∀ (s : State) (ctx t : Nat) (n : Conn), Live .gated s → s.chip.conns.get? ctx = some n → n.state = .opening → n.cachedNs = some t →
    RunsSettled (.connectCacheExpiry ctx) s (fun c => c.conns.get? ctx = none ∧ s.chip.others ctx c ∧ s.chip.sameBut netParts c)) ∧
  (∀ (s : State) (ctx : Nat) (n : Conn), Live .gated s → s.chip.conns.get? ctx = some n → n.state = .closing →
    RunsSettled (.closeHoldExpiry ctx) s (fun c => c.conns.get? ctx = none ∧ s.chip.others ctx c ∧ s.chip.sameBut netParts c))

/-- R89, R99, R102 to R104, R107, R113: messages from the host. A packet that is next in order is marked; data take the units of their message and are placed, a final waits for the
data of its message. (Where a clause rests on a reading or a choice of the model, it is that of log entries 25, 26, 27 and 29.) -/
def Obligations.DroveMessages : Prop :=
  (∀ (s : State) (p : DPkt) (r : Rx) (data : Bytes) (ctx : Nat) (n : Conn), Live .network s → s.chip.hears p r 0x01 ctx n → n.inOrder p → n.msgs = [] → p.msn = n.nextMsn →
    p.offset = 0 → 0 < p.msgLen → 0 < n.segSize → data.length = min n.segSize p.msgLen → unitsOf p.msgLen ≤ ahead 32 n.creditLimit n.consumed →
    RunsSettled (.h2cData p r data) s (fun c =>
      c.conn ctx (fun m => m.rxCum = (p.psn + 1) % 2 ^ 32 ∧ m.rxBits = [] ∧ m.msgs = [(p.msn, ⟨p.msgLen, unitsOf p.msgLen, [0], [(0, data)], none, 0⟩)] ∧
        m.consumed = (n.consumed + unitsOf p.msgLen) % 2 ^ 32 ∧ m.nextMsn = n.nextMsn) ∧ s.chip.others ctx c ∧ s.chip.sameBut netParts c)) ∧
  (∀ (s : State) (p : DPkt) (r : Rx) (q : Sqe) (ctx : Nat) (n : Conn), Live .network s → s.chip.hears p r 0x02 ctx n → n.inOrder p → n.msgs = [] → p.msn = n.nextMsn →
    0 < p.msgLen → 0 < n.segSize → unitsOf p.msgLen ≤ ahead 32 n.creditLimit n.consumed →
    RunsSettled (.h2cCmd p r q) s (fun c =>
      c.conn ctx (fun m => m.rxCum = (p.psn + 1) % 2 ^ 32 ∧ m.rxBits = [] ∧ m.msgs = [(p.msn, ⟨p.msgLen, unitsOf p.msgLen, [], [], some q, r.colour⟩)] ∧
        m.consumed = (n.consumed + unitsOf p.msgLen) % 2 ^ 32 ∧ m.nextMsn = n.nextMsn) ∧ s.chip.others ctx c ∧ s.chip.sameBut netParts c)) ∧
  (∀ (s : State) (p : DPkt) (r : Rx) (data : Bytes) (ctx : Nat) (n : Conn), Live .network s → s.chip.byCid p.cid = some (ctx, n) → s.chip.takesDrove r n.udpPort = true → n.state = .opened →
    p.cipher = none → p.tagOk = false →
    RunsSettled (.h2cData p r data) s (fun c =>
      c.conns = s.chip.conns ∧ c.get DROVE_DRV_CNT_count 5 = min (s.chip.get DROVE_DRV_CNT_count 5 + 1) (2 ^ DROVE_DRV_CNT_count.width - 1) ∧ s.chip.sameBut (.cipher :: evtParts) c)) ∧
  (∀ (s : State) (p : DPkt) (r : Rx) (reason ctx : Nat) (n : Conn), Live .network s → s.chip.hears p r 0x22 ctx n → n.inOrder p →
    RunsSettled (.close p r reason) s (fun c => c.conns.get? ctx = none ∧ c.loses ctx ∧ s.chip.others ctx c ∧ s.chip.sameBut netParts c)) ∧
  (∀ (s : State) (ctx : Nat) (q : Sqe) (data : Bytes) (n : Conn), Live .network s → s.chip.conns.get? ctx = some n → n.state = .opened → n.qid = 0 → s.chip.intake.held = [] →
    s.chip.intake.cmds = [] → s.chip.flag CMDQ_CTL_en = true →
    RunsSettled (.commandIntake ctx q data 0) s (fun c =>
      (∃ k, c.intake.cmds = [(0, k)] ∧ k.ctx = ctx ∧ k.sqe = q ∧ k.st = .queued ∧ k.dataLen = data.length ∧ k.order = s.chip.intake.order) ∧ c.intake.held = [] ∧
      s.chip.others ctx c ∧ s.chip.keeps [.conns, .intake, .out] (fun _ => False) c)) ∧
  (∀ (s : State) (ctx : Nat) (q : Sqe) (data : Bytes) (n : Conn), Live .network s → s.chip.conns.get? ctx = some n → n.state = .opened → n.qid = 0 → s.chip.intake.held = [] →
    (s.chip.intake.cmds.keep (fun key _ => key / cmdTags = 0)).length < cmdTags → s.chip.flag CMDQ_CTL_en = false →
    RunsSettled (.commandIntake ctx q data 0) s (fun c =>
      (∃ k, c.intake.held = [(2 ^ 32, k)] ∧ k.ctx = ctx ∧ k.sqe = q) ∧ c.intake.cmds = s.chip.intake.cmds ∧ s.chip.keeps [.intake] (fun _ => False) c)) ∧
  (∀ (s : State) (k : HostCmd), Live .network s → s.chip.intake.held = [(2 ^ 32, k)] → k.io = false → k.bad = 0 → s.chip.intake.cmds = [] → s.chip.flag CMDQ_CTL_en = true →
    RunsSettled .intakeRelease s (fun c => c.intake.held = [] ∧ c.intake.cmds = [(0, { k with order := s.chip.intake.order })] ∧ s.chip.keeps [.conns, .intake, .out] (fun _ => False) c))

/-- R98, R101, R107, R110, R111: control packets and rekeying. (Where a clause rests on a reading or a choice of the model, it is that of log entries 25, 29 and 142.) -/
def Obligations.DroveControl : Prop :=
  (∀ (s : State) (p : DPkt) (r : Rx) (cum sack ce next ctx : Nat) (n : Conn), Live .network s → s.chip.hears p r 0x10 ctx n → n.rxCtrl = none → n.txWait = [] → s.chip.creditQ = [] →
    RunsSettled (.ack p r ⟨cum, sack⟩ 0 ce next) s (fun c =>
      c.conn ctx (fun m => m.unacked = n.unacked.filter (fun q => !ackCovers cum sack q.psn) ∧ m.rxCtrl = some p.psn ∧ m.wanted = none) ∧ s.chip.others ctx c ∧
      s.chip.sameBut netParts c)) ∧
  (∀ (s : State) (p : DPkt) (r : Rx) (cum sack req ce next ctx x : Nat) (n : Conn), Live .network s → s.chip.hears p r 0x10 ctx n → n.rxCtrl = some x → p.psn = x →
    RunsSettled (.ack p r ⟨cum, sack⟩ req ce next) s (fun c =>
      c.conn ctx (fun m => m.unacked = n.unacked ∧ m.rxCtrl = some x ∧ m.wanted = n.wanted ∧ m.received = n.received + 1) ∧ s.chip.others ctx c ∧ s.chip.sameBut heardParts c)) ∧
  (∀ (s : State) (p : DPkt) (r : Rx) (len ctx : Nat) (n : Conn) (u : TxPkt), Live .network s → s.chip.hears p r 0x11 ctx n → n.rxCtrl = none → n.unacked = [u] → n.txWait = [] →
    u.resends < n.retryMax → n.stopped = false → n.spray (some u.path) ≠ none → 1 ≤ len → len ≤ 4096 →
    RunsSettled (.nack p r u.psn [(u.psn, len)]) s (fun c =>
      c.conn ctx (fun m => m.unacked.map (fun q => (q.psn, q.resends)) = [(u.psn, u.resends + 1)] ∧ m.rxCtrl = some p.psn) ∧ s.chip.others ctx c ∧ s.chip.sameBut netParts c)) ∧
  (∀ (s : State) (p : DPkt) (r : Rx) (body : Bytes) (ctx : Nat) (n : Conn), Live .network s → s.chip.hears p r 0x12 ctx n → n.paths.has p.path = true → s.chip.plainPorts →
    RunsSettled (.probe p r body) s (fun c => c.sends ctx p.path 0x13 n.txCtrl n.gen ∧ c.conn ctx (fun m => m.txCtrl = (n.txCtrl + 1) % 2 ^ 32 ∧ m.sent = n.sent + 1) ∧
      s.chip.others ctx c ∧ s.chip.sameBut netParts c)) ∧
  (∀ (s : State) (p : DPkt) (r : Rx) (ctx : Nat) (n : Conn) (q : Path), Live .network s → s.chip.hears p r 0x13 ctx n → n.rxCtrl = none → n.paths.get? p.path = some q →
    RunsSettled (.probeReply p r) s (fun c =>
      c.conn ctx (fun m => (m.paths.get? p.path).map (·.probeMiss) = some 0 ∧ m.rxCtrl = some p.psn) ∧ s.chip.others ctx c ∧ s.chip.sameBut heardParts c)) ∧
  (∀ (s : State) (p : DPkt) (r : Rx) (ctx : Nat) (n : Conn), Live .network s → s.chip.hears p r 0x20 ctx n → n.inOrder p → n.txWait = [] →
    n.gen < 2 ^ 32 - 1 → n.spanRoom = true → n.spray none ≠ none →
    RunsSettled (.rekey p r (n.gen + 1)) s (fun c =>
      c.conn ctx (fun m => m.gen = n.gen + 1 ∧ m.oldGen = true ∧ m.rekeyOpen = false ∧ m.secret = Config.hkdfExpand n.secret (n.info "drove next" (n.gen + 1)) 48) ∧
      s.chip.others ctx c ∧ s.chip.sameBut netParts c)) ∧
  (∀ (s : State) (p : DPkt) (r : Rx) (ctx : Nat) (n : Conn), Live .network s → s.chip.hears p r 0x21 ctx n → n.inOrder p → n.txWait = [] → n.rekeySent = true →
    RunsSettled (.rekeyAck p r (n.gen + 1)) s (fun c =>
      c.conn ctx (fun m => m.gen = n.gen + 1 ∧ m.oldGen = true ∧ m.rekeyOpen = false ∧ m.rekeySent = false) ∧ s.chip.others ctx c ∧ s.chip.sameBut netParts c)) ∧
  (∀ (s : State) (ctx w t : Nat) (n : Conn), Live .network s → s.chip.creditQ = [ctx] → s.chip.opened .drove ctx n → n.wanted = some (w, t) → 1 ≤ w →
    w ≤ n.maxGrant - ahead 32 n.creditLimit n.consumed → w ≤ s.chip.get DROVE_RXPOOL_free_units →
    Runs .creditGrant s (fun c =>
      c.conn ctx (fun m => m.creditLimit = (n.creditLimit + w) % 2 ^ 32 ∧ m.wanted = none) ∧ c.creditQ = [] ∧
      c.get DROVE_RXPOOL_free_units = (s.chip.get DROVE_RXPOOL_free_units - w) % 2 ^ DROVE_RXPOOL_free_units.width ∧ s.chip.others ctx c ∧ s.chip.sameBut netParts c)) ∧
  (∀ (s : State) (ctx : Nat) (n : Conn) (x : Nat × Nat), Live .gated s → s.chip.opened .drove ctx n → n.wanted = some x →
    exec (.creditWaitExpiry ctx) s = .next { s with chip := s.chip.raise 0x181 })

/-- R98, R101, R108, R109, R112, R121: the timers of a Drove connection, its configuration and the view of a context. (Where a clause rests on a reading or a choice of the model, it is that of log entries 12, 25 and 29.) -/
def Obligations.DroveTimers : Prop :=
  (∀ (s : State) (ctx path : Nat) (n : Conn), Live .gated s → s.chip.opened .drove ctx n → n.calm → n.reorderOn = true → n.missing ≠ [] → n.ackPath = some path → s.chip.plainPorts →
    RunsSettled (.reorderTimerExpiry ctx) s (fun c => c.sends ctx path 0x11 n.txCtrl n.gen ∧ s.chip.others ctx c ∧ s.chip.sameBut netParts c)) ∧
  (∀ (s : State) (ctx path t : Nat) (n : Conn), Live .gated s → s.chip.opened .drove ctx n → n.calm → n.ackFrom = some t → n.ackPath = some path → s.chip.plainPorts →
    RunsSettled (.ackDelayExpiry ctx) s (fun c =>
      c.sends ctx path 0x10 n.txCtrl n.gen ∧ c.conn ctx (fun m => m.ackFrom = none ∧ m.newPkts = 0 ∧ m.ceMask = 0 ∧ m.rxCum = n.rxCum) ∧ s.chip.others ctx c ∧
      s.chip.sameBut netParts c)) ∧
  (∀ (s : State) (ctx : Nat) (n : Conn) (u : TxPkt), Live .gated s → s.chip.opened .drove ctx n → n.calm → n.unacked = [u] → u.resends < n.retryMax → n.stopped = false →
    n.spray (some u.path) ≠ none → (n.paths.get? u.path).elim 0 (·.rtoRun) + 1 < n.pathRtoLimit →
    RunsSettled (.droveRtoExpiry ctx u.psn) s (fun c =>
      c.conn ctx (fun m => m.state = .opened ∧ m.unacked.map (fun q => (q.psn, q.resends)) = [(u.psn, u.resends + 1)]) ∧ s.chip.others ctx c ∧ s.chip.sameBut netParts c)) ∧
  (∀ (s : State) (ctx : Nat) (n : Conn) (u : TxPkt), Live .gated s → s.chip.opened .drove ctx n → n.calm → n.unacked = [u] → n.retryMax ≤ u.resends →
    RunsSettled (.droveRtoExpiry ctx u.psn) s (fun c => c.conn ctx (fun m => m.state = .closing) ∧ c.loses ctx ∧ s.chip.others ctx c ∧ s.chip.sameBut netParts c)) ∧
  (∀ (s : State) (ctx path : Nat) (n : Conn) (q : Path), Live .gated s → s.chip.opened .drove ctx n → n.calm → n.version ≠ 0x100 → n.paths.get? path = some q →
    s.chip.plainPorts →
    RunsSettled (.probeTimer ctx path) s (fun c =>
      c.sends ctx path 0x12 n.txCtrl n.gen ∧ c.conn ctx (fun m => (m.paths.get? path).map (fun x => (x.probeMiss, x.live)) =
        some (min n.probeMiss (q.probeMiss + 1), q.live && decide (q.probeMiss < n.probeMiss))) ∧ s.chip.others ctx c ∧ s.chip.sameBut netParts c)) ∧
  (∀ (s : State) (ctx : Nat) (n : Conn), Live .gated s → s.chip.opened .drove ctx n → n.livePaths = [] →
    RunsSettled (.connDeadExpiry ctx) s (fun c => c.conn ctx (fun m => m.state = .closing) ∧ c.loses ctx ∧ s.chip.others ctx c ∧ s.chip.sameBut netParts c)) ∧
  (∀ (s : State) (ctx : Nat) (n : Conn), Live .gated s → s.chip.opened .drove ctx n →
    Runs (.rekeyGraceExpiry ctx) s (fun c => c.conn ctx (fun m => m = { n with oldGen := false, oldSecret := [] }) ∧ s.chip.others ctx c ∧ s.chip.keeps [.conns] (fun _ => False) c)) ∧
  (∀ (s : State) (h : Hdr) (cfg timer path key credit pool press rate : Nat), Ready s ⟨0x0220, false, .w, paramBytes [8, 8, 8, 8, 8, 8, 8, 8]⟩ h [] → s.chip.creditQ = [] →
    Answers (.droveCfgSet h cfg timer path key credit pool press rate) s ⟨0x0220, false, .w, paramBytes [8, 8, 8, 8, 8, 8, 8, 8]⟩ h (fun r =>
      r.status = 0 ∧ r.chip.shows DROVE_DRV_CFG cfg ∧ r.chip.shows DROVE_DRV_TIMER timer ∧ r.chip.shows DROVE_DRV_PATH path ∧ r.chip.shows DROVE_DRV_KEY key ∧
      r.chip.shows DROVE_DRV_CREDIT credit ∧ r.chip.shows DROVE_RXPOOL pool ∧ r.chip.shows DROVE_RXPOOL_PRESS press ∧ r.chip.shows DROVE_DRV_RATE rate ∧
      s.chip.sameBut [.regs, .mgmt] r.chip)) ∧
  (∀ (s : State) (ctx : Nat) (n : Conn), Live .up s → ctx < 2 ^ 18 → s.chip.conns.get? ctx = some n →
    Runs (.droveCtxSelWrite ctx) s (fun c =>
      c.get DROVE_CTX_SEL_ctx = ctx ∧ c.get DROVE_CTX_VIEW0_rx_cum = n.rxCum % 2 ^ 32 ∧ c.get DROVE_CTX_VIEW0_tx_next = n.txNext % 2 ^ 32 ∧
      c.get DROVE_CTX_VIEW1_credit_limit = n.creditLimit % 2 ^ 32 ∧ c.get DROVE_CTX_VIEW1_consumed = n.consumed % 2 ^ 32 ∧
      c.get DROVE_CTX_VIEW2_generation = n.gen % 2 ^ DROVE_CTX_VIEW2_generation.width ∧ c.get DROVE_CTX_VIEW2_version = n.version % 2 ^ DROVE_CTX_VIEW2_version.width ∧
      c.get DROVE_CTX_VIEW3_next_msn = n.nextMsn % 2 ^ DROVE_CTX_VIEW3_next_msn.width ∧
      s.chip.keeps [.regs] (fun x => regKeys DROVE_CTX_SEL 0 0 x ∨ regKeys DROVE_CTX_VIEW0 0 0 x ∨ regKeys DROVE_CTX_VIEW1 0 0 x ∨ regKeys DROVE_CTX_VIEW2 0 0 x ∨
        regKeys DROVE_CTX_VIEW3 0 0 x) c))

/-- R72 to R74, R152, R176: NVMe/TCP and TLS. (Where a clause rests on a reading or a choice of the model, it is that of log entries 9 and 31.) -/
def Obligations.TcpRows : Prop :=
  (∀ (s : State) (r : Rx) (port digests maxR2t : Nat) (syn : TcpSyn), Live .network s → s.chip.listens port = true → s.chip.analysis r.sub = false → s.chip.conns = [] →
    s.chip.flag DROVE_TCP_CFG_tls_req = false → (s.chip.flag DROVE_TCP_CFG_digest_req = true → digests % 4 = 3) →
    RunsSettled (.tcpIcreq r ⟨port, syn⟩ 0 digests maxR2t) s (fun c =>
      (∃ ctx, ctx < s.chip.maxConns ∧ c.conn ctx (fun m => m.transport = .tcp ∧ m.state = .opened ∧ m.digestH = bit digests 0 ∧ m.digestD = bit digests 1 ∧ m.maxR2t = maxR2t ∧
        m.srcAddr = r.srcAddr ∧ m.sub = r.sub ∧ m.tcp.mss = min syn.mss (mssOf (s.chip.mtu (r.sub / 4)) r.srcAddr))) ∧ c.conns.length = 1 ∧ s.chip.sameBut netParts c)) ∧
  (∀ (s : State) (r : Rx) (port digests maxR2t : Nat) (syn : TcpSyn), Live .network s → s.chip.listens port = true → s.chip.analysis r.sub = false → s.chip.conns = [] →
    s.chip.flag DROVE_TCP_CFG_tls_req = true →
    RunsSettled (.tcpIcreq r ⟨port, syn⟩ 0 digests maxR2t) s (fun c => c.conns = [] ∧ s.chip.sameBut netParts c)) ∧
  (∀ (s : State) (ctx : Nat) (q : Sqe) (colour : Nat) (seg : TcpSeg) (n : Conn), Live .network s → s.chip.opened .tcp ctx n → n.tls = false → n.tcpIdle → 0 < seg.wnd →
    n.capsules.has q.cid = false → q.hostData = true → s.chip.plainPorts →
    RunsSettled (.tcpCapsuleCmd ctx q [] ⟨seg, true⟩ true colour) s (fun c =>
      c.conn ctx (fun m => m.capsules.get? q.cid = some ⟨q, [], 0, colour⟩) ∧ c.sendsPdu ctx pduR2t q.cid (le 4 0 ++ le 4 (min 131072 q.len)) ∧ s.chip.others ctx c ∧
      s.chip.sameBut netParts c)) ∧
  (∀ (s : State) (ctx : Nat) (q : Sqe) (seg : TcpSeg) (n : Conn), Live .network s → s.chip.opened .tcp ctx n → n.tls = false → n.txWait = [] → n.capsules.has q.cid = false →
    q.hostData = false → n.qid = 0 → s.chip.intake.held = [] → s.chip.intake.cmds = [] → s.chip.flag CMDQ_CTL_en = true →
    RunsSettled (.tcpCapsuleCmd ctx q [] ⟨seg, true⟩ true 0) s (fun c =>
      (∃ k, c.intake.cmds = [(0, k)] ∧ k.ctx = ctx ∧ k.sqe = q ∧ k.st = .queued) ∧ s.chip.others ctx c ∧ s.chip.keeps [.conns, .intake, .out] (fun _ => False) c)) ∧
  (∀ (s : State) (ctx cid : Nat) (data : Bytes) (seg : TcpSeg) (n : Conn) (k : Capsule), Live .network s → s.chip.opened .tcp ctx n → n.tls = false → n.capsules.get? cid = some k → k.got = 0 →
    k.segs = [] → 1 ≤ data.length → data.length ≤ 131072 → data.length < k.sqe.len →
    RunsSettled (.tcpH2cData ctx cid 0 data ⟨seg, true⟩) s (fun c =>
      c.conn ctx (fun m => m.capsules.get? cid = some { k with segs := [(0, data)], got := data.length }) ∧ c.intake = s.chip.intake ∧ s.chip.others ctx c ∧
      s.chip.sameBut netParts c)) ∧
  (∀ (s : State) (ctx : Nat) (n : Conn), Live .network s → s.chip.conns.get? ctx = some n → n.transport = .tcp → s.chip.plainPorts →
    ∀ x ∈ [Instr.tcpTermReq ctx, Instr.tcpCloseRx ctx false], RunsSettled x s (fun c =>
      c.conns.get? ctx = none ∧ c.loses ctx ∧ .tcpClose ctx false ∈ c.out ∧ s.chip.others ctx c ∧ s.chip.sameBut netParts c)) ∧
  (∀ (s : State) (ctx : Nat) (n : Conn), Live .network s → s.chip.conns.get? ctx = some n → n.transport = .tcp → RunsSettled (.tcpCloseRx ctx true) s (fun c =>
    c.conns.get? ctx = none ∧ c.loses ctx ∧ s.chip.others ctx c ∧ s.chip.sameBut netParts c)) ∧
  (∀ (s : State) (ctx : Nat) (again : Bool) (n : Conn), Live .network s → s.chip.conns.get? ctx = some n → n.transport = .tcp → (again = true → n.retrans < 15) →
    RunsSettled (.tcpRtoExpiry ctx again) s (fun c =>
      c.conn ctx (fun m => m.retrans = (if again then n.retrans + 1 else 1) ∧ m.unacked = n.unacked ∧ m.tcp.cwnd = n.tcp.mss ∧
        m.tcp.rtoUs = min 4000000 (2 * max n.tcp.rtoUs (s.chip.get DROVE_TCP_CFG_rto_min_us))) ∧
      (∀ u, n.unacked.head? = some u → n.tcp.sacked = [] → s.chip.plainPorts → c.sendsPdu ctx u.type u.aux u.body) ∧ s.chip.others ctx c ∧ s.chip.sameBut netParts c)) ∧
  (∀ (s : State) (ctx : Nat) (n : Conn), Live .network s → s.chip.conns.get? ctx = some n → n.transport = .tcp → 15 ≤ n.retrans → s.chip.plainPorts →
    RunsSettled (.tcpRtoExpiry ctx true) s (fun c => c.conns.get? ctx = none ∧ c.loses ctx ∧ .tcpClose ctx true ∈ c.out ∧ s.chip.others ctx c ∧ s.chip.sameBut netParts c)) ∧
  (∀ (s : State) (r : Rx) (port modes : Nat) (identity : Bytes) (secp : Bool) (syn : TcpSyn), Live .network s → s.chip.listens port = true → s.chip.drbgStopped = false → s.chip.plainPorts →
    s.chip.conns = [] →
    s.chip.cipher.psks.any (fun e => e.2.identity = identity) = true → (bit modes 0 || (bit modes 1 && secp)) = true →
    RunsSettled (.tlsHandshakeMsg r ⟨port, syn⟩ 1 modes identity true true secp true) s (fun c =>
      (∃ ctx, ctx < s.chip.maxConns ∧ c.conn ctx (fun m => m.transport = .tcp ∧ m.state = .opening ∧ m.identity = some identity ∧ m.tls = false) ∧ .tlsRecord ctx tlsHandshake ∈ c.out) ∧
      c.conns.length = 1 ∧ s.chip.sameBut netParts c)) ∧
  (∀ (s : State) (r : Rx) (port modes : Nat) (identity : Bytes) (tls13 suite secp : Bool) (syn : TcpSyn) (ctx : Nat) (n : Conn), Live .network s → s.chip.listens port = true →
    s.chip.analysis r.sub = false → s.chip.drbgStopped = false →
    s.chip.flowOf r = some (ctx, n) → s.chip.conns.get? ctx = some n → n.state = .opening → n.identity.isSome = true → n.tls = false →
    RunsSettled (.tlsHandshakeMsg r ⟨port, syn⟩ 20 modes identity tls13 suite secp true) s (fun c =>
      c.conn ctx (fun m => m = { n with tls := true }) ∧ s.chip.others ctx c ∧ s.chip.keeps [.conns] (fun _ => False) c)) ∧
  (∀ (s : State) (ctx : Nat) (asks : Bool) (n : Conn), Live .network s → s.chip.opened .tcp ctx n → n.tls = true → n.txWait = [] → (asks || n.keyAsked) = true → s.chip.plainPorts →
    Runs (.tlsKeyupdateRx ctx asks) s (fun c =>
      c.conn ctx (fun m => m.recSent = 0 ∧ m.recRecv = 0 ∧ m.keyAsked = false ∧ m.stopped = false) ∧ (asks = true → n.keyAsked = false → .tlsRecord ctx tlsUpdate ∈ c.out) ∧
      s.chip.others ctx c ∧ s.chip.sameBut netParts c))

/-- R65, R66, R75, R82: NVMe over RoCE v2, and the rate procedure. (Where a clause rests on a reading or a choice of the model, it is that of log entries 7, 9 and 32.) -/
def Obligations.RoceRows : Prop :=
  (∀ (s : State) (r : Rx) (ctx qpn psn : Nat), Live .network s → s.chip.plainPorts → s.chip.conns = [] →
    RunsSettled (.roceCmMsg r 0 ctx qpn psn true) s (fun c =>
      (∃ i, i < s.chip.maxConns ∧ c.conn i (fun m => m.transport = .roce ∧ m.state = .opening ∧ m.hostCid = qpn ∧ m.expectPsn = psn % 2 ^ 24 ∧ 1 ≤ m.chipCid ∧ m.chipCid < 2 ^ 24) ∧
        .roceCm i cmRep ∈ c.out) ∧ c.conns.length = 1 ∧ s.chip.sameBut netParts c ∧ (s.chip.mirrorOff → s.chip.keeps [.conns, .out, .freeN] (fun _ => False) c))) ∧
  (∀ (s : State) (r : Rx) (ctx qpn psn : Nat) (good : Bool) (n : Conn), Live .network s → s.chip.conns.get? ctx = some n → n.transport = .roce → n.state = .opening →
    s.chip.analysis r.sub = false →
    RunsSettled (.roceCmMsg r 1 ctx qpn psn good) s (fun c =>
      c.conn ctx (fun m => m = { n with state := .opened }) ∧ s.chip.others ctx c ∧ s.chip.keeps [.conns] (fun _ => False) c)) ∧
  (∀ (s : State) (r : Rx) (ctx qpn psn : Nat) (good : Bool) (n : Conn), Live .network s → s.chip.conns.get? ctx = some n → n.transport = .roce → s.chip.plainPorts →
    RunsSettled (.roceCmMsg r 2 ctx qpn psn good) s (fun c =>
      c.conns.get? ctx = none ∧ c.loses ctx ∧ .roceCm ctx cmDrep ∈ c.out ∧ s.chip.others ctx c ∧ s.chip.sameBut netParts c)) ∧
  (∀ (s : State) (ctx : Nat) (q : Sqe) (ce : Bool) (colour : Nat) (n : Conn), Live .network s → s.chip.opened .roce ctx n → n.expectPsn < 2 ^ 24 → q.hostData = true →
    s.chip.plainPorts →
    RunsSettled (.roceSendRx ctx n.expectPsn q [] ce colour) s (fun c =>
      c.conn ctx (fun m => m.expectPsn = (n.expectPsn + 1) % 2 ^ 24 ∧ m.capsules.get? n.recSent = some ⟨q, [], 0, colour⟩) ∧ .roce ctx roceAck n.expectPsn 0 [] ect0 ∈ c.out ∧
      c.intake = s.chip.intake ∧ s.chip.others ctx c ∧ s.chip.sameBut netParts c)) ∧
  (∀ (s : State) (ctx psn : Nat) (q : Sqe) (data : Bytes) (ce : Bool) (colour : Nat) (n : Conn), Live .network s → s.chip.opened .roce ctx n → 2 ^ 23 ≤ ahead 24 psn n.expectPsn →
    s.chip.plainPorts →
    RunsSettled (.roceSendRx ctx psn q data ce colour) s (fun c =>
      c.conn ctx (fun m => m.expectPsn = n.expectPsn ∧ m.capsules = n.capsules) ∧ .roce ctx roceAck psn 0 [] ect0 ∈ c.out ∧ c.intake = s.chip.intake ∧ s.chip.others ctx c ∧
      s.chip.sameBut netParts c)) ∧
  (∀ (s : State) (ctx psn : Nat) (data : Bytes) (ce : Bool) (key : Nat) (n : Conn) (k : Capsule) (rest : Tab Capsule), Live .network s → s.chip.opened .roce ctx n →
    n.capsules = (key, k) :: rest → s.chip.readPsn n k = some psn → k.got + data.length < k.sqe.len →
    RunsSettled (.roceReadResponseRx ctx ⟨psn, ce⟩ data) s (fun c =>
      c.conn ctx (fun m => m.capsules.get? key = some { k with segs := k.segs.put k.got data, got := k.got + data.length }) ∧ s.chip.others ctx c ∧
      s.chip.sameBut netParts c ∧ (ce = false → s.chip.keeps [.conns] (fun _ => False) c))) ∧
  (∀ (s : State) (ctx psn : Nat) (ce : Bool) (n : Conn), Live .network s → s.chip.opened .roce ctx n →
    RunsSettled (.roceAckRx ctx ⟨psn, ce⟩ 0) s (fun c =>
      c.conn ctx (fun m => m.retries = 0 ∧ m.rnrRetries = 0 ∧
        (∀ u, u ∈ m.unacked ↔ u ∈ n.unacked ∧ (u.type = roceRead ∨ 2 ^ 23 ≤ ahead 24 psn ((u.psn + u.msgLen - 1) % 2 ^ 24)))) ∧ s.chip.others ctx c ∧
      s.chip.sameBut netParts c ∧ (ce = false → s.chip.keeps [.conns] (fun _ => False) c))) ∧
  (∀ (s : State) (ctx psn kind : Nat) (ce : Bool) (n : Conn), Live .network s → s.chip.opened .roce ctx n → s.chip.plainPorts → (kind = 1 ∧ s.chip.get DROVE_ROCE_CFG_retry_cnt ≤ n.retries ∨
      kind = 2 ∧ s.chip.get DROVE_ROCE_CFG_rnr_retry ≤ n.rnrRetries ∨ 3 ≤ kind) →
    RunsSettled (.roceAckRx ctx ⟨psn, ce⟩ kind) s (fun c =>
      c.conn ctx (fun m => m.failed = true ∧ m.unacked = []) ∧ c.loses ctx ∧ .roceCm ctx cmDreq ∈ c.out ∧ s.chip.others ctx c ∧ s.chip.sameBut netParts c)) ∧
  (∀ (s : State) (ctx psn : Nat) (n : Conn), Live .network s → s.chip.opened .roce ctx n → s.chip.plainPorts →
    RunsSettled (.roceRemoteOpRx ctx psn) s (fun c =>
      c.conn ctx (fun m => m.failed = true) ∧ c.loses ctx ∧ .roce ctx roceNakAccess psn 0 [] ect0 ∈ c.out ∧ s.chip.others ctx c ∧ s.chip.sameBut netParts c)) ∧
  (∀ (s : State) (ctx : Nat) (n : Conn), Live .network s → s.chip.opened .roce ctx n →
    Runs (.roceCnpRx ctx) s (fun c =>
      c.conn ctx (fun m => m = { n with rate := n.rate.cnp (s.chip.get DROVE_ROCE_RATE_g_shift) (s.chip.get DROVE_ROCE_RATE_min_rate) (s.chip.lineRate n.sub) s.chip.clk }) ∧
      s.chip.others ctx c ∧ s.chip.keeps [.conns] (fun _ => False) c)) ∧
  (∀ (s : State) (ctx path : Nat) (n : Conn), Live .gated s → s.chip.conns.get? ctx = some n → n.transport = .roce →
    Runs (.roceAlphaTimer ctx path) s (fun c =>
      c.conn ctx (fun m => m = { n with rate := { n.rate with alpha := n.rate.alpha - n.rate.alpha / 2 ^ s.chip.get DROVE_ROCE_RATE_g_shift } }) ∧ s.chip.others ctx c ∧
      s.chip.keeps [.conns] (fun _ => False) c)) ∧
  (∀ (s : State) (ctx path : Nat) (n : Conn) (q : Path), Live .gated s → s.chip.conns.get? ctx = some n → n.transport = .drove → n.version = 0x200 → n.paths.get? path = some q →
    Runs (.roceAlphaTimer ctx path) s (fun c =>
      c.conn ctx (fun m => (m.paths.get? path).map (·.rate.alpha) = some (q.rate.alpha - q.rate.alpha / 2 ^ n.rateG) ∧ m.rate = n.rate) ∧ s.chip.others ctx c ∧
      s.chip.keeps [.conns] (fun _ => False) c)) ∧
  (∀ (s : State) (ctx path : Nat) (n : Conn), Live .gated s → s.chip.conns.get? ctx = some n → n.transport = .roce →
    Runs (.roceIncreaseTimer ctx path) s (fun c =>
      c.conn ctx (fun m => m = { n with rate := n.rate.rise (s.chip.get DROVE_ROCE_RATE_ai_step) (s.chip.get DROVE_ROCE_RATE_min_rate) (s.chip.lineRate n.sub) s.chip.clk }) ∧
      s.chip.others ctx c ∧ s.chip.keeps [.conns] (fun _ => False) c)) ∧
  (∀ (s : State) (ctx t : Nat) (n : Conn), Live .gated s → s.chip.opened .roce ctx n → n.rate.minSince = some t → t + second < s.chip.clk →
    exec (.roceMinRateHold ctx) s = .next { s with chip := s.chip.raise 0x1C7 }) ∧
  (∀ (s : State) (ctx : Nat) (n : Conn) (u : TxPkt) (us : List TxPkt), Live .gated s → s.chip.opened .roce ctx n → n.unacked = u :: us → n.retries < s.chip.get DROVE_ROCE_CFG_retry_cnt →
    s.chip.plainPorts →
    RunsSettled (.roceAckTimeout ctx) s (fun c =>
      c.conn ctx (fun m => m = { n with retries := n.retries + 1 }) ∧ .roce ctx u.type u.psn u.aux u.body ect0 ∈ c.out ∧ s.chip.others ctx c ∧ s.chip.sameBut netParts c)) ∧
  (∀ (s : State) (ctx : Nat) (n : Conn) (u : TxPkt) (us : List TxPkt), Live .gated s → s.chip.opened .roce ctx n → n.unacked = u :: us → s.chip.get DROVE_ROCE_CFG_retry_cnt ≤ n.retries → s.chip.plainPorts →
    RunsSettled (.roceAckTimeout ctx) s (fun c =>
      c.conn ctx (fun m => m.failed = true ∧ m.unacked = []) ∧ c.loses ctx ∧ .roceCm ctx cmDreq ∈ c.out ∧ s.chip.others ctx c ∧ s.chip.sameBut netParts c))

/-- R32, R81, R88, R174, R176, R435: completions leave for the host, the configuration of the standard transports, the list of connections and their closing. (Where a clause rests on a reading or a choice of the model, it is that of log entries 30, 31 and 33.) -/
def Obligations.ConnectionRows : Prop :=
  (∀ (s : State) (ctx : Nat) (n : Conn) (d : Completion), Live .network s → s.chip.opened .tcp ctx n → n.tls = false → n.tcpIdle → 0 < n.tcp.rwnd →
    n.pduBytes pduC2hData d.data.flatten + n.pduBytes pduCapsuleResp (cqe n d) ≤ min n.tcp.cwnd n.tcp.rwnd → s.chip.intake.done = [d] → d.ctx = ctx →
    d.close = false → s.chip.plainPorts →
    RunsSettled (.hostCompletionSend ctx) s (fun c =>
      c.intake.done = [] ∧ c.sendsPdu ctx pduCapsuleResp d.cid (cqe n d) ∧ (d.data.flatten ≠ [] → c.sendsPdu ctx pduC2hData d.cid d.data.flatten) ∧
      s.chip.others ctx c ∧ s.chip.sameBut (.intake :: netParts) c)) ∧
  (∀ (s : State) (ctx path : Nat) (n : Conn) (d : Completion), Live .network s → s.chip.opened .drove ctx n → n.calm → n.txWait = [] → n.unacked = [] → n.stopped = false →
    n.spray none = some path → ahead 32 n.txMsn n.hostMsn < 1024 → s.chip.intake.done = [d] → d.ctx = ctx → d.close = false → d.data = [] → s.chip.plainPorts →
    RunsSettled (.hostCompletionSend ctx) s (fun c =>
      c.intake.done = [] ∧ c.sends ctx path 0x04 n.txNext n.gen ∧
      c.conn ctx (fun m => m.txNext = (n.txNext + 1) % 2 ^ 32 ∧ m.txMsn = (n.txMsn + 1) % 2 ^ 32 ∧ m.unacked.map (fun u => (u.psn, u.type, u.msn, u.body)) =
        [(n.txNext, 4, n.txMsn, cqe n d ++ be 4 0 ++ zeros 12)]) ∧ s.chip.others ctx c ∧ s.chip.sameBut (.intake :: netParts) c)) ∧
  (∀ (s : State) (ctx : Nat) (n : Conn) (d : Completion), Live .network s → s.chip.opened .roce ctx n → s.chip.intake.done = [d] → d.ctx = ctx → d.close = false → d.data = [] →
    s.chip.plainPorts →
    RunsSettled (.hostCompletionSend ctx) s (fun c =>
      c.intake.done = [] ∧ (if d.inval then .roce ctx roceSendInv n.nextTxPsn d.cid (le 4 d.key ++ cqe n d) ect0 ∈ c.out else .roce ctx roceSend n.nextTxPsn d.cid (cqe n d) ect0 ∈ c.out) ∧ c.conn ctx (fun m => m.nextTxPsn = (n.nextTxPsn + 1) % 2 ^ 24) ∧ s.chip.others ctx c ∧
      s.chip.sameBut (.intake :: netParts) c)) ∧
  (∀ (s : State) (h : Hdr) (tcp roce rate : Nat), Ready s ⟨0x0221, false, .w, paramBytes [DROVE_TCP_CFG.bytes, DROVE_ROCE_CFG.bytes, DROVE_ROCE_RATE.bytes]⟩ h [] →
    Answers (.stdTransportSet h tcp roce rate) s ⟨0x0221, false, .w, paramBytes [DROVE_TCP_CFG.bytes, DROVE_ROCE_CFG.bytes, DROVE_ROCE_RATE.bytes]⟩ h (fun r =>
      r.status = 0 ∧ r.chip.shows DROVE_TCP_CFG tcp ∧ r.chip.shows DROVE_ROCE_CFG roce ∧ r.chip.shows DROVE_ROCE_RATE rate ∧
      s.chip.keeps [.regs, .mgmt] (fun x => regKeys DROVE_TCP_CFG 0 0 x ∨ regKeys DROVE_ROCE_CFG 0 0 x ∨ regKeys DROVE_ROCE_RATE 0 0 x) r.chip)) ∧
  (∀ (s : State) (h : Hdr) (first ctx : Nat) (n : Conn), Ready s ⟨0x0228, false, .r, paramBytes [4]⟩ h [] → s.chip.conns = [(ctx, n)] → first ≤ ctx →
    Answers (.sessionList h first) s ⟨0x0228, false, .r, paramBytes [4]⟩ h (fun r =>
      Reads s h 0x0228 r (le 2 1 ++ le 4 ctx ++ le 2 (n.host.getD 0xFFFF) ++ le 2 n.paddock ++ le 1 (transportCode n.transport) ++ le 2 n.version ++ le 1 n.paths.length ++ zeros 4 ++
        le 8 n.openedNs ++ be 16 n.srcAddr))) ∧
  (∀ (s : State) (h : Hdr) (ctx : Nat) (n : Conn), Ready s ⟨0x0229, false, .w, paramBytes [4]⟩ h [] → ctx < s.chip.maxConns → s.chip.opened .drove ctx n → n.spanRoom = true →
    AnswersSettled (.sessionClose h ctx) s ⟨0x0229, false, .w, paramBytes [4]⟩ h (fun r =>
      r.status = 0 ∧ r.chip.conn ctx (fun m => m.state = .closing ∧ m.unacked.map (fun u => (u.type, u.body)) = [(0x22, be 2 0x0012 ++ zeros 6)]) ∧ r.chip.loses ctx ∧
      s.chip.others ctx r.chip ∧ s.chip.sameBut netParts r.chip)) ∧
  (∀ (s : State) (h : Hdr) (ctx : Nat) (n : Conn), Ready s ⟨0x0229, false, .w, paramBytes [4]⟩ h [] → ctx < s.chip.maxConns → s.chip.conns.get? ctx = some n → n.transport ≠ .drove →
    AnswersSettled (.sessionClose h ctx) s ⟨0x0229, false, .w, paramBytes [4]⟩ h (fun r =>
      r.status = 0 ∧ r.chip.conns.get? ctx = none ∧ r.chip.loses ctx ∧ s.chip.others ctx r.chip ∧ s.chip.sameBut netParts r.chip))

/-- R165 to R174, R193, R281 to R283: arbitration and the I/O commands of the NVM command set. (Where a clause rests on a reading or a choice of the model, it is that of log entries 46, 47, 48, 49, 50 and 51.) -/
def Obligations.IoRows : Prop :=
  (∀ (s : State) (isl key cls n : Nat) (k : HostCmd) (rr : Tab (Nat × Nat)) (v : Volume), Live .network s → s.chip.cmdIslands.contains isl = true → s.chip.dumpBusy = false →
    s.chip.choose isl = some (key, k, cls, rr) → s.chip.intake.cmds.get? key = some k → k.io = true → k.sqe.opc = 0x01 → k.volume = some n → s.chip.vols.get? n = some v →
    s.chip.judge k n v = none →
    RunsSettled (.commandAdmit isl) s (fun c =>
      c.intake.cmds.get? key = some { k with cls := cls, seq := v.nextSeq, cost := s.chip.costOf k, st := .admitted } ∧ c.vols.get? n = some { v with nextSeq := v.nextSeq + 1 } ∧
      c.intake.rr = rr ∧ s.chip.sameBut [.intake, .vols, .shape, .regs, .tally, .hbm, .evt, .mgmt, .out] c)) ∧
  (∀ (s : State) (isl key cls : Nat) (k : HostCmd) (rr : Tab (Nat × Nat)), Live .network s → s.chip.cmdIslands.contains isl = true → s.chip.dumpBusy = false →
    s.chip.choose isl = some (key, k, cls, rr) → s.chip.intake.cmds.get? key = some k → k.io = false → s.chip.judgeAdmin k = none →
    RunsSettled (.commandAdmit isl) s (fun c =>
      c.intake.cmds.get? key = some { k with st := .admitted } ∧ c.intake.rr = rr ∧ c.get CMDQ_CNT_count 0 = min (s.chip.get CMDQ_CNT_count 0 + 1) (2 ^ CMDQ_CNT_count.width - 1) ∧
      s.chip.sameBut [.intake, .regs] c)) ∧
  (∀ (s : State) (isl : Nat), Live .gated s → Runs (.urgentWindowExpiry isl) s (fun c => c.intake.urgent.get? isl = none ∧ s.chip.keeps [.intake] (fun _ => False) c)) ∧
  (∀ (s : State) (isl v t : Nat) (r : Volume), Live .gated s → s.chip.shape.wheel = [(v, (t, false))] → t ≤ s.chip.clk → s.chip.vols.get? v = some r → s.chip.islandOf r.fold = isl →
    s.chip.eligibleAt v r.paddock isl ≤ s.chip.clk →
    Runs (.timingWheelSlot isl) s (fun c => c.shape.wheel = [] ∧ s.chip.sameBut [.shape, .regs, .tally, .hbm, .evt, .mgmt, .out] c)) ∧
  (∀ (s : State) (isl tag n : Nat) (k : HostCmd) (v : Volume) (x : Instr × Nat), Live .network s →
    x ∈ [(Instr.nvmeRead isl tag, 0x02), (Instr.nvmeCompare isl tag, 0x05), (Instr.nvmeVerify isl tag, 0x0C)] → s.chip.ioWaits (cmdKey isl tag) x.2 k n v → k.need = [] →
    s.chip.flag CACHE_CTL_prefetch_en = false →
    RunsSettled x.1 s (fun c => c.intake.cmds.get? (cmdKey isl tag) = some { k with st := .reading } ∧ s.chip.sameBut [.intake, .regs, .cache] c)) ∧
  (∀ (s : State) (isl tag n : Nat) (k : HostCmd) (v : Volume) (b : Blk), Live .network s → s.chip.ioWaits (cmdKey isl tag) 0x01 k n v → v.lbaf = 0 → k.blocks = [(0, b)] →
    s.chip.writeNeeds k v = [] →
    RunsSettled (.nvmeWrite isl tag) s (fun c =>
      (∃ o, c.intake.cmds.get? (cmdKey isl tag) = some { k with st := .waitRoom, need := [0], open_ := o }) ∧ c.making n k.lba k.seq b.data ∧
      s.chip.sameBut [.intake, .cache, .regs, .evt, .mgmt, .out] c)) ∧
  (∀ (s : State) (isl tag n kind a lo hi : Nat) (k : HostCmd) (v : Volume), Live .network s → s.chip.ioWaits (cmdKey isl tag) 0x01 k n v → v.lbaf = 0 →
    s.chip.writeNeeds k v = [(kind, a, lo, hi)] → s.chip.map.learns = [] →
    RunsSettled (.nvmeWrite isl tag) s (fun c =>
      c.intake.cmds.get? (cmdKey isl tag) = some { k with st := .waitLearn, learns := [s.chip.map.learnId] } ∧
      (∃ l, c.map.learns = [(s.chip.map.learnId, l)] ∧ l.kind = kind ∧ l.volume = n ∧ l.acre = a ∧ l.waiting = [cmdKey isl tag] ∧ l.admSeq = k.seq) ∧
      s.chip.sameBut [.intake, .map, .regs, .evt, .mgmt, .out] c)) ∧
  (∀ (s : State) (isl tag n a : Nat) (k : HostCmd) (v : Volume), Live .network s → s.chip.ioWaits (cmdKey isl tag) 0x08 k n v → s.chip.intake.cmds = [(cmdKey isl tag, k)] → s.chip.enginePaused = false →
    k.lba = a * 1024 → k.count = 1024 → s.chip.entryOf v a = none →
    RunsSettled (.nvmeWriteZeroes isl tag) s (fun c =>
      (∃ m d, c.intake.cmds.get? (cmdKey isl tag) = some { k with st := .waitHeld, need := [], open_ := [], lastMseq := m, lastDelta := d }) ∧
      s.chip.keeps [.intake, .regs] (fun x => inRange 0x600000 0x600200 x) c)) ∧
  (∀ (s : State) (isl tag n : Nat) (k : HostCmd) (v : Volume), Live .network s → s.chip.ioWaits (cmdKey isl tag) 0x08 k n v → s.chip.intake.cmds = [(cmdKey isl tag, k)] → s.chip.enginePaused = false →
    k.count = 1 → s.chip.learnKind v (acreOf k.lba) = none →
    RunsSettled (.nvmeWriteZeroes isl tag) s (fun c =>
      (c.intake.cmds.get? (cmdKey isl tag)).map (fun x => (x.st, x.need)) = some (.waitRoom, [0]) ∧ c.making n k.lba k.seq (zeros 4096) ∧
      s.chip.sameBut [.intake, .cache, .regs, .evt, .mgmt, .out] c)) ∧
  (∀ (s : State) (isl tag n : Nat) (k : HostCmd) (v : Volume), Live .network s → s.chip.ioWaits (cmdKey isl tag) 0x09 k n v → k.sqe.deallocates = false →
    RunsSettled (.nvmeDsm isl tag) s (fun c => s.chip.ends c (cmdKey isl tag) k 0 0 ∧ s.chip.vols = c.vols ∧ s.chip.sameBut cmdParts c)) ∧
  (∀ (s : State) (isl tag n lba : Nat) (k : HostCmd) (v : Volume), Live .network s → s.chip.ioWaits (cmdKey isl tag) 0x09 k n v → s.chip.intake.cmds = [(cmdKey isl tag, k)] → s.chip.enginePaused = false →
    k.sqe.deallocates = true → k.ranges = [(lba, 1)] → k.lba = 0 → s.chip.learnKind v (acreOf lba) = none →
    RunsSettled (.nvmeDsm isl tag) s (fun c =>
      (c.intake.cmds.get? (cmdKey isl tag)).map (fun x => (x.st, x.need)) = some (.waitRoom, [lba]) ∧ c.making n lba k.seq (zeros 4096) ∧
      s.chip.sameBut [.intake, .cache, .regs, .evt, .mgmt, .out] c)) ∧
  (∀ (s : State) (isl tag n : Nat) (k : HostCmd) (v : Volume), Live .network s → s.chip.ioWaits (cmdKey isl tag) 0x00 k n v →
    RunsSettled (.nvmeFlush isl tag) s (fun c =>
      c.intake.cmds.get? (cmdKey isl tag) = some { k with st := .waitFlush, multi := [(n, k.seq)] } ∧ s.chip.keeps [.intake] (fun _ => False) c)) ∧
  (∀ (s : State) (volume lba seq i w key : Nat) (l : Line) (k : HostCmd), Live .work s → seq ≠ 0 →
    (s.chip.blockLines volume lba).find? (fun e => e.2.2.st = .filling && e.2.2.seq = seq) = some (i, w, l) → (s.chip.cacheSet i).ways.get? w = some l →
    s.chip.intake.cmds = [(key, k)] → k.volume = some volume → k.seq = seq → k.st = .waitRoom → k.need = [lba - k.lba] →
    RunsSettled (.lineFillComplete volume lba seq) s (fun c =>
      (c.cacheSet i).ways.get? w = some { l with st := .dirty, bornNs := s.chip.clk } ∧ (c.intake.cmds.get? key).map (fun x => (x.st, x.need, x.units)) = some (.waitHeld, [], 0) ∧
      s.chip.sameBut [.intake, .cache, .mirror, .conns, .regs, .evt, .mgmt, .out] c))

/-- R172, R174, R185: a read whose block is gathered gives it to the host, a compare tells whether the blocks agree, and a damaged version ends with Internal Error; each frees its tag. (Where a clause rests on a reading or a choice of the model, it is that of log entries 50 and 56.) -/
def Obligations.ReadEnds : Prop :=
  (∀ (c : Chip) (key n : Nat) (k : HostCmd) (v : Volume) (b : Blk), c.ioWaits key 0x02 { k with st := .admitted } n v → c.intake.cmds.get? key = some k → v.lbaf = 0 → k.bad = 0 →
    k.count = 1 → k.got = [(0, b)] → k.fwd = none → k.silent = false → c.ends (c.endRead key k) key k 0 0 [b.data] ∧ c.sameBut cmdParts (c.endRead key k)) ∧
  (∀ (c : Chip) (key : Nat) (k : HostCmd) (b x : Blk), c.intake.cmds.get? key = some k → k.sqe.opc = 0x05 → k.bad = 0 → k.count = 1 → k.got = [(0, b)] → k.blocks = [(0, x)] →
    k.fwd = none → k.silent = false →
    c.ends (c.endRead key k) key k (if b.data = x.data.take 4096 then 0 else 0x285) 0 ∧ c.sameBut cmdParts (c.endRead key k)) ∧
  (∀ (c : Chip) (key : Nat) (k : HostCmd), c.intake.cmds.get? key = some k → k.bad ≠ 0 → k.fwd = none → k.silent = false →
    c.ends (c.endRead key k) key k k.bad 0 ∧ c.sameBut cmdParts (c.endRead key k))

/-- R128, R129, R150, R177 to R179, R184: reservations and Abort. (Where a clause rests on a reading or a choice of the model, it is that of log entries 9 and 55.) -/
def Obligations.ReservationRows : Prop :=
  (∀ (s : State) (isl tag n : Nat) (k : HostCmd) (v : Volume), Live .network s → s.chip.ioWaits (cmdKey isl tag) 0x0D k n v → k.sqe.cdw10 % 8 = 0 →
    k.sqe.cdw10 / 2 ^ 30 % 4 = 0 → v.keyOf k.ident = none → v.registrants.length < 64 →
    RunsSettled (.resvRegister isl tag) s (fun c =>
      (∃ key, key = unle (((k.blocks.getD 0 ⟨[], 0⟩).data.drop 8).take 8) ∧
        c.vols.get? n = some { v with registrants := v.registrants.filter (fun r => r.1 ≠ k.ident) ++ [(k.ident, key)], resvGen := v.resvGen + 1 }) ∧
      (c.intake.cmds.get? (cmdKey isl tag)).map (·.st) = some .waitHeld ∧ c.map.dseq = s.chip.map.dseq + 1 ∧ s.chip.sameBut [.vols, .intake, .map, .mirror, .out, .regs] c)) ∧
  (∀ (s : State) (isl tag n x : Nat) (k : HostCmd) (v : Volume), Live .network s → s.chip.ioWaits (cmdKey isl tag) 0x11 k n v → k.sqe.cdw10 % 8 = 0 →
    v.keyOf k.ident = some x → x = unle ((k.blocks.getD 0 ⟨[], 0⟩).data.take 8) → 1 ≤ k.sqe.cdw10 / 256 % 256 → k.sqe.cdw10 / 256 % 256 ≤ 6 → v.resvType = 0 →
    RunsSettled (.resvAcquire isl tag) s (fun c =>
      c.vols.get? n = some { v with holder := some k.ident, resvType := (k.sqe.cdw10 / 256 % 256) } ∧
      (c.intake.cmds.get? (cmdKey isl tag)).map (·.st) = some .waitHeld ∧ c.map.dseq = s.chip.map.dseq + 1 ∧ s.chip.sameBut [.vols, .intake, .map, .mirror, .out, .regs] c)) ∧
  (∀ (s : State) (isl tag n : Nat) (k : HostCmd) (v : Volume), Live .network s → s.chip.ioWaits (cmdKey isl tag) 0x11 k n v → k.sqe.cdw10 % 8 = 0 → v.keyOf k.ident = none →
    RunsSettled (.resvAcquire isl tag) s (fun c => s.chip.ends c (cmdKey isl tag) k stConflict 0 ∧ c.vols = s.chip.vols ∧ s.chip.sameBut cmdParts c)) ∧
  (∀ (s : State) (isl tag n x : Nat) (k : HostCmd) (v : Volume), Live .network s → s.chip.ioWaits (cmdKey isl tag) 0x15 k n v → k.sqe.cdw10 % 8 = 0 →
    v.keyOf k.ident = some x → x = unle ((k.blocks.getD 0 ⟨[], 0⟩).data.take 8) → v.holder = some k.ident → (v.resvType = 1 ∨ v.resvType = 2) →
    k.sqe.cdw10 / 256 % 256 = v.resvType →
    RunsSettled (.resvRelease isl tag) s (fun c =>
      c.vols.get? n = some { v with holder := none, resvType := 0 } ∧
      (c.intake.cmds.get? (cmdKey isl tag)).map (·.st) = some .waitHeld ∧ c.map.dseq = s.chip.map.dseq + 1 ∧ s.chip.sameBut [.vols, .intake, .map, .mirror, .out, .regs] c)) ∧
  (∀ (s : State) (isl tag n : Nat) (k : HostCmd) (v : Volume), Live .network s → s.chip.ioWaits (cmdKey isl tag) 0x0E k n v → bit k.sqe.cdw11 0 = true → v.registrants = [] →
    RunsSettled (.resvReport isl tag) s (fun c =>
      s.chip.ends c (cmdKey isl tag) k 0 0 [(padTo 64 (le 4 v.resvGen ++ le 1 v.resvType ++ le 2 0 ++ zeros 2 ++ le 1 (b2n v.ptpl))).take ((k.sqe.cdw10 + 1) * 4)] ∧
      s.chip.sameBut cmdParts c)) ∧
  (∀ (s : State) (tag : Nat) (k : HostCmd) (n : Conn), Live .network s → s.chip.adminWaits tag 0x08 k n → n.connected = true → s.chip.intake.cmds = [(cmdKey 0 tag, k)] →
    s.chip.intake.forwards = [] → (∀ e ∈ s.chip.conns, ¬ (e.2.connected = true ∧ e.2.ctrl = n.ctrl ∧ e.2.qid = k.sqe.cdw10 % 65536)) →
    RunsSettled (.nvmeAbort tag) s (fun c => s.chip.ends c (cmdKey 0 tag) k 0 1 ∧ s.chip.sameBut cmdParts c)) ∧
  (∀ (s : State) (tag key ctx : Nat) (k x : HostCmd) (n m : Conn), Live .network s → s.chip.adminWaits tag 0x08 k n → n.connected = true →
    s.chip.intake.cmds = [(cmdKey 0 tag, k), (key, x)] → key ≠ cmdKey 0 tag → s.chip.intake.forwards = [] →
    s.chip.conns.first? (fun _ m => m.connected && m.ctrl = n.ctrl && m.qid = k.sqe.cdw10 % 65536) = some (ctx, m) → k.ctx ≠ ctx → x.ctx = ctx → x.sqe.cid = k.sqe.cdw10 / 65536 →
    x.fwd = none → x.silent = false → x.abortable = true →
    RunsSettled (.nvmeAbort tag) s (fun c =>
      c.intake.cmds = [] ∧ c.intake.done = s.chip.intake.done ++ [⟨x.ctx, x.sqe.cid, 0, 7, 0, x.sqe.key, [], false, x.sqe.invalidates⟩, ⟨k.ctx, k.sqe.cid, 0, 0, 0, k.sqe.key, [], false, k.sqe.invalidates⟩] ∧
      s.chip.sameBut cmdParts c))

/-- R126, R163, R164, R176, R184: controllers, from Connect to the loss of the association, and the admin commands that a host may send. (Where a clause rests on a reading or a choice of the model, it is that of log entries 9, 52, 53 and 54.) -/
def Obligations.ControllerRows : Prop :=
  (∀ (s : State) (tag host pad : Nat) (k : HostCmd) (n : Conn) (data : Bytes), Live .network s → s.chip.adminWaits tag 0x7F k n → k.sqe.fctype = 1 → n.connected = false →
    k.sqe.cdw10 = 0 → 1 ≤ k.sqe.cdw11 % 65536 → k.sqe.cdw11 % 65536 ≤ 31 → 1024 ≤ k.dataLen → data = (k.blocks.getD 0 ⟨[], 0⟩).data → unle ((data.drop 16).take 2) = 0xFFFF →
    s.chip.access n (nameAt data 256) (nqnHashOf (nameAt data 512)) = .host host pad → host ≠ 0xFFFF → s.chip.ctrls = [] →
    RunsSettled (.fabricsConnect tag) s (fun c =>
      ∃ i, 1 ≤ i ∧ i < 65520 ∧ s.chip.ends c (cmdKey 0 tag) k 0 i ∧
        c.ctrls = [(i, newCtrl host (unle (data.take 16)) pad (katoOf k.sqe.cdw12) s.chip.clk (nqnHashOf (nameAt data 512)) false)] ∧
        c.conn k.ctx (fun m => m.connected = true ∧ m.ctrl = i ∧ m.qid = 0 ∧ m.host = some host ∧ m.paddock = pad ∧ m.qsize = k.sqe.cdw11 % 65536 + 1 ∧ m.cls = 2) ∧
        s.chip.sameBut (.freeN :: cmdParts) c)) ∧
  (∀ (s : State) (tag host pad cntlid : Nat) (k : HostCmd) (n : Conn) (t : Ctrl) (data : Bytes), Live .network s → s.chip.adminWaits tag 0x7F k n → k.sqe.fctype = 1 →
    n.connected = false → k.sqe.cdw10 % 65536 = 0 → 1 ≤ k.sqe.cdw10 / 65536 → k.sqe.cdw10 / 65536 ≤ 128 → 1 ≤ k.sqe.cdw11 % 65536 → k.sqe.cdw11 % 65536 ≤ 1023 → 1024 ≤ k.dataLen →
    data = (k.blocks.getD 0 ⟨[], 0⟩).data → unle ((data.drop 16).take 2) = cntlid →
    s.chip.access n (nameAt data 256) (nqnHashOf (nameAt data 512)) = .host host pad → host ≠ 0xFFFF → s.chip.ctrls.get? cntlid = some t → t.discovery = false → t.paddock = pad →
    t.hostIdent = unle (data.take 16) → t.nqnHash = nqnHashOf (nameAt data 512) → (∀ e ∈ s.chip.conns, ¬ (e.2.connected = true ∧ e.2.ctrl = cntlid ∧ e.2.qid = k.sqe.cdw10 / 65536)) →
    RunsSettled (.fabricsConnect tag) s (fun c =>
      s.chip.ends c (cmdKey 0 tag) k 0 cntlid ∧ c.ctrls = s.chip.ctrls ∧
      c.conn k.ctx (fun m => m.connected = true ∧ m.ctrl = cntlid ∧ m.qid = k.sqe.cdw10 / 65536 ∧ m.cls = s.chip.queueClass host (k.sqe.cdw10 / 65536)) ∧ s.chip.sameBut cmdParts c)) ∧
  (∀ (s : State) (tag : Nat) (k : HostCmd) (n : Conn) (data : Bytes), Live .network s → s.chip.adminWaits tag 0x7F k n → k.sqe.fctype = 1 → n.connected = false →
    k.sqe.cdw10 % 65536 = 0 → 1024 ≤ k.dataLen → data = (k.blocks.getD 0 ⟨[], 0⟩).data →
    s.chip.access n (nameAt data 256) (nqnHashOf (nameAt data 512)) = .refused stConnectHost →
    RunsSettled (.fabricsConnect tag) s (fun c =>
      s.chip.ends c (cmdKey 0 tag) k stConnectHost 0 ∧ c.conn k.ctx (fun m => m.connected = false) ∧ s.chip.sameBut cmdParts c)) ∧
  (∀ (s : State) (tag : Nat) (k : HostCmd) (n : Conn), Live .network s → s.chip.adminWaits tag 0x7F k n → k.sqe.fctype = 8 → n.connected = true →
    RunsSettled (.fabricsDisconnect tag) s (fun c => s.chip.ends c (cmdKey 0 tag) k 0 0 [] true ∧ s.chip.sameBut cmdParts c)) ∧
  (∀ (s : State) (tag : Nat) (k : HostCmd) (n : Conn) (t : Ctrl) (x : Nat × Nat × Nat), Live .network s → s.chip.ctrlWaits tag 0x7F k n t → k.sqe.fctype = 4 →
    x ∈ [(0x00, 1, capValue), (0x08, 0, 0x20000), (0x14, 0, t.cc), (0x1C, 0, t.csts)] → k.sqe.cdw11 = x.1 → k.sqe.cdw10 % 8 = x.2.1 →
    RunsSettled (.propertyGet tag) s (fun c => s.chip.ends c (cmdKey 0 tag) k 0 x.2.2 ∧ c.ctrls = s.chip.ctrls ∧ s.chip.sameBut cmdParts c)) ∧
  (∀ (s : State) (tag : Nat) (k : HostCmd) (n : Conn) (t : Ctrl), Live .network s → s.chip.ctrlWaits tag 0x7F k n t → k.sqe.fctype = 0 → k.sqe.cdw11 = 0x14 → k.sqe.cdw10 % 8 = 0 →
    RunsSettled (.propertySet tag) s (fun c =>
      s.chip.ends c (cmdKey 0 tag) k 0 0 ∧
      c.ctrls.get? n.ctrl = some { t with cc := k.sqe.cdw12 % 2 ^ 32, csts := b2n (bit (k.sqe.cdw12 % 2 ^ 32) 0) + (if bits (k.sqe.cdw12 % 2 ^ 32) 15 14 = 0 then 0 else 8) } ∧
      s.chip.sameBut cmdParts c)) ∧
  (∀ (s : State) (tag : Nat) (k : HostCmd) (n : Conn) (t : Ctrl), Live .network s → s.chip.ctrlWaits tag 0x18 k n t →
    RunsSettled (.keepAlive tag) s (fun c =>
      s.chip.ends c (cmdKey 0 tag) k 0 0 ∧ c.ctrls.get? n.ctrl = some { t with kaAt := s.chip.clk } ∧ s.chip.sameBut cmdParts c)) ∧
  (∀ (s : State) (i ctx : Nat) (t : Ctrl) (n : Conn), Live .network s → s.chip.ctrls.get? i = some t → t.kato ≠ 0 → s.chip.conns = [(ctx, n)] → n.connected = true → n.ctrl = i →
    n.state = .opened →
    RunsSettled (.keepAliveExpiry i) s (fun c => c.ctrls.get? i = none ∧ c.loses ctx ∧ s.chip.sameBut (.ctrls :: netParts) c)) ∧
  (∀ (s : State) (tag : Nat) (k : HostCmd) (n : Conn) (t : Ctrl), Live .network s → s.chip.ctrlWaits tag 0x06 k n t → k.sqe.cdw10 % 256 = 0x01 →
    RunsSettled (.identifyCmd tag) s (fun c =>
      s.chip.ends c (cmdKey 0 tag) k 0 0 [padTo 4096 (s.chip.identifyCtrl n.ctrl t)] ∧ c.ctrls = s.chip.ctrls ∧ s.chip.sameBut cmdParts c)) ∧
  (∀ (s : State) (tag vol : Nat) (k : HostCmd) (n : Conn) (t : Ctrl) (v : Volume), Live .network s → s.chip.ctrlWaits tag 0x06 k n t → k.sqe.cdw10 % 256 = 0x00 → t.discovery = false →
    s.chip.activeNs t = [(k.sqe.nsid, vol)] → s.chip.vols.get? vol = some v →
    RunsSettled (.identifyCmd tag) s (fun c =>
      s.chip.ends c (cmdKey 0 tag) k 0 0 [padTo 4096 (v.identify k.sqe.nsid)] ∧ c.ctrls = s.chip.ctrls ∧ s.chip.sameBut cmdParts c)) ∧
  (∀ (s : State) (tag : Nat) (k : HostCmd) (n : Conn) (t t' : Ctrl) (b : Bytes), Live .network s → s.chip.ctrlWaits tag 0x02 k n t → k.volume = none →
    s.chip.logPage (k.sqe.cdw10 % 256) (k.sqe.cdw10 / 256 % 128) t = some (b, t') → k.sqe.cdw12 = 0 → k.sqe.cdw13 = 0 →
    RunsSettled (.getLogPage tag) s (fun c =>
      s.chip.ends c (cmdKey 0 tag) k 0 0 [b.take ((k.sqe.cdw10 / 65536 + k.sqe.cdw11 % 65536 * 65536 + 1) * 4)] ∧
      c.ctrls.get? n.ctrl = some (if bit k.sqe.cdw10 15 then t else t') ∧ s.chip.sameBut cmdParts c)) ∧
  (∀ (s : State) (tag : Nat) (k : HostCmd) (n : Conn) (t : Ctrl) (x : Nat × Ctrl), Live .network s → s.chip.ctrlWaits tag 0x09 k n t →
    x ∈ [(0x0B, { t with aenCfg := k.sqe.cdw11 }), (0x0F, { t with kato := katoOf k.sqe.cdw11, kaAt := s.chip.clk }), (0x82, { t with resvMask := k.sqe.cdw11 })] →
    k.sqe.cdw10 % 256 = x.1 →
    RunsSettled (.setFeatures tag) s (fun c => s.chip.ends c (cmdKey 0 tag) k 0 0 ∧ c.ctrls.get? n.ctrl = some x.2 ∧ s.chip.sameBut cmdParts c)) ∧
  (∀ (s : State) (tag : Nat) (k : HostCmd) (n : Conn) (t : Ctrl) (x : Nat × Nat), Live .network s → s.chip.ctrlWaits tag 0x0A k n t →
    x ∈ [(0x07, 127 + 127 * 65536), (0x0B, t.aenCfg), (0x0F, t.kato), (0x82, t.resvMask)] → k.sqe.cdw10 % 256 = x.1 →
    RunsSettled (.getFeatures tag) s (fun c => s.chip.ends c (cmdKey 0 tag) k 0 x.2 ∧ c.ctrls = s.chip.ctrls ∧ s.chip.sameBut cmdParts c)) ∧
  (∀ (s : State) (tag e : Nat) (k : HostCmd) (n : Conn) (t : Ctrl) (rest : List Nat), Live .network s → s.chip.ctrlWaits tag 0x0C k n t → t.aenWait = e :: rest →
    RunsSettled (.asyncEventRequest tag) s (fun c =>
      s.chip.ends c (cmdKey 0 tag) k 0 e ∧ c.ctrls.get? n.ctrl = some { t with aenWait := rest, aenSent := addNew e t.aenSent } ∧ s.chip.sameBut cmdParts c)) ∧
  (∀ (s : State) (tag : Nat) (k : HostCmd) (n : Conn) (t : Ctrl), Live .network s → s.chip.ctrlWaits tag 0x0C k n t → t.aenWait = [] → t.aerHeld = [] →
    RunsSettled (.asyncEventRequest tag) s (fun c =>
      c.intake.cmds.get? (cmdKey 0 tag) = some { k with st := .event } ∧ c.ctrls.get? n.ctrl = some { t with aerHeld := [cmdKey 0 tag] } ∧
      s.chip.keeps [.intake, .ctrls] (fun _ => False) c)) ∧
  (∀ (s : State) (tag flock acres : Nat) (k : HostCmd) (n : Conn) (t : Ctrl) (data : Bytes), Live .network s → s.chip.ctrlWaits tag 0x0D k n t → t.discovery = false →
    k.sqe.cdw10 % 16 = 0 → data = (k.blocks.getD 0 ⟨[], 0⟩).data → unle ((data.drop 92).take 4) = 1 → unle ((data.drop 26).take 1) % 16 = 0 → acres = ceilDiv (unle (data.take 8)) 1024 →
    1 ≤ acres → acres < 2 ^ 40 → s.chip.stripes.flocks.keys = [flock] → s.chip.cipher.pads.has t.paddock = true → s.chip.vols = [] → s.chip.allEntries = [] →
    RunsSettled (.namespaceManagement tag) s (fun c =>
      (Config.hostPermitsNs t.host = true → s.chip.ends c (cmdKey 0 tag) k 0 1 ∧ c.vols = [(0, newVolume t.paddock 1 0 flock acres 0 0)]) ∧
      (Config.hostPermitsNs t.host = false → s.chip.ends c (cmdKey 0 tag) k stInvalidField 0 ∧ c.vols = []) ∧ s.chip.sameBut (.vols :: .freeN :: cmdParts) c)) ∧
  (∀ (s : State) (tag ns vol i : Nat) (k : HostCmd) (n : Conn) (t u : Ctrl) (v : Volume) (data : Bytes), Live .network s → s.chip.ctrlWaits tag 0x15 k n t → t.discovery = false →
    k.sqe.cdw10 % 16 = 0 → (s.chip.allNs t.paddock).find? (fun x => x.1 = k.sqe.nsid) = some (ns, vol) → s.chip.vols.get? vol = some v → data = (k.blocks.getD 0 ⟨[], 0⟩).data →
    unle (data.take 2) = 1 → unle ((data.drop 2).take 2) = i → s.chip.ctrls.get? i = some u → u.discovery = false → u.paddock = t.paddock →
    s.chip.grants.get? (grantKey u.host ns) = none → (∀ e ∈ s.chip.ctrls, e.2.aerHeld = []) →
    RunsSettled (.namespaceAttachment tag) s (fun c =>
      (Config.hostPermitsNs t.host = true → s.chip.ends c (cmdKey 0 tag) k 0 0 ∧ c.grants.get? (grantKey u.host ns) = some ⟨vol, !v.writable, s.chip.grantNo⟩) ∧
      (Config.hostPermitsNs t.host = false → s.chip.ends c (cmdKey 0 tag) k stInvalidField 0 ∧ c.grants = s.chip.grants) ∧
      s.chip.sameBut (.vols :: .grants :: .grantNo :: cmdParts) c))

/-- R124 to R127, R132, R164, R165, R275, R366, R435: the commands on paddocks, volumes, hosts and grants. (Where a clause rests on a reading or a choice of the model, it is that of log entries 41, 42 and 43.) -/
def Obligations.VolumeRows : Prop :=
  (∀ (s : State) (h : Hdr) (p : Nat) (nqn : Bytes), p < 2048 → 1 ≤ nqn.length → nqn.length ≤ 223 → s.chip.paddocks.has p = false → (∀ e ∈ s.chip.paddocks, e.2.nqn ≠ nqn) →
    AskedPair (.paddockCreate h p nqn) s ⟨0x0100, true, .w, paramBytes [2, 2] + 4 + nqn.length⟩ h [p] (fun r =>
      accepted r.status = true ∧ r.chip.paddocks.get? p = some ⟨nqn⟩ ∧ (∀ q, q ≠ p → r.chip.paddocks.get? q = s.chip.paddocks.get? q) ∧
      s.chip.keeps [.paddocks, .mgmt, .out] (fun _ => False) r.chip)) ∧
  (∀ (s : State) (h : Hdr) (p : Nat), p < 2048 → s.chip.paddocks.has p = true → (∀ v ∈ s.chip.vols, v.2.paddock ≠ p) → (∀ x ∈ s.chip.hosts, x.2.paddock ≠ p) →
    AskedPair (.paddockDelete h p) s ⟨0x0101, true, .w, paramBytes [2]⟩ h [p] (fun r =>
      accepted r.status = true ∧ r.chip.paddocks.get? p = none ∧ (∀ q, q ≠ p → r.chip.paddocks.get? q = s.chip.paddocks.get? q) ∧
      s.chip.keeps [.paddocks, .mgmt, .out] (fun _ => False) r.chip)) ∧
  (∀ (s : State) (h : Hdr) (p image : Nat), p < 2048 → s.chip.paddocks.has p = true →
    AskedPair (.paddockArbSet h p image) s ⟨0x0102, true, .w, paramBytes [2, 4]⟩ h [p] (fun r =>
      accepted r.status = true ∧ r.chip.shows CMDQ_PADDOCK_ARB image p ∧ s.chip.keeps [.regs, .mgmt, .out] (regKeys CMDQ_PADDOCK_ARB p 0) r.chip)) ∧
  (∀ (s : State) (h : Hdr) (p i : Nat), p < 2048 → s.chip.paddocks.has p = true → s.chip.cipher.erases.has p = false → importGuards s.chip p = none → h.src ≠ .partner →
    s.chip.loSlot = some i → i < 64 →
    AskedPairSettled (.paddockErase h p 0 []) s ⟨0x0103, true, .l, paramBytes [2, 1]⟩ h [p] (fun r =>
      r.status = 1 ∧ r.handle % 64 = i ∧ (r.chip.cipher.erases.get? p).map (fun e => (e.step, e.slot, e.asked)) = some (1, some i, false) ∧
      (∀ k, s.chip.cipher.pads.get? p = some k → r.chip.cipher.pads.get? p = some { k with state := 2 }) ∧ s.chip.sameBut (.cipher :: .vols :: evtParts) r.chip)) ∧
  (∀ (s : State) (h : Hdr) (p : Nat), p < 2048 → s.chip.paddocks.has p = true →
    Asked (.paddockGet h p) s ⟨0x0104, false, .r, paramBytes [2]⟩ h [p] (fun r =>
      r.status = 0 ∧ r.chip = s.chip.unfetch h 0x0104 ∧
      r.data.take 8 = le 2 (s.chip.vols.filter (fun v => v.2.paddock = p)).length ++ le 2 (s.chip.hosts.filter (fun x => x.2.paddock = p)).length ++
        le 1 (s.chip.ports.redAction.getD p 0) ++ zeros 1 ++ le 2 (s.chip.overheadOf p))) ∧
  (∀ (s : State) (h : Hdr) (volume p nsid fold flock acres : Nat) (f : Flock), volume < 32768 → p < 2048 → 1 ≤ nsid → nsid ≤ 65535 → fold < 8 → flock < 4 → 1 ≤ acres →
    acres < 2 ^ 40 → s.chip.paddocks.has p = true → s.chip.flock? flock = some f → s.chip.cipher.pads.has p = true → s.chip.volumeHeld volume = false →
    s.chip.lineageInUse volume = false → s.chip.nsidHeld p nsid = false →
    AskedPairSettled (.volumeCreate h volume p nsid fold flock acres) s ⟨0x0110, true, .w, paramBytes [2, 2, 2, 1, 1, 8]⟩ h [p] (fun r =>
      accepted r.status = true ∧ r.chip.vols.get? volume = some (newVolume p nsid fold flock acres volume 0) ∧ (∀ x, x ≠ volume → r.chip.vols.get? x = s.chip.vols.get? x) ∧
      s.chip.sameBut [.vols, .regs, .mgmt, .out] r.chip)) ∧
  (∀ (s : State) (h : Hdr) (volume : Nat) (v : Volume), volume < 32768 → s.chip.vols.get? volume = some v → (∀ g ∈ s.chip.grants, g.2.volume ≠ volume) →
    s.chip.stageHere v.fold = true →
    AskedPairSettled (.volumeDelete h volume) s ⟨0x0111, true, .w, paramBytes [2]⟩ h [] (fun r =>
      r.later = true ∧ r.chip.vols.get? volume = some (if s.chip.flag TWIN_FOLD_STAT_gate_open v.fold then { v with marks := v.marks ++ [⟨v.nextSeq, .remove, h⟩], nextSeq := v.nextSeq + 1 }
        else { v with marks := v.marks ++ [⟨0, .remove, h⟩] }) ∧
      s.chip.keeps [.vols, .mgmt, .out] (fun _ => False) r.chip)) ∧
  (∀ (s : State) (h : Hdr) (volume acres : Nat) (v : Volume), s.chip.vols.get? volume = some v → v.acres ≤ acres → 1 ≤ acres → acres < 2 ^ 40 →
    AskedPairSettled (.volumeResize h volume acres) s ⟨0x0112, true, .w, paramBytes [2, 8]⟩ h [] (fun r =>
      accepted r.status = true ∧ (r.chip.vols.get? volume).map (·.acres) = some acres ∧ s.chip.sameBut (.vols :: cmdParts) r.chip)) ∧
  (∀ (s : State) (h : Hdr) (source volume nsid : Nat) (w : Bool) (v : Volume), s.chip.vols.get? source = some v → volume < 32768 → 1 ≤ nsid → nsid ≤ 65535 →
    s.chip.volumeHeld volume = false → s.chip.lineageInUse volume = false → s.chip.nsidHeld v.paddock nsid = false → v.epoch + v.advances < 2 ^ 20 - 1 → v.childAncestry.length ≤ 8 →
    (s.chip.pendingMembers.filter (fun y => y.2.1 = v.lineage)).length < (s.chip.freeMembers v.lineage).length →
    ∀ x ∈ [if w then Instr.cloneCreate h source volume nsid else Instr.snapshotCreate h source volume nsid],
      AskedPairSettled x s (memberInfo w) h [] (fun r =>
        r.later = true ∧ r.chip.vols.get? source = some (if s.chip.flag TWIN_FOLD_STAT_gate_open v.fold then
          { v with marks := v.marks ++ [⟨v.nextSeq, .member volume nsid w, h⟩], nextSeq := v.nextSeq + 1 } else { v with marks := v.marks ++ [⟨0, .member volume nsid w, h⟩] }) ∧
        s.chip.keeps [.vols, .mgmt, .out] (fun _ => False) r.chip)) ∧
  (∀ (s : State) (h : Hdr) (volume image : Nat), volume < 32768 → s.chip.vols.has volume = true →
    AskedPair (.volumeArbSet h volume image) s ⟨0x0115, true, .w, paramBytes [2, 4]⟩ h [] (fun r =>
      accepted r.status = true ∧ r.chip.shows CMDQ_VOL_ARB image volume ∧ s.chip.keeps [.regs, .mgmt, .out] (regKeys CMDQ_VOL_ARB volume 0) r.chip)) ∧
  (∀ (s : State) (h : Hdr) (volume i : Nat) (v : Volume), s.chip.vols.get? volume = some v → v.ancestry ≠ [] → v.writable = true →
    (∀ x ∈ s.chip.membersOf v.lineage, ∀ y ∈ x.ancestry, y.1 ≠ v.member) → s.chip.stripes.bg = [] → s.chip.loSlot = some i → i < 64 →
    s.chip.flag TWIN_FOLD_STAT_gate_open v.fold = true →
    AskedPairSettled (.volumeDetach h volume) s ⟨0x0116, true, .l, paramBytes [2]⟩ h [] (fun r =>
      r.longOp i 0x0116 v.acres ∧ r.chip.hasBg (fun o => o.kind = 6 ∧ o.volume = volume ∧ o.slot = i ∧ o.step = 1 ∧ o.pos = 0) ∧ s.chip.sameBut storeParts r.chip)) ∧
  (∀ (s : State) (h : Hdr) (volume : Nat) (v : Volume), s.chip.vols.get? volume = some v →
    Asked (.volumeGet h volume) s ⟨0x0117, false, .r, paramBytes [2]⟩ h [] (fun r =>
      r.status = 0 ∧ r.chip = s.chip.unfetch h 0x0117 ∧ r.data.take 16 = le 2 v.paddock ++ le 2 v.nsid ++ le 1 v.fold ++ le 1 v.flock ++ zeros 2 ++ le 8 v.acres)) ∧
  (∀ (s : State) (h : Hdr) (host p limit n hash : Nat) (pfx : List HostPrefix) (identity : Bytes), host < 4096 → p < 2048 → n ≤ 4 → identity.length ≤ 128 →
    prefixRefusal (pfx.take n) = none → s.chip.paddocks.has p = true →
    AskedPair (.hostSet h host p limit n hash pfx identity) s ⟨0x0200, true, .w, paramBytes [2, 2, 2, 1, 1, 8] + 96 + identity.length⟩ h [p] (fun r =>
      accepted r.status = true ∧ r.chip.hosts.get? host = some ⟨p, limit, hash, if identity = [] then none else some identity, pfx.take n⟩ ∧
      (∀ x, x ≠ host → r.chip.hosts.get? x = s.chip.hosts.get? x) ∧ s.chip.keeps [.hosts, .mgmt, .out] (fun _ => False) r.chip)) ∧
  (∀ (s : State) (h : Hdr) (host : Nat), host < 4096 → s.chip.hosts.has host = true →
    AskedPairSettled (.hostClear h host) s ⟨0x0201, true, .w, paramBytes [2]⟩ h [] (fun r =>
      accepted r.status = true ∧ r.chip.hosts.get? host = none ∧ s.chip.keeps [.hosts, .mgmt, .out] (fun _ => False) r.chip)) ∧
  (∀ (s : State) (h : Hdr) (host : Nat) (e : HostEntry), s.chip.hosts.get? host = some e →
    Asked (.hostGet h host) s ⟨0x0202, false, .r, paramBytes [2]⟩ h [] (fun r =>
      r.status = 0 ∧ r.chip = s.chip.unfetch h 0x0202 ∧
      r.data.take 16 = le 2 host ++ le 2 e.paddock ++ le 2 e.connLimit ++ le 1 e.prefixes.length ++ le 1 (e.identity.getD []).length ++ le 8 e.nqnHash)) ∧
  (∀ (s : State) (h : Hdr) (host band image : Nat), host < 4096 → band < 4 →
    AskedPair (.hostClassSet h host band image) s ⟨0x0204, true, .w, paramBytes [2, 1, 4]⟩ h [] (fun r =>
      accepted r.status = true ∧ r.chip.shows CMDQ_HOST_CLASS image host band ∧ s.chip.keeps [.regs, .mgmt, .out] (regKeys CMDQ_HOST_CLASS host band) r.chip)) ∧
  (∀ (s : State) (h : Hdr) (host volume mode : Nat) (e : HostEntry) (v : Volume), s.chip.hosts.get? host = some e → s.chip.vols.get? volume = some v → v.paddock = e.paddock →
    mode < 2 → (v.writable = false → mode = 1) → s.chip.grants.get? (grantKey host v.nsid) = none → s.chip.grants.length < s.chip.maxGrants →
    AskedPairSettled (.grantSet h host v.nsid volume mode) s ⟨0x0210, true, .w, paramBytes [2, 2, 2, 1]⟩ h [] (fun r =>
      accepted r.status = true ∧ r.chip.grants.get? (grantKey host v.nsid) = some ⟨volume, decide (mode = 1), s.chip.grantNo⟩ ∧
      s.chip.sameBut (.vols :: .grants :: .grantNo :: cmdParts) r.chip)) ∧
  (∀ (s : State) (h : Hdr) (host nsid : Nat), host < 4096 → s.chip.grants.has (grantKey host nsid) = true →
    AskedPairSettled (.grantClear h host nsid) s ⟨0x0211, true, .w, paramBytes [2, 2]⟩ h [] (fun r =>
      accepted r.status = true ∧ r.chip.grants.get? (grantKey host nsid) = none ∧ s.chip.sameBut (.vols :: .grants :: cmdParts) r.chip)) ∧
  (∀ (s : State) (h : Hdr) (host nsid : Nat) (g : Grant), host < 4096 → nsid < 65536 → s.chip.grants = [(grantKey host nsid, g)] →
    Asked (.grantList h host 0) s ⟨0x0212, false, .r, paramBytes [2, 2]⟩ h [] (fun r =>
      Reads s h 0x0212 r (le 2 1 ++ le 2 nsid ++ le 2 g.volume ++ le 1 (b2n g.readOnly) ++ zeros 3)))

/-- R138, R142 to R149, R153 to R156, R270 to R275, R361, R362, R460: the map, learns, rehashing, paths and their exchange, shearing, detaching and freeing. (Where a clause rests on a reading or a choice of the model, it is that of log entries 34, 35, 36, 37, 38, 39, 40, 44, 45, 81, 82, 83 and 84.) -/
def Obligations.MapRows : Prop :=
  (∀ (s : State) (h : Hdr) (volume lba : Nat) (v : Volume), volume < 32768 → s.chip.vols.get? volume = some v →
    Asked (.mapLookup h volume lba) s ⟨0x0300, false, .r, paramBytes [2, 8]⟩ h [] (fun r =>
      r.status = 0 ∧ s.chip.sameBut evtParts r.chip ∧ r.data = (match s.chip.entryOf v (acreOf lba) with
        | none => zeros 16
        | some e => le 1 (if e.zero then 2 else 1) ++ le 1 e.k ++ le 1 e.owner ++ le 1 (b2n (e.unshared v v.epoch)) ++ le 1 e.flock ++ zeros 3 ++
            le 4 (if e.zero then 0 else e.acre (acreOf lba)) ++ le 4 e.birth))) ∧
  (∀ (s : State) (h : Hdr) (flock pa : Nat) (f : Flock) (a : AcreRec), flock < 4 → s.chip.flock? flock = some f → f.acres.get? pa = some a →
    Asked (.mapReverse h flock pa) s ⟨0x0301, false, .r, paramBytes [1, 4]⟩ h [] (fun r =>
      Reads s h 0x0301 r (le 2 a.paddock ++ le 2 a.lineage ++ le 1 a.fold ++ zeros 3 ++ le 4 a.lowGen ++ le 4 a.highGen))) ∧
  (∀ (s : State) (h : Hdr) (half k x i : Nat) (y : Nat × Nat), half < 2 → k < 21 → 10 ≤ x → x ≤ 27 → s.chip.rehashBusy half = false → s.chip.drbgStopped = false → s.chip.loSlot = some i → i < 64 →
    (s.chip.freeChunks half).find? (fun z => decide (2 ^ x * 64 ≤ z.2)) = some y →
    AskedSettled (.mapRehash h half k x) s ⟨0x0302, false, .l, paramBytes [1, 1, 1]⟩ h [] (fun r =>
      r.longOp i 0x0302 (2 ^ (s.chip.table half k).s) ∧ (r.chip.map.rehash.get? half).map (fun z => (z.k, z.slot, z.newS, z.newBase, z.pos)) = some (k, i, x, y.1, 0) ∧
      r.chip.get MAP_TBL_NEXT_active half k = 1 ∧ r.chip.get MAP_TBL_NEXT_s half k = x ∧ s.chip.sameBut [.map, .hbm, .freeN, .regs, .evt, .mgmt, .out] r.chip)) ∧
  (∀ (s : State) (h : Hdr) (half : Nat), half < 2 →
    Asked (.mapStatGet h half) s ⟨0x0303, false, .r, paramBytes [1]⟩ h [] (fun r =>
      Reads s h 0x0303 r ((List.range 21).flatMap (fun k => s.chip.image MAP_TBL_STAT half k) ++ s.chip.image MAP_FB_STAT half))) ∧
  (∀ (s : State) (h : Hdr) (seconds : Nat), s.chip.exchanging = false → s.chip.map.paths = [] →
    AskedPair (.mapExchangeTest h seconds) s ⟨0x0C20, true, .w, paramBytes [2]⟩ h [] (fun r =>
      accepted r.status = true ∧ r.chip.exchanging = true ∧ r.chip.map.sendSeq = 0 ∧ s.chip.sameBut (.map :: evtParts) r.chip)) ∧
  (∀ (s : State) (half : Nat), Live .up s → half < 2 → Runs (.learnPeakClr half) s (fun c =>
    c.get MAP_LEARN_STAT_peak half = 0 ∧ s.chip.keeps [.regs] (fun x => x = MAP_LEARN_STAT_peak.key half 0) c)) ∧
  (∀ (s : State) (half key : Nat) (e : PathEntry), Live .gated s → s.chip.map.paths = [(key, e)] → key % 2 = half → e.flow = false → s.chip.exchanging = false →
    clamp 1 3600 (s.chip.get MAP_PATH_CFG_age_s) ≤ ahead 16 (s.chip.clk / second % 65536) e.stampS →
    Runs (.pathAgeSweep half) s (fun c => c.map.paths = [] ∧ c.get MAP_PATH_STAT_entries = 0 ∧ s.chip.sameBut [.map, .conns, .regs] c)) ∧
  (∀ (s : State) (seq key : Nat) (e : PathEntry), Live .gated s → s.chip.exchanging = true → s.chip.map.foreignWait = [] → seq = s.chip.nextLearning →
    Runs (.learningMsgRx ⟨1, 1 - b2n s.chip.id.chipB⟩ seq key e) s (fun c =>
      c.map.foreign.get? key = some { e with flow := false } ∧ c.map.foreignSeq = some seq ∧ c.map.paths = s.chip.map.paths ∧ s.chip.sameBut [.map, .regs] c)) ∧
  (∀ (s : State) (seq key : Nat) (e : PathEntry), Live .gated s → s.chip.exchanging = true → s.chip.map.foreignWait.has seq = false → 0 < ahead 32 seq s.chip.nextLearning →
    ahead 32 seq s.chip.nextLearning < 2 ^ 31 →
    Runs (.learningMsgRx ⟨1, 1 - b2n s.chip.id.chipB⟩ seq key e) s (fun c =>
      c.map.foreignWait.get? seq = some (1, key, e) ∧ c.map.foreign = s.chip.map.foreign ∧ c.map.foreignSeq = s.chip.map.foreignSeq ∧ s.chip.keeps [.map] (fun _ => False) c)) ∧
  (∀ s : State, Live .gated s → s.chip.exchanging = true → Runs .exchangeWindowEnd s (fun c =>
    c.exchanging = false ∧ c.map.foreign = [] ∧ c.map.foreignSeq = none ∧ c.map.foreignWait = [] ∧ s.chip.sameBut (.map :: evtParts) c)) ∧
  (∀ (s : State) (i : Nat) (l : Learn) (v : Volume) (old : Tab Blk) (e : Entry), Live .work s → s.chip.map.learns = [(i, l)] → s.chip.vols.get? l.volume = some v → l.queued = true →
    l.placing = none → s.chip.flag TWIN_FOLD_STAT_gate_open v.fold = true → s.chip.enginePaused = false → l.kind = 4 → l.waiting = [] → e = ⟨l.lineage, 0, l.acre, true, 0, 0, l.member, l.epoch⟩ →
    RunsSettled (.learnComplete i old) s (fun c =>
      (((s.chip.clearZero l v).mapInsert e v.fold v.paddock l.volume l.admSeq).1.isSome = true → c.map.learns.has i = false) ∧ s.chip.sameBut storeParts c)) ∧
  (∀ (s : State) (i key : Nat) (l : Learn) (v : Volume) (old : Tab Blk) (k : HostCmd), Live .work s → s.chip.map.learns = [(i, l)] → s.chip.vols.get? l.volume = some v →
    l.queued = true → l.placing = none → s.chip.flag TWIN_FOLD_STAT_gate_open v.fold = true → l.kind ≠ 4 → s.chip.takeAcre v = none → l.waiting = [key] →
    s.chip.intake.cmds.get? key = some k → k.fwd = none → k.silent = false →
    RunsSettled (.learnComplete i old) s (fun c => s.chip.ends c key k stCapacity 0 ∧ c.map.learns = [] ∧ s.chip.sameBut cmdParts c)) ∧
  (∀ (s : State) (half n : Nat) (x : Rehash), Live .gated s → s.chip.map.rehash.get? half = some x → loState (s.chip.lo x.slot) = 2 → s.chip.enginePaused = false →
    (s.chip.map.fallback.getD half []).length + 4 * n ≤ s.chip.fallbackSize → x.pos + n < 2 ^ (s.chip.table half x.k).s →
    RunsSettled (.rehashProgress half n) s (fun c =>
      (c.map.rehash.get? half).map (fun z => (z.k, z.pos)) = some (x.k, x.pos + n) ∧ s.chip.sameBut [.map, .hbm, .freeN, .regs, .evt, .mgmt, .out, .mirror] c)) ∧
  (∀ (s : State) (h : Hdr) (steps i : Nat), 1 ≤ steps → steps < 16 → s.chip.stripes.bg = [] → s.chip.loSlot = some i → i < 64 →
    AskedSettled (.shearStart h steps) s ⟨0x0413, false, .l, paramBytes [1]⟩ h [] (fun r =>
      r.status = 1 ∧ r.handle % 64 = i ∧ loState (r.chip.lo i) = 2 ∧
      r.chip.hasBg (fun o => o.kind = 5 ∧ o.mode = steps ∧ o.slot = i ∧ o.step = nextShearStep steps 1) ∧ s.chip.sameBut storeParts r.chip)) ∧
  (∀ (s : State) (i : Nat), Live .work s → s.chip.flag STRIPE_SHEAR_CFG_en = true → s.chip.stripes.bg = [] → s.chip.loSlot = some i → i < 64 →
    RunsSettled .shearIntervalExpiry s (fun c =>
      c.hasBg (fun o => o.kind = 5 ∧ o.slot = i ∧ o.step = 1 ∧
        o.mode = 5 + 2 * b2n (s.chip.flag STRIPE_SHEAR_CFG_merge_en) + 8 * b2n (s.chip.flag STRIPE_SHEAR_CFG_reenc_en)) ∧
      loState (c.lo i) = 2 ∧ s.chip.sameBut storeParts c)) ∧
  (∀ (s : State) (n i : Nat) (o : BgOp) (op : LongOp), Live .gated s → s.chip.stripes.bg = [(i, o)] → o.kind = 5 → o.step = 3 → s.chip.bgRuns o = true → n < o.todo.length →
    s.chip.mgmt.ops.get? o.slot = some op → op.cancelling = false →
    RunsSettled (.shearProgress n) s (fun c =>
      (c.stripes.bg.get? i).map (fun x => (x.step, x.todo)) = some (3, o.todo.drop n) ∧ s.chip.keeps [.stripes, .regs] (regKeys LONGOP_STATUS o.slot 0) c)) ∧
  (∀ (s : State) (volume n i : Nat) (o : BgOp) (v : Volume) (op : LongOp), Live .gated s → s.chip.stripes.bg = [(i, o)] → o.kind = 6 → o.volume = volume → o.step = 1 →
    s.chip.vols.get? volume = some v → s.chip.flag TWIN_FOLD_STAT_gate_open v.fold = true → s.chip.bgRuns o = true → o.pos + n < v.acres → (∀ k, k < n → s.chip.entryOf v (o.pos + k) = none) →
    s.chip.mgmt.ops.get? o.slot = some op → op.cancelling = false →
    RunsSettled (.detachProgress volume n) s (fun c =>
      (c.stripes.bg.get? i).map (fun x => (x.step, x.pos)) = some (1, o.pos + n) ∧ s.chip.keeps [.stripes, .regs] (regKeys LONGOP_STATUS o.slot 0) c)) ∧
  (∀ (s : State) (flock pa : Nat) (f : Flock) (a : AcreRec) (g : AcreGone), Live .gated s → s.chip.flock? flock = some f → f.acres.get? pa = some a → a.removed = some g →
    s.chip.mayFree a g = true →
    RunsSettled (.acreFree flock pa) s (fun c => ((c.flock? flock).map (fun x => x.acres.has pa)) = some false ∧ s.chip.sameBut storeParts c)) ∧
  (∀ (s : State) (p : Nat) (k : PadKey), Live .up s → s.chip.cipher.pads.get? p = some k → s.chip.flag CIPH_CTL_auto_retire = true → k.closed = false → k.unusedHere = true →
    k.gLo < k.gCur → s.chip.stripes.drv = [] → s.chip.cipher.waiting = [] →
    RunsSettled (.genRetire p true) s (fun c =>
      (c.cipher.pads.get? p).map (fun x => (x.closed, x.unusedThere, x.gLo)) = some (true, true, k.gLo) ∧ .keyRecord (s.chip.cipher.recSeq + 1) ∈ c.out ∧
      s.chip.keeps [.cipher, .out] (fun _ => False) c)) ∧
  (∀ s : State, Live .up s → s.chip.flag MAP_CTL_en = true → Runs .mapImageTimer s (fun c =>
    c.map.imageNext = 1 - s.chip.map.imageNext ∧ .mapImage s.chip.map.imageNext (s.chip.mapImageLba s.chip.map.imageNext) s.chip.mapSeeds ∈ c.out ∧ s.chip.keeps [.map, .out] (fun _ => False) c))

/-- R194, R200 to R214, R219, R235, R237, R508: the write buffer: modes, ranges, room, mirroring, HBM errors, the dump and its test. (Where a clause rests on a reading or a choice of the model, it is that of log entries 57, 58, 59, 60, 61, 62, 63, 64, 65 and 145.) -/
def Obligations.CacheRows : Prop :=
  (∀ (s : State) (h : Hdr) (volume op lba count : Nat) (v : Volume), s.chip.vols.get? volume = some v → op < 3 → 1 ≤ count → count ≤ 16384 → lba + count ≤ v.acres * 1024 →
    s.chip.stageHere v.fold = true → s.chip.cache.ranges = [] →
    AskedPairSettled (.volumeRangeOp h volume op lba count) s rangeInfo h [] (fun r =>
      r.later = true ∧ (∃ o, r.chip.cache.ranges = [o] ∧ o.volume = volume ∧ o.op = op ∧ o.lba = lba ∧ o.count = count ∧ o.mark = v.nextSeq ∧ o.slot = none ∧
        o.stackSet = s.chip.rangeStacks volume lba count) ∧
      r.chip.vols.get? volume = some { v with nextSeq := v.nextSeq + b2n (s.chip.flag TWIN_FOLD_STAT_gate_open v.fold) } ∧ s.chip.sameBut [.vols, .cache, .regs, .mgmt, .out] r.chip)) ∧
  (∀ (s : State) (h : Hdr) (volume image : Nat), CACHE_VOL_MODE_mode.of image ≠ 0 → s.chip.flag CACHE_CTL_through = false →
    AskedPairSettled (.cacheModeSet h 1 volume image) s ⟨0x0131, true, .w, paramBytes [1, 1, 2, 4]⟩ h [] (fun r =>
      accepted r.status = true ∧ r.chip.flag CACHE_CTL_through = true ∧ r.chip.flag CACHE_STATUS_draining = true ∧ chipScope ∈ r.chip.cache.drains ∧
      s.chip.sameBut (.cache :: evtParts) r.chip)) ∧
  (∀ (s : State) (h : Hdr) (volume image : Nat), volume < 32768 → s.chip.vols.has volume = true →
    AskedPairSettled (.cacheModeSet h 0 volume image) s ⟨0x0131, true, .w, paramBytes [1, 1, 2, 4]⟩ h [] (fun r =>
      accepted r.status = true ∧ r.chip.shows CACHE_VOL_MODE image volume ∧ r.chip.flag CACHE_CTL_through = s.chip.flag CACHE_CTL_through ∧
      s.chip.sameBut (.cache :: evtParts) r.chip)) ∧
  (∀ (s : State) (h : Hdr) (joules watts mbps quiesce : Nat), joules < 65536 → watts < 65536 → mbps < 65536 → 1 ≤ quiesce → quiesce ≤ 100 →
    AskedSettled (.holdupSet h joules watts mbps quiesce) s ⟨0x0620, false, .w, paramBytes [2, 2, 2, 1]⟩ h [] (fun r =>
      r.status = 0 ∧ r.chip.get CACHE_HOLDUP_holdup_j = joules ∧ r.chip.get CACHE_HOLDUP_dump_w = watts ∧ r.chip.get CACHE_HOLDUP_vault_mbps = mbps ∧
      r.chip.get CACHE_DUMP_CFG_quiesce_ms = quiesce ∧ r.chip.get CACHE_HOLDUP_bound_mib = min 0xFFFF (holdupBound joules watts mbps quiesce) ∧
      r.data = le 2 (min 0xFFFF (holdupBound joules watts mbps quiesce)) ∧ s.chip.sameBut evtParts r.chip)) ∧
  (∀ (s : State) (h : Hdr) (i : Nat), s.chip.cache.dump.phase = 0 → s.chip.cache.drains = [] → s.chip.handingOver = false → s.chip.flag CACHE_STATUS_dump_armed = true →
    s.chip.loSlot = some i → i < 64 →
    AskedSettled (.dumpTest h) s ⟨0x0621, false, .l, 0⟩ h [] (fun r =>
      r.longOp i 0x0621 s.chip.dumpTotal ∧
      (r.chip.cache.dump.phase, r.chip.cache.dump.test, r.chip.cache.dump.trigger, r.chip.cache.dump.imageSeq) = (1, some i, 3, s.chip.cache.dump.imageSeq + 1) ∧
      s.chip.sameBut (.cache :: evtParts) r.chip)) ∧
  (∀ (s : State) (h : Hdr) (dump area ckpt rec key : Nat),
    AskedSettled (.vaultAreaSet h dump area ckpt rec key) s ⟨0x0622, false, .w, paramBytes [8, 8, 8, 8, 8]⟩ h [] (fun r =>
      r.status = 0 ∧ r.chip.shows CACHE_DUMP_CFG dump ∧ r.chip.shows CACHE_DUMP_AREA area ∧ r.chip.shows STRIPE_CKPT_AREA ckpt ∧ r.chip.shows STRIPE_REC_AREA rec ∧
      r.chip.shows CIPH_KEYREC_AREA key ∧ r.chip.cache.dump = { s.chip.cache.dump with areaSet := true } ∧ s.chip.sameBut (.cache :: evtParts) r.chip)) ∧
  (∀ (s : State) (l : Line) (d : Chip), Live .work s → s.chip.cache.waiting = [l] → s.chip.mirror.rxWait = [] → s.chip.dirtyLines < s.chip.dirtyMax → s.chip.placeLine l = some d →
    ∀ x ∈ [Instr.versionRoomFreed, Instr.limitRoomFreed],
      RunsSettled x s (fun c => c.cache = { d.cache with waiting := [] } ∧ s.chip.sameBut [.cache, .regs] c)) ∧
  (∀ (s : State) (volume lba seq flock stripe pos blk : Nat) (e : Nat × Nat × Line), Live .work s →
    (s.chip.blockLines volume lba).find? (fun e => e.2.2.st = .dirty && e.2.2.seq = seq) = some e → s.chip.lineSpot e.2.2 = some (flock, stripe, pos, blk) →
    RunsSettled (.dirtyAgeExpiry volume lba seq) s (fun c => c = ((s.chip.offerStripe flock stripe).showWaits).showJnl)) ∧
  (∀ (s : State) (flock stripe : Nat) (f : Flock) (ls : Tab (Nat × Nat × Line)), Live .work s → flock < 4 → s.chip.flock? flock = some f → s.chip.stripeLines flock stripe = ls →
    ls ≠ [] → s.chip.flag STRIPE_CTL_en = true → s.chip.stripes.offers = [] → s.chip.commitWaits flock stripe f ls = none → s.chip.stripes.entries = [] →
    RunsSettled (.commitOffer flock stripe) s (fun c =>
      (∃ id e, c.stripes.entries.get? id = some e ∧ e.kind = commitKind f.w ls.length (ls.keys.map (· / 16)).eraseDups.length ∧ e.flock = flock ∧ e.stripe = stripe ∧
        e.versions = ls.vals.map (fun x => (x.2.2.volume, x.2.2.lba, x.2.2.seq))) ∧ s.chip.sameBut storeParts c)) ∧
  (∀ (s : State) (flock stripe : Nat) (f : Flock) (ls : Tab (Nat × Nat × Line)), Live .work s → flock < 4 → s.chip.flock? flock = some f → s.chip.stripeLines flock stripe = ls →
    ls ≠ [] → s.chip.flag STRIPE_CTL_en = true → s.chip.stripes.offers = [] → s.chip.commitWaits flock stripe f ls = some 0 →
    RunsSettled (.commitOffer flock stripe) s (fun c =>
      c.stripes.offers = [(flock, stripe)] ∧ c.stripes.entries = s.chip.stripes.entries ∧ c.cache = s.chip.cache ∧ s.chip.sameBut [.stripes, .regs] c)) ∧
  (∀ (s : State) (l : Line) (d : Chip), Live .gated s → s.chip.mirror.rxWait = [] → s.chip.dirtyLines < s.chip.dirtyMax →
    (s.chip.blockLines l.volume l.lba).find? (fun e => e.2.2.st = .mirror && e.2.2.seq = l.seq) = none →
    s.chip.placeLine { l with st := .mirror, pins := 0, bornNs := s.chip.clk } = some d →
    RunsSettled (.mirrorLineRx s.chip.mirror.rxNext l) s (fun c =>
      c.cache.sets = d.cache.sets ∧ c.mirror = { s.chip.mirror with rxNext := s.chip.mirror.rxNext + 1, ackDue := true } ∧ s.chip.sameBut [.cache, .mirror, .regs] c)) ∧
  (∀ (s : State) (key way volume fold lba count seq : Nat) (l : Line) (b : Bool), Live .gated s → s.chip.mirror.rxWait = [] → s.chip.lines = [(key, way, l)] → l.st = .mirror →
    l.volume = volume → lba ≤ l.lba → l.lba < lba + count → (b = true → l.seq ≤ seq) →
    ∀ x ∈ [if b then Instr.retireRx s.chip.mirror.rxNext volume fold lba count seq else Instr.discardRx s.chip.mirror.rxNext volume fold lba count],
      RunsSettled x s (fun c =>
        (c.cacheSet key).ways.get? way = none ∧ c.mirror = { s.chip.mirror with rxNext := s.chip.mirror.rxNext + 1, ackDue := true } ∧
        s.chip.sameBut [.cache, .mirror, .regs] c)) ∧
  (∀ (s : State) (entry : Nat) (e : JEntry), Live .gated s → s.chip.mirror.rxWait = [] →
    RunsSettled (.journalEntryRx s.chip.mirror.rxNext entry e) s (fun c =>
      c.mirror.journal.get? entry = (if e.state = 3 then none else some e) ∧ (∀ x, x ≠ entry → c.mirror.journal.get? x = s.chip.mirror.journal.get? x) ∧
      c.mirror.rxNext = s.chip.mirror.rxNext + 1 ∧ c.mirror.ackDue = true ∧ s.chip.sameBut [.mirror, .regs] c)) ∧
  (∀ (s : State) (volume epoch barrier fold paddock adm dseq : Nat) (v : Volume), Live .gated s → s.chip.mirror.rxWait = [] → s.chip.vols.get? volume = some v →
    (∀ m ∈ v.marks, ∀ a b w, m.what ≠ .member a b w) →
    RunsSettled (.mapDeltaRx s.chip.mirror.rxNext ⟨fold, paddock, volume, adm, dseq, .epoch volume epoch barrier⟩) s (fun c =>
      c.vols.get? volume = some { v with epoch := epoch, epochs := ((epoch, barrier) :: v.epochs).take 16 } ∧
      c.map.recent = s.chip.map.recent ++ [⟨fold, paddock, volume, adm, dseq, .epoch volume epoch barrier⟩] ∧
      c.mirror.rxNext = s.chip.mirror.rxNext + 1 ∧ c.mirror.ackDue = true ∧ s.chip.sameBut [.vols, .map, .mirror, .regs] c)) ∧
  (∀ (s : State) (held : Nat), Live .gated s → s.chip.mirror.resyncing = false →
    RunsSettled (.mirrorAckRx held) s (fun c =>
      c.mirror.unacked = s.chip.mirror.unacked.filter (fun x => decide (held ≤ x.1)) ∧ c.mirror.heldSeq = max s.chip.mirror.heldSeq held ∧
      s.chip.keeps [.mirror, .out] (fun _ => False) c)) ∧
  (∀ s : State, Live .gated s → s.chip.mirror.ackDue = true →
    RunsSettled .mirrorAckSend s (fun c =>
      c.out = .mirrorAck s.chip.mirror.rxNext :: s.chip.out ∧ c.mirror = { s.chip.mirror with ackDue := false } ∧ s.chip.keeps [.mirror, .out] (fun _ => False) c)) ∧
  (∀ s : State, Live .gated s → s.chip.mirroring = true → s.chip.mirror.unacked ≠ [] → Runs .mirrorAckOverdue s (fun c => c = s.chip.raise 0x305)) ∧
  (∀ (s : State) (place key way : Nat), Live .up s → RunsSettled (.hbmEccError place key way false) s (fun c => c = (s.chip.cntCache 14).raise 0x308)) ∧
  (∀ (s : State) (key way : Nat) (l : Line), Live .up s → (s.chip.cacheSet key).ways.get? way = some l → l.st ≠ .evicting → (l.st = .filling → l.seq ≠ 0) →
    RunsSettled (.hbmEccError 0 key way true) s (fun c =>
      ((l.st = .clean ∨ l.st = .mirror) → (c.cacheSet key).ways.get? way = none) ∧
      (l.st = .mirror → .refetch l.volume l.lba l.seq ∈ c.out) ∧
      ((l.st = .dirty ∨ l.st = .committing) → s.chip.mirroring = true →
        (c.cacheSet key).ways.get? way = some { l with poisoned := true, data := [] } ∧ .refetch l.volume l.lba l.seq ∈ c.out) ∧
      ((l.st = .dirty ∨ l.st = .committing) → s.chip.mirroring = false → (c.cacheSet key).ways.get? way = some { l with poisoned := true }) ∧
      (l.st = .filling → (c.cacheSet key).ways.get? way = some { l with poisoned := true }) ∧ s.chip.sameBut (.cache :: evtParts) c)) ∧
  (∀ (s : State) (volume lba seq key way : Nat) (l : Line) (b : Blk), Live .up s →
    (s.chip.blockLines volume lba).find? (fun e => isDirty e.2.2 && e.2.2.seq = seq && e.2.2.poisoned && e.2.2.data = []) = some (key, way, l) →
    (s.chip.cacheSet key).ways.get? way = some l →
    RunsSettled (.partnerLineRefetch volume lba seq (some b)) s (fun c =>
      (c.cacheSet key).ways.get? way = some { l with poisoned := false, data := b.data, app := b.app % 65536 } ∧ s.chip.keeps [.cache] (fun _ => False) c)) ∧
  (∀ (s : State) (scope : Nat), Live .gated s → (scope = 65536 ∨ scope < 32768) → scope ∈ s.chip.cache.drains → s.chip.lines = [] → s.chip.cache.waiting = [] →
    RunsSettled (.drainComplete scope) s (fun c =>
      scope ∉ c.cache.drains ∧ (scope = 65536 → c.flag CACHE_STATUS_draining = false) ∧ (scope < 32768 → c.flag CACHE_VOL_MODE_draining scope = false) ∧
      s.chip.sameBut (.cache :: evtParts) c)) ∧
  (∀ (s : State) (r : RangeOp) (i : Nat), Live .gated s → s.chip.cache.ranges = [r] → s.chip.rangeDone r = true → r.op = 0 → r.slot = some i → i < 64 →
    RunsSettled .rangeOpComplete s (fun c => c.cache.ranges = [] ∧ loState (c.lo i) = 4 ∧ c.cache.sets = s.chip.cache.sets ∧ s.chip.sameBut (.cache :: evtParts) c)) ∧
  (∀ (s : State) (r : RangeOp), Live .gated s → s.chip.cache.ranges = [r] → s.chip.rangeDone r = true → r.op = 0 → r.slot = none →
    RunsSettled .rangeOpComplete s (fun c => ∃ d : Chip, c = Chip.finishLater rangeInfo r.hdr (Res.ok d) ∧ d.cache.ranges = [] ∧ s.chip.sameBut (.cache :: evtParts) d)) ∧
  (∀ (s : State) (x : Instr × Nat), Live .up s → x ∈ [(Instr.dumpPwrFail, 1), (Instr.dumpSag, 2)] → s.chip.cache.dump.phase = 0 → s.chip.flag CACHE_DUMP_CFG_dump_en = true →
    s.chip.flag CACHE_STATUS_dump_armed = true →
    RunsSettled x.1 s (fun c =>
      (c.cache.dump.phase, c.cache.dump.test, c.cache.dump.trigger, c.cache.dump.imageSeq) = (1, none, x.2, s.chip.cache.dump.imageSeq + 1) ∧
      c.get CACHE_DUMP_STAT_state = 1 ∧ c.stripes.drv = s.chip.stripes.drv.filter (fun e => e.2.kind = 1 && e.2.pen ≠ 3) ∧ s.chip.sameBut [.cache, .stripes, .regs] c)) ∧
  (∀ s : State, Live .up s → s.chip.cache.dump.phase = 1 → s.chip.cache.dump.test = none →
    RunsSettled .dumpQuiesceEnd s (fun c => c.cache.dump.phase = 2 ∧ c.stripes.drv = [] ∧ c.get CACHE_DUMP_STAT_state = 2 ∧ c.get CACHE_DUMP_STAT_segments = 0 ∧
      c.cache.dump.total = c.dumpTotal ∧ c.cache.sets = s.chip.cache.sets)) ∧
  (∀ (s : State) (n : Nat), Live .up s → s.chip.cache.dump.phase = 2 → s.chip.cache.dump.test = none → s.chip.cache.dump.vaults = 3 →
    s.chip.get CACHE_DUMP_STAT_segments = n → n + 1 < 4096 →
    RunsSettled (.dumpSegmentWritten true true) s (fun c =>
      c.get CACHE_DUMP_STAT_segments = n + 1 ∧ c.cache.dump.vaults = 3 ∧ (n + 1 < s.chip.cache.dump.total → c.cache.dump.phase = 2) ∧
      (s.chip.cache.dump.total ≤ n + 1 → c.cache.dump.phase = 3) ∧ s.chip.sameBut [.cache, .regs, .out] c)) ∧
  (∀ (s : State) (i : Nat), Live .up s → s.chip.cache.dump.phase = 3 → s.chip.cache.dump.test = some i → i < 64 →
    RunsSettled .dumpCloseDone s (fun c =>
      c.cache.dump.phase = 0 ∧ c.cache.dump.test = none ∧ c.cache.dump.newestTest = s.chip.cache.dump.imageSeq ∧ loState (c.lo i) = 4 ∧
      s.chip.sameBut (.cache :: evtParts) c)) ∧
  (∀ s : State, Live .up s → s.chip.cache.dump.phase = 3 → s.chip.cache.dump.test = none →
    RunsSettled .dumpCloseDone s (fun c => c.cache.dump.phase = 4 ∧ c.get CACHE_DUMP_STAT_state = 4 ∧ c.stopped = true ∧
      (∀ x ∈ s.chip.slotList, c.flag SLOT_CH_CTL_en x = false ∧ c.get SLOT_CH_STAT_pg x = 0) ∧ s.chip.sameBut [.cache, .regs] c))
/-- R221 to R227, R250, R253 to R258, R263, R267, R268, R276, R361, R509: flocks, their acre groups and members, the operations that work on them, the lost-block list, latches and views. (Where a clause rests on a reading or a choice of the model, it is that of log entries 66, 75, 76, 77, 78, 79, 80 and 143.) -/
def Obligations.FlockRows : Prop :=
  (∀ (s : State) (h : Hdr) (flock width z n l k u cycles blocks : Nat) (slots qualified : List Nat), flock < 4 → width ≤ 2 → 1 ≤ z → z ≤ 2 → 8 ≤ n → n ≤ 32 →
    widthOf width + 2 + z ≤ n → (s.chip.id.half = true → n ≤ 16 ∧ width ≤ 1) → n ≤ slots.length →
    (∀ x ∈ slots.take n, x < 32 ∧ slotAbsent s.chip.id x = false ∧ (slots.take n).count x = 1 ∧ s.chip.memberOf x = none ∧ x ∈ qualified) → s.chip.flock? flock = none →
    layoutL n (widthOf width) z = l → 1 ≤ l → l ≤ 4096 → k = l * (widthOf width + 2) / n → u = k * z / (n - z) → cycles = (blocks - 16384) / atLeast1 (16 * (k + u)) →
    cycles * l * widthOf width / 64 ≠ 0 → s.chip.drbgStopped = false → s.chip.cipher.drbgWait = [] →
    AskedPairSettled (.flockCreate h flock width z n slots qualified blocks) s ⟨0x0400, true, .w, 36⟩ h [] (fun r =>
      accepted r.status = true ∧ (r.chip.flock? flock).map (fun f => (f.width, f.z, f.n, f.slots, f.l)) = some (width, z, n, slots.take n, l) ∧
      (r.chip.flock? flock).map (fun f => (f.k, f.s, f.cycles, f.acres, f.absent)) = some (k, u, cycles, [], []) ∧
      (∀ x, x ≠ flock → r.chip.flock? x = s.chip.flock? x) ∧
      r.data = le 2 l ++ le 2 k ++ le 2 u ++ zeros 2 ++ le 4 cycles ++ le 4 (cycles * l * widthOf width / 64) ∧ s.chip.sameBut (.stripes :: .freeN :: evtParts) r.chip)) ∧
  (∀ (s : State) (h : Hdr) (flock : Nat) (f : Flock), flock < 4 → s.chip.flock? flock = some f → f.acres = [] →
    AskedPairSettled (.flockDelete h flock) s ⟨0x0401, true, .w, paramBytes [1]⟩ h [] (fun r =>
      accepted r.status = true ∧ r.chip.flock? flock = none ∧ (∀ x, x ≠ flock → r.chip.flock? x = s.chip.flock? x) ∧ s.chip.sameBut (.stripes :: evtParts) r.chip)) ∧
  (∀ (s : State) (h : Hdr) (flock : Nat) (f : Flock), flock < 4 → s.chip.flock? flock = some f →
    Asked (.flockGet h flock) s ⟨0x0402, false, .r, paramBytes [1]⟩ h [] (fun r =>
      Reads s h 0x0402 r ((f.labelBytes flock 0).take 128 ++ s.chip.image STRIPE_FLOCK_STAT flock ++ s.chip.image STRIPE_FLOCK_ACRES flock))) ∧
  (∀ (s : State) (h : Hdr) (flock fold group : Nat) (f : Flock), s.chip.flock? flock = some f → (fold < 8 ∨ fold = 0xFF) → group * 1024 < f.acreCount →
    (∀ a ∈ f.acres, a.1 / 1024 ≠ group) →
    AskedPairSettled (.acreGroupSet h flock fold group) s ⟨0x0404, true, .w, paramBytes [1, 1, 4]⟩ h [] (fun r =>
      accepted r.status = true ∧ (r.chip.flock? flock).map (fun x => x.groups.get? group) = some (if fold = 0xFF then none else some fold) ∧
      s.chip.keeps [.stripes, .mgmt, .out] (fun _ => False) r.chip)) ∧
  (∀ (s : State) (h : Hdr) (flock i : Nat) (f : Flock), flock < 4 → s.chip.flock? flock = some f → s.chip.stripes.bg = [] → s.chip.loSlot = some i → i < 64 →
    AskedSettled (.rebuildStart h flock) s ⟨0x0410, false, .l, paramBytes [1]⟩ h [] (fun r =>
      r.longOp i 0x0410 f.toRebuild ∧ r.chip.hasBg (fun o => o.kind = 1 ∧ o.flock = flock ∧ o.slot = i ∧ o.step = 1 ∧ o.queued = false) ∧ s.chip.sameBut storeParts r.chip)) ∧
  (∀ (s : State) (h : Hdr) (flock member slot i : Nat) (f : Flock), flock < 4 → s.chip.flock? flock = some f → member < f.n → slot < 32 → slotAbsent s.chip.id slot = false →
    member ∈ f.failed → (∀ x ∈ s.chip.stripes.flocks, ∀ m, m < x.2.n → x.2.slots.getD m 0xFF = slot → x.1 = flock ∧ m = member) → s.chip.stripes.bg = [] →
    s.chip.loSlot = some i → i < 64 →
    AskedSettled (.copybackStart h flock member slot) s ⟨0x0411, false, .l, paramBytes [1, 1, 1]⟩ h [] (fun r =>
      r.longOp i 0x0411 (f.cycles * f.k) ∧ r.chip.hasBg (fun o => o.kind = 3 ∧ o.flock = flock ∧ o.member = member ∧ o.slot = i ∧ o.queued = false) ∧
      (r.chip.flock? flock).map (·.slots) = some (f.slots.set member slot) ∧ s.chip.sameBut storeParts r.chip)) ∧
  (∀ (s : State) (h : Hdr) (flock mode first i : Nat) (f : Flock), flock < 4 → s.chip.flock? flock = some f → mode < 2 → s.chip.stripes.bg = [] → s.chip.loSlot = some i → i < 64 →
    AskedSettled (.scrubStart h flock mode first) s ⟨0x0412, false, .l, paramBytes [1, 1, 8]⟩ h [] (fun r =>
      r.longOp i 0x0412 (f.acres.length * f.spa) ∧ r.chip.hasBg (fun o => o.kind = 4 ∧ o.flock = flock ∧ o.slot = i ∧ o.pos = first ∧ o.mode = mode) ∧
      s.chip.sameBut storeParts r.chip)) ∧
  (∀ (s : State) (h : Hdr) (flock member : Nat) (f : Flock), flock < 4 → s.chip.flock? flock = some f → member < f.n → member ∉ f.failed →
    AskedPairSettled (.memberFail h flock member) s ⟨0x0414, true, .w, paramBytes [1, 1]⟩ h [] (fun r =>
      accepted r.status = true ∧ (r.chip.flock? flock).map (fun x => (x.failed, x.absent.contains member)) = some (f.failed ++ [member], true) ∧
      r.chip.stripes.newFailed = s.chip.stripes.newFailed ++ [(flock, member)] ∧ s.chip.sameBut (.stripes :: evtParts) r.chip)) ∧
  (∀ (s : State) (flock member : Nat) (f : Flock), Live .work s → s.chip.flock? flock = some f → member < f.n → member ∈ f.absent → member ∉ f.failed →
    RunsSettled (.rbDelayExpiry flock member) s (fun c =>
      (c.flock? flock).map (·.failed) = some (f.failed ++ [member]) ∧ c.stripes.newFailed = s.chip.stripes.newFailed ++ [(flock, member)] ∧ s.chip.sameBut (.stripes :: evtParts) c)) ∧
  (∀ (s : State) (h : Hdr) (x : LostRec), s.chip.stripes.lost = [x] →
    Asked (.lostListRead h 0) s ⟨0x0415, false, .r, paramBytes [4]⟩ h [] (fun r =>
      Reads s h 0x0415 r (le 4 1 ++ zeros 4 ++ (le 1 1 ++ le 1 x.op ++ le 1 x.flock ++ le 1 x.pos ++ le 1 x.blk ++ zeros 3 ++ le 8 x.stripe ++ le 4 x.acre ++ zeros 4 ++ le 8 x.time)))) ∧
  (∀ (s : State) (x : LostRec), Live .up s → s.chip.isLost x.flock x.stripe x.pos x.blk = false → s.chip.stripes.lost.length < 65536 →
    RunsSettled (.lostBlockChangeRx true x) s (fun c =>
      c.stripes.lost = s.chip.stripes.lost ++ [x] ∧ c.stripes.recQ = s.chip.stripes.recQ ++ [.lost x true s.chip.stripes.lost.length []] ∧
      s.chip.keeps [.stripes, .regs, .out] (regKeys STRIPE_LOST_STAT 0 0) c)) ∧
  (∀ (s : State) (x : LostRec), Live .up s → s.chip.stripes.lost = [x] →
    RunsSettled (.lostBlockChangeRx false x) s (fun c =>
      c.stripes.lost = [] ∧ c.get STRIPE_LOST_STAT_listed = 0 ∧ s.chip.keeps [.stripes, .regs, .out] (regKeys STRIPE_LOST_STAT 0 0) c)) ∧
  (∀ (s : State) (flock member region entry : Nat) (rest : List RecWrite) (e : JEntry) (ok32 ok33 : Bool), Live .up s →
    s.chip.stripes.recQ = .stale flock member region entry :: rest → s.chip.stripes.entries.get? entry = some e → (ok32 || ok33) = true →
    RunsSettled (.recordAreaWriteDone ok32 ok33) s (fun c =>
      c.stripes.recQ = rest ∧ c.stripes.entries.get? entry = some { e with recs := e.recs - 1 } ∧ s.chip.keeps [.stripes] (fun _ => False) c)) ∧
  (∀ (s : State) (flock member region entry : Nat) (rest : List RecWrite), Live .up s → s.chip.stripes.recQ = .stale flock member region entry :: rest →
    RunsSettled (.recordAreaWriteDone false false) s (fun c =>
      c.stripes.recQ = rest ++ [.stale flock member region entry] ∧ c.stripes.entries = s.chip.stripes.entries ∧ s.chip.keeps [.stripes, .out] (fun _ => False) c)) ∧
  (∀ (s : State) (flock row p : Nat) (f : Flock), Live .up s → flock < 4 → s.chip.flock? flock = some f → row < f.l → p < f.w + 2 →
    Runs (.stripeLayoutSelWrite flock row) s (fun c =>
      c.get STRIPE_LAYOUT_SEL_flock = flock ∧ c.get STRIPE_LAYOUT_SEL_row = row % 2 ^ STRIPE_LAYOUT_SEL_row.width ∧
      c.get STRIPE_LAYOUT_VIEW_member p = f.member row p % 2 ^ STRIPE_LAYOUT_VIEW_member.width ∧
      c.get STRIPE_LAYOUT_VIEW_occ p = f.occ row (f.member row p) % 2 ^ STRIPE_LAYOUT_VIEW_occ.width ∧
      c.flag STRIPE_LAYOUT_VIEW_reloc_valid p = (f.relocs.get? (row * 32 + p)).isSome ∧ s.chip.keeps [.regs] (inRange 0x700600 0x700698) c)) ∧
  (∀ (s : State) (x : Instr × Field), Live .up s → s.chip.stripes.lost.length < 65536 →
    x ∈ [(Instr.lostOverflowClear, STRIPE_LOST_STAT_overflow), (Instr.jnlPeakClr, STRIPE_JNL_STAT_peak), (Instr.stripeGateLastRearm, STRIPE_GATE_LAST_valid),
      (Instr.stripeVerifyLastRearm, STRIPE_VERIFY_LAST_valid), (Instr.cmdqTmoLastRearm, CMDQ_TMO_LAST_valid)] →
    Runs x.1 s (fun c => c.get x.2 = 0 ∧ s.chip.keeps [.regs] (fun k => k = x.2.key 0 0) c))

/-- R180 to R182, R186, R222, R234, R238, R241 to R243, R246, R247, R295 to R297, R317, R318: drive commands, their completions, time-outs and pens, the journal's writes, checkpoints, a drive's
link. (Where a clause rests on a reading or a choice of the model, it is that of log entries 67, 68, 69, 70, 71, 72, 73, 74 and 141.) -/
def Obligations.DriveRows : Prop :=
  (∀ (s : State) (h : Hdr) (slot tmo : Nat), slot < 34 → slotAbsent s.chip.id slot = false →
    Asked (.driveTmoSet h slot tmo) s ⟨0x0610, false, .w, paramBytes [1, 2]⟩ h [] (fun r =>
      r.status = 0 ∧ r.chip.get CMDQ_DRV_TMO_tmo_ms slot = tmo % 65536 ∧ s.chip.keeps [.regs, .mgmt] (fun k => k = CMDQ_DRV_TMO_tmo_ms.key slot 0) r.chip)) ∧
  (∀ (s : State) (isl : Nat), Live .up s → isl < 4 → Runs (.cmdqTagsPeakClr isl) s (fun c =>
    c.get CMDQ_ISL_TAGS_peak_inflight isl = 0 ∧ s.chip.keeps [.regs] (fun k => k = CMDQ_ISL_TAGS_peak_inflight.key isl 0) c)) ∧
  (∀ (s : State) (slot lane n : Nat) (d : DrvCmd), Live .work s → slot < 34 → lane < 5 → s.chip.laneHead slot lane = some (n, d) → s.chip.stripes.drv.get? n = some d →
    s.chip.laneFree slot lane = true → s.chip.headHeld d = false → lane < s.chip.freeTags slot → s.chip.chipTagsFree = true →
    (d.fold.isSome = true → d.kind = 1 → s.chip.flag TWIN_FOLD_STAT_gate_open (d.fold.getD 0) = true) →
    RunsSettled (.laneRelease slot lane) s (fun c =>
      c.stripes.drv.get? n = some { d with pen := 0, cid := s.chip.freeCid slot, issuedNs := s.chip.clk } ∧
      (∀ k, d.use = .admin k → d.kind = 2 → .driveAdmin slot k d.count ∈ c.out) ∧
      ((∀ k, d.use = .admin k → d.kind ≠ 2) → .driveCmd slot (s.chip.freeCid slot) d.kind d.lba d.count d.data ∈ c.out) ∧ c.laneLevel slot lane = clampSigned 32 (s.chip.laneLevel slot lane - s.chip.cmdCost d) ∧
      s.chip.sameBut [.stripes, .gov, .tally, .hbm, .regs, .out, .evt, .mgmt] c)) ∧
  (∀ (s : State) (slot lane n f : Nat) (d : DrvCmd), Live .work s → slot < 34 → lane < 5 → s.chip.laneHead slot lane = some (n, d) → s.chip.stripes.drv.get? n = some d →
    s.chip.laneFree slot lane = true → s.chip.headHeld d = false → lane < s.chip.freeTags slot → s.chip.chipTagsFree = true → d.fold = some f → d.kind = 1 →
    s.chip.flag TWIN_FOLD_STAT_gate_open f = false →
    RunsSettled (.laneRelease slot lane) s (fun c =>
      c.stripes.drv.get? n = none ∧ c.flag STRIPE_GATE_LAST_valid = true ∧ c.stripes.entries = s.chip.stripes.entries ∧ s.chip.sameBut (.stripes :: evtParts) c)) ∧
  (∀ (s : State) (entry p b slot lba : Nat) (data : Bytes) (e : JEntry) (f : Flock), Live .work s → s.chip.stripes.entries.get? entry = some e → e.state = 1 → e.kind ≤ 4 →
    e.ckpt ≠ 0 → s.chip.entryHeld e = true → p < 18 → b < 16 → e.written = 2 ^ p → e.done = 0 → e.staged = [(p * 16 + b, data)] → s.chip.flock? e.flock = some f →
    f.writeAt e.stripe p = some (slot, lba) →
    RunsSettled (.journalHeld entry) s (fun c =>
      (c.stripes.entries.get? entry).map (·.state) = some 2 ∧
      (c.stripes.drv.get? s.chip.stripes.drvId).map (fun d => (d.slot, d.kind, d.lba, d.count, d.use, d.pen, d.data)) =
        some (slot, 1, lba + b, 1, .entryWrite entry p, 3, [data]) ∧ s.chip.sameBut storeParts c)) ∧
  (∀ (s : State) (slot cid n id p : Nat) (d : DrvCmd) (e : JEntry), Live .gated s → s.chip.tagIs slot cid n d → d.pen = 0 → d.kind = 1 → d.use = .entryWrite id p →
    s.chip.stripes.entries.get? id = some e → p < 18 → (∀ x ∈ s.chip.stripes.drv, x.1 ≠ n → ∀ q, x.2.use ≠ .entryWrite id q) →
    RunsSettled (.memberWriteComplete slot cid 0) s (fun c =>
      c.stripes.drv.get? n = none ∧
      (e.written &&& (setBit e.done p true ^^^ (2 ^ 18 - 1)) ≠ 0 → (c.stripes.entries.get? id).map (fun y => bit y.done p) = some true) ∧
      (e.state = 2 → e.written &&& (setBit e.done p true ^^^ (2 ^ 18 - 1)) = 0 → c.stripes.entries.get? id = none) ∧ s.chip.sameBut storeParts c)) ∧
  (∀ (s : State) (slot cid n key b : Nat) (d : DrvCmd) (k : HostCmd) (ct : Bytes) (seen : Seen) (c1 : Chip), Live .gated s → s.chip.tagIs slot cid n d → d.pen = 0 → d.kind = 0 →
    d.use = .host key b → s.chip.intake.cmds.get? key = some k → (s.chip.readIn n d).openAt d.flock d.stripe d.pos d.blk ct (some (k.lba + b)) d.slot = (seen, c1) →
    RunsSettled (.driveReadComplete slot cid true [ct]) s (fun c =>
      (∀ pl, seen = .good pl → (c.intake.cmds.get? key).map (fun y => (y.got.get? b, y.need)) = some (some pl.blk, k.need.erase b)) ∧ s.chip.sameBut storeParts c)) ∧
  (∀ (s : State) (slot cid n key b : Nat) (d : DrvCmd) (k : HostCmd), Live .gated s → s.chip.tagIs slot cid n d → d.pen = 0 → d.kind = 0 → d.use = .host key b →
    s.chip.intake.cmds.get? key = some k → k.bad = 0 →
    RunsSettled (.driveReadComplete slot cid true [lostMarker]) s (fun c =>
      c.stripes.drv.get? n = none ∧ (c.intake.cmds.get? key).map (fun y => (y.bad, y.need)) = some (unrecovered, k.need.erase b) ∧ s.chip.sameBut storeParts c)) ∧
  (∀ (s : State) (slot cid n : Nat) (d : DrvCmd), Live .gated s → s.chip.tagIs slot cid n d → d.pen = 0 →
    RunsSettled (.driveCmdTimeout slot cid) s (fun c =>
      c.stripes.drv.get? n = some { d with pen := 1, timedNs := s.chip.clk } ∧ .driveAbort slot cid ∈ c.out ∧ c.stripes.fell = s.chip.stripes.fell ++ [(d, .timedOut)] ∧
      s.chip.sameBut (.stripes :: evtParts) c)) ∧
  (∀ (s : State) (slot cid n : Nat) (d : DrvCmd) (aborted : Bool), Live .gated s → s.chip.tagIs slot cid n d → d.pen = 1 → d.lateSeen = false →
    RunsSettled (.driveAbortComplete slot cid aborted) s (fun c =>
      c.stripes.drv.get? n = (if aborted then none else some { d with pen := 2 }) ∧
      c.stripes.fell = s.chip.stripes.fell ++ (if aborted = true ∧ d.kind = 1 then [(d, .again)] else []) ∧ s.chip.sameBut (.stripes :: evtParts) c)) ∧
  (∀ (s : State) (slot cid outcome n : Nat) (d : DrvCmd), Live .gated s → s.chip.tagIs slot cid n d → (d.pen = 1 ∨ d.pen = 2) → d.lateSeen = false →
    RunsSettled (.lateDriveCompletion slot cid outcome) s (fun c =>
      c.stripes.drv.get? n = (if d.pen = 2 then none else some { d with lateSeen := true }) ∧
      c.stripes.fell = s.chip.stripes.fell ++ (if d.kind = 1 then [(d, .late outcome)] else []) ∧ s.chip.sameBut (.stripes :: evtParts) c)) ∧
  (∀ (s : State) (slot : Nat), Live .gated s → 0 < s.chip.penned slot →
    Runs (.penLimitExpiry slot) s (fun c => .driveReset slot ∈ c.out ∧ c.stripes = s.chip.stripes ∧ s.chip.sameBut evtParts c)) ∧
  (∀ (s : State) (slot : Nat), Live .gated s → RunsSettled (.controllerResetDone slot true) s (fun c =>
    (∀ x ∈ c.stripes.drv, x.2.slot = slot → x.2.pen = 3) ∧ s.chip.sameBut (.stripes :: evtParts) c)) ∧
  (∀ (s : State) (slot : Nat), Live .gated s → RunsSettled (.controllerResetDone slot false) s (fun c =>
    (∀ x ∈ c.stripes.drv, x.2.slot ≠ slot) ∧ (c.run slot).failed = true ∧ s.chip.sameBut (.stripes :: .slots :: evtParts) c)) ∧
  (∀ (s : State) (slot : Nat), Live .up s → (∃ x ∈ s.chip.stripes.drv, x.2.slot = slot ∧ x.2.wake = true) →
    RunsSettled (.driveWakeTimeout slot) s (fun c =>
      c.stripes.drv = s.chip.stripes.drv.filter (fun x => !(x.2.slot = slot && (x.2.wake && x.2.kind = 0))) ∧ s.chip.sameBut (.stripes :: evtParts) c)) ∧
  (∀ s : State, Live .work s → s.chip.stripes.ckptRun = false →
    RunsSettled .checkpointTimer s (fun c =>
      (c.stripes.ckptRun, c.stripes.ckptCover, c.stripes.opened) = (true, s.chip.stripes.ckptCover + 1, 0) ∧
      (∃ slot, .checkpoint slot (checkpointHeader (b2n s.chip.id.chipB) slot s.chip.stripes.jgen s.chip.now (s.chip.stripes.entries.keep (fun _ e => e.isOpen)))
          (journalBody (s.chip.stripes.entries.keep (fun _ e => e.isOpen))) ∈ c.out) ∧
      s.chip.keeps [.stripes, .map, .out] (fun _ => False) c)) ∧
  (∀ (s : State) (ok32 ok33 : Bool), Live .up s → s.chip.stripes.ckptRun = true →
    RunsSettled (.checkpointWriteDone ok32 ok33) s (fun c =>
      c.stripes.ckptRun = false ∧ c.stripes.ckptDone = (if ok32 || ok33 then s.chip.stripes.ckptCover else s.chip.stripes.ckptDone) ∧
      c.get STRIPE_CKPT_STAT_vault_ok = b2n ok32 + 2 * b2n ok33 ∧ c.stripes.entries = s.chip.stripes.entries ∧ s.chip.sameBut (.stripes :: .map :: evtParts) c)) ∧
  (∀ (s : State) (slot gen width cntlid label : Nat), Live .up s → s.chip.slotOk slot = true → s.chip.flag DRV_LINK_STAT_up slot = false → s.chip.powered slot = true →
    bits s.chip.flash.rules.drvOff (2 * slot + 1) (2 * slot) = 0 → s.chip.memberOf slot = none → gen < 4 → width < 4 → s.chip.freeTags slot ≠ 0 → s.chip.chipTagsFree = true →
    RunsSettled (.driveLinkUp slot gen width true cntlid label) s (fun c =>
      c.flag DRV_LINK_STAT_up slot = true ∧ c.get DRV_LINK_STAT_gen slot = gen ∧ c.get DRV_LINK_STAT_width slot = width ∧ c.flag DRV_NVME_STAT_req_ok slot = true ∧
      c.flag DRV_NVME_STAT_ready slot = true ∧ c.get DRV_NVME_STAT_ioq slot = 8 ∧ (slot < 32 → .driveAdmin slot 1 1 ∈ c.out) ∧ s.chip.sameBut (.slots :: .stripes :: .gov :: evtParts) c)) ∧
  (∀ (s : State) (slot gen width cntlid label : Nat), Live .up s → s.chip.slotOk slot = true → s.chip.flag DRV_LINK_STAT_up slot = false → s.chip.powered slot = true →
    bits s.chip.flash.rules.drvOff (2 * slot + 1) (2 * slot) = 0 →
    RunsSettled (.driveLinkUp slot gen width false cntlid label) s (fun c =>
      c.flag DRV_LINK_STAT_up slot = true ∧ c.flag DRV_NVME_STAT_req_ok slot = false ∧ c.get DRV_NVME_STAT_ready slot = s.chip.get DRV_NVME_STAT_ready slot ∧
      s.chip.sameBut (.slots :: evtParts) c))
/-- R226, R253, R256, R259, R261, R264, R267 to R269, R278: what passes a stripe in rebuild, resync, copy-back and scrub; fences; stripes set aside; scrubs that start by themselves. (Where a clause rests on a reading or a choice of the model, it is that of log entries 75, 76, 77, 78, 79 and 80.) -/
def Obligations.BackgroundRows : Prop :=
  (∀ (s : State) (slot i st : Nat) (o : BgOp) (x : Instr × Nat), Live .gated s →
    x ∈ [(Instr.rebuildStripeDone slot, 1), (Instr.resyncStripeDone slot, 2), (Instr.copybackStripeDone slot, 3), (Instr.scrubStripeDone slot, 4)] →
    s.chip.bgReady slot x.2 = some (i, o, st) → s.chip.stripes.bg.get? i = some o → o.cur = some st → o.sinceFence < 255 →
    RunsSettled x.1 s (fun c =>
      c.stripes.bg.get? i = some { o with
        pos := if x.2 = 2 then o.pos + 1 else if o.again then o.pos else st + 1, cur := none, phase := 0, have_ := [], bad := [], penned := [], goals := [], again := false,
        sinceFence := o.sinceFence + 1 } ∧
      s.chip.sameBut [.stripes, .regs] c)) ∧
  (∀ (s : State) (slot i st : Nat) (o : BgOp) (f : Flock), Live .gated s → s.chip.bgReady slot 1 = some (i, o, st) → s.chip.stripes.bg.get? i = some o → o.sinceFence < 255 →
    s.chip.flock? o.flock = some f →
    RunsSettled (.rebuildStripeDone slot) s (fun c => ∃ g, c.flock? o.flock = some { f with placed := g } ∧ (∀ p, (st, p) ∈ g ↔ (st, p) ∈ f.placed ∨ p ∈ o.goals))) ∧
  (∀ (s : State) (slot i st : Nat) (o : BgOp) (f : Flock), Live .gated s → s.chip.bgReady slot 3 = some (i, o, st) → s.chip.stripes.bg.get? i = some o → o.sinceFence < 255 →
    s.chip.flock? o.flock = some f →
    RunsSettled (.copybackStripeDone slot) s (fun c => ∃ g, c.flock? o.flock = some { f with home := g } ∧ (∀ p, (st, p) ∈ g ↔ (st, p) ∈ f.home ∨ p ∈ o.goals))) ∧
  (∀ (s : State) (slot i e : Nat) (o : BgOp) (x : JEntry) (op : LongOp), Live .gated s → s.chip.stripes.bg = [(i, o)] → o.slot = slot → s.chip.bgRuns o = true → o.kind ≤ 4 → o.flock < 4 →
    o.aside = [] → o.entry = some e → s.chip.stripes.entries.get? e = some x → s.chip.mgmt.ops.get? slot = some op → op.cancelling = false →
    RunsSettled (.fenceTimer slot) s (fun c =>
      c.stripes.bg.get? i = some { o with sinceFence := 0, fenceNs := s.chip.clk } ∧ c.get STRIPE_BG_POS_position o.flock = o.pos % 2 ^ STRIPE_BG_POS_position.width ∧
      (c.stripes.entries.get? e).map (fun y => y.args.take 5) = some [o.kind, o.step, o.folds, o.pos, slot] ∧ s.chip.sameBut [.stripes, .mirror, .regs, .out] c)) ∧
  (∀ (s : State) (slot i st : Nat) (o : BgOp) (f : Flock) (rest : List Nat), Live .work s → s.chip.stripes.bg = [(i, o)] → o.slot = slot → s.chip.flock? o.flock = some f →
    o.aside = st :: rest → (∀ d ∈ s.chip.stripes.drv, ¬ (d.2.flock = o.flock ∧ d.2.stripe = st ∧ (d.2.pen = 1 ∨ d.2.pen = 2))) → o.cur = none → s.chip.bgRuns o = true →
    s.chip.stripeHeld o.flock st (some i) = false →
    RunsSettled (.penResolvedRevisit slot) s (fun c =>
      (c.stripes.bg.get? i).map (fun y => (y.cur, y.aside, y.again, y.phase)) = some (some st, rest, true, 0) ∧ s.chip.sameBut storeParts c)) ∧
  (∀ (s : State) (flock i : Nat) (f : Flock), Live .work s → flock < 4 → s.chip.flock? flock = some f → s.chip.get STRIPE_SCRUB_CFG_period_days ≠ 0 → s.chip.stripes.bg = [] →
    s.chip.loSlot = some i → i < 64 →
    RunsSettled (.scrubPeriodExpiry flock) s (fun c =>
      c.hasBg (fun o => o.kind = 4 ∧ o.flock = flock ∧ o.slot = i ∧ o.pos = 0 ∧ o.mode = s.chip.get STRIPE_SCRUB_CFG_mode) ∧ loState (c.lo i) = 2 ∧
      (c.flock? flock).map (·.scrubNs) = some s.chip.clk ∧ s.chip.sameBut storeParts c))
/-- R279, R280, R285, R286, R288, R290 to R292, R294, R299 to R302, R304, R308 to R310, R312: the commands on contracts, gates, the cap, lanes, costs, power states, points, domains and thresholds. (Where a clause rests on a reading or a choice of the model, it is that of log entries 85, 86, 87, 88 and 89.) -/
def Obligations.GovernorCommands : Prop :=
  (∀ (s : State) (h : Hdr) (p cr pr burst peak : Nat), shapedRefusal s.chip 0 p = none → s.chip.paddocks.has p = true → (pr = 0 ∨ cr ≤ pr) → (burst = 0 ∨ 65536 ≤ burst) → (peak = 0 ∨ 65536 ≤ peak) →
    AskedPairSettled (.shapeSet h 0 p cr pr burst peak) s ⟨0x0700, true, .w, paramBytes [1, 2, 4, 4, 4, 4]⟩ h [p] (fun r =>
      accepted r.status = true ∧ r.chip.shape.pads.get? p = some (contractOf cr pr burst peak) ∧ s.chip.sameBut (.shape :: .tally :: .hbm :: evtParts) r.chip)) ∧
  (∀ (s : State) (h : Hdr) (v cr pr burst peak : Nat), shapedRefusal s.chip 1 v = none → s.chip.vols.has v = true → (pr = 0 ∨ cr ≤ pr) → (burst = 0 ∨ 65536 ≤ burst) → (peak = 0 ∨ 65536 ≤ peak) →
    s.chip.shape.vols.get? v = none →
    AskedPairSettled (.shapeSet h 1 v cr pr burst peak) s ⟨0x0700, true, .w, paramBytes [1, 2, 4, 4, 4, 4]⟩ h [] (fun r =>
      accepted r.status = true ∧ r.chip.shape.vols.get? v = some ((contractOf cr pr burst peak).fine.full s.chip.clk) ∧
      s.chip.sameBut (.shape :: .tally :: .hbm :: evtParts) r.chip)) ∧
  (∀ (s : State) (h : Hdr) (v : Nat) (x : Volume), shapedRefusal s.chip 1 v = none → s.chip.vols.get? v = some x → s.chip.shape.vols.has v = true →
    s.chip.shape.parts.get? (padPart x.paddock (s.chip.islandOf x.fold)) = none →
    AskedPairSettled (.shapeClear h 1 v) s ⟨0x0701, true, .w, paramBytes [1, 2]⟩ h [] (fun r =>
      accepted r.status = true ∧ r.chip.shape.vols.get? v = none ∧ r.chip.shape.wheel.get? v = none ∧ s.chip.sameBut (.shape :: .tally :: .hbm :: evtParts) r.chip)) ∧
  (∀ (s : State) (h : Hdr) (p : Nat), shapedRefusal s.chip 0 p = none → s.chip.shape.pads.has p = true →
    AskedPairSettled (.shapeClear h 0 p) s ⟨0x0701, true, .w, paramBytes [1, 2]⟩ h [p] (fun r =>
      accepted r.status = true ∧ r.chip.shape.pads.get? p = none ∧ (∀ i, i < 4 → r.chip.shape.parts.get? (padPart p i) = none) ∧
      s.chip.sameBut (.shape :: .tally :: .hbm :: evtParts) r.chip)) ∧
  (∀ (s : State) (h : Hdr) (p overhead : Nat), rangeRefusal s.chip p 4096 2048 32 = none → s.chip.paddocks.has p = true →
    AskedPair (.shapeOverheadSet h p overhead) s ⟨0x0702, true, .w, paramBytes [2, 2]⟩ h [p] (fun r =>
      accepted r.status = true ∧ r.chip.overheadOf p = overhead ∧ (∀ q, q ≠ p → r.chip.overheadOf q = s.chip.overheadOf q) ∧
      s.chip.keeps [.shape, .mgmt, .out] (fun _ => False) r.chip)) ∧
  (∀ (s : State) (h : Hdr) (slot enable : Nat) (images : List Nat), slot < 34 → slotAbsent s.chip.id slot = false →
    AskedPair (.gateSet h slot enable images) s ⟨0x0710, true, .w, paramBytes [1, 1, 4, 4, 4, 4, 4, 4, 4, 4]⟩ h [] (fun r =>
      accepted r.status = true ∧ (∀ w, w < 8 → r.chip.shows GOV_GATE (images.getD w 0) slot w) ∧ bit (r.chip.get GOV_GATE_EN_slot_en) slot = decide (enable ≠ 0) ∧
      (∀ x, x < 34 → x ≠ slot → bit (r.chip.get GOV_GATE_EN_slot_en) x = bit (s.chip.get GOV_GATE_EN_slot_en) x) ∧ s.chip.sameBut evtParts r.chip)) ∧
  (∀ (s : State) (h : Hdr) (image : Nat), ∀ x ∈ [(Instr.gateCfgSet h image, 0x0711, GOV_GATE_CFG), (Instr.govClassSet h image, 0x0721, GOV_CLASS_W)],
    Asked x.1 s ⟨x.2.1, false, .w, paramBytes [8]⟩ h [] (fun r =>
      r.status = 0 ∧ r.chip.shows x.2.2 image ∧ s.chip.keeps [.regs, .mgmt] (regKeys x.2.2 0 0) r.chip)) ∧
  (∀ (s : State) (h : Hdr) (image : Nat), s.chip.get TWIN_STATUS_pair_state = 1 →
    Asked (.govCapSet h image) s ⟨0x0720, false, .w, paramBytes [8]⟩ h [] (fun r =>
      r.status = 0 ∧ r.chip.shows GOV_CAP image ∧ .capExchange (GOV_CAP_shelf_cap_w.of image) r.chip.sharePct ∈ r.chip.out ∧ s.chip.sameBut evtParts r.chip)) ∧
  (∀ (s : State) (h : Hdr) (slot cls image : Nat), slot < 34 → slotAbsent s.chip.id slot = false → cls < 16 →
    Asked (.govCostSet h slot cls image) s ⟨0x0722, false, .w, paramBytes [1, 1, 8]⟩ h [] (fun r =>
      r.status = 0 ∧ r.chip.shows GOV_DRV_COST image slot cls ∧ s.chip.keeps [.regs, .mgmt] (regKeys GOV_DRV_COST slot cls) r.chip)) ∧
  (∀ (s : State) (h : Hdr) (image : Nat),
    Asked (.govCtlSet h image) s ⟨0x0723, false, .w, paramBytes [4]⟩ h [] (fun r =>
      r.status = 0 ∧ r.chip.shows GOV_CTL image ∧ s.chip.sameBut (.shape :: .tally :: .hbm :: evtParts) r.chip)) ∧
  (∀ (s : State) (h : Hdr) (domain req : Nat), domain < 62 → domainAbsent s.chip.id domain = false → req < 4 → (req = 3 → neverGated domain = false ∧ clockGated domain = false) →
    Asked (.pdSet h domain req) s ⟨0x0730, false, .w, paramBytes [1, 1]⟩ h [] (fun r =>
      r.status = 0 ∧ r.chip.get GOV_PD_CTL_req domain = req ∧ (req = 2 → r.chip.get GOV_PD_STAT_state domain = 1) ∧ (req = 3 → r.chip.get GOV_PD_STAT_state domain = 0) ∧
      (req = 1 → s.chip.get GOV_PD_STAT_state domain < 2 → r.chip.get GOV_PD_STAT_state domain = 3) ∧
      (req = 0 → r.chip.get GOV_PD_STAT_state domain = s.chip.get GOV_PD_STAT_state domain) ∧ s.chip.sameBut (.gov :: evtParts) r.chip)) ∧
  (∀ (s : State) (h : Hdr) (island point pin : Nat), island < 37 → islandAbsent s.chip.id island = false → point < 8 →
    Asked (.islandPointSet h island point pin) s ⟨0x0731, false, .w, paramBytes [1, 1, 1]⟩ h [] (fun r =>
      r.status = 0 ∧ r.chip.get GOV_ISL_PT_max_point island = point ∧ r.chip.flag GOV_ISL_PT_pin island = decide (pin ≠ 0) ∧
      s.chip.keeps [.regs, .mgmt] (regKeys GOV_ISL_PT island 0) r.chip)) ∧
  (∀ (s : State) (h : Hdr) (island i : Nat), island < 37 → islandAbsent s.chip.id island = false → s.chip.loSlot = some i → i < 64 →
    Asked (.vfCalibrate h island) s ⟨0x0732, false, .l, paramBytes [1]⟩ h [] (fun r => r.longOp i 0x0732 8 ∧ s.chip.sameBut [.regs, .mgmt] r.chip)) ∧
  (∀ (s : State) (h : Hdr) (image : Nat),
    Asked (.vfCfgSet h image) s ⟨0x0733, false, .w, paramBytes [8]⟩ h [] (fun r => r.status = 0 ∧ r.chip.shows GOV_VF_CFG image ∧ s.chip.sameBut [.gov, .regs, .mgmt, .out] r.chip)) ∧
  (∀ (s : State) (h : Hdr) (slot lowest np idle : Nat), slot < 34 → slotAbsent s.chip.id slot = false → lowest < 32 → np < 32 → idle < 2 ^ 32 →
    AskedPair (.drivePsSet h slot lowest np idle) s ⟨0x0740, true, .w, paramBytes [1, 1, 1, 4]⟩ h [] (fun r =>
      accepted r.status = true ∧ r.chip.gov.ceiling.get? slot = some lowest ∧ r.chip.gov.npState.get? slot = some np ∧
      r.chip.get GOV_DRV_PS_CFG_idle_np_ms = (if idle = 0xFFFFFFFF then s.chip.get GOV_DRV_PS_CFG_idle_np_ms else idle) ∧ s.chip.sameBut [.gov, .stripes, .regs, .mgmt, .out] r.chip)) ∧
  (∀ (s : State) (h : Hdr) (warn throttle crit : Nat), 80 ≤ warn → warn ≤ 110 → 85 ≤ throttle → throttle ≤ 110 → 90 ≤ crit → crit ≤ 110 →
    Asked (.thermalSet h warn throttle crit) s ⟨0x0750, false, .w, paramBytes [1, 1, 1]⟩ h [] (fun r =>
      r.status = 0 ∧ r.chip.get GOV_TEMP_CFG_warn_c = warn ∧ r.chip.get GOV_TEMP_CFG_throttle_c = throttle ∧ r.chip.get GOV_TEMP_CFG_crit_c = crit ∧
      s.chip.keeps [.regs, .mgmt] (regKeys GOV_TEMP_CFG 0 0) r.chip)) ∧
  (∀ s : State, Live .up s → Runs .govTempPeakClr s (fun c => c.get GOV_TEMP_STAT_peak_c = 0 ∧ s.chip.keeps [.regs] (fun k => k = GOV_TEMP_STAT_peak_c.key 0 0) c)) ∧
  (∀ (s : State) (island index : Nat) (b : Buckets), Live .up s → s.chip.shape.vols.get? index = some b →
    Runs (.govShapeSelWrite 1 island index) s (fun c =>
      c.get GOV_SHAPE_VIEW0_cr_k = b.terms.cr / 1000 % 2 ^ 32 ∧ c.get GOV_SHAPE_VIEW0_pr_k = b.terms.pr / 1000 % 2 ^ 32 ∧ c.get GOV_SHAPE_VIEW1_burst = b.terms.burst % 2 ^ 32 ∧
      c.get GOV_SHAPE_VIEW1_peak_burst = b.terms.peak % 2 ^ 32 ∧ c.flag GOV_SHAPE_VIEW3_on_wheel = (s.chip.shape.wheel.get? index).isSome ∧
      s.chip.keeps [.regs] (inRange 0x140060 0x140088) c))

/-- R284, R286, R290 to R294, R299, R300, R302 to R311: what the governor does by itself: credits, telemetry, the trip, learning, exchanges, points, calibration, gates, power states and domains. (Where a clause rests on a reading or a choice of the model, it is that of log entries 85, 86, 87, 88, 89, 90, 91, 92 and 93.) -/
def Obligations.GovernorEvents : Prop :=
  (∀ (s : State) (d w : List Nat) (e : Int) (on : List Nat) (g : Giving), Live .up s → s.chip.gov.samples = 0 → s.chip.energyOpen = false → s.chip.flag GOV_CTL_en = true →
    s.chip.slotList.filter s.chip.powered = on → (List.range 5).map (fun l => (on.map (fun x => s.chip.laneDemand x l)).sum) = d →
    [atLeast1 (s.chip.get GOV_CLASS_W_high_w), atLeast1 (s.chip.get GOV_CLASS_W_med_w), atLeast1 (s.chip.get GOV_CLASS_W_low_w)] = w → s.chip.budget = e →
    giving e d w (s.chip.get GOV_CAP_urgent_min_w * 100) (min 50 (s.chip.get GOV_CAP_bg_floor_pct)) (decide (2 ≤ s.chip.get GOV_TEMP_STAT_state)) = g →
    Runs .govCreditInterval s (fun c =>
      c.get GOV_STAT_level = g.level % 4 ∧ c.flag GOV_STAT_deficit = decide (e < 0) ∧ c.get GOV_STAT_budget_w = min 0xFFFF (e.toNat / 100) ∧ c.gov.released = [] ∧
      c.gov.borrow = max 2000 (e.toNat / atLeast1 on.length) ∧ s.chip.sameBut (.gov :: evtParts) c)) ∧
  (∀ s : State, Live .up s → s.chip.energyOpen = true → Runs .govCreditInterval s (fun c =>
    c.get GOV_STAT_level = 0 ∧ c.flag GOV_STAT_deficit = false ∧ c.gov.released = [] ∧
    (∀ x l, x < 34 → l < 5 → c.laneLevel x l = s.chip.laneLevel x l) ∧ s.chip.sameBut (.gov :: evtParts) c)) ∧
  (∀ (s : State) (draw : Nat) (t : Int), Live .up s → -128 ≤ t → t < 115 →
    RunsSettled (.telemetrySample draw false [some t]) s (fun c =>
      c.gov.drawSum = s.chip.gov.drawSum + draw ∧ c.gov.samples = s.chip.gov.samples + 1 ∧ signedOf 8 (c.get GOV_TEMP_STAT_max_c) = t ∧
      c.get GOV_TEMP_STAT_state = tempState (s.chip.get GOV_TEMP_STAT_state) t (s.chip.get GOV_TEMP_CFG_warn_c) (s.chip.get GOV_TEMP_CFG_throttle_c) (s.chip.get GOV_TEMP_CFG_crit_c) ∧
      c.gov.tripped = s.chip.gov.tripped ∧ s.chip.sameBut (.gov :: .cache :: evtParts) c)) ∧
  (∀ (s : State) (draw : Nat) (t : Int), Live .up s → 115 ≤ t → RunsSettled (.telemetrySample draw false [some t]) s (fun c => c.gov.tripped = true ∧ .thermtrip ∈ c.out)) ∧
  (∀ s : State, Live .up s → Runs .thermalTrip s (fun c =>
    c.gov = { s.chip.gov with tripped := true } ∧ c.out = .thermtrip :: s.chip.out ∧ 0x614 ∈ c.evt.atStart ∧ c.get TWIN_WHISTLE_STAT_gen_running = 0 ∧ c.stopped = true ∧
    s.chip.sameBut [.gov, .out, .evt, .flash, .regs] c)) ∧
  (∀ (s : State) (slot uj : Nat), Live .up s → slot < 34 → slotAbsent s.chip.id slot = false → slot ∉ s.chip.gov.psChanged →
    Runs (.costLearnInterval [(slot, uj)] [] []) s (fun c =>
      c.get GOV_DRV_PWR_avg_mw slot = min 0xFFFF (uj / 100) ∧ (slot ∉ s.chip.gov.busy → c.get GOV_DRV_PWR_idle_mw slot = min 0xFFFF (uj / 100)) ∧
      (slot ∈ s.chip.gov.busy → 1000 ≤ s.chip.gov.charged.getD slot 0 → ∀ k, k < 16 → s.chip.flag GOV_DRV_COST_frozen slot k = false →
        c.get GOV_DRV_COST_cost_uj slot k =
          scaleCost (s.chip.get GOV_DRV_COST_cost_uj slot k) (uj - s.chip.get GOV_DRV_PWR_idle_mw slot * 100) (s.chip.gov.charged.getD slot 0) % 2 ^ GOV_DRV_COST_cost_uj.width) ∧
      (∀ x ∈ s.chip.slotList, c.gov.pathSent.getD x 0 = (s.chip.run x).energyPj) ∧ c.gov = { s.chip.gov with charged := [], theirs := [], busy := [], partnerBusy := [], psChanged := [], pathSent := c.gov.pathSent } ∧ s.chip.sameBut (.gov :: evtParts) c)) ∧
  (∀ (s : State) (cap share : Nat), Live .up s → 1 ≤ share → share ≤ 99 →
    Runs (.capExchangeRx cap share) s (fun c =>
      c.gov.partnerCap = some (cap, share) ∧ c.flag GOV_STAT_cap_mismatch = (decide (cap ≠ s.chip.get GOV_CAP_shelf_cap_w) || decide (s.chip.sharePct + share ≠ 100)) ∧
      s.chip.sameBut (.gov :: evtParts) c)) ∧
  (∀ s : State, Live .up s → Runs .shareDivision s (fun c => c.shape.demandMs = [] ∧ c.shape.pads = s.chip.shape.pads ∧ s.chip.sameBut (.shape :: .tally :: .hbm :: evtParts) c)) ∧
  (∀ (s : State) (p d : Nat) (t : Contract), Live .up s → s.chip.get TWIN_STATUS_pair_state = 1 → s.chip.shape.pads = [(p, t)] → s.chip.intake.cmds = [] →
    Runs (.demandExchange [(p, d)]) s (fun c =>
      .demandExchange [(p, s.chip.shape.demand.getD p 0)] ∈ c.out ∧ c.shape.demand = [] ∧
      c.shape.chipPart.get? p = some ((divideContract t.fine 16 (if s.chip.id.chipB then [d, s.chip.shape.demand.getD p 0] else [s.chip.shape.demand.getD p 0, d])).getD
        (b2n s.chip.id.chipB) t.fine) ∧ s.chip.keeps [.shape, .out] (fun _ => False) c)) ∧
  (∀ (s : State) (acts : List Nat) (i p : Nat), Live .up s → i ∈ s.chip.slowable → s.chip.flag GOV_CTL_vf_en = true → s.chip.validPoints i ≠ [] →
    s.chip.flag GOV_ISL_PT_recal_pending i = true → s.chip.choosePoint i (min 255 (acts.getD i 0)) = p → s.chip.get GOV_ISL_PT_point i < p → p < 8 →
    Runs (.islandPointInterval acts) s (fun c =>
      c.get GOV_ISL_PT_act_pct i = min 255 (acts.getD i 0) ∧ c.get GOV_ISL_PT_point i = p ∧ c.get GOV_ISL_PT_mv i = s.chip.pointMv i p ∧ c.gov.moves.get? i = none ∧
      s.chip.sameBut (.gov :: evtParts) c)) ∧
  (∀ (s : State) (island p : Nat) (core : Bool), Live .up s → island < 37 → s.chip.gov.moves.get? island = some p → p < 8 →
    Runs (.railSettled island core) s (fun c =>
      c.get GOV_ISL_PT_point island = p ∧ c.get GOV_ISL_PT_mv island = s.chip.pointMv island p ∧ c.gov.moves.get? island = none ∧ s.chip.sameBut [.gov, .regs] c)) ∧
  (∀ (s : State) (island : Nat), Live .up s → island < 37 → islandAbsent s.chip.id island = false → Runs (.canaryWarnTrip island) s (fun c =>
    c.get GOV_ISL_PT_mv island = min 850 (s.chip.get GOV_ISL_PT_mv island + 5) ∧ c.flag GOV_ISL_PT_recal_pending island = true ∧ s.chip.sameBut evtParts c)) ∧
  (∀ (s : State) (island : Nat), Live .up s → island < 37 → islandAbsent s.chip.id island = false → Runs (.canaryFailTrip island) s (fun c =>
    c.get GOV_ISL_PT_mv island = min 850 (s.chip.get GOV_ISL_PT_mv island + 5 * atLeast1 (s.chip.get GOV_VF_CFG_guard_steps)) ∧
    c.get GOV_ISL_PT_point island = min 7 (s.chip.get GOV_ISL_PT_point island + 1) ∧ c.flag GOV_ISL_PT_recal_pending island = true ∧ s.chip.sameBut evtParts c)) ∧
  (∀ (s : State) (island act mv p : Nat), Live .up s → island < 37 → islandAbsent s.chip.id island = false → p < 8 →
    Runs (.recalTimer island act (List.replicate 8 (some mv))) s (fun c =>
      c.get GOV_ISL_CAL_mv island p = min 850 (mv + 5 * atLeast1 (s.chip.get GOV_VF_CFG_guard_steps)) ∧ c.flag GOV_ISL_CAL_valid island p = true ∧
      c.flag GOV_ISL_PT_recal_pending island = false ∧ c.get GOV_ISL_PT_guard_extra island = 0 ∧ s.chip.sameBut (.gov :: evtParts) c)) ∧
  (∀ s : State, Live .up s → Runs .pmbusNoAck s (fun c => c.gov.railDead = true ∧ (∀ i p, (i, p) ∈ c.gov.moves ↔ (i, p) ∈ s.chip.gov.moves ∧
      s.chip.pointMv i p + s.chip.headroom ≤ s.chip.get GOV_VF_CFG_core_mv) ∧ s.chip.sameBut (.gov :: evtParts) c)) ∧
  (∀ (s : State) (slot : Nat), Live .up s → slot < 34 → slotAbsent s.chip.id slot = false → Runs (.gateWindowEdge slot) s (fun c =>
    bit (c.get GOV_GATE_STAT_open) slot = s.chip.gateOpen slot ∧ s.chip.sameBut evtParts c)) ∧
  (∀ (s : State) (slot st : Nat), Live .up s → slot < 32 → s.chip.get GOV_DRV_PS_CFG_idle_np_ms ≠ 0 → (∃ f ∈ s.chip.stripes.flocks, slot ∈ f.2.slots) →
    s.chip.flag GOV_DRV_PWR_np slot = false → (∀ d ∈ s.chip.stripes.drv, d.2.slot ≠ slot) → s.chip.id.chipB = false → s.chip.gov.npState.get? slot = some st →
    s.chip.flag GOV_CTL_ps_en = true → s.chip.chipTagsFree = true →
    Runs (.idleNpExpiry slot) s (fun c =>
      c.gov.psWait.get? slot = some (st, true, 1) ∧ c.out = .driveAdmin slot 0 st :: s.chip.out ∧ s.chip.sameBut [.gov, .stripes, .regs, .out] c)) ∧
  (∀ (s : State) (domain : Nat), Live .up s → domain < 62 → domainAbsent s.chip.id domain = false → s.chip.get GOV_PD_CTL_req domain = 0 →
    s.chip.get GOV_PD_STAT_state domain = 2 → neverGated domain = false → (clockGated domain || s.chip.mayGate domain) = true →
    Runs (.domainIdle domain) s (fun c => c.get GOV_PD_STAT_state domain = b2n (clockGated domain) ∧ s.chip.sameBut (.gov :: evtParts) c)) ∧
  (∀ (s : State) (domain sender : Nat), Live .up s → domain < 62 → domainAbsent s.chip.id domain = false → s.chip.get GOV_PD_CTL_req domain < 2 →
    s.chip.get GOV_PD_STAT_state domain < 2 →
    Runs (.domainWakeRequest domain sender) s (fun c =>
      c.get GOV_PD_STAT_state domain = 3 ∧
      c.swx.waitsAt (sender * 64 + domainIsland domain) = s.chip.swx.waitsAt (sender * 64 + domainIsland domain) ++ [domain] ∧
      s.chip.sameBut [.gov, .swx, .regs] c)) ∧
  (∀ (s : State) (domain : Nat), Live .up s → domain < 62 → s.chip.get GOV_PD_STAT_state domain = 3 → Runs (.domainWakeDone domain) s (fun c =>
    c.get GOV_PD_STAT_state domain = 2 ∧ (∀ key, s.chip.swx.stiles.has key = true →
      c.swx.waitsAt key = (s.chip.swx.waitsAt key).dropWhile (fun d => decide (c.get GOV_PD_STAT_state d = 2))) ∧ s.chip.sameBut (.gov :: .swx :: evtParts) c)) ∧
  (∀ (s : State) (slot st : Nat) (np : Bool), Live .up s → slot < 32 → s.chip.id.chipB = false → s.chip.flag GOV_CTL_ps_en = true →
    s.chip.freeTags slot ≠ 0 → s.chip.chipTagsFree = true →
    Runs (.drivePsRequestRx slot (some (st, np))) s (fun c =>
      c.gov.psWait.get? slot = some (st, np, 1) ∧ c.gov.lastCmd.get? slot = some s.chip.clk ∧ c.out = .driveAdmin slot 0 st :: s.chip.out ∧
      s.chip.sameBut [.gov, .stripes, .regs, .out] c)) ∧
  (∀ (s : State) (slot st tries : Nat) (np : Bool), Live .gated s → slot < 34 → slotAbsent s.chip.id slot = false → st < 16 → s.chip.gov.psWait.get? slot = some (st, np, tries) →
    (s.chip.adminTag slot 0).2 = false →
    RunsSettled (.driveAdminComplete slot 0 true) s (fun c =>
      c.get GOV_DRV_PWR_ps slot = st ∧ c.flag GOV_DRV_PWR_np slot = np ∧ c.gov.psWait.get? slot = none ∧ s.chip.sameBut (.gov :: .stripes :: evtParts) c)) ∧
  (∀ (s : State) (slot st tries : Nat) (np : Bool), Live .gated s → slot < 34 → slotAbsent s.chip.id slot = false → s.chip.gov.psWait.get? slot = some (st, np, tries) →
    (s.chip.adminTag slot 0).2 = false →
    RunsSettled (.driveAdminComplete slot 0 false) s (fun c =>
      c.gov.psWait.get? slot = (if tries < 2 then some (st, np, tries + 1) else none) ∧ c.get GOV_DRV_PWR_ps slot = s.chip.get GOV_DRV_PWR_ps slot ∧
      s.chip.sameBut (.gov :: .stripes :: evtParts) c)) ∧
  (∀ (s : State) (slot : Nat) (ok : Bool), Live .gated s → slot < 34 → slotAbsent s.chip.id slot = false → (s.chip.adminTag slot 1).2 = false →
    RunsSettled (.driveAdminComplete slot 1 ok) s (fun c =>
      c.flag DRV_NVME_STAT_rsv_held slot = ok ∧ s.chip.sameBut [.stripes, .regs] c ∧ ((s.chip.adminTag slot 1).1 = none → s.chip.keeps [.regs] (fun k => k = DRV_NVME_STAT_rsv_held.key slot 0) c)))
/-- R317, R322, R327, R330, R332, R333, R337, R338, R341: the commands on slots. (Where a clause rests on a reading or a choice of the model, it is that of log entries 94 and 96.) -/
def Obligations.SlotCommands : Prop :=
  (∀ (s : State) (h : Hdr) (slot on : Nat), slot < 32 → slotAbsent s.chip.id slot = false → on ≠ 0 → h.src ≠ .record → s.chip.flag SLOT_CH_STAT_present slot = true →
    s.chip.pathState slot = 0 →
    AskedPair (.slotPowerSet h slot on) s ⟨0x0600, true, .w, paramBytes [1, 1]⟩ h [] (fun r =>
      accepted r.status = true ∧ r.chip.flag SLOT_CH_CTL_en slot = true ∧ r.chip.pathState slot = s.chip.startState slot ∧ .slotGate slot 1 ∈ r.chip.out ∧
      bit r.chip.flash.rules.holdSlots slot = false ∧ s.chip.sameBut (.flash :: slotParts) r.chip)) ∧
  (∀ (s : State) (h : Hdr) (slot : Nat), slot < 34 → slotAbsent s.chip.id slot = false → (s.chip.pathState slot = 2 ∨ s.chip.pathState slot = 3) →
    AskedPair (.slotPowerSet h slot 0) s ⟨0x0600, true, .w, paramBytes [1, 1]⟩ h [] (fun r =>
      accepted r.status = true ∧ (r.chip.run slot).quiesced = true ∧ (r.chip.run slot).offAsked = true ∧ r.chip.flag SLOT_CH_CTL_pwarn slot = true ∧
      .driveAdmin slot 2 0 ∈ r.chip.out ∧ .slotPwarn slot true ∈ r.chip.out ∧ s.chip.sameBut [.slots, .regs, .mgmt, .out] r.chip)) ∧
  (∀ (s : State) (h : Hdr) (slot : Nat) (images : List Nat), slot < 34 → slotAbsent s.chip.id slot = false →
    (∀ k, k < 7 → SLOT_CURVE_i_ma.of (images.getD k 0) < SLOT_CURVE_i_ma.of (images.getD (k + 1) 0) ∧
      SLOT_CURVE_t_us.of (images.getD (k + 1) 0) < SLOT_CURVE_t_us.of (images.getD k 0)) →
    SLOT_CURVE_i_ma.of (images.getD 0 0) ≤ s.chip.get SLOT_CEIL_cont_ma slot → (∀ k, k < 8 → SLOT_CURVE_i_ma.of (images.getD k 0) ≤ s.chip.get SLOT_CEIL_peak_ma slot) →
    s.chip.get SLOT_CH_CFG_ilim_ramp_ma slot ≤ s.chip.get SLOT_CEIL_peak_ma slot → s.chip.get SLOT_CH_LIM_sc_ma slot ≤ s.chip.get SLOT_CEIL_peak_ma slot →
    Asked (.slotCurveSet h slot images) s ⟨0x0601, false, .w, paramBytes [1, 8, 8, 8, 8, 8, 8, 8, 8]⟩ h [] (fun r =>
      r.status = 0 ∧ (∀ k, k < 8 → r.chip.shows SLOT_CURVE (images.getD k 0) slot k) ∧
      s.chip.keeps [.regs, .mgmt] (fun x => ∃ k, k < 8 ∧ regKeys SLOT_CURVE slot k x) r.chip)) ∧
  (∀ (s : State) (h : Hdr) (slot cfg lim th param : Nat), slot < 34 → slotAbsent s.chip.id slot = false →
    SLOT_CH_CFG_ilim_ramp_ma.of cfg ≤ s.chip.get SLOT_CEIL_peak_ma slot → SLOT_CH_LIM_sc_ma.of lim ≤ s.chip.get SLOT_CEIL_peak_ma slot →
    Asked (.slotCfgSet h slot cfg lim th param) s ⟨0x0602, false, .w, paramBytes [1, 8, 8, 8, 8]⟩ h [] (fun r =>
      r.status = 0 ∧ r.chip.shows SLOT_CH_CFG cfg slot ∧ r.chip.shows SLOT_CH_LIM lim slot ∧ (32 ≤ slot → r.chip.shows SLOT_TH_CFG th slot) ∧
      (slot < 32 → r.chip.get SLOT_TH_CFG_src slot = 0 ∧ r.chip.get SLOT_TH_CFG_tj_max_c slot = SLOT_TH_CFG_tj_max_c.of th) ∧ r.chip.shows SLOT_TH_PARAM param slot ∧
      s.chip.keeps [.regs, .mgmt] (inRange (0x180000 + 256 * slot) (0x180100 + 256 * slot)) r.chip)) ∧
  (∀ (s : State) (h : Hdr) (slot : Nat), slot < 34 → slotAbsent s.chip.id slot = false → s.chip.pathState slot = 6 →
    AskedPair (.slotUnlock h slot) s ⟨0x0603, true, .w, paramBytes [1]⟩ h [] (fun r =>
      accepted r.status = true ∧ r.chip.get SLOT_CH_STAT_fault_cnt slot = 0 ∧ r.chip.pathState slot = (if (s.chip.run slot).retryEnd.isSome then 5 else 0) ∧
      s.chip.sameBut [.regs, .mgmt, .out] r.chip)) ∧
  (∀ (s : State) (slot : Nat), Live .up s → s.chip.slotOk slot = true → s.chip.pathState slot = 6 → Runs (.slotUnlockWrite slot) s (fun c =>
    c.get SLOT_CH_STAT_fault_cnt slot = 0 ∧ c.pathState slot = (if (s.chip.run slot).retryEnd.isSome then 5 else 0) ∧ s.chip.sameBut [.regs] c)) ∧
  (∀ (s : State) (h : Hdr) (slot image : Nat), slot < 34 → slotAbsent s.chip.id slot = false →
    AskedPair (.slotLedSet h slot image) s ⟨0x0604, true, .w, paramBytes [1, 4]⟩ h [] (fun r =>
      accepted r.status = true ∧ r.chip.shows SLOT_LED image slot ∧ (s.chip.sidebandOwner = false → r.chip.get SLOT_LED_green slot = 0) ∧
      s.chip.sameBut [.regs, .mgmt, .out] r.chip)) ∧
  (∀ (s : State) (h : Hdr) (slot : Nat), slot < 34 → slotAbsent s.chip.id slot = false → s.chip.sidebandOwner = true → s.chip.powered slot = true →
    (s.chip.run slot).removeAt = none → s.chip.removalRefused slot = false →
    AskedPair (.slotRemove h slot) s ⟨0x0605, true, .w, paramBytes [1]⟩ h [] (fun r =>
      accepted r.status = true ∧ (r.chip.run slot).quiesced = true ∧ (r.chip.run slot).removeAt = some s.chip.clk ∧ r.chip.get SLOT_BTN_STAT_rm_state slot = 1 ∧
      .driveAdmin slot 2 0 ∈ r.chip.out ∧ s.chip.sameBut [.slots, .regs, .mgmt, .out] r.chip)) ∧
  (∀ (s : State) (h : Hdr) (slot : Nat), slot < 34 → slotAbsent s.chip.id slot = false → s.chip.sidebandOwner = true → s.chip.powered slot = true →
    (s.chip.run slot).removeAt = none → s.chip.removalRefused slot = true →
    AskedPair (.slotRemove h slot) s ⟨0x0605, true, .w, paramBytes [1]⟩ h [] (fun r =>
      r.status = 0x0300 ∧ (r.chip.run slot).removeAt = none ∧ (r.chip.run slot).refusedAt = some s.chip.clk ∧ r.chip.get SLOT_BTN_STAT_rm_state slot = 2 ∧
      s.chip.sameBut (.slots :: evtParts) r.chip)) ∧
  (∀ (s : State) (h : Hdr) (slot kind type controller : Nat) (b : Bytes), slot < 34 → slotAbsent s.chip.id slot = false → kind < 3 →
    AskedPair (.slotMiRead h slot kind type controller (some b)) s ⟨0x0606, true, .r, paramBytes [1, 1, 1, 2]⟩ h [] (fun r =>
      accepted r.status = true ∧ r.data = le 2 b.length ++ b ∧ .miPoll slot kind type controller ∈ r.chip.out ∧ s.chip.keeps [.mgmt, .out] (fun _ => False) r.chip)) ∧
  (∀ (s : State) (h : Hdr) (slot : Nat), slot < 34 → slotAbsent s.chip.id slot = false →
    Asked (.slotStatusGet h slot) s ⟨0x0607, false, .r, paramBytes [1]⟩ h [] (fun r =>
      Reads s h 0x0607 r (s.chip.image SLOT_CH_STAT slot ++ s.chip.image SLOT_CH_FAULT slot ++ s.chip.image SLOT_TH_STAT slot ++ s.chip.image SLOT_CNT slot ++
        s.chip.image DRV_LINK_STAT slot ++ s.chip.image DRV_NVME_STAT slot ++ s.chip.image DRV_MI_STAT slot))) ∧
  (∀ (s : State) (h : Hdr) (image : Nat), Asked (.slotGlbSet h image) s ⟨0x0608, false, .w, paramBytes [8]⟩ h [] (fun r =>
    r.status = 0 ∧ r.chip.shows SLOT_GLB_CFG image ∧ s.chip.keeps [.regs, .mgmt] (regKeys SLOT_GLB_CFG 0 0) r.chip)) ∧
  (∀ (s : State) (h : Hdr) (slot link cfg : Nat), slot < 34 → slotAbsent s.chip.id slot = false →
    Asked (.driveLinkSet h slot link cfg) s ⟨0x0611, false, .w, paramBytes [1, 4, 8]⟩ h [] (fun r =>
      r.status = 0 ∧ r.chip.shows DRV_LINK_CFG link slot ∧ r.chip.shows DRV_CFG cfg ∧
      s.chip.keeps [.regs, .mgmt] (fun x => regKeys DRV_LINK_CFG slot 0 x ∨ regKeys DRV_CFG 0 0 x) r.chip)) ∧
  (∀ (s : State) (slot : Nat), Live .up s → s.chip.slotOk slot = true → (s.chip.pathState slot = 2 ∨ s.chip.pathState slot = 3) → Runs (.slotOffReqWrite slot) s (fun c =>
    c.flag SLOT_CH_CTL_pwarn slot = true ∧ (32 ≤ slot → c.flag SLOT_CH_CTL_seat_inhibit slot = true) ∧ c.out = .slotPwarn slot true :: s.chip.out ∧
    s.chip.keeps [.regs, .out] (regKeys SLOT_CH_CTL slot 0) c)) ∧
  (∀ (s : State) (slot : Nat), Live .up s → s.chip.slotOk slot = true → Runs (.slotFaultRearm slot) s (fun c =>
    c.flag SLOT_CH_FAULT_valid slot = false ∧ s.chip.keeps [.regs] (fun k => k = SLOT_CH_FAULT_valid.key slot 0) c)) ∧
  (∀ s : State, Live .up s → Runs .slotEvtLastRearm s (fun c => c.flag SLOT_EVT_LAST_valid = false ∧ s.chip.keeps [.regs] (fun k => k = SLOT_EVT_LAST_valid.key 0 0) c))

/-- R317, R320, R322, R324 to R335, R337 to R341: what happens at a slot: faults, retries, insertion, removal, the button, the link, the sideband. (Where a clause rests on a reading or a choice of the model, it is that of log entries 94, 95, 97, 98, 99 and 100.) -/
def Obligations.SlotEvents : Prop :=
  (∀ (s : State) (slot amps : Nat), Live .aon s → s.chip.slotOk slot = true → s.chip.gateIsOn slot = true →
    RunsSettled (.shortCircuitTrip slot amps) s (fun c => s.chip.faulted c slot 1)) ∧
  (∀ (s : State) (slot : Nat), Live .aon s → s.chip.slotOk slot = true → s.chip.pathState slot = 2 → RunsSettled (.rampTimeout slot) s (fun c => s.chip.faulted c slot 4)) ∧
  (∀ (s : State) (slot amps vout vin : Nat) (acc : List Nat), Live .aon s → s.chip.slotOk slot = true →
    (List.range 8).map (fun k => if s.chip.get SLOT_CURVE_i_ma slot k < amps then (s.chip.run slot).acc.getD k 0 + 1 else (s.chip.run slot).acc.getD k 0 - 1) = acc →
    (∀ k, k < 8 → acc.getD k 0 = 0 ∨ acc.getD k 0 < s.chip.get SLOT_CURVE_t_us slot k) → (s.chip.get SLOT_CH_LIM_uv_mv slot ≤ vout ∨ vin < s.chip.get SLOT_CH_LIM_uv_mv slot + 500) →
    RunsSettled (.pathSample slot amps vout vin) s (fun c =>
      c.get SLOT_CH_STAT_i_ma slot = min 0xFFFF amps ∧ c.get SLOT_CH_STAT_vout_mv slot = min 0xFFFF vout ∧ (c.run slot).acc = acc ∧ c.pathState slot = s.chip.pathState slot ∧
      s.chip.sameBut [.slots, .regs] c)) ∧
  (∀ (s : State) (slot amps vout vin k : Nat), Live .aon s → s.chip.slotOk slot = true → s.chip.gateIsOn slot = true → k < 8 → s.chip.get SLOT_CURVE_i_ma slot k < amps →
    s.chip.get SLOT_CURVE_t_us slot k ≤ (s.chip.run slot).acc.getD k 0 + 1 →
    RunsSettled (.pathSample slot amps vout vin) s (fun c => s.chip.faulted c slot 2)) ∧
  (∀ (s : State) (slot : Nat) (d : Int), Live .aon s → s.chip.slotOk slot = true → 32 ≤ slot → s.chip.flag SLOT_TH_CFG_src slot = true → s.chip.gateIsOn slot = true →
    (clamp 100 175 (s.chip.get SLOT_TH_CFG_tj_max_c slot) : Int) * 10 ≤ d →
    RunsSettled (.thermalModelStep slot (some d)) s (fun c => s.chip.faulted c slot 3)) ∧
  (∀ (s : State) (slot : Nat) (t : Int), Live .aon s → s.chip.slotOk slot = true → s.chip.get SLOT_CH_STAT_i_ma slot = 0 → signedOf 8 (s.chip.get SLOT_TH_CFG_ta_c slot) = t → t < 100 →
    (s.chip.run slot).tj = t * 1000000000 → (s.chip.run slot).tc = t * 1000000000 → (s.chip.run slot).cooling = false →
    RunsSettled (.thermalModelStep slot none) s (fun c => c.run slot = s.chip.run slot ∧ c.pathState slot = s.chip.pathState slot ∧ s.chip.sameBut [.slots, .regs] c)) ∧
  (∀ (s : State) (slot : Nat), Live .aon s → s.chip.slotOk slot = true → s.chip.pathState slot = 2 → Runs (.powerGood slot) s (fun c =>
    c.pathState slot = 3 ∧ c.flag SLOT_CH_STAT_pg slot = true ∧ (c.run slot).pgSince = some s.chip.clk ∧ s.chip.sameBut [.slots, .regs] c)) ∧
  (∀ (s : State) (slot : Nat), Live .aon s → s.chip.slotOk slot = true → (s.chip.run slot).retryEnd.isSome = true → s.chip.pathState slot = 5 →
    Runs (.retryTimerExpiry slot) s (fun c =>
      (c.run slot).retryEnd = none ∧ (s.chip.startTrue slot = false → c.pathState slot = 0) ∧
      (s.chip.startTrue slot = true → s.chip.tjC slot < s.chip.restartC slot → c.pathState slot = s.chip.startState slot ∧ .slotGate slot 1 ∈ c.out) ∧
      (s.chip.startTrue slot = true → ¬ s.chip.tjC slot < s.chip.restartC slot → c.pathState slot = 5 ∧ (c.run slot).cooling = true) ∧ s.chip.sameBut [.slots, .regs, .out] c)) ∧
  (∀ (s : State) (slot : Nat), Live .aon s → s.chip.slotOk slot = true → s.chip.pathState slot = 3 → Runs (.faultCountClear slot) s (fun c =>
    c.get SLOT_CH_STAT_fault_cnt slot = 0 ∧ s.chip.keeps [.regs] (fun k => k = SLOT_CH_STAT_fault_cnt.key slot 0) c)) ∧
  (∀ (s : State) (slot : Nat), Live .aon s → s.chip.slotOk slot = true → s.chip.pathState slot = 1 → s.chip.startTrue slot = true → Runs (.insertDelayExpiry slot) s (fun c =>
    c.pathState slot = s.chip.startState slot ∧ c.out = .slotGate slot 1 :: s.chip.out ∧ s.chip.sameBut [.slots, .regs, .out] c)) ∧
  (∀ (s : State) (slot : Nat), Live .aon s → s.chip.slotOk slot = true → s.chip.flag SLOT_CH_STAT_present slot = true → (s.chip.pathState slot = 2 ∨ s.chip.pathState slot = 3) →
    RunsSettled (.presenceChange slot false) s (fun c =>
      c.flag SLOT_CH_STAT_present slot = false ∧ c.pathState slot = 0 ∧ .slotGate slot 0 ∈ c.out ∧ c.get SLOT_CH_STAT_fault_cnt slot = s.chip.get SLOT_CH_STAT_fault_cnt slot ∧
      (c.run slot).goneSince = some s.chip.clk ∧ s.chip.sameBut slotParts c)) ∧
  (∀ (s : State) (slot : Nat), Live .aon s → s.chip.slotOk slot = true → slot < 32 → s.chip.flag SLOT_CH_STAT_present slot = false → s.chip.pathState slot = 0 →
    s.chip.flag SLOT_CH_CTL_en slot = true →
    RunsSettled (.presenceChange slot true) s (fun c => c.flag SLOT_CH_STAT_present slot = true ∧ c.pathState slot = 1 ∧ (c.run slot).goneSince = none ∧ s.chip.sameBut slotParts c)) ∧
  (∀ (s : State) (slot : Nat), Live .aon s → (slot = 32 ∨ slot = 33) → s.chip.pathState slot = 3 →
    RunsSettled (.seatChange slot false) s (fun c =>
      c.flag SLOT_CH_STAT_seated slot = false ∧ c.pathState slot = 0 ∧ .slotGate slot 0 ∈ c.out ∧ c.get SLOT_CH_STAT_fault_cnt slot = s.chip.get SLOT_CH_STAT_fault_cnt slot ∧
      s.chip.sameBut slotParts c)) ∧
  (∀ (s : State) (slot : Nat), Live .aon s → s.chip.slotOk slot = true → s.chip.privileged slot = true → s.chip.startTrue slot = true → s.chip.pathState slot = 0 →
    Runs (.vaultSeatStart slot) s (fun c => c.pathState slot = s.chip.startState slot ∧ .slotGate slot 1 ∈ c.out ∧ s.chip.sameBut slotParts c)) ∧
  (∀ (s : State) (slot : Nat), Live .aon s → s.chip.slotOk slot = true → s.chip.pathState slot = 4 → Runs (.rampDownDone slot) s (fun c =>
    c.pathState slot = 0 ∧ c.get SLOT_CH_STAT_vout_mv slot = 0 ∧ c.flag SLOT_CH_CTL_pwarn slot = false ∧
    ((s.chip.run slot).offAsked = true → c.flag SLOT_CH_CTL_en slot = false ∧ c.get SLOT_BTN_STAT_rm_state slot = 4 ∧ (c.run slot).offByRemoval = true) ∧
    s.chip.sameBut slotParts c)) ∧
  (∀ (s : State) (slot : Nat), Live .aon s → s.chip.slotOk slot = true → s.chip.flag SLOT_CH_CTL_pwarn slot = true → s.chip.waitsPartner slot = false →
    (s.chip.pathState slot = 2 ∨ s.chip.pathState slot = 3) →
    RunsSettled (.pwarnLeadExpiry slot) s (fun c =>
      c.pathState slot = 4 ∧ .slotPerst slot true ∈ c.out ∧ .slotGate slot 2 ∈ c.out ∧ c.flag SLOT_CH_STAT_pg slot = false ∧ s.chip.sameBut slotParts c)) ∧
  (∀ (s : State) (slot : Nat), Live .aon s → s.chip.slotOk slot = true → s.chip.twin.withdrawn = true → s.chip.gateIsOn slot = true →
    RunsSettled (.pwarnFollow slot) s (fun c => c.pathState slot = 0 ∧ .slotGate slot 0 ∈ c.out ∧ s.chip.sameBut slotParts c)) ∧
  (∀ (s : State) (slot ms : Nat), Live .up s → s.chip.slotOk slot = true → ms < 20 → Runs (.buttonRelease slot ms) s (fun c =>
    c.flag SLOT_CH_STAT_button slot = false ∧ s.chip.keeps [.regs] (fun k => k = SLOT_CH_STAT_button.key slot 0) c)) ∧
  (∀ (s : State) (slot ms : Nat), Live .up s → s.chip.slotOk slot = true → 20 ≤ ms → ms ≤ 2000 → s.chip.sidebandOwner = true → s.chip.pathState slot ≠ 6 →
    s.chip.flag SLOT_CH_STAT_present slot = true → (s.chip.run slot).forcedAt = none → (s.chip.run slot).removeAt = none → s.chip.powered slot = true →
    s.chip.removalRefused slot = false →
    Runs (.buttonRelease slot ms) s (fun c =>
      c.get SLOT_BTN_STAT_last_press_ms slot = ms ∧ (c.run slot).removeAt = some s.chip.clk ∧ (c.run slot).quiesced = true ∧ c.get SLOT_BTN_STAT_rm_state slot = 1 ∧
      s.chip.sameBut slotParts c)) ∧
  (∀ (s : State) (slot : Nat), Live .up s → s.chip.slotOk slot = true → s.chip.flag SLOT_CH_STAT_present slot = true → s.chip.flag SLOT_GLB_CFG_forced_en = true →
    Runs (.buttonLongPress slot) s (fun c =>
      (c.run slot).forcedAt = some s.chip.clk ∧ c.get SLOT_BTN_STAT_rm_state slot = 5 ∧ (c.run slot).removeAt = none ∧ s.chip.sameBut slotParts c)) ∧
  (∀ (s : State) (slot : Nat), Live .up s → s.chip.slotOk slot = true → (s.chip.run slot).removeAt.isSome = true → (s.chip.run slot).offAsked = false →
    Runs (.removalBlinkExpiry slot) s (fun c =>
      (c.run slot).offAsked = true ∧ c.flag SLOT_CH_CTL_pwarn slot = true ∧ c.get SLOT_BTN_STAT_rm_state slot = 3 ∧ .slotPwarn slot true ∈ c.out ∧
      (s.chip.get TWIN_STATUS_pair_state = 1 → .slotAsk slot 1 ∈ c.out) ∧ s.chip.sameBut [.slots, .regs, .out] c)) ∧
  (∀ (s : State) (slot : Nat), Live .up s → s.chip.slotOk slot = true → (s.chip.run slot).offAsked = true → (s.chip.pathState slot = 2 ∨ s.chip.pathState slot = 3) →
    RunsSettled (.partnerOffReport slot) s (fun c => c.flag SLOT_CH_STAT_partner_on slot = false ∧ c.pathState slot = 4 ∧ .slotGate slot 2 ∈ c.out ∧ s.chip.sameBut slotParts c)) ∧
  (∀ (s : State) (slot : Nat), Live .up s → s.chip.slotOk slot = true → (s.chip.run slot).offAsked = true → s.chip.get TWIN_STATUS_pair_state = 1 → s.chip.sidebandOwner = true →
    Runs (.partnerOffTimeout slot) s (fun c =>
      (c.run slot).removeAt = none ∧ (c.run slot).offAsked = false ∧ (c.run slot).quiesced = false ∧ (c.run slot).refusedAt = some s.chip.clk ∧
      c.get SLOT_BTN_STAT_rm_state slot = 2 ∧ c.pathState slot = s.chip.pathState slot ∧ s.chip.sameBut slotParts c)) ∧
  (∀ (s : State) (slot : Nat), Live .up s → s.chip.slotOk slot = true → (s.chip.run slot).forcedAt.isSome = true → s.chip.gateIsOn slot = true →
    RunsSettled (.forcedWarningExpiry slot) s (fun c =>
      (c.run slot).forcedOff = true ∧ c.pathState slot = 4 ∧ c.flag SLOT_CH_CTL_pwarn slot = true ∧ .slotGate slot 0 ∈ c.out ∧ s.chip.sameBut slotParts c)) ∧
  (∀ (s : State) (slot n g : Nat), Live .up s → s.chip.slotOk slot = true → s.chip.flag DRV_LINK_STAT_up slot = false → (s.chip.run slot).trainFails = n → (s.chip.run slot).trainGen = g →
    RunsSettled (.linkTrainTimeout slot) s (fun c =>
      (n + 1 < atLeast1 (s.chip.get DRV_LINK_CFG_retries slot) → (c.run slot).trainFails = n + 1 ∧ (c.run slot).trainGen = g) ∧
      (atLeast1 (s.chip.get DRV_LINK_CFG_retries slot) ≤ n + 1 → 0 < g → (c.run slot).trainFails = 0 ∧ (c.run slot).trainGen = g - 1) ∧
      (atLeast1 (s.chip.get DRV_LINK_CFG_retries slot) ≤ n + 1 → g = 0 → (c.run slot).failed = true) ∧ s.chip.sameBut slotParts c)) ∧
  (∀ (s : State) (slot : Nat), Live .up s → s.chip.slotOk slot = true → s.chip.flag DRV_LINK_STAT_up slot = true → RunsSettled (.driveLinkDown slot) s (fun c =>
    c.flag DRV_LINK_STAT_up slot = false ∧ c.flag DRV_NVME_STAT_ready slot = false ∧ (c.run slot).linkDownAt = some s.chip.clk ∧
    (∀ n d, s.chip.stripes.drv.get? n = some d → d.slot = slot → d.pen = 0 → (c.stripes.drv.get? n).map (·.pen) = some 1) ∧ s.chip.sameBut slotParts c)) ∧
  (∀ (s : State) (slot : Nat), Live .up s → s.chip.slotOk slot = true → s.chip.flag DRV_LINK_STAT_up slot = false → (s.chip.run slot).linkDownAt.isSome = true →
    s.chip.powered slot = true →
    RunsSettled (.linkFailExpiry slot) s (fun c => (c.run slot).failed = true ∧ (∀ x ∈ c.stripes.drv, x.2.slot ≠ slot) ∧ s.chip.sameBut slotParts c)) ∧
  (∀ (s : State) (slot : Nat) (t : Int) (crit : Bool), Live .up s → s.chip.slotOk slot = true → s.chip.sidebandOwner = true → s.chip.get SLOT_GLB_CFG_mi_poll_ms ≠ 0 →
    s.chip.flag SLOT_CH_STAT_present slot = true → s.chip.powered slot = true → -128 ≤ t → t ≤ 127 →
    Runs (.miPollTimer slot (some (t, crit, false))) s (fun c =>
      signedOf 8 (c.get DRV_MI_STAT_temp_c slot) = t ∧ c.flag DRV_MI_STAT_mi_ok slot = true ∧ c.flag DRV_MI_STAT_crit_warn slot = crit ∧ (c.run slot).miFails = 0 ∧
      c.out = .miPoll slot 0 0 0 :: s.chip.out ∧ s.chip.sameBut [.slots, .regs, .out] c)) ∧
  (∀ (s : State) (slot : Nat), Live .up s → s.chip.slotOk slot = true → s.chip.sidebandOwner = true → s.chip.get SLOT_GLB_CFG_mi_poll_ms ≠ 0 →
    s.chip.flag SLOT_CH_STAT_present slot = true → s.chip.powered slot = true →
    Runs (.miPollTimer slot none) s (fun c =>
      c.flag DRV_MI_STAT_mi_ok slot = false ∧ (c.run slot).miFails = (s.chip.run slot).miFails + 1 ∧ s.chip.sameBut slotParts c)) ∧
  (∀ (s : State) (slot t : Nat), Live .up s → s.chip.slotOk slot = true → (s.chip.run slot).pgSince = some t → t + 100000000 ≤ s.chip.clk →
    s.chip.flag SLOT_CH_CTL_perst_rel slot = false → (if 32 ≤ slot then 8 else 10) ≤ s.chip.get GLB_START_step →
    Runs (.perstReleaseDelay slot) s (fun c =>
      c.flag SLOT_CH_CTL_perst_rel slot = true ∧ c.out = .slotPerst slot false :: s.chip.out ∧ (c.run slot).trainFails = 0 ∧ s.chip.sameBut [.slots, .regs, .out] c)) ∧
  (∀ (s : State) (slot : Nat), Live .up s → s.chip.slotOk slot = true → Runs (.removalRequestRx slot 0) s (fun c =>
    (c.run slot).quiesced = true ∧ c.out = .driveAdmin slot 2 0 :: s.chip.out ∧ s.chip.keeps [.slots, .out] (fun _ => False) c)) ∧
  (∀ (s : State) (slot : Nat), Live .up s → s.chip.slotOk slot = true → Runs (.removalRequestRx slot 1) s (fun c =>
    (c.run slot).offAsked = true ∧ c.flag SLOT_CH_CTL_pwarn slot = true ∧ c.out = .slotPwarn slot true :: s.chip.out ∧
    s.chip.keeps [.slots, .regs, .out] (regKeys SLOT_CH_CTL slot 0) c))
/-- R351, R355 to R358, R360, R365, R368, R427: the commands on keys, generations and lanes. What unwraps, a KEK and a seed are the ciphers' own results, so a clause about them says what follows for each. (Where a clause rests on a reading or a choice of the model, it is that of log entries 101, 102 and 146.) -/
def Obligations.KeyCommands : Prop :=
  (∀ (s : State) (h : Hdr) (index role : Nat) (blob identity : Bytes), index < 8 → role < 3 → 0 < identity.length → identity.length ≤ 128 → importGuards s.chip 0xFFFF = none →
    Asked (.mgmtPskSet h index role blob identity) s ⟨0x0240, false, .w, paramBytes [1, 1, 1] + 5 + 96 + identity.length⟩ h [] (fun r =>
      (∀ b, s.chip.openBlob blob = some b → b.kind = 2 → b.paddock = 0xFFFF → b.idHash = identityHash identity →
        r.status = 0 ∧ r.chip.mgmt.psks.get? index = some ⟨role, b.keyId, identity, b.secret⟩) ∧
      (s.chip.openBlob blob = none → r.status = 0x0400 ∧ r.chip.mgmt.psks = s.chip.mgmt.psks ∧ bit (r.chip.get EVT_STATUS_status 18) 11 = true) ∧
      s.chip.sameBut evtParts r.chip)) ∧
  (∀ (s : State) (h : Hdr) (kekId : Nat) (point wrapped : Bytes), debugOpen s.chip = false → s.chip.rootUsable = true →
    Asked (.kekImport h kekId point wrapped) s ⟨0x0800, false, .w, paramBytes [8] + 97 + 7 + 48⟩ h [] (fun r =>
      (∀ b, Config.keyUnwrap (Config.hkdfExpand (Config.hkdfExtract (be 8 s.chip.id.serial) (Config.ecdh s.chip.deviceKey (point.take 97))) (ascii "sveting kek import") 32) wrapped = some b →
        unle (b.take 8) = kekId → r.later = true ∧ r.chip.cipher.waiting = s.chip.cipher.waiting ++ [.kek kekId (b.drop 8) h] ∧ .keyRecord (s.chip.cipher.recSeq + 1) ∈ r.chip.out) ∧
      r.chip.cipher.kek = s.chip.cipher.kek ∧ s.chip.sameBut (.cipher :: evtParts) r.chip)) ∧
  (∀ (s : State) (h : Hdr) (kekId : Nat) (point wrapped : Bytes), debugOpen s.chip = true →
    Asked (.kekImport h kekId point wrapped) s ⟨0x0800, false, .w, paramBytes [8] + 97 + 7 + 48⟩ h [] (fun r =>
      r.status = 0x0102 ∧ r.chip.cipher = s.chip.cipher ∧ s.chip.sameBut evtParts r.chip)) ∧
  (∀ (s : State) (h : Hdr), Asked (.deviceKeyGet h) s ⟨0x0801, false, .r, 0⟩ h [] (fun r =>
    Reads s h 0x0801 r (padTo 97 s.chip.devicePub ++ zeros 7 ++ le 8 s.chip.id.serial))) ∧
  (∀ (s : State) (h : Hdr) (p hasGcur gCur : Nat) (blob : Bytes), p < 4096 → (s.chip.id.half = true → p < 2048) → hasGcur < 2 → importGuards s.chip p = none →
    s.chip.cipher.pads.get? p = none → s.chip.cipher.erases.has p = false →
    AskedPairSettled (.paddockKeyImport h p hasGcur gCur blob) s ⟨0x0802, true, .w, paramBytes [2, 1, 4] + 96⟩ h [p] (fun r =>
      (∀ b g, s.chip.openBlob blob = some b → b.kind = 1 → b.paddock = p → g = (if hasGcur = 1 then gCur else b.gen0) → b.gen0 ≤ g → g ≤ b.gen0 + 3 →
        r.later = true ∧ r.chip.cipher.waiting = s.chip.cipher.waiting ++ [.padImport p (seedKey p b.keyId b.gen0 g b.secret) h] ∧ .keyRecord (s.chip.cipher.recSeq + 1) ∈ r.chip.out) ∧
      r.chip.cipher.pads = s.chip.cipher.pads ∧ s.chip.sameBut (.cipher :: evtParts) r.chip)) ∧
  (∀ (s : State) (h : Hdr) (p hasGcur gCur : Nat) (blob : Bytes) (k : PadKey), p < 4096 → (s.chip.id.half = true → p < 2048) → hasGcur < 2 → importGuards s.chip p = none →
    s.chip.cipher.pads.get? p = some k → s.chip.cipher.erases.has p = false →
    AskedPairSettled (.paddockKeyImport h p hasGcur gCur blob) s ⟨0x0802, true, .w, paramBytes [2, 1, 4] + 96⟩ h [p] (fun r =>
      (∀ b, s.chip.openBlob blob = some b → b.kind = 1 → b.paddock = p → b.keyId = k.keyId → accepted r.status = true) ∧
      (∀ b, s.chip.openBlob blob = some b → b.kind = 1 → b.paddock = p → b.keyId ≠ k.keyId → r.status = 0x0203) ∧
      r.chip.cipher = s.chip.cipher ∧ s.chip.sameBut evtParts r.chip)) ∧
  (∀ (s : State) (h : Hdr) (p : Nat) (k : PadKey), p < 4096 → (s.chip.id.half = true → p < 2048) → s.chip.cipher.pads.get? p = some k → s.chip.cipher.erases.has p = false →
    Asked (.paddockKeyStatus h p) s ⟨0x0803, false, .r, paramBytes [2]⟩ h [p] (fun r =>
      Reads s h 0x0803 r (le 8 k.keyId ++ le 8 (k.gLo + k.gCur * 2 ^ 32) ++ le 8 (min k.count (2 ^ 45 - 1) + k.state * 2 ^ 45)))) ∧
  (∀ (s : State) (p : Nat) (k : PadKey), Live .up s → p < 4096 → s.chip.cipher.pads.get? p = some k → s.chip.cipher.erases.has p = false → k.gLo < 2 ^ 32 → k.gCur < 2 ^ 32 → k.state < 4 →
    Runs (.ciphPadSelWrite p) s (fun c =>
      c.get CIPH_PAD_SEL_paddock = p ∧ c.get CIPH_PAD_VIEW0_key_id = k.keyId % 2 ^ 64 ∧ c.get CIPH_PAD_VIEW1_g_lo = k.gLo ∧ c.get CIPH_PAD_VIEW1_g_cur = k.gCur ∧
      c.get CIPH_PAD_VIEW2_count = min k.count (2 ^ 45 - 1) ∧ c.get CIPH_PAD_VIEW2_state = k.state ∧ s.chip.keeps [.regs] (inRange 0x800300 0x800320) c)) ∧
  (∀ (s : State) (h : Hdr) (blob identity : Bytes) (i : Nat), 0 < identity.length → identity.length ≤ 128 → importGuards s.chip 0xFFFF = none → h.paddock = 0xFFFF →
    s.chip.cipher.psks.first? (fun _ p => p.identity = identity) = none → s.chip.cipher.psks.freeFrom 8192 0 = i → i < 8192 →
    AskedPair (.pskImport h blob identity) s ⟨0x0804, true, .w, paramBytes [1] + 7 + 96 + identity.length⟩ h [] (fun r =>
      (∀ b, s.chip.openBlob blob = some b → b.kind = 2 → b.idHash = identityHash identity →
        accepted r.status = true ∧ r.chip.cipher.psks.get? i = some ⟨b.keyId, b.paddock, identity, b.secret⟩) ∧
      (∀ x, x ≠ i → r.chip.cipher.psks.get? x = s.chip.cipher.psks.get? x) ∧ s.chip.sameBut (.cipher :: evtParts) r.chip)) ∧
  (∀ (s : State) (h : Hdr) (keyId i : Nat) (p : Psk), s.chip.cipher.psks = [(i, p)] → p.keyId = keyId →
    AskedPair (.pskClear h keyId) s ⟨0x0805, true, .w, paramBytes [8]⟩ h [] (fun r =>
      accepted r.status = true ∧ r.chip.cipher = { s.chip.cipher with psks := [] } ∧ s.chip.keeps [.cipher, .mgmt, .out] (fun _ => False) r.chip)) ∧
  (∀ (s : State) (h : Hdr) (keyId : Nat), (∀ e ∈ s.chip.cipher.psks, e.2.keyId ≠ keyId) →
    AskedPair (.pskClear h keyId) s ⟨0x0805, true, .w, paramBytes [8]⟩ h [] (fun r => r.status = 0x0201 ∧ s.chip.keeps [.mgmt, .out] (fun _ => False) r.chip)) ∧
  (∀ (s : State) (h : Hdr) (p : Nat) (k : PadKey), p < 4096 → (s.chip.id.half = true → p < 2048) → s.chip.cipher.pads.get? p = some k → k.proposed = none → k.state ≠ 2 → k.gCur + 1 ≤ k.gLo + 3 →
    (s.chip.pairedNow = true → s.chip.id.chipB = false) →
    AskedPairSettled (.paddockRekey h p) s ⟨0x0806, true, .w, paramBytes [2]⟩ h [p] (fun r =>
      accepted r.status = true ∧ r.chip.cipher.pads.get? p = some { k with proposed := some (k.gCur + 1), ackHere := false, ackThere := false } ∧
      r.chip.cipher.waiting = s.chip.cipher.waiting ++ [.advance p (k.gCur + 1)] ∧ (s.chip.pairedNow = true → .genProposal p (k.gCur + 1) ∈ r.chip.out) ∧
      s.chip.keeps [.cipher, .mgmt, .out] (fun _ => False) r.chip)) ∧
  (∀ (s : State) (h : Hdr) (p : Nat) (k : PadKey), p < 4096 → (s.chip.id.half = true → p < 2048) → s.chip.cipher.pads.get? p = some k → k.proposed = none → k.state = 1 → k.gLo + 3 < k.gCur + 1 →
    AskedPairSettled (.paddockRekey h p) s ⟨0x0806, true, .w, paramBytes [2]⟩ h [p] (fun r =>
      accepted r.status = true ∧ r.chip.cipher.pads.get? p = some { k with state := 3 } ∧ bit (r.chip.get EVT_STATUS_status 18) 14 = true ∧ s.chip.sameBut (.cipher :: evtParts) r.chip)) ∧
  (∀ (s : State) (h : Hdr) (image : Nat), AskedPair (.genLimitSet h image) s ⟨0x0807, true, .w, paramBytes [8]⟩ h [] (fun r =>
    accepted r.status = true ∧ r.chip.shows CIPH_GEN_CFG image ∧ s.chip.keeps [.regs, .mgmt, .out] (regKeys CIPH_GEN_CFG 0 0) r.chip)) ∧
  (∀ (s : State) (h : Hdr) (image : Nat), Asked (.ciphCtlSet h image) s ⟨0x0808, false, .w, paramBytes [4]⟩ h [] (fun r =>
    r.status = 0 ∧ r.chip.shows CIPH_CTL image ∧ s.chip.keeps [.regs, .mgmt] (regKeys CIPH_CTL 0 0) r.chip)) ∧
  (∀ (s : State) (h : Hdr) (lane : Nat) (pass : Bool), lane < laneCount s.chip.id →
    Asked (.laneSet h lane 1 pass) s ⟨0x0809, false, .w, paramBytes [1, 1]⟩ h [] (fun r =>
      r.status = 0 ∧ r.chip.get CIPH_LANE_state lane = 2 ∧ bit (r.chip.get CIPH_STATUS_lanes_ok) lane = false ∧
      (∀ x, x < 24 → x ≠ lane → bit (r.chip.get CIPH_STATUS_lanes_ok) x = bit (s.chip.get CIPH_STATUS_lanes_ok) x) ∧ s.chip.sameBut evtParts r.chip)) ∧
  (∀ (s : State) (h : Hdr) (lane : Nat), lane < laneCount s.chip.id → s.chip.get CIPH_LANE_state lane = 2 →
    Asked (.laneSet h lane 0 true) s ⟨0x0809, false, .w, paramBytes [1, 1]⟩ h [] (fun r =>
      r.status = 0 ∧ r.chip.get CIPH_LANE_state lane = 0 ∧ bit (r.chip.get CIPH_STATUS_lanes_ok) lane = true ∧ s.chip.sameBut [.regs, .mgmt] r.chip)) ∧
  (∀ (s : State) (h : Hdr) (lane : Nat), lane < laneCount s.chip.id → s.chip.get CIPH_LANE_state lane = 2 →
    Asked (.laneSet h lane 0 false) s ⟨0x0809, false, .w, paramBytes [1, 1]⟩ h [] (fun r =>
      r.status = 0x0300 ∧ r.chip.get CIPH_LANE_state lane = 2 ∧ bit (r.chip.get EVT_STATUS_status 18) 4 = true ∧ s.chip.sameBut evtParts r.chip))

/-- R348 to R352, R359, R360, R363 to R365, R368: what happens to lanes, the random source, generations, the key record and the context caches. (Where a clause rests on a reading or a choice of the model, it is that of log entries 101, 103, 106 and 146.) -/
def Obligations.CipherEvents : Prop :=
  (∀ (s : State) (mask : Nat), Live .up s → Runs (.entropyFlagClear mask) s (fun c =>
    c.flag CIPH_ENTROPY_rct_fail = (s.chip.flag CIPH_ENTROPY_rct_fail && !bit mask 0) ∧ c.flag CIPH_ENTROPY_apt_fail = (s.chip.flag CIPH_ENTROPY_apt_fail && !bit mask 1) ∧
    s.chip.keeps [.regs] (fun k => k = CIPH_ENTROPY_rct_fail.key 0 0 ∨ k = CIPH_ENTROPY_apt_fail.key 0 0) c)) ∧
  (∀ (s : State) (lane : Nat), Live .up s → lane < laneCount s.chip.id → s.chip.get CIPH_LANE_state lane = 0 →
    Runs (.laneParityFault lane) s (fun c =>
      c.get CIPH_LANE_state lane = 1 ∧ c.get CIPH_LANE_faults lane = min 255 (s.chip.get CIPH_LANE_faults lane + 1) ∧ bit (c.get CIPH_STATUS_lanes_ok) lane = false ∧
      s.chip.clk ∈ c.cipher.faultNs.getD lane [] ∧ bit (c.get EVT_STATUS_status 18) 0 = true ∧ s.chip.sameBut (.cipher :: evtParts) c)) ∧
  (∀ (s : State) (lane : Nat), Live .up s → lane < laneCount s.chip.id → s.chip.get CIPH_LANE_state lane = 1 →
    ((s.chip.cipher.faultNs.getD lane []).filter (fun t => decide (s.chip.clk < t + 3600000000000))).length < 3 →
    Runs (.quarantineExpiry lane true) s (fun c =>
      c.get CIPH_LANE_state lane = 0 ∧ bit (c.get CIPH_STATUS_lanes_ok) lane = true ∧ bit (c.get EVT_STATUS_status 18) 1 = true ∧ s.chip.sameBut evtParts c)) ∧
  (∀ (s : State) (lane : Nat) (pass : Bool), Live .up s → lane < laneCount s.chip.id → s.chip.get CIPH_LANE_state lane = 1 →
    (pass = false ∨ 3 ≤ ((s.chip.cipher.faultNs.getD lane []).filter (fun t => decide (s.chip.clk < t + 3600000000000))).length) →
    Runs (.quarantineExpiry lane pass) s (fun c =>
      c.get CIPH_LANE_state lane = 2 ∧ bit (c.get CIPH_STATUS_lanes_ok) lane = false ∧ bit (c.get EVT_STATUS_status 18) 2 = true ∧ s.chip.sameBut evtParts c)) ∧
  (∀ (s : State) (isl n : Nat), Live .up s → isl < 3 → s.chip.id.half = false → s.chip.cipher.katNext.getD isl 0 % 8 = n → s.chip.get CIPH_LANE_state (isl * 8 + n) = 0 →
    Runs (.katInterval isl true) s (fun c =>
      c.get CIPH_LANE_kat_runs (isl * 8 + n) = min 65535 (s.chip.get CIPH_LANE_kat_runs (isl * 8 + n) + 1) ∧ c.get CIPH_LANE_state (isl * 8 + n) = 0 ∧
      c.cipher.katNext.getD isl 0 % 8 = (n + 1) % 8 ∧ s.chip.keeps [.regs, .cipher] (fun k => k = CIPH_LANE_kat_runs.key (isl * 8 + n) 0) c)) ∧
  (∀ (s : State) (isl n : Nat), Live .up s → isl < 3 → s.chip.id.half = false → s.chip.cipher.katNext.getD isl 0 % 8 = n → s.chip.get CIPH_LANE_state (isl * 8 + n) = 0 →
    Runs (.katInterval isl false) s (fun c =>
      c.get CIPH_LANE_state (isl * 8 + n) = 2 ∧ bit (c.get CIPH_STATUS_lanes_ok) (isl * 8 + n) = false ∧ bit (c.get EVT_STATUS_status 18) 4 = true ∧
      s.chip.sameBut (.cipher :: .twin :: evtParts) c)) ∧
  (∀ (s : State) (test : Nat), Live .up s → Runs (.entropyHealthFail test) s (fun c =>
    c.flag CIPH_STATUS_entropy_ok = false ∧ c.cipher = { s.chip.cipher with sourceOk := false } ∧ (if test = 0 then c.flag CIPH_ENTROPY_rct_fail = true else c.flag CIPH_ENTROPY_apt_fail = true) ∧
    c.flag CIPH_STATUS_drbg_ready = s.chip.flag CIPH_STATUS_drbg_ready ∧ bit (c.get EVT_STATUS_status 18) 5 = true ∧ s.chip.sameBut (.cipher :: evtParts) c)) ∧
  (∀ (s : State) (requests : Nat), Live .up s → RunsSettled (.drbgReseed true requests) s (fun c =>
    c.get CIPH_ENTROPY_since_reseed = 0 ∧ c.flag CIPH_STATUS_entropy_ok = true ∧ c.flag CIPH_STATUS_drbg_ready = true ∧ c.cipher = { s.chip.cipher with sourceOk := true } ∧
    (s.chip.cipher.sourceOk = false → bit (c.get EVT_STATUS_status 18) 6 = true) ∧ s.chip.sameBut (.cipher :: evtParts) c)) ∧
  (∀ (s : State) (requests : Nat), Live .up s → s.chip.get CIPH_ENTROPY_since_reseed + requests < 0xFFFFFFFF → RunsSettled (.drbgReseed false requests) s (fun c =>
    c.get CIPH_ENTROPY_since_reseed = s.chip.get CIPH_ENTROPY_since_reseed + requests ∧ s.chip.keeps [.regs] (fun k => k = CIPH_ENTROPY_since_reseed.key 0 0) c)) ∧
  (∀ (s : State) (requests : Nat), Live .up s → 2 ^ 32 ≤ s.chip.get CIPH_ENTROPY_since_reseed + requests → s.chip.flag CIPH_STATUS_drbg_ready = true → RunsSettled (.drbgReseed false requests) s (fun c =>
    c.drbgStopped = true ∧ bit (c.get EVT_STATUS_status 18) 7 = true ∧ s.chip.sameBut evtParts c)) ∧
  (∀ (s : State) (isl kind index : Nat), Live .up s → isl < 3 → (kind = 1 ∨ kind = 2 ∨ kind = 3) → index < 2 ^ 20 →
    (∀ x ∈ s.chip.cipher.ctxs.getD isl [], x ≠ kind * 2 ^ 20 + index) → ((s.chip.cipher.ctxs.getD isl []).filter (fun x => x / 2 ^ 20 = kind)).length < ctxLimit kind →
    RunsSettled (.contextFetchDone isl kind index true) s (fun c =>
      c.cipher.ctxs.getD isl [] = s.chip.cipher.ctxs.getD isl [] ++ [kind * 2 ^ 20 + index] ∧ s.chip.sameBut [.cipher, .regs] c)) ∧
  (∀ (s : State) (isl kind index x : Nat) (rest : List Nat), Live .up s → isl < 3 → (kind = 1 ∨ kind = 2 ∨ kind = 3) → index < 2 ^ 20 →
    s.chip.cipher.ctxs.getD isl [] = x :: rest → (x :: rest).Nodup → (∀ y ∈ x :: rest, y / 2 ^ 20 = kind ∧ y ≠ kind * 2 ^ 20 + index) → rest.length + 1 = ctxLimit kind →
    RunsSettled (.contextFetchDone isl kind index true) s (fun c =>
      c.cipher.ctxs.getD isl [] = rest ++ [kind * 2 ^ 20 + index] ∧ s.chip.sameBut [.cipher, .regs] c)) ∧
  (∀ (s : State) (isl ctx : Nat) (n : Conn), Live .up s → s.chip.opened .tcp ctx n → s.chip.plainPorts → RunsSettled (.contextFetchDone isl 1 ctx false) s (fun c =>
    .tcpClose ctx true ∈ c.out ∧ c.loses ctx ∧ bit (c.get EVT_STATUS_status 18) 18 = true)) ∧
  (∀ (s : State) (isl i : Nat), Live .up s → RunsSettled (.contextFetchDone isl 2 i false) s (fun c =>
    c.cipher = { s.chip.cipher with psks := s.chip.cipher.psks.del i } ∧ bit (c.get EVT_STATUS_status 18) 18 = true ∧ s.chip.sameBut (.cipher :: evtParts) c)) ∧
  (∀ (s : State) (p gen n kek : Nat) (k : PadKey), Live .up s → s.chip.cipher.pads = [(p, k)] → s.chip.get TWIN_STATUS_pair_state = 1 → gen = k.gCur → k.state = 1 →
    s.chip.flag CIPH_CTL_auto_advance = false →
    RunsSettled (.genCountExchange [(p, gen, n)] (some kek)) s (fun c =>
      c.cipher.pads.get? p = some { k with partner := k.partner.put gen n } ∧ c.cipher.partnerKek = some kek ∧
      .genCounts (k.counts.map (fun x => (p, x.1, x.2))) (s.chip.get CIPH_KEK_ID_kek_id) ∈ c.out ∧
      (s.chip.cipher.partnerKek = none → kek ≠ s.chip.get CIPH_KEK_ID_kek_id → bit (c.get EVT_STATUS_status 18) 9 = true) ∧ s.chip.sameBut (.cipher :: evtParts) c)) ∧
  (∀ (s : State) (p n : Nat) (k : PadKey), Live .up s → s.chip.cipher.pads = [(p, k)] → s.chip.get TWIN_STATUS_pair_state = 2 → s.chip.flag CIPH_CTL_auto_advance = true →
    k.state = 1 → k.proposed = none → k.gCur + 1 ≤ k.gLo + 3 → 2 ^ clamp 32 44 (s.chip.get CIPH_GEN_CFG_soft_log2) ≤ k.counts.getD k.gCur 0 + n →
    RunsSettled (.genCountExchange [(p, k.gCur, n)] none) s (fun c =>
      (∃ q, c.cipher.pads.get? p = some q ∧ q.proposed = some (k.gCur + 1) ∧ q.gCur = k.gCur) ∧ c.cipher.waiting = s.chip.cipher.waiting ++ [.advance p (k.gCur + 1)] ∧
      s.chip.keeps [.cipher, .out] (fun _ => False) c)) ∧
  (∀ (s : State) (p gen : Nat) (k : PadKey), Live .up s → s.chip.cipher.pads.get? p = some k → k.proposed = some gen → k.ackHere = true →
    RunsSettled (.genAdvanceAck p gen) s (fun c =>
      (∃ q, c.cipher.pads.get? p = some q ∧ q.gCur = gen ∧ q.gLo = k.gLo ∧ q.proposed = none) ∧ bit (c.get EVT_STATUS_status 18) 12 = true ∧ s.chip.sameBut (.cipher :: evtParts) c)) ∧
  (∀ (s : State) (p gen : Nat) (k : PadKey), Live .up s → s.chip.cipher.pads.get? p = some k → k.proposed = some gen → k.ackHere = false →
    RunsSettled (.genAdvanceAck p gen) s (fun c =>
      c.cipher.pads.get? p = some { k with ackThere := true } ∧ s.chip.keeps [.cipher] (fun _ => False) c)) ∧
  (∀ (s : State) (p gen : Nat) (k : PadKey), Live .up s → s.chip.cipher.pads.get? p = some k → gen = k.gCur + 1 → gen ≤ k.gLo + 3 →
    RunsSettled (.genAdvanceProposalRx p gen) s (fun c =>
      c.cipher.pads.get? p = some { k with proposed := some gen, ackHere := false, ackThere := true } ∧ c.cipher.waiting = s.chip.cipher.waiting ++ [.advance p gen] ∧
      .keyRecord (s.chip.cipher.recSeq + 1) ∈ c.out ∧ s.chip.keeps [.cipher, .out] (fun _ => False) c)) ∧
  (∀ s : State, Live .up s → RunsSettled (.keyRecordWritten false false) s (fun c =>
    c.cipher = s.chip.cipher ∧ bit (c.get EVT_STATUS_status 18) 21 = true ∧ s.chip.sameBut evtParts c)) ∧
  (∀ (s : State) (p gen : Nat) (k : PadKey), Live .up s → s.chip.cipher.waiting = [.advance p gen] → s.chip.cipher.pads.get? p = some k → s.chip.get TWIN_STATUS_pair_state = 1 → k.ackThere = true →
    RunsSettled (.keyRecordWritten true true) s (fun c =>
      (∃ q, c.cipher.pads.get? p = some q ∧ q.gCur = gen ∧ q.proposed = none) ∧ c.cipher.waiting = [] ∧ .genAck p gen ∈ c.out ∧ s.chip.sameBut (.cipher :: evtParts) c)) ∧
  (∀ (s : State) (p : Nat) (k : PadKey), Live .up s → s.chip.cipher.waiting = [.retire p] → s.chip.cipher.pads.get? p = some k → k.state ≠ 3 →
    RunsSettled (.keyRecordWritten true false) s (fun c =>
    (∃ q, c.cipher.pads.get? p = some q ∧ q.gLo = k.gLo + 1 ∧ q.gCur = k.gCur ∧ q.secret = k.secretOf p (k.gLo + 1)) ∧ bit (c.get EVT_STATUS_status 18) 13 = true ∧
    bit (c.get EVT_STATUS_status 18) 21 = true ∧ c.cipher.waiting = [] ∧ s.chip.sameBut (.cipher :: evtParts) c)) ∧
  (∀ (s : State) (p : Nat) (k : PadKey), Live .up s → s.chip.cipher.waiting = [.retire p] → s.chip.cipher.pads.get? p = some k → k.state = 3 → k.proposed = none → k.gCur = k.gLo + 3 →
    s.chip.pairedNow = false →
    RunsSettled (.keyRecordWritten true true) s (fun c =>
    (∃ q, c.cipher.pads.get? p = some q ∧ q.gLo = k.gLo + 1 ∧ q.gCur = k.gCur ∧ q.proposed = some (k.gCur + 1)) ∧ c.cipher.waiting = [.advance p (k.gCur + 1)] ∧
    .keyRecord (s.chip.cipher.recSeq + 1) ∈ c.out ∧ s.chip.sameBut (.cipher :: evtParts) c))
/-- R371, R376 to R380, R382 to R384, R391 to R393, R395, R396, R399, R400, R417: the twin commands, whistles, pairing and refusal, splits, the loopback check, the dead-man, and commands that the partner carries. (Where a clause rests on a reading or a choice of the model, it is that of log entries 107, 108, 109, 111 and 113.) -/
def Obligations.TwinRows : Prop :=
  (∀ (s : State) (h : Hdr), Asked (.twinStatusGet h) s ⟨0x0900, false, .r, 0⟩ h [] (fun r =>
    Reads s h 0x0900 r (s.chip.image TWIN_STATUS ++ s.chip.image TWIN_WHISTLE_STAT ++ s.chip.image TWIN_RESYNC ++ s.chip.image TWIN_PLINK ++ s.chip.image TWIN_CROOK ++
      (List.range 8).flatMap (fun f => s.chip.image TWIN_FOLD_STAT f)))) ∧
  (∀ (s : State) (h : Hdr) (fold v : Nat), fold < 8 → v < 2 →
    ∀ x ∈ [(Instr.foldBellwetherSet h fold v, 0x0901, TWIN_FOLD_CFG_bellwether), (Instr.foldHoldSet h fold v, 0x0903, TWIN_FOLD_CFG_hold)],
    AskedPair x.1 s ⟨x.2.1, true, .w, paramBytes [1, 1]⟩ h [] (fun r =>
      accepted r.status = true ∧ r.chip.get x.2.2 fold = v ∧ s.chip.keeps [.regs, .mgmt, .out] (fun k => k = x.2.2.key fold 0) r.chip)) ∧
  (∀ (s : State) (h : Hdr) (ctl whistle failback : Nat),
    AskedPairSettled (.twinCfgSet h ctl whistle failback) s ⟨0x0906, true, .w, paramBytes [4, 8, 8]⟩ h [] (fun r =>
      accepted r.status = true ∧ r.chip.shows TWIN_CTL ctl ∧ r.chip.shows TWIN_WHISTLE_CFG whistle ∧ r.chip.shows TWIN_FAILBACK_CFG failback ∧
      s.chip.keeps [.regs, .mgmt, .out] (fun k => regKeys TWIN_CTL 0 0 k ∨ regKeys TWIN_WHISTLE_CFG 0 0 k ∨ regKeys TWIN_FAILBACK_CFG 0 0 k) r.chip)) ∧
  (∀ (s : State) (h : Hdr), s.chip.twin.fuseHold = true →
    AskedSettled (.twinSoloStart h) s ⟨0x0904, false, .w, 0⟩ h [] (fun r =>
      r.status = 0 ∧ r.chip.twin.soloGo = true ∧ r.chip.twin.fuseHold = false ∧
      (s.chip.flag TWIN_CTL_en = true → s.chip.twin.withdrawn = false → s.chip.start.misfit = false → s.chip.get TWIN_STATUS_pair_state ≠ 4 →
        ∀ f, s.chip.freeFold f → s.chip.get TWIN_FOLD_CFG_bellwether f = s.chip.me → s.chip.flag TWIN_FOLD_STAT_gate_open f = false → r.chip.claiming f 0) ∧
      s.chip.sameBut (.twin :: evtParts) r.chip)) ∧
  (∀ (s : State) (h : Hdr), s.chip.twin.fuseHold = false →
    AskedSettled (.twinSoloStart h) s ⟨0x0904, false, .w, 0⟩ h [] (fun r => r.status = 0x0300 ∧ s.chip.keeps [.mgmt] (fun _ => False) r.chip)) ∧
  (∀ (s : State) (kick : Nat), Live .up s → bit kick 0 = true → s.chip.get SWX_CTL_plane_en ≠ 0 → Runs (.twinKickWrite kick) s (fun c =>
    c.flag TWIN_WHISTLE_STAT_gen_running = true ∧ s.chip.keeps [.regs] (fun k => k = TWIN_WHISTLE_STAT_gen_running.key 0 0) c)) ∧
  (∀ s : State, Live .up s → Runs .kickWindowExpiry s (fun c =>
    c.flag TWIN_WHISTLE_STAT_gen_running = false ∧ s.chip.keeps [.regs] (fun k => k = TWIN_WHISTLE_STAT_gen_running.key 0 0) c)) ∧
  (∀ s : State, Live .up s → s.chip.flag TWIN_WHISTLE_STAT_gen_running = true → Runs .whistleSend s (fun c =>
    (∃ body, c.out = .whistle body :: s.chip.out ∧ body.length = 32 ∧ whistleField body 0 2 = 0x5357 ∧ whistleField body 4 4 = (s.chip.twin.seq + 1) % 2 ^ 32 ∧
      whistleField body 28 4 = crc32c (body.take 28)) ∧
    c.twin = { s.chip.twin with seq := (s.chip.twin.seq + 1) % 2 ^ 32 } ∧ s.chip.keeps [.twin, .out, .regs] (regKeys TWIN_CNT 0 0) c)) ∧
  (∀ s : State, Live .up s → s.chip.flag TWIN_WHISTLE_STAT_gen_running = false → Runs .whistleSend s (fun c => c = s.chip)) ∧
  (∀ (s : State) (mask : Nat), Live .up s → Runs (.crookLoopErrClear mask) s (fun c =>
    (∀ f, f < 8 → bit (c.get TWIN_CROOK_loop_err) f = (bit (s.chip.get TWIN_CROOK_loop_err) f && !bit mask f)) ∧
    s.chip.keeps [.regs] (fun k => k = TWIN_CROOK_loop_err.key 0 0) c)) ∧
  (∀ (s : State) (own f : Nat), Live .up s → f < 8 → bit own f ≠ s.chip.flag TWIN_FOLD_STAT_own_line f → RunsSettled (.crookLoopbackCheck own) s (fun c =>
    bit (c.get TWIN_CROOK_loop_err) f = true ∧ bit c.twin.faults 4 = true ∧ bit (c.get EVT_STATUS_status 26) 19 = true ∧ s.chip.sameBut (.twin :: evtParts) c)) ∧
  (∀ (s : State) (own : Nat), Live .up s → (∀ f, f < 8 → bit own f = s.chip.flag TWIN_FOLD_STAT_own_line f) → RunsSettled (.crookLoopbackCheck own) s (fun c =>
    c.get TWIN_CROOK_loop_err = s.chip.get TWIN_CROOK_loop_err ∧ s.chip.sameBut [.regs] c)) ∧
  (∀ (s : State) (path : Nat) (x : Field × Field), Live .up s → (path = 0 ∧ x = (TWIN_WHISTLE_STAT_miss_link, TWIN_WHISTLE_STAT_link_ok) ∨
      path = 1 ∧ x = (TWIN_WHISTLE_STAT_miss_wire, TWIN_WHISTLE_STAT_wire_ok)) →
    Runs (.whistleMissInterval path) s (fun c =>
      c.get x.1 = min 255 (s.chip.get x.1 + 1) ∧
      (s.chip.get x.1 + 1 = max 5 (s.chip.get TWIN_WHISTLE_CFG_miss_limit) → c.flag x.2 = false ∧ c.twin.seen.get? path = none ∧ bit (c.get EVT_STATUS_status 26) path = true) ∧
      (s.chip.get x.1 + 1 ≠ max 5 (s.chip.get TWIN_WHISTLE_CFG_miss_limit) → s.chip.keeps [.regs] (fun k => k = x.1.key 0 0) c) ∧ s.chip.sameBut (.twin :: evtParts) c)) ∧
  (∀ (s : State) (path : Nat) (raw : Bytes), Live .up s → ¬ s.chip.takesWhistle path raw → RunsSettled (.whistleRx path raw) s (fun c => c = s.chip)) ∧
  (∀ (s : State) (path : Nat) (raw : Bytes), Live .up s → s.chip.takesWhistle path raw → s.chip.get TWIN_STATUS_pair_state = 1 → bit (whistleField raw 3 1) 2 = false →
    s.chip.pairReason (whistleField raw 2 1) (whistleField raw 20 2) (whistleField raw 18 2) = 0 →
    RunsSettled (.whistleRx path raw) s (fun c =>
      c.get (if path = 0 then TWIN_WHISTLE_STAT_miss_link else TWIN_WHISTLE_STAT_miss_wire) = 0 ∧
      c.flag (if path = 0 then TWIN_WHISTLE_STAT_link_ok else TWIN_WHISTLE_STAT_wire_ok) = true ∧ c.twin.seen.get? path = some (whistleField raw 4 4) ∧
      c.twin.theirs = whistleField raw 16 1 ∧ c.get TWIN_STATUS_pair_state = 1 ∧ s.chip.sameBut (.twin :: evtParts) c)) ∧
  (∀ (s : State) (path : Nat) (raw : Bytes), Live .up s → s.chip.takesWhistle path raw → s.chip.flag TWIN_CTL_en = true → bit (whistleField raw 3 1) 2 = false →
    s.chip.pairReason (whistleField raw 2 1) (whistleField raw 20 2) (whistleField raw 18 2) = 0 →
    (s.chip.get TWIN_STATUS_pair_state = 0 ∨ s.chip.get TWIN_STATUS_pair_state = 2 ∨ s.chip.get TWIN_STATUS_pair_state = 3 ∧ path = 0 ∨ s.chip.get TWIN_STATUS_pair_state = 4) →
    RunsSettled (.whistleRx path raw) s (fun c =>
      c.get TWIN_STATUS_pair_state = 1 ∧ c.twin.everPaired = true ∧ c.mirror.rxNext = 1 ∧ c.mirror.resyncing = true ∧ c.get TWIN_RESYNC_state = 1 ∧ c.flag CACHE_STATUS_solo = false ∧
      c.mgmt.carried = [] ∧ (∀ x ∈ s.chip.mgmt.carried, .partnerCommand x ∈ c.out) ∧ bit (c.get EVT_STATUS_status 26) 8 = true ∧ bit (c.get EVT_STATUS_status 26) 12 = true)) ∧
  (∀ (s : State) (path n : Nat) (raw : Bytes), Live .up s → s.chip.takesWhistle path raw → s.chip.flag TWIN_CTL_en = true → bit (whistleField raw 3 1) 2 = false →
    s.chip.pairReason (whistleField raw 2 1) (whistleField raw 20 2) (whistleField raw 18 2) = n → n ≠ 0 → s.chip.get TWIN_STATUS_pair_state ≠ 4 → s.chip.movesOk →
    RunsSettled (.whistleRx path raw) s (fun c =>
      c.get TWIN_STATUS_pair_state = 4 ∧ c.get TWIN_STATUS_refuse_reason = n ∧ c.flag CACHE_STATUS_solo = true ∧ bit (c.get EVT_STATUS_status 26) 9 = true ∧
      (n = 3 → ∀ f, f < 8 → c.flag TWIN_FOLD_STAT_own_line f = false))) ∧
  (∀ s : State, Live .up s → s.chip.get TWIN_STATUS_pair_state = 1 → s.chip.get TWIN_PLINK_width = 0 → s.chip.movesOk → RunsSettled .splitTimeout s (fun c =>
    c.get TWIN_STATUS_pair_state = 3 ∧ c.flag CACHE_STATUS_solo = true ∧ (s.chip.mirroring = true → c.mirror.unacked = []) ∧ bit (c.get EVT_STATUS_status 26) 10 = true)) ∧
  (∀ (s : State) (lines : Nat), Live .up s → s.chip.flag TWIN_CTL_en = true → s.chip.get TWIN_STATUS_pair_state = 0 → s.chip.suspect = true → s.chip.twin.withdrawn = false →
    s.chip.start.misfit = false → s.chip.flag TWIN_STATUS_pair_fuse = false → s.chip.flag TWIN_CTL_claim_absent = true →
    RunsSettled (.startWaitExpiry lines) s (fun c =>
      c.get TWIN_STATUS_pair_state = 2 ∧ c.twin.waited = true ∧
      (∀ f, f < 8 → bit lines f = false → s.chip.flag TWIN_FOLD_STAT_own_line f = false → s.chip.flag TWIN_FOLD_STAT_gate_open f = false → s.chip.get TWIN_FOLD_STAT_phase f = 0 →
        c.claiming f 0) ∧
      (∀ f, f < 8 → bit lines f = true → c.flag TWIN_FOLD_STAT_own_line f = s.chip.flag TWIN_FOLD_STAT_own_line f ∧ c.flag TWIN_FOLD_STAT_gate_open f = false) ∧
      s.chip.sameBut (.twin :: evtParts) c)) ∧
  (∀ (s : State) (lanes : Nat), Live .up s → s.chip.flash.rules.partOff = 0 → lanes < 2 ^ 16 → s.chip.id.half = false → s.chip.get TWIN_STATUS_pair_state ≠ 3 →
    RunsSettled (.partnerLinkChange lanes) s (fun c =>
      c.get TWIN_PLINK_lanes_up = lanes ∧ c.get TWIN_PLINK_width = (if 16 ≤ popCount lanes 16 then 16 else if 8 ≤ popCount lanes 16 then 8 else 0) ∧
      (c.get TWIN_PLINK_width = 8 → bit (c.get EVT_STATUS_status 26) 22 = true) ∧ c.get TWIN_STATUS_pair_state = s.chip.get TWIN_STATUS_pair_state ∧ s.chip.sameBut evtParts c)) ∧
  (∀ (s : State) (lanes : Nat), Live .up s → s.chip.flash.rules.partOff = 0 → 8 ≤ popCount lanes 16 → s.chip.get TWIN_STATUS_pair_state = 3 → s.chip.get TWIN_PLINK_width = 0 →
    RunsSettled (.partnerLinkChange lanes) s (fun c => c.get TWIN_STATUS_pair_state = 0 ∧ bit (c.get EVT_STATUS_status 26) 11 = true ∧ s.chip.sameBut evtParts c)) ∧
  (∀ s : State, Live .up s → s.chip.mirror.resyncing = true → (∀ x ∈ s.chip.mirror.unacked, s.chip.mirror.resyncTo ≤ x.1) → RunsSettled .resyncDone s (fun c =>
    c.mirror.resyncing = false ∧ c.mirror.unacked = s.chip.mirror.unacked ∧ (∀ x ∈ c.mirror.unacked, c.mirror.heldSeq ≤ x.1) ∧ c.get TWIN_RESYNC_state = 2 ∧
    c.get TWIN_RESYNC_remaining = 0 ∧ bit (c.get EVT_STATUS_status 26) 13 = true ∧ s.chip.sameBut (.mirror :: evtParts) c)) ∧
  (∀ s : State, Live .aon s → RunsSettled .deadmanExpiry s (fun c =>
    (∀ f, f < 8 → c.flag TWIN_FOLD_STAT_own_line f = false ∧ c.get TWIN_FOLD_STAT_phase f = 0 ∧ (s.chip.flag TWIN_FOLD_STAT_own_line f = true → c.flag TWIN_FOLD_STAT_gate_open f = false)) ∧
    c.flag TWIN_STATUS_deadman_fired = true ∧ c.twin.withdrawn = true ∧ c.twin.claims = [] ∧ c.twin.moves = [] ∧
    (s.chip.gov.tripped = true → 0x692 ∈ c.evt.atStart) ∧ (s.chip.gov.tripped = false → bit (c.get EVT_STATUS_status 26) 18 = true ∧ ∀ x n, s.chip.conns.get? x = some n → c.loses x))) ∧
  (∀ (s : State) (cmd : PairCmd) (qualified : List Nat) (blocks : Nat) (response : Option Bytes), Live .up s → ∃ d,
    exec (.pairCommandRx cmd qualified blocks response) s = .next { s with chip := (cmd.after s.chip d).settle } ∧
    (exec (cmd.asInstr s.chip.carriedHdr qualified blocks response) s = .next { s with chip := d } ∨
      exec (cmd.asInstr s.chip.carriedHdr qualified blocks response) s = .next { s with chip := d.settle }))
/-- R248, R373 to R375, R380, R386 to R388, R390, R393 to R395: claims, comparison of lines, declaration and takeover, forward records, failback and handover. (Where a clause rests on a reading or a choice of the model, it is that of log entries 107, 110, 111, 112 and 115.) -/
def Obligations.TakeoverRows : Prop :=
  (∀ (s : State) (h : Hdr) (fold chip : Nat), fold < 8 → chip < 2 → s.chip.ownedBy fold chip = true → s.chip.twin.moves.has fold = false →
    AskedSettled (.foldMove h fold chip) s ⟨0x0902, true, .l, paramBytes [1, 1]⟩ h [] (fun r => r.status = 0 ∧ s.chip.keeps [.mgmt] (fun _ => False) r.chip)) ∧
  (∀ (s : State) (h : Hdr) (fold i : Nat), fold < 8 → s.chip.twin.moves = [] → (∀ f, f < 8 → s.chip.get TWIN_FOLD_STAT_phase f ≠ 3 ∧ s.chip.get TWIN_FOLD_STAT_phase f ≠ 4) →
    s.chip.get TWIN_STATUS_pair_state = 1 → s.chip.get TWIN_RESYNC_state = 2 → s.chip.get TWIN_FOLD_STAT_phase fold = 0 → s.chip.flag TWIN_FOLD_STAT_gate_open fold = false →
    h.src ≠ .partner → (h.partner ≤ 2 ∨ h.localOnly = true) → s.chip.loSlot = some i → i < 64 →
    AskedSettled (.foldMove h fold s.chip.me) s ⟨0x0902, true, .l, paramBytes [1, 1]⟩ h [] (fun r =>
      r.longOp i 0x0902 1 ∧ r.chip.get TWIN_FOLD_STAT_phase fold = 4 ∧ r.chip.twin.moves = [(fold, s.chip.me, some i)] ∧
      (h.localOnly = false → .partnerCommand (.foldMove fold s.chip.me) ∈ r.chip.out))) ∧
  (∀ (s : State) (h : Hdr) (fold i : Nat), fold < 8 → s.chip.twin.moves = [] → (∀ f, f < 8 → s.chip.get TWIN_FOLD_STAT_phase f ≠ 3 ∧ s.chip.get TWIN_FOLD_STAT_phase f ≠ 4) →
    s.chip.get TWIN_STATUS_pair_state = 1 → s.chip.get TWIN_RESYNC_state = 2 → s.chip.get TWIN_FOLD_STAT_phase fold = 0 → s.chip.flag TWIN_FOLD_STAT_gate_open fold = true →
    h.src ≠ .partner → (h.partner ≤ 2 ∨ h.localOnly = true) → s.chip.loSlot = some i → i < 64 →
    AskedSettled (.foldMove h fold (1 - s.chip.me)) s ⟨0x0902, true, .l, paramBytes [1, 1]⟩ h [] (fun r =>
      r.longOp i 0x0902 1 ∧ r.chip.get TWIN_FOLD_STAT_phase fold = 3 ∧ r.chip.flag TWIN_FOLD_STAT_gate_open fold = true ∧
      r.chip.twin.moves = [(fold, 1 - s.chip.me, some i)] ∧ bit (r.chip.get EVT_STATUS_status 26) 14 = true)) ∧
  (∀ (s : State) (fold lines : Nat), Live .up s → fold < 8 → bit lines fold = false → s.chip.flag TWIN_FOLD_STAT_own_line fold = true → s.chip.flag TWIN_FOLD_STAT_gate_open fold = false →
    s.chip.twin.claims.get? fold = some 0 → s.chip.mirror.journal = [] → (∀ e ∈ s.chip.stripes.entries, e.2.fold ≠ fold) →
    RunsSettled (.crookClaimSettle fold lines) s (fun c =>
      c.flag TWIN_FOLD_STAT_gate_open fold = true ∧ c.get TWIN_FOLD_STAT_phase fold = 0 ∧ c.twin.claims.get? fold = none ∧ .ana fold ∈ c.out ∧
      c.get TWIN_FOLD_STAT_moves fold = min (2 ^ 32 - 1) (s.chip.get TWIN_FOLD_STAT_moves fold + 1) ∧ bit (c.get EVT_STATUS_status 10) 16 = true ∧ s.chip.sameBut twinParts c)) ∧
  (∀ (s : State) (fold lines : Nat), Live .up s → fold < 8 → bit lines fold = false → s.chip.flag TWIN_FOLD_STAT_own_line fold = true → s.chip.flag TWIN_FOLD_STAT_gate_open fold = false →
    s.chip.twin.claims.get? fold = some 1 → s.chip.mirror.journal = [] → (∀ e ∈ s.chip.stripes.entries, e.2.fold ≠ fold) → s.chip.stripes.drv = [] →
    RunsSettled (.crookClaimSettle fold lines) s (fun c =>
      c.flag TWIN_FOLD_STAT_gate_open fold = true ∧ c.get TWIN_FOLD_STAT_phase fold = 2 ∧ c.twin.claims.get? fold = none ∧
      (∀ x ∈ s.chip.presentSlots, .driveAdmin x 4 fold ∈ c.out) ∧ s.chip.sameBut (.gov :: twinParts) c)) ∧
  (∀ (s : State) (fold lines : Nat), Live .up s → fold < 8 → bit lines fold = true → RunsSettled (.crookClaimSettle fold lines) s (fun c =>
    c.flag TWIN_FOLD_STAT_gate_open fold = false ∧ c.flag TWIN_FOLD_STAT_own_line fold = s.chip.flag TWIN_FOLD_STAT_own_line fold ∧ c.twin = s.chip.twin ∧ s.chip.sameBut [.regs] c)) ∧
  (∀ (s : State) (lines : Nat), Live .up s → (∀ f, f < 8 → s.chip.get TWIN_FOLD_STAT_phase f ≠ 4) → RunsSettled (.crookCompare lines) s (fun c =>
    (∀ f, f < 8 → bit lines f = true → c.flag TWIN_FOLD_STAT_gate_open f = false) ∧
    (∀ f, f < 8 → bit lines f = false → c.flag TWIN_FOLD_STAT_own_line f = s.chip.flag TWIN_FOLD_STAT_own_line f ∧ c.flag TWIN_FOLD_STAT_gate_open f = s.chip.flag TWIN_FOLD_STAT_gate_open f) ∧
    (∀ f, f < 8 → bit lines f = true → s.chip.flag TWIN_FOLD_STAT_own_line f = true → s.chip.get TWIN_FOLD_CFG_bellwether f = s.chip.me → c.flag TWIN_FOLD_STAT_own_line f = true) ∧
    (∀ f, f < 8 → bit lines f = true → s.chip.flag TWIN_FOLD_STAT_own_line f = true → s.chip.get TWIN_FOLD_CFG_bellwether f ≠ s.chip.me →
      c.flag TWIN_FOLD_STAT_own_line f = false ∧ c.get TWIN_FOLD_STAT_phase f = 0 ∧ c.twin.claims.get? f = none ∧ .crook f false ∈ c.out ∧ bit (c.get EVT_STATUS_status 26) 17 = true) ∧
    s.chip.sameBut (.twin :: evtParts) c)) ∧
  (∀ (s : State) (lines : Nat), Live .up s → (s.chip.get TWIN_STATUS_pair_state = 1 ∨ s.chip.get TWIN_STATUS_pair_state = 3) → s.chip.twin.withdrawn = false →
    s.chip.missLimit ≤ s.chip.get TWIN_WHISTLE_STAT_miss_link → s.chip.missLimit ≤ s.chip.get TWIN_WHISTLE_STAT_miss_wire → (∀ f, f < 8 → bit lines f = false) → s.chip.movesOk →
    s.chip.intake.forwards = [] →
    RunsSettled (.partnerDeclaredFailed lines) s (fun c =>
      c.get TWIN_STATUS_pair_state = 2 ∧ c.flag CACHE_STATUS_solo = true ∧ c.get TWIN_RESYNC_state = 0 ∧ c.twin.moves = [] ∧ bit (c.get EVT_STATUS_status 26) 4 = true ∧
      (∀ f, f < 8 → s.chip.flag TWIN_FOLD_STAT_gate_open f = false → s.chip.flag TWIN_FOLD_STAT_own_line f = false →
        c.claiming f 1 ∧ .crook f true ∈ c.out ∧ bit (c.get EVT_STATUS_status 26) 5 = true) ∧
      (∀ f, f < 8 → s.chip.flag TWIN_FOLD_STAT_gate_open f = true → c.flag TWIN_FOLD_STAT_gate_open f = true))) ∧
  (∀ (s : State) (lines f : Nat), Live .up s → f < 8 → bit lines f = true → (s.chip.twin.leaving = false ∨ s.chip.twin.theirs ≠ 0) →
    RunsSettled (.partnerDeclaredFailed lines) s (fun c => c.get TWIN_STATUS_pair_state = s.chip.get TWIN_STATUS_pair_state ∧ c.twin = s.chip.twin ∧ s.chip.sameBut [.regs] c)) ∧
  (∀ s : State, Live .up s → s.chip.mirror.journal = [] → (∃ f, f < 8 ∧ s.chip.get TWIN_FOLD_STAT_phase f = 2 ∧ f ∉ s.chip.twin.reserved) →
    RunsSettled (.takeoverReservationDone []) s (fun c =>
      (∀ f, f < 8 → s.chip.get TWIN_FOLD_STAT_phase f = 2 → f ∈ c.twin.reserved) ∧ (∀ x ∈ s.chip.presentSlots, c.flag DRV_NVME_STAT_rsv_held x = true) ∧ s.chip.sameBut [.twin, .regs] c)) ∧
  (∀ (s : State) (n fold : Nat) (e : JEntry), Live .up s → s.chip.mirror.journal = [(n, e)] → e.kind ≤ 4 → e.isOpen = true → e.fold = fold → fold < 8 →
    s.chip.get TWIN_FOLD_STAT_phase fold = 2 → fold ∉ s.chip.twin.reserved →
    RunsSettled (.takeoverReservationDone []) s (fun c =>
      c.mirror.journal = [] ∧ fold ∈ c.twin.reserved ∧
      (s.chip.flock? e.flock = none →
        (c.stripes.entries.get? s.chip.stripes.entryId).map (fun x => (x.fold, x.flock, x.stripe, x.replayed, x.versions)) = some (fold, e.flock, e.stripe, true, []) ∧
        s.chip.sameBut [.twin, .mirror, .stripes, .regs] c))) ∧
  (∀ (s : State) (fold : Nat), Live .up s → fold < 8 → s.chip.get TWIN_FOLD_STAT_phase fold = 2 → fold ∈ s.chip.twin.reserved →
    (∀ e ∈ s.chip.stripes.entries, ¬ (e.2.replayed = true ∧ e.2.isOpen = true ∧ e.2.fold = fold)) →
    RunsSettled (.takeoverReplayDone fold) s (fun c =>
      c.get TWIN_FOLD_STAT_phase fold = 0 ∧ .ana fold ∈ c.out ∧ bit (c.get EVT_STATUS_status 26) 6 = true ∧ s.chip.sameBut twinParts c)) ∧
  (∀ (s : State) (fold n : Nat) (e : JEntry), Live .up s → fold < 8 → (n, e) ∈ s.chip.stripes.entries → e.replayed = true → e.isOpen = true → e.fold = fold →
    RunsSettled (.takeoverReplayDone fold) s (fun c => c = s.chip)) ∧
  (∀ (s : State) (tag fold cls host paddock volume ctx ident : Nat) (red : Bool) (q : Sqe) (data : Bytes), Live .network s →
    RunsSettled (.forwardRecordRx (.command tag fold cls host paddock volume ctx ident red q data)) s (fun c =>
      (∃ k, (k.fwd, k.sqe, k.host, k.paddock, k.fold, k.red) = (some tag, q, host, paddock, fold % 8, red) ∧
        ((∃ key, c.intake.cmds.get? key = some k) ∨ (0, k) ∈ c.intake.held)))) ∧
  (∀ (s : State) (tag offset : Nat) (bytes : Bytes) (k : HostCmd), Live .network s → s.chip.intake.forwards.get? tag = some k → k.ended = none →
    RunsSettled (.forwardRecordRx (.data tag offset bytes)) s (fun c =>
      (c.intake.forwards.get? tag).map (fun x => (x.got.get? offset).map (·.data)) = some (some bytes) ∧ s.chip.keeps [.intake] (fun _ => False) c)) ∧
  (∀ (s : State) (tag sct sc dw0 : Nat) (k : HostCmd), Live .network s → s.chip.intake.forwards.get? tag = some k → k.fwd = none → k.silent = false → s.chip.intake.cmds = [] → s.chip.placedWhole k (sct * 256 + sc) = true →
    RunsSettled (.forwardRecordRx (.completion tag sct sc dw0)) s (fun c =>
      c.intake.forwards.get? tag = none ∧
      c.intake.done.getLast? = some ⟨k.ctx, k.sqe.cid, (sct * 256 + sc) / 256, (sct * 256 + sc) % 256, dw0, k.sqe.key, k.got.vals.map (·.data), false, k.sqe.invalidates⟩)) ∧
  (∀ (s : State) (tag ctx : Nat) (q : Sqe), Live .network s → (∀ e ∈ s.chip.intake.cmds, ¬ (e.2.ctx = fwdCtx ctx ∧ e.2.sqe.cid = q.cdw10 / 65536 ∧ e.2.fwd.isSome = true)) →
    RunsSettled (.forwardRecordRx (.abort tag ctx q)) s (fun c => FwdRec.out ⟨false, 0, 0, 0, 0, 0, ctx, q.cid⟩ (.completion tag 0 0 1) ∈ c.out ∧ s.chip.sameBut [.regs, .out] c)) ∧
  (∀ (s : State) (fold : Nat), Live .up s → fold < 8 → s.chip.flag TWIN_CTL_auto_failback = true → s.chip.get TWIN_STATUS_pair_state = 1 → s.chip.get TWIN_RESYNC_state = 2 →
    (∀ x ∈ s.chip.presentSlots, s.chip.flag DRV_NVME_STAT_rsv_held x = true) → s.chip.twin.myMask = 0 → s.chip.twin.moves = [] →
    (∀ f, f < 8 → (s.chip.get TWIN_FOLD_CFG_bellwether f = s.chip.me ↔ f = fold) ∧ s.chip.get TWIN_FOLD_STAT_phase f = 0) → s.chip.flag TWIN_FOLD_CFG_hold fold = false →
    s.chip.flag TWIN_FOLD_STAT_gate_open fold = false → s.chip.flag TWIN_FOLD_STAT_partner_line fold = true →
    RunsSettled .failbackTimer s (fun c =>
      .partnerCommand (.foldMove fold s.chip.me) ∈ c.out ∧ c.twin.moves = [(fold, s.chip.me, none)] ∧ c.get TWIN_FOLD_STAT_phase fold = 4)) ∧
  (∀ s : State, Live .up s → s.chip.flag TWIN_CTL_auto_failback = false → RunsSettled .failbackTimer s (fun c => c = s.chip)) ∧
  (∀ (s : State) (fold lines : Nat), Live .up s → fold < 8 → s.chip.get TWIN_FOLD_STAT_phase fold = 3 → s.chip.flag TWIN_FOLD_STAT_own_line fold = true → s.chip.drained fold = true →
    RunsSettled (.handoverDrainDone fold lines) s (fun c =>
      c.get TWIN_FOLD_STAT_phase fold = 4 ∧ c.flag TWIN_FOLD_STAT_own_line fold = false ∧ c.flag TWIN_FOLD_STAT_gate_open fold = false ∧ c.out = .crook fold false :: s.chip.out ∧
      s.chip.sameBut [.regs, .out] c)) ∧
  (∀ (s : State) (fold lines : Nat), Live .up s → fold < 8 → s.chip.get TWIN_FOLD_STAT_phase fold = 3 → s.chip.drained fold = false →
    RunsSettled (.handoverDrainDone fold lines) s (fun c =>
      c.get TWIN_FOLD_STAT_phase fold = 3 ∧ c.flag TWIN_FOLD_STAT_own_line fold = s.chip.flag TWIN_FOLD_STAT_own_line fold ∧ s.chip.sameBut [.regs] c)) ∧
  (∀ (s : State) (fold lines : Nat) (slot : Option Nat), Live .up s → fold < 8 → s.chip.get TWIN_FOLD_STAT_phase fold = 4 → s.chip.twin.moves.get? fold = some (s.chip.me, slot) →
    bit lines fold = false → s.chip.twin.withdrawn = false → s.chip.flag TWIN_FOLD_STAT_own_line fold = false → s.chip.flag TWIN_FOLD_STAT_gate_open fold = false →
    RunsSettled (.handoverDrainDone fold lines) s (fun c => c.claiming fold 2 ∧ .crook fold true ∈ c.out ∧ s.chip.sameBut [.twin, .regs, .out] c)) ∧
  (∀ (s : State) (fold lines : Nat) (dest i : Nat), Live .up s → fold < 8 → s.chip.get TWIN_FOLD_STAT_phase fold = 4 → bit lines fold = true → s.chip.flag TWIN_FOLD_STAT_own_line fold = false →
    s.chip.twin.moves = [(fold, dest, some i)] → i < 64 → dest ≠ s.chip.me → (∀ f, f < 8 → f ≠ fold → s.chip.get TWIN_FOLD_STAT_phase f ≠ 4 ∧ bit lines f = false) →
    s.chip.stripes.bg = [] →
    RunsSettled (.crookCompare lines) s (fun c =>
      c.get TWIN_FOLD_STAT_phase fold = 0 ∧ c.twin.moves = [] ∧ loState (c.lo i) = 4 ∧ .ana fold ∈ c.out ∧ bit (c.get EVT_STATUS_status 26) 15 = true)) ∧
  (∀ (s : State) (fold dest i : Nat), Live .up s → fold < 8 → s.chip.get TWIN_FOLD_STAT_phase fold = 3 → s.chip.twin.moves = [(fold, dest, some i)] → i < 64 →
    RunsSettled (.handoverDrainTimeout fold) s (fun c =>
      c.get TWIN_FOLD_STAT_phase fold = 0 ∧ c.flag TWIN_FOLD_STAT_gate_open fold = s.chip.flag TWIN_FOLD_STAT_gate_open fold ∧ c.twin.moves = [] ∧ loState (c.lo i) = 6 ∧
      bit (c.get EVT_STATUS_status 26) 16 = true ∧ s.chip.sameBut (.twin :: evtParts) c))
/-- R444, R449 to R451, R454 to R456, R467: the commands on images, the ledger and its rules, the shelf record and the fuses, and the end of a trial. (Where a clause rests on a reading or a choice of the model, it is that of log entries 127, 128 and 129.) -/
def Obligations.FirmwareRows : Prop :=
  (∀ (s : State) (h : Hdr) (slot offset length i : Nat), slot < 2 → s.chip.flag LEDGER_STAT_recovery = false → s.chip.start.running ≠ slot → offset < xferSize → 0 < length →
    length ≤ 30 * 2 ^ 20 → offset + length ≤ xferSize → s.chip.loSlot = some i → i < 64 →
    Asked (.fwImageWrite h slot offset length) s ⟨0x0B00, false, .l, paramBytes [1, 4, 4]⟩ h [] (fun r =>
      r.longOp i 0x0B00 (ceilDiv length 1024) ∧ (r.chip.imageAt slot).valid = false ∧ r.chip.imageAt (1 - slot) = s.chip.imageAt (1 - slot) ∧ s.chip.sameBut [.flash, .regs, .mgmt] r.chip)) ∧
  (∀ (s : State) (h : Hdr) (slot offset length : Nat), slot < 2 → s.chip.flag LEDGER_STAT_recovery = false → s.chip.start.running = slot →
    Asked (.fwImageWrite h slot offset length) s ⟨0x0B00, false, .l, paramBytes [1, 4, 4]⟩ h [] (fun r => r.status = 0x0203 ∧ s.chip.keeps [.mgmt] (fun _ => False) r.chip)) ∧
  (∀ (s : State) (h : Hdr) (slot : Nat), slot < 2 → s.chip.imageVerdict (s.chip.imageAt slot) = 0 →
    Asked (.fwImageSelect h slot 0 0) s ⟨0x0B01, false, .w, paramBytes [1, 1, 1]⟩ h [] (fun r =>
      r.status = 0 ∧ r.chip.flash.preferred = slot ∧ r.chip.flash.trial = false ∧ r.chip.get LEDGER_IMAGE_preferred = slot ∧ s.chip.sameBut [.flash, .regs, .mgmt] r.chip)) ∧
  (∀ (s : State) (h : Hdr) (slot trial : Nat), slot < 2 → trial ≠ 0 → s.chip.imageVerdict (s.chip.imageAt slot) = 0 →
    Asked (.fwImageSelect h slot trial 0) s ⟨0x0B01, false, .w, paramBytes [1, 1, 1]⟩ h [] (fun r =>
      r.status = 0 ∧ r.chip.flash.preferred = s.chip.flash.preferred ∧ r.chip.flash.trial = decide (slot ≠ s.chip.flash.preferred) ∧ s.chip.sameBut [.flash, .regs, .mgmt] r.chip)) ∧
  (∀ (s : State) (h : Hdr) (slot advance : Nat), slot < 2 → advance ≠ 0 → s.chip.imageVerdict (s.chip.imageAt slot) = 0 → s.chip.flag GLB_START_in_service = true → s.chip.start.trialRun = false →
    Asked (.fwImageSelect h slot 0 advance) s ⟨0x0B01, false, .w, paramBytes [1, 1, 1]⟩ h [] (fun r =>
      r.status = 0 ∧ (∀ k, bit r.chip.fuses k = (bit s.chip.fuses k || decide (1760 ≤ k ∧ k < 1760 + min 64 (s.chip.imageAt s.chip.start.running).rollback))) ∧
      bit (r.chip.get EVT_STATUS_status 29) 12 = true ∧ s.chip.sameBut (.flash :: .fuses :: evtParts) r.chip)) ∧
  (∀ (s : State) (h : Hdr) (slot trial advance : Nat), slot < 2 → s.chip.imageVerdict (s.chip.imageAt slot) ≠ 0 →
    Asked (.fwImageSelect h slot trial advance) s ⟨0x0B01, false, .w, paramBytes [1, 1, 1]⟩ h [] (fun r =>
      r.status = s.chip.imageVerdict (s.chip.imageAt slot) ∧ s.chip.keeps [.mgmt] (fun _ => False) r.chip)) ∧
  (∀ (s : State) (h : Hdr), Asked (.fwInfoGet h) s ⟨0x0B02, false, .r, 0⟩ h [] (fun r =>
    Reads s h 0x0B02 r (le 1 s.chip.start.running ++ le 1 s.chip.rollbackCount ++ zeros 6 ++ (List.range 2).flatMap (fun x =>
      le 1 (b2n (s.chip.imageVerdict (s.chip.imageAt x) = 0)) ++ le 1 (s.chip.imageAt x).rollback ++ le 2 (s.chip.imageAt x).proto ++ le 4 (s.chip.imageAt x).release)))) ∧
  (∀ (s : State) (h : Hdr) (first : Nat), Asked (.ledgerRead h first) s ⟨0x0B03, false, .r, paramBytes [1]⟩ h [] (fun r =>
    Reads s h 0x0B03 r (le 1 ((s.chip.ledgerList.drop first).take 64).length ++ zeros 7 ++ ((s.chip.ledgerList.drop first).take 64).flatMap ledgerBytes))) ∧
  (∀ (s : State) (h : Hdr) (mask : Nat), Asked (.ledgerRuleClear h mask) s ⟨0x0B04, false, .w, paramBytes [4]⟩ h [] (fun r =>
    r.status = 0 ∧ r.chip.flash.rules.ethOff = (if bit mask 0 then 0 else s.chip.flash.rules.ethOff) ∧ r.chip.flash.rules.drvOff = (if bit mask 1 then 0 else s.chip.flash.rules.drvOff) ∧
    r.chip.flash.rules.partOff = (if bit mask 2 then 0 else s.chip.flash.rules.partOff) ∧ r.chip.flash.rules.stackOff = (if bit mask 3 then 0 else s.chip.flash.rules.stackOff) ∧
    r.chip.flash.rules.holdSlots = (if bit mask 4 then 0 else s.chip.flash.rules.holdSlots) ∧ r.chip.flash.rules.prefMoved = (s.chip.flash.rules.prefMoved && !bit mask 5) ∧
    (bit mask 5 = true → s.chip.flash.rules.prefMoved = true → r.chip.flash.preferred = 1 - s.chip.flash.preferred) ∧ (bit mask 5 = false → r.chip.flash.preferred = s.chip.flash.preferred) ∧
    r.chip.flash.rules.replayRetry = (s.chip.flash.rules.replayRetry && !bit mask 6) ∧ r.chip.flash.rules.hold = (s.chip.flash.rules.hold && !bit mask 7) ∧
    r.chip.flag LEDGER_STAT_held = s.chip.flag LEDGER_STAT_held ∧ s.chip.keeps [.flash, .regs, .mgmt] (inRange 0x10000 0x20000) r.chip)) ∧
  (∀ (s : State) (h : Hdr) (offset length n : Nat), offset < xferSize → length ≤ 524288 → offset + length ≤ xferSize →
    n = (match s.chip.shelfCopy with | some (i, _) => 1 - i | none => 0) →
    Asked (.shelfRecordWrite h offset length) s ⟨0x0B05, false, .w, paramBytes [4, 4]⟩ h [] (fun r =>
      r.status = 0 ∧ r.chip.flash.shelf.get? n = some (parseShelf (memReadN s.chip.hbm (xferBase s.chip.oneStack s.chip.homeStack + offset) length)) ∧
      (∀ k, k ≠ n → r.chip.flash.shelf.get? k = s.chip.flash.shelf.get? k) ∧ s.chip.keeps [.flash, .mgmt] (fun _ => False) r.chip)) ∧
  (∀ (s : State) (h : Hdr) (offset i : Nat) (x : ShelfCopy), s.chip.shelfCopy = some (i, x) → offset + x.raw.length ≤ xferSize →
    Asked (.shelfRecordRead h offset) s ⟨0x0B06, false, .r, paramBytes [4]⟩ h [] (fun r =>
      r.status = 0 ∧ r.data = le 4 x.raw.length ∧ memReadN r.chip.hbm (xferBase s.chip.oneStack s.chip.homeStack + offset) x.raw.length = x.raw ∧
      (∀ a, (a < xferBase s.chip.oneStack s.chip.homeStack + offset ∨ xferBase s.chip.oneStack s.chip.homeStack + offset + x.raw.length ≤ a) → memRead r.chip.hbm a = memRead s.chip.hbm a) ∧
      s.chip.keeps [.hbm, .mgmt] (fun _ => False) r.chip)) ∧
  (∀ (s : State) (h : Hdr) (offset : Nat), s.chip.shelfCopy = none →
    Asked (.shelfRecordRead h offset) s ⟨0x0B06, false, .r, paramBytes [4]⟩ h [] (fun r => r.status = 0x0201 ∧ s.chip.keeps [.mgmt] (fun _ => False) r.chip)) ∧
  (∀ (s : State) (h : Hdr) (generate slot privilege value : Nat) (x : Nat × Nat × Nat × Nat),
    x ∈ [(0, 1120, 256, 2), (1, 1376, 384, 3), (3, 1832 + 32 * slot, 32, 4 + slot)] → s.chip.flag FUSE_STAT_sealed = false → slot < 34 → slotAbsent s.chip.id slot = false → (x.1 = 0 → generate = 0) →
    bits s.chip.fuses (x.2.1 + x.2.2.1 - 1) x.2.1 = 0 → (x.1 = 3 → bit s.chip.fuses (2920 + slot) = false) → s.chip.fuseCrc x.2.2.2 = 0 →
    Asked (.fuseProgram h x.1 generate slot privilege value) s ⟨0x0B20, false, .w, paramBytes [1, 1, 1, 1, 4] + 48⟩ h [] (fun r =>
      r.status = 0 ∧ bits r.chip.fuses (x.2.1 + x.2.2.1 - 1) x.2.1 = value % 2 ^ x.2.2.1 ∧ r.chip.fuseValid x.2.2.2 = true ∧ (∀ k, bit s.chip.fuses k = true → bit r.chip.fuses k = true) ∧
      (x.1 = 3 → bit r.chip.fuses (2920 + slot) = decide (privilege ≠ 0)) ∧ bit (r.chip.get EVT_STATUS_status 29) 14 = true ∧ s.chip.sameBut (.fuses :: evtParts) r.chip)) ∧
  (∀ (s : State) (h : Hdr) (slot privilege : Nat), s.chip.flag FUSE_STAT_sealed = false → bits s.chip.fuses 1375 1120 = 0 → slot < 34 → slotAbsent s.chip.id slot = false → s.chip.fuseCrc 2 = 0 →
    s.chip.drbgStopped = false →
    Asked (.fuseProgram h 0 1 slot privilege 0) s ⟨0x0B20, false, .w, paramBytes [1, 1, 1, 1, 4] + 48⟩ h [] (fun r =>
      r.status = 0 ∧ r.chip.fuseValid 2 = true ∧ (∀ k, bit s.chip.fuses k = true → bit r.chip.fuses k = true) ∧ s.chip.sameBut (.fuses :: .freeN :: evtParts) r.chip)) ∧
  (∀ (s : State) (h : Hdr) (generate slot privilege value : Nat) (x : Nat × Nat × Nat), x ∈ [(2, 1824, 8), (4, 2954, 2), (5, 2956, 2), (6, 2958, 2)] → s.chip.flag FUSE_STAT_sealed = false →
    Asked (.fuseProgram h x.1 generate slot privilege value) s ⟨0x0B20, false, .w, paramBytes [1, 1, 1, 1, 4] + 48⟩ h [] (fun r =>
      r.status = 0 ∧ (∀ k, bit r.chip.fuses k = (bit s.chip.fuses k || (decide (x.2.1 ≤ k ∧ k < x.2.1 + x.2.2) && bit value (k - x.2.1)))) ∧
      s.chip.sameBut (.fuses :: evtParts) r.chip)) ∧
  (∀ (s : State) (h : Hdr), s.chip.flag FUSE_STAT_sealed = false → bits s.chip.fuses 1375 1120 ≠ 0 → s.chip.fuseValid 2 = true → bits s.chip.fuses 1759 1376 ≠ 0 → s.chip.fuseValid 3 = true →
    bits s.chip.fuses 1831 1824 ≠ 0 →
    Asked (.fuseSeal h 0x5345414C) s ⟨0x0B21, false, .w, paramBytes [4]⟩ h [] (fun r =>
      r.status = 0 ∧ r.chip.fuses = s.chip.fuses ||| (255 * 2 ^ 2960) ∧ r.chip.flag FUSE_STAT_sealed = true ∧ bit (r.chip.get EVT_STATUS_status 29) 15 = true ∧
      s.chip.sameBut (.fuses :: evtParts) r.chip)) ∧
  (∀ (s : State) (h : Hdr) (a b d e v : Nat), s.chip.flag FUSE_STAT_sealed = true →
    Asked (.fuseProgram h a b d e v) s ⟨0x0B20, false, .w, paramBytes [1, 1, 1, 1, 4] + 48⟩ h [] (fun r => r.status = 0x0301 ∧ s.chip.keeps [.mgmt] (fun _ => False) r.chip) ∧
    Asked (.fuseSeal h 0x5345414C) s ⟨0x0B21, false, .w, paramBytes [4]⟩ h [] (fun r => r.status = 0x0301 ∧ s.chip.keeps [.mgmt] (fun _ => False) r.chip)) ∧
  (∀ s : State, Live .up s → s.chip.start.trialRun = true → s.chip.flag GLB_START_in_service = true → s.chip.start.running < 2 → Runs .trialPromote s (fun c =>
    c.flash.preferred = s.chip.start.running ∧ c.flash.trial = false ∧ c.flash.trialOpen = false ∧ c.start.trialRun = false ∧ c.get LEDGER_IMAGE_preferred = s.chip.start.running ∧
    s.chip.keeps [.flash, .start, .regs] (regKeys LEDGER_IMAGE 0 0) c)) ∧
  (∀ s : State, Live .up s → (s.chip.start.trialRun = false ∨ s.chip.flag GLB_START_in_service = false) → Runs .trialPromote s (fun c => c = s.chip))
/-- R440, R442 to R446, R449, R453, R458, R463 to R466, R211: the start steps, and the resets of the chip and of its islands. (Where a clause rests on a reading or a choice of the model, it is that of log entries 125, 126, 127, 128, 129, 130, 131, 132, 133 and 134.) -/
def Obligations.StartRows : Prop :=
  (∀ s : State, Runs .porstAssert s (fun c =>
    c.start = { s.chip.start with porst := true } ∧ c.gov = { s.chip.gov with tripped := false } ∧ (∀ f, f < 8 → c.flag TWIN_FOLD_STAT_own_line f = false) ∧
    (∀ x, x ∈ s.chip.slotList → c.pathState x = 0 ∧ c.flag SLOT_CH_CTL_perst_rel x = false ∧ (s.chip.gateIsOn x = true → .slotGate x 0 ∈ c.out)) ∧
    s.chip.sameBut [.start, .gov, .twin, .regs, .out] c)) ∧
  (∀ s : State, s.chip.start.porst = true → Runs .porstRelease s (fun c => s.chip.coldStarted c ∧ c.flag LEDGER_STAT_held = false)) ∧
  (∀ s : State, s.chip.start.porst = false → Runs .porstRelease s (fun c => c = s.chip)) ∧
  (∀ s : State, Live .aon s → s.chip.start.failed = true → RunsSettled .aonRestart s (fun c => s.chip.coldStarted c)) ∧
  (∀ s : State, Live .aon s → s.chip.start.failed = false → RunsSettled .aonRestart s (fun c => c = s.chip)) ∧
  (∀ s : State, Live .aon s → s.chip.cache.dump.phase = 4 → RunsSettled .powerReturn s (fun c => s.chip.coldStarted c)) ∧
  (∀ s : State, Live .aon s → s.chip.cache.dump.phase ≠ 4 → RunsSettled .powerReturn s (fun c => c = s.chip)) ∧
  (∀ s : State, Live .up s → s.chip.powerDump = false → (∀ e ∈ s.chip.stripes.flocks, e.1 < 4) → RunsSettled .warmReset s (fun c => s.chip.warmStarted c)) ∧
  (∀ s : State, Live .up s → s.chip.powerDump = true → RunsSettled .warmReset s (fun c =>
    c.cache.dump.restarted = true ∧ c.cache.dump.phase = 2 ∧ c.get CACHE_DUMP_STAT_segments = 0 ∧ c.conns = s.chip.conns ∧ c.start = s.chip.start ∧ c.vols = s.chip.vols ∧ c.cache.sets = s.chip.cache.sets)) ∧
  (∀ (s : State) (h : Hdr) (i : Nat), Live .up s → s.chip.refusal chipResetInfo h [] = none → s.chip.powerDump = false → (∀ e ∈ s.chip.stripes.flocks, e.1 < 4) →
    RunsSettled (.chipReset h 0 0) s (fun c => s.chip.warmStarted c) ∧ RunsSettled (.chipReset h 1 0) s (fun c => s.chip.coldStarted c) ∧
    (h.src = .session i → s.chip.mgmt.sessions.has i = true → h.silent = false → RunsSettled (.chipReset h 1 0) s (fun c => ∃ r, Reply.toSession i r ∈ c.out ∧ r.status = 0 ∧ r.tag = h.tag))) ∧
  (∀ (s : State) (h : Hdr) (island : Nat), Live .up s → s.chip.refusal chipResetInfo h [] = none → island < 36 → islandAbsent s.chip.id island = false →
    RunsSettled (.chipReset h 2 island) s (fun c => c.start = s.chip.start ∧ bit (c.get EVT_STATUS_status 29) 17 = true ∧ bit c.tally.openFlags 3 = true)) ∧
  (∀ (s : State) (h : Hdr) (kind island : Nat), 3 ≤ kind → Ready s chipResetInfo h [] → ∃ d,
    exec (.chipReset h kind island) s = .next { s with chip := d.settle } ∧ d = Chip.finish chipResetInfo h (Res.no (s.chip.unfetch h 0x0B10) 0x0102 32)) ∧
  (∀ (s : State) (island : Nat), Live .up s → island < 36 → islandAbsent s.chip.id island = false →
    RunsSettled (.islandReset island false) s (fun c =>
      bit (c.get EVT_STATUS_status 29) 17 = true ∧ bit c.tally.openFlags 3 = true ∧ c.start = s.chip.start ∧ c.paddocks = s.chip.paddocks ∧
      (∀ ap, attachPoint island = some ap → ∀ q ∈ c.swx.queues, ∀ x ∈ q.2, x.src ≠ ap ∧ x.dst ≠ ap) ∧
      (island ≤ 7 → ∀ k, k < 4 → subLanes (s.chip.portMode island) k ≠ [] → bit (c.get PORT_STATUS_link_up island) k = false) ∧
      (8 ≤ island → island ≤ 11 → ∀ x n, s.chip.conns.get? x = some n → x / 65536 = island - 8 → c.loses x) ∧
      (24 ≤ island → island ≤ 26 → c.cipher.ctxs.getD (island - 24) [] = []))) ∧
  (∀ (s : State) (island : Nat), Live .up s → (36 ≤ island ∨ islandAbsent s.chip.id island = true) → RunsSettled (.islandReset island false) s (fun c => c = s.chip)) ∧
  (∀ (s : State) (island : Nat), island ∈ [18, 19, 32, 33, 34, 35] → islandAbsent s.chip.id island = false → exec (.islandReset island true) s = exec .warmReset s) ∧
  (∀ (s : State) (island : Nat), (Live .up s → RunsSettled (.islandWatchdogExpiry island) s (fun _ => True)) ∧ exec (.islandWatchdogExpiry island) s = exec (.islandReset island false) s) ∧
  (∀ (s : State) (reason detail : Nat) (found : StepFound) (e : StepEnd), Live .up s → s.chip.starting = true → s.chip.stepEnd reason detail found = e → e.chip.get GLB_START_step < 13 →
    RunsSettled (.startStepDone reason detail found) s (fun c =>
      c.ledgered (e.chip.get GLB_START_step) e.outcome e.reason ∧
      (e.fate = .goOn → c.get GLB_START_step = e.chip.get GLB_START_step + 1 ∧ c.ledgered (e.chip.get GLB_START_step + 1) 0 0) ∧
      (e.fate = .hold → c.flag LEDGER_STAT_held = true ∧ c.flash.rules.hold = true ∧ bit (c.get EVT_STATUS_status 29) 9 = true) ∧
      (e.fate = .recovery → c.flag LEDGER_STAT_recovery = true ∧ bit (c.get EVT_STATUS_status 29) 4 = true) ∧
      (e.fate = .restart → e.chip.flash.attempts.getD (e.chip.get GLB_START_step) 0 < 3 → c.start.failed = true) ∧
      (e.fate = .restart → 3 ≤ e.chip.flash.attempts.getD (e.chip.get GLB_START_step) 0 → c.flag LEDGER_STAT_held = true ∧ c.flash.rules.hold = true))) ∧
  (∀ (s : State) (reason detail : Nat) (found : StepFound), Live .up s → s.chip.starting = false →
    RunsSettled (.startStepDone reason detail found) s (fun c => c = s.chip) ∧ RunsSettled (.startStepTimeout reason detail) s (fun c => c = s.chip)) ∧
  (∀ (s : State) (reason detail : Nat) (found : StepFound), Live .up s → s.chip.starting = true → s.chip.get GLB_START_step = 0 → reason ≠ 0 → s.chip.flash.attempts.getD 0 0 < 3 →
    RunsSettled (.startStepDone reason detail found) s (fun c => c.start.failed = true ∧ c.ledgered 0 2 reason ∧ bit (c.get EVT_STATUS_status 29) 0 = true ∧
      s.chip.sameBut (.start :: .flash :: evtParts) c)) ∧
  (∀ (s : State) (reason detail : Nat) (found : StepFound), Live .up s → s.chip.starting = true → s.chip.get GLB_START_step = 1 →
    RunsSettled (.startStepDone reason detail found) s (fun c =>
      c.flag FUSE_STAT_sealed = decide (bits s.chip.fuses 2967 2960 ≠ 0) ∧ (∀ k, k < 38 → bit (c.get FUSE_STAT_crc_err) k = !s.chip.fuseValid k) ∧
      (s.chip.fuseValid 0 = false → c.flag LEDGER_STAT_held = true ∧ c.get GLB_START_step = 1) ∧ (s.chip.fuseValid 0 = true → c.get GLB_START_step = 2))) ∧
  (∀ (s : State) (reason detail : Nat) (found : StepFound), Live .up s → s.chip.starting = true → s.chip.get GLB_START_step = 3 → s.chip.flash.preferred < 2 → s.chip.flash.trial = false →
    RunsSettled (.startStepDone reason detail found) s (fun c =>
      c.start.running = (if s.chip.fuseValid 3 && s.chip.imageVerdict (s.chip.imageAt s.chip.flash.preferred) = 0 then s.chip.flash.preferred
        else if s.chip.fuseValid 3 && s.chip.imageVerdict (s.chip.imageAt (1 - s.chip.flash.preferred)) = 0 then 1 - s.chip.flash.preferred else s.chip.start.running) ∧
      (c.flag LEDGER_STAT_recovery = true ↔ ¬ (s.chip.fuseValid 3 = true ∧ ∃ x, x < 2 ∧ s.chip.imageVerdict (s.chip.imageAt x) = 0)))) ∧
  (∀ (s : State) (detail : Nat) (found : StepFound), Live .up s → s.chip.starting = true → s.chip.get GLB_START_step = 12 →
    RunsSettled (.startStepDone 0 detail found) s (fun c =>
      c.get GLB_START_step = 13 ∧ c.flag GLB_START_in_service = true ∧ c.flag CMDQ_CTL_en = true ∧ c.flag DROVE_DRV_CFG_en = true ∧ c.flag TALLY_CTL_en = true ∧
      c.start.inServiceNs = s.chip.clk ∧ bit (c.get EVT_STATUS_status 29) 19 = true ∧ (s.chip.start.warm = true → bit (c.get EVT_STATUS_status 29) 16 = true))) ∧
  (∀ (s : State) (reason detail : Nat), Live .up s → s.chip.starting = true → s.chip.get GLB_START_step ∉ [4, 7, 8, 10, 12] → s.chip.get GLB_START_step < 13 →
    RunsSettled (.startStepTimeout reason detail) s (fun c =>
      c.ledgered (s.chip.get GLB_START_step) 2 reason ∧
      (s.chip.flash.attempts.getD (s.chip.get GLB_START_step) 0 < 3 → c.start.failed = true) ∧
      (3 ≤ s.chip.flash.attempts.getD (s.chip.get GLB_START_step) 0 → c.flag LEDGER_STAT_held = true ∧ c.flash.rules.hold = true ∧ c.start.failed = s.chip.start.failed) ∧
      s.chip.sameBut (.start :: .flash :: evtParts) c))
/-- Asked of a block: a step with a command at the front of the queue is that command's effect with the rest of the queue. -/
def Obligations.StepRunsFrontCommand : Prop :=
  ∀ (i : Instr) (q : List Instr) (s : State), step { s with pending := i :: q } = exec i { s with pending := q }

/-- The model's choice (notes/assumptions/2.md): with no command waiting a microsecond passes, on the timebase too while the chip runs; what has come in at the ports drains and the LED chain is latched every 5 ms
(R336), and nothing else changes. -/
def Obligations.IdleStep : Prop :=
  ∀ s : State, s.pending = [] → ∃ c, step s = .next { s with chip := c } ∧ c.clk = s.chip.clk + 1000 ∧ c.now = (if s.chip.stopped then s.chip.now else s.chip.now + 1000) ∧
    (s.chip.stopped = true ∨ s.chip.ports.ingress = [] → s.chip.keeps [.clk, .now, .out] (fun _ => False) c) ∧ s.chip.sameBut [.clk, .now, .ports, .regs, .out] c

/-- R11, R440, R442, R464: what reset leaves: the start at ST00, every register that firmware writes at its reset value, lines released and gates off, HBM, connections, queues and records empty, no command
waiting. That it is an SV3432 and chip A is the model's choice (notes/assumptions/1.md). -/
def Obligations.ResetState : Prop :=
  State.reset.pending = [] ∧ State.reset.chip.get GLB_START_step = 0 ∧ State.reset.chip.flag GLB_START_in_service = false ∧ State.reset.chip.start.porst = false ∧
  State.reset.chip.gov.tripped = false ∧ State.reset.chip.hbm = [] ∧ State.reset.chip.conns = [] ∧ State.reset.chip.ctrls = [] ∧ State.reset.chip.vols = [] ∧ State.reset.chip.paddocks = [] ∧
  State.reset.chip.intake.cmds = [] ∧ State.reset.chip.stripes.entries = [] ∧ State.reset.chip.cipher.kek = none ∧ State.reset.chip.get TWIN_STATUS_pair_state = 0 ∧
  (∀ f, f < 8 → State.reset.chip.flag TWIN_FOLD_STAT_own_line f = false) ∧ (∀ x, x < 34 → State.reset.chip.pathState x = 0 ∧ State.reset.chip.flag SLOT_CH_STAT_pg x = false) ∧
  (∀ r ∈ regMap, ∀ f ∈ r.fields, f.ty = .rw → ∀ i j, i < r.geo.count1 → j < r.geo.count2 → State.reset.chip.get f i j = f.rst State.reset.chip.id i j)

/-- Every command of the table completes in every state: it neither faults nor is refused, and the queue behind it stays as it was. -/
def Obligations.EveryCommandCompletes : Prop :=
  ∀ (i : Instr) (s : State), ∃ c, exec i s = .next { s with chip := c }

/-- R211, R311, R440, R445: while the chip is stopped (PORST_N, the thermal trip, a failed start that AON restarts, dump-done) every command but those of AON and the PORST_N pin leaves it as it is; while the
chip is only withdrawn or in a dump for a loss of power, the network side stops (R211, R376). (Where a clause rests on a reading or a choice of the model, it is that of log entry 16.) -/
def Obligations.StoppedChipHolds : Prop :=
  (∀ (i : Instr) (s : State), s.chip.stopped = true → Instr.staysOn i = false → exec i s = .next s) ∧
  (∀ (s : State) (n : Nat) (q : Sqe), s.chip.stopped = false → (s.chip.twin.withdrawn = true ∨ s.chip.powerDump = true) →
    ∀ i ∈ [Instr.commandIntake n q [] 0, .forwardRecordRx (.completion n 0 0 0)], exec i s = .next s)

/-- R413, R415, R428, R446, R453: a management command that a general check refuses has no effect but its reply, with the status of the check; a refusal for the role raises event 0x731 too. (Where a clause rests on a reading or a choice of the model, it is that of log entry 117.) -/
def Obligations.RefusedCommands : Prop :=
  (∀ (i : Instr) (s : State) (k : CmdInfo) (h : Hdr) (ps : List Nat) (st d : Nat), Instr.command i = some (k, h, ps) → Live .up s → s.chip.refusal k h ps = some (st, d) →
    Comes i s k h (fun r => r.status = st ∧ r.detail = d ∧ r.data = [] ∧ (st ≠ 0x0104 → s.chip.keeps [.mgmt] (fun _ => False) r.chip) ∧
      (st = 0x0104 → bit (r.chip.get EVT_STATUS_status 28) 49 = true ∧ s.chip.sameBut evtParts r.chip))) ∧
  (∀ (c : Chip) (k : CmdInfo) (h : Hdr) (ps : List Nat) (i : Nat) (m : MgmtSession), h.src = .session i → c.mgmt.sessions.get? i = some m →
    (m.role = 0 → k.kind ≠ .r → c.refusal k h ps = some (0x0104, 0)) ∧ (m.role = 1 → (k.opcode / 256 = 0x08 ∨ k.opcode / 256 = 0x0B) → c.refusal k h ps = some (0x0104, 1)) ∧
    (m.role = 2 → (k.opcode = 0x0B20 ∨ k.opcode = 0x0B21) → c.refusal k h ps = some (0x0104, 2))) ∧
  (∀ (c : Chip) (k : CmdInfo) (h : Hdr) (ps : List Nat), c.permitted k h.src = true → c.flag LEDGER_STAT_recovery = false → c.flag LEDGER_STAT_held = true →
    2 < k.opcode → k.opcode / 256 ≠ 0x0B → k.opcode ≠ 0x0C30 → c.refusal k h ps = some (0x0300, c.get GLB_START_step)) ∧
  (∀ (c : Chip) (k : CmdInfo) (h : Hdr) (ps : List Nat), c.permitted k h.src = true → c.startAdmits k.opcode = true → 32 + k.need ≤ h.len64 * 64 → (h.paddock = 0xFFFF ∨ ∀ p ∈ ps, p = h.paddock) →
    (h.fmt ≠ 1 → h.deadlineMs ≠ 0 → h.fetchedAt + h.deadlineMs * 1000000 < c.clk → c.refusal k h ps = some (0x0208, 0)) ∧
    (h.deadlineMs = 0 → h.fmt = 3 → h.expectGen ≠ 0 → h.expectGen ≠ c.get GLB_CFG_GEN_cfg_gen → (c.refusal k h ps).map (·.1) = some 0x0207) ∧
    (h.fmt = 1 → c.refusal k h ps = none))

/-- R417: a pair-scoped command, FOLD_MOVE apart: in a split or refused pair it has no effect and replies 0x0500; on a chip that is not paired it never replies plain success; a partner that refuses undoes it. (Where a clause rests on a reading or a choice of the model, it is that of log entry 118.) -/
def Obligations.PairScopedCommands : Prop :=
  ∀ (i : Instr) (s : State) (k : CmdInfo) (h : Hdr) (ps : List Nat), Instr.command i = some (k, h, ps) → k.pair = true → k.opcode ≠ 0x0902 → Ready s k h ps →
    h.localOnly = false → h.src ≠ .partner → h.src ≠ .record →
    ((s.chip.get TWIN_STATUS_pair_state = 3 ∨ s.chip.get TWIN_STATUS_pair_state = 4) → Comes i s k h (fun r => r.status = 0x0500 ∧ s.chip.keeps [.mgmt] (fun _ => False) r.chip)) ∧
    ((s.chip.get TWIN_STATUS_pair_state = 0 ∨ s.chip.get TWIN_STATUS_pair_state = 2) → Comes i s k h (fun r => r.status ≠ 0)) ∧
    (s.chip.get TWIN_STATUS_pair_state = 1 → 2 < h.partner → Comes i s k h (fun r => accepted r.status = false))

/-- R418: GLB_CFG_GEN rises by 1 when a command of kind W or L is accepted, and only then. -/
def Obligations.ConfigGeneration : Prop :=
  ∀ (k : CmdInfo) (h : Hdr) (r : Res), r.later = false →
    ((k.kind = .w ∨ k.kind = .l) → (r.status = 0 ∨ r.status = 1 ∨ r.status = 2) →
      (Chip.finish k h r).get GLB_CFG_GEN_cfg_gen = (r.chip.get GLB_CFG_GEN_cfg_gen + 1) % 2 ^ 64) ∧
    ((k.kind = .r ∨ 2 < r.status) → (Chip.finish k h r).get GLB_CFG_GEN_cfg_gen = r.chip.get GLB_CFG_GEN_cfg_gen)

/-- R230: the P and Q of a stripe after a read-modify-write, from the old P and Q and the two contents of the block. -/
def Obligations.ReadModifyWriteParity : Prop :=
  ∀ (w i : Nat) (t : Tab Bytes) (old new : Bytes), w ≤ 16 → i < w → (∀ k, k < w → ∃ b, t.get? k = some b ∧ b.length = memberBlock) → t.get? i = some old → new.length = memberBlock →
    parityP w (t.put i new) = addBlocks (addBlocks (parityP w t) old) new ∧
    parityQ w (t.put i new) = addBlocks (parityQ w t) (scaleBlock (gfG i) (addBlocks old new))

/-- R229: any one or two members of a stripe are recovered from the others. -/
def Obligations.MissingBlocksRecovered : Prop :=
  ∀ (w x y : Nat) (t full : Tab Bytes) (byQ : Bool), (w = 4 ∨ w = 8 ∨ w = 16) → x < w + 2 → y < w + 2 → (∀ k, k < w → ∃ b, t.get? k = some b ∧ b.length = memberBlock) →
    full = (t.put w (parityP w t)).put (w + 1) (parityQ w t) → recoverPos w ((full.del x).del y) x byQ = full.get? x

/-- R284: the shares of a total always sum to it, and none is below its floor, where the floors together do not pass the total. (Where a clause rests on a reading or a choice of the model, it is that of log entry 85.) -/
def Obligations.SharesSumToContract : Prop :=
  ∀ (total low : Nat) (ds : List Nat), ds ≠ [] → low * ds.length ≤ total →
    (divideShares total low ds).length = ds.length ∧ (divideShares total low ds).sum = total ∧ ∀ x ∈ divideShares total low ds, low ≤ x

/-- R69: the minute number, the tick when it exceeds the last minute ticked, what the tick writes and raises, and that no minute is ticked twice. -/
def Obligations.MinuteTicks : Prop :=
  ∀ s : State, Live .up s →
    (s.chip.ports.srcInForce ≠ 1 → s.chip.minuteNumber = (s.chip.now - s.chip.ports.utcInForce * 1000000000) / (60 * 1000000000)) ∧
    (s.chip.ports.srcInForce = 1 → s.chip.minuteNumber = s.chip.get PORT_PPS_SEC_seconds / 60) ∧
    (s.chip.get PORT_TICK_LAST_minute < s.chip.minuteNumber → s.chip.minuteNumber < 2 ^ PORT_TICK_LAST_minute.width → Runs .minuteTick s (fun c =>
      c.get PORT_TICK_LAST_minute = s.chip.minuteNumber ∧ c.get PORT_TICK_LAST_source = s.chip.tickSrc ∧ c.get PORT_TICK_LAST_skipped = b2n s.chip.ports.steppedFwd ∧
      c.get PORT_TICK_LAST_holdover = s.chip.get PORT_TIME_STATUS_holdover ∧ bit (c.get EVT_STATUS_status 2) 5 = true)) ∧
    (s.chip.minuteNumber ≤ s.chip.get PORT_TICK_LAST_minute → exec .minuteTick s = .next s)

/-- R440: every step keeps the chip as PORST_N holds it, until the pin is released. (Where a clause rests on a reading or a choice of the model, it is that of log entry 16.) -/
def Obligations.PorstHolds : Prop :=
  ∀ s s' : State, s.inPorst → step s = .next s' → s'.inPorst

/-- R311: every step keeps a tripped chip tripped and stopped, until PORST_N. (Where a clause rests on a reading or a choice of the model, it is that of log entry 16.) -/
def Obligations.ThermalTripHolds : Prop :=
  ∀ s s' : State, s.inTrip → step s = .next s' → s'.inTrip

/-- R211: every step keeps a chip in dump-done there, until power returns or PORST_N is asserted. (Where a clause rests on a reading or a choice of the model, it is that of log entry 16.) -/
def Obligations.DumpDoneHolds : Prop :=
  ∀ s s' : State, s.inDumpDone → step s = .next s' → s'.inDumpDone

/-- Every step keeps HBM in its canonical form: addresses rising, no byte listed that equals what an unlisted address reads as. That an unlisted byte reads as 0 is the model's choice (notes/assumptions/3.md). -/
def Obligations.MemoryFormKept : Prop :=
  ∀ s s' : State, Memory.wf s.chip.hbm = true → step s = .next s' → Memory.wf s'.chip.hbm = true

/-- HBM has its canonical form at reset. -/
def Obligations.MemoryFormAtReset : Prop := Memory.wf State.reset.chip.hbm = true
end

