-- ==== Sys2Proof/Laws/Reg.lean ====
section
/-!
SUPPORT. What reading a sparse table, a register field or a byte of HBM gives after a write, and what stays as it was.
-/

namespace Sys2Proof.Machine

/-! ### Tables -/

@[simp] theorem Tab.get?_put_self {α : Type} (t : Tab α) (k : Nat) (v : α) : (t.put k v).get? k = some v := by
  induction t with
  | nil => simp [Tab.put, Tab.get?]
  | cons e t ih =>
    obtain ⟨a, w⟩ := e
    simp only [Tab.put]
    split
    · simp [Tab.get?]
    · split
      · simp [Tab.get?]
      · rename_i h1 h2
        simp [Tab.get?, Ne.symm h2, ih]

theorem Tab.get?_put_of_ne {α : Type} (t : Tab α) {k x : Nat} (v : α) (h : x ≠ k) : (t.put k v).get? x = t.get? x := by
  induction t with
  | nil => simp [Tab.put, Tab.get?, Ne.symm h]
  | cons e t ih =>
    obtain ⟨a, w⟩ := e
    simp only [Tab.put]
    split
    · simp [Tab.get?, Ne.symm h]
    · split
      · rename_i h2
        subst h2
        simp [Tab.get?, Ne.symm h]
      · simp only [Tab.get?]
        rw [ih]

theorem Tab.get?_put {α : Type} (t : Tab α) (k x : Nat) (v : α) : (t.put k v).get? x = if x = k then some v else t.get? x := by
  split
  · subst_vars; simp
  · exact t.get?_put_of_ne v ‹_›

@[simp] theorem Tab.getD_put_self {α : Type} (t : Tab α) (k : Nat) (v d : α) : (t.put k v).getD k d = v := by
  simp [Tab.getD]

theorem Tab.getD_put_of_ne {α : Type} (t : Tab α) {k x : Nat} (v d : α) (h : x ≠ k) : (t.put k v).getD x d = t.getD x d := by
  simp [Tab.getD, t.get?_put_of_ne v h]

theorem Tab.get?_del {α : Type} (t : Tab α) (k x : Nat) : (t.del k).get? x = if x = k then none else t.get? x := by
  induction t with
  | nil => simp [Tab.del, Tab.get?]
  | cons e t ih =>
    obtain ⟨a, w⟩ := e
    simp only [Tab.del] at ih ⊢
    by_cases h : a = k
    · subst h
      simp only [List.filter_cons, ne_eq, not_true_eq_false, decide_false, Bool.false_eq_true, ↓reduceIte, ih, Tab.get?]
      split
      · rfl
      · rename_i h2
        simp [Ne.symm h2]
    · simp only [List.filter_cons, ne_eq, h, not_false_eq_true, decide_true, ↓reduceIte, Tab.get?, ih]
      split
      · rename_i h2
        subst h2
        simp [h]
      · rfl

/-- Keys stay in rising order under a write. -/
theorem Tab.sortedFrom_put {α : Type} (t : Tab α) (lo k : Nat) (v : α) (hk : lo ≤ k) (h : Tab.sortedFrom lo t = true) :
    Tab.sortedFrom lo (t.put k v) = true := by
  induction t generalizing lo with
  | nil => simp [Tab.put, Tab.sortedFrom, hk]
  | cons e t ih =>
    obtain ⟨a, w⟩ := e
    simp only [Tab.sortedFrom, Bool.and_eq_true, decide_eq_true_eq] at h
    simp only [Tab.put]
    split
    · rename_i h1
      simp only [Tab.sortedFrom, Bool.and_eq_true, decide_eq_true_eq]
      exact ⟨hk, h1, h.2⟩
    · split
      · rename_i h2
        subst h2
        simp only [Tab.sortedFrom, Bool.and_eq_true, decide_eq_true_eq]
        exact ⟨hk, h.2⟩
      · simp only [Tab.sortedFrom, Bool.and_eq_true, decide_eq_true_eq]
        exact ⟨h.1, ih _ (by omega) h.2⟩

theorem Tab.sortedFrom_mono {α : Type} (t : Tab α) {lo hi : Nat} (hle : lo ≤ hi) (h : Tab.sortedFrom hi t = true) : Tab.sortedFrom lo t = true := by
  cases t with
  | nil => rfl
  | cons e t =>
    obtain ⟨a, w⟩ := e
    simp only [Tab.sortedFrom, Bool.and_eq_true, decide_eq_true_eq] at h ⊢
    exact ⟨by omega, h.2⟩

theorem Tab.sortedFrom_filter {α : Type} (t : Tab α) (p : Nat × α → Bool) (lo : Nat) (h : Tab.sortedFrom lo t = true) :
    Tab.sortedFrom lo (t.filter p) = true := by
  induction t generalizing lo with
  | nil => rfl
  | cons e t ih =>
    obtain ⟨a, w⟩ := e
    simp only [Tab.sortedFrom, Bool.and_eq_true, decide_eq_true_eq] at h
    simp only [List.filter_cons]
    split
    · simp only [Tab.sortedFrom, Bool.and_eq_true, decide_eq_true_eq]
      exact ⟨h.1, ih _ h.2⟩
    · exact Tab.sortedFrom_mono _ (by omega) (ih _ h.2)

/-! ### HBM -/

theorem memRead_memWrite (m : List Host.Cell) (a x : Nat) (b : Byte) :
    memRead (memWrite m a b) x = if x = a then b else memRead m x := by
  unfold memRead memWrite
  by_cases hx : x = a <;> split <;> simp [Tab.getD, Tab.get?_del, Tab.get?_put, *]

/-- Every write keeps the canonical form of byte memory. -/
theorem memWrite_wf (m : List Host.Cell) (a : Nat) (b : Byte) (h : Memory.wf m = true) : Memory.wf (memWrite m a b) = true := by
  simp only [Memory.wf, Tab.wf, Bool.and_eq_true, List.all_eq_true, decide_eq_true_eq] at h ⊢
  unfold memWrite
  split
  · exact ⟨Tab.sortedFrom_filter _ _ _ h.1, fun c hc => h.2 c ((List.mem_filter.mp hc).1)⟩
  · rename_i hb
    refine ⟨Tab.sortedFrom_put _ _ _ _ (Nat.zero_le _) h.1, ?_⟩
    have hmem : ∀ (t : Tab Byte) c, c ∈ t.put a b → c = (a, b) ∨ c ∈ t := by
      intro t
      induction t with
      | nil => intro c hc; simpa [Tab.put] using hc
      | cons e t ih =>
        obtain ⟨k, w⟩ := e
        intro c hc
        simp only [Tab.put] at hc
        split at hc
        · simpa using hc
        · split at hc
          · rcases List.mem_cons.mp hc with hc | hc
            · exact Or.inl hc
            · exact Or.inr (List.mem_cons_of_mem _ hc)
          · rcases List.mem_cons.mp hc with hc | hc
            · exact Or.inr (hc ▸ List.mem_cons_self)
            · exact (ih c hc).imp id (List.mem_cons_of_mem _)
    intro c hc
    rcases hmem m c hc with rfl | hc
    · exact hb
    · exact h.2 c hc

theorem memWriteN_wf (m : List Host.Cell) (a : Nat) (bs : Bytes) (h : Memory.wf m = true) : Memory.wf (memWriteN m a bs) = true := by
  induction bs generalizing m a with
  | nil => exact h
  | cons b bs ih => exact ih _ _ (memWrite_wf m a b h)

/-- A byte outside a write reads as before. -/
theorem memRead_memWriteN_outside (m : List Host.Cell) (a x : Nat) (bs : Bytes) (h : x < a ∨ a + bs.length ≤ x) :
    memRead (memWriteN m a bs) x = memRead m x := by
  induction bs generalizing m a with
  | nil => rfl
  | cons b bs ih =>
    simp only [List.length_cons] at h
    have h1 : x ≠ a := by omega
    rw [memWriteN, ih _ _ (by omega), memRead_memWrite, if_neg h1]

/-! ### Register fields -/

@[simp] theorem Chip.get_set_self (c : Chip) (f : Field) (v i j : Nat) : (c.set f v i j).get f i j = v % 2 ^ f.width := by
  simp [Chip.set, Chip.get]

theorem Chip.get_set_of_ne (c : Chip) {f g : Field} (v : Nat) {i j k l : Nat} (h : f.key i j ≠ g.key k l) :
    (c.set g v k l).get f i j = c.get f i j := by
  simp [Chip.set, Chip.get, Tab.getD_put_of_ne _ _ _ h]

theorem Chip.set_sameBut (c : Chip) (f : Field) (v i j : Nat) : c.sameBut [.regs] (c.set f v i j) := by
  refine ⟨rfl, fun p hp => ?_⟩
  cases p <;> first | rfl | simp at hp

theorem Chip.set_regsBut (c : Chip) (f : Field) (v i j : Nat) : c.regsBut (fun k => k = f.key i j) (c.set f v i j) := by
  intro k hk
  exact Tab.get?_put_of_ne _ _ hk

/-! ### Frames compose -/

theorem Part.same_refl (p : Part) (c : Chip) : p.same c c := by cases p <;> rfl

theorem Part.same_trans {p : Part} {c d e : Chip} (h1 : p.same c d) (h2 : p.same d e) : p.same c e := by
  cases p <;> exact Eq.trans h2 h1

theorem Chip.sameBut_refl (ps : List Part) (c : Chip) : c.sameBut ps c := ⟨rfl, fun p _ => p.same_refl c⟩

theorem Chip.sameBut_mono {ps qs : List Part} {c d : Chip} (hs : ∀ p ∈ ps, p ∈ qs) (h : c.sameBut ps d) : c.sameBut qs d :=
  ⟨h.1, fun p hp => h.2 p (fun hps => hp (hs p hps))⟩

theorem Chip.sameBut_trans {ps : List Part} {c d e : Chip} (h1 : c.sameBut ps d) (h2 : d.sameBut ps e) : c.sameBut ps e :=
  ⟨h2.1.trans h1.1, fun p hp => Part.same_trans (h1.2 p hp) (h2.2 p hp)⟩

theorem Chip.regsBut_refl (S : Nat → Prop) (c : Chip) : c.regsBut S c := fun _ _ => rfl

theorem Chip.regsBut_mono {S T : Nat → Prop} {c d : Chip} (hs : ∀ k, S k → T k) (h : c.regsBut S d) : c.regsBut T d :=
  fun k hk => h k (fun hS => hk (hs k hS))

theorem Chip.regsBut_trans {S : Nat → Prop} {c d e : Chip} (h1 : c.regsBut S d) (h2 : d.regsBut S e) : c.regsBut S e :=
  fun k hk => (h2 k hk).trans (h1 k hk)

/-- A field whose key lies outside the changed keys reads as before. -/
theorem Chip.get_of_regsBut {S : Nat → Prop} {c d : Chip} (hid : d.id = c.id) (h : c.regsBut S d) (f : Field) (i j : Nat) (hk : ¬ S (f.key i j)) :
    d.get f i j = c.get f i j := by
  simp [Chip.get, Tab.getD, h _ hk, hid]

end Sys2Proof.Machine
end

