-- ==== Sys2Proof/Laws/Events.lean ====
section
/-!
SUPPORT. Frames compose; what raising an event can change.
-/

namespace Sys2Proof.Machine

theorem Chip.keeps_refl (ps : List Part) (S : Nat → Prop) (c : Chip) : c.keeps ps S c := ⟨c.sameBut_refl ps, c.regsBut_refl S⟩

theorem Chip.keeps_trans {ps : List Part} {S : Nat → Prop} {c d e : Chip} (h1 : c.keeps ps S d) (h2 : d.keeps ps S e) : c.keeps ps S e :=
  ⟨Chip.sameBut_trans h1.1 h2.1, Chip.regsBut_trans h1.2 h2.2⟩

theorem Chip.keeps_mono {ps qs : List Part} {S T : Nat → Prop} {c d : Chip} (hp : ∀ p ∈ ps, p ∈ qs) (hs : ∀ k, S k → T k)
    (h : c.keeps ps S d) : c.keeps qs T d :=
  ⟨Chip.sameBut_mono hp h.1, Chip.regsBut_mono hs h.2⟩

theorem Chip.keeps_set {ps : List Part} {S : Nat → Prop} (c : Chip) (f : Field) (v i j : Nat) (hp : .regs ∈ ps) (hk : S (f.key i j)) :
    c.keeps ps S (c.set f v i j) :=
  ⟨Chip.sameBut_mono (by simpa using hp) (c.set_sameBut f v i j), fun k hS => c.set_regsBut f v i j k (fun h => hS (h ▸ hk))⟩

theorem Chip.get_of_keeps {ps : List Part} {S : Nat → Prop} {c d : Chip} (h : c.keeps ps S d) (f : Field) (i j : Nat) (hk : ¬ S (f.key i j)) :
    d.get f i j = c.get f i j := Chip.get_of_regsBut h.1.1 h.2 f i j hk

theorem Chip.keeps_ite {ps : List Part} {S : Nat → Prop} {c d e : Chip} (b : Prop) [Decidable b] (h1 : c.keeps ps S d) (h2 : c.keeps ps S e) :
    c.keeps ps S (if b then d else e) := by split <;> assumption

theorem Chip.keeps_foldl {α : Type} {ps : List Part} {S : Nat → Prop} (f : Chip → α → Chip) (l : List α)
    (hf : ∀ c x, x ∈ l → Chip.keeps ps S c (f c x)) (c : Chip) : c.keeps ps S (l.foldl f c) := by
  induction l generalizing c with
  | nil => exact c.keeps_refl ps S
  | cons a l ih =>
    exact Chip.keeps_trans (hf c a List.mem_cons_self) (ih (fun c x hx => hf c x (List.mem_cons_of_mem _ hx)) _)

/-! ### What raising an event can change (R470 to R473) -/

theorem Chip.msix_keeps (c : Chip) (v : Nat) : c.keeps evtParts evtKeys (c.msix v) := by
  unfold Chip.msix
  dsimp only
  split <;> refine ⟨⟨rfl, fun p hp => ?_⟩, fun k _ => rfl⟩ <;> cases p <;> first | rfl | exact absurd (by simp [evtParts]) hp

theorem Chip.logWait_keeps (c : Chip) (l : LogEntry) : c.keeps evtParts evtKeys (c.logWait l) := by
  unfold Chip.logWait
  refine ⟨⟨rfl, fun p hp => ?_⟩, fun k _ => rfl⟩
  cases p <;> first | rfl | exact absurd (by simp [evtParts]) hp

theorem Chip.notify_keeps (c : Chip) (l : LogEntry) : c.keeps evtParts evtKeys (c.notify l) := by
  unfold Chip.notify
  refine ⟨⟨rfl, fun p hp => ?_⟩, fun k _ => rfl⟩
  cases p <;> first | rfl | exact absurd (by simp [evtParts]) hp

theorem Chip.markEvent_keeps (c : Chip) (e : Nat) (he : e < 2048) : c.keeps evtParts evtKeys (c.markEvent e) := by
  have hp : Part.regs ∈ evtParts := by simp [evtParts]
  unfold Chip.markEvent Chip.refreshSummary Chip.bump
  refine Chip.keeps_trans (d := _) (Chip.keeps_set _ _ _ _ _ hp ?_) (Chip.keeps_trans (Chip.keeps_set _ _ _ _ _ hp ?_)
    (Chip.keeps_trans (Chip.keeps_set _ _ _ _ _ hp ?_) (Chip.keeps_set _ _ _ _ _ hp ?_)))
  all_goals
    simp only [evtKeys, inRange, Field.key, Geo.addr, EVT_STATUS_status, EVT_COUNT_raises, EVT_COUNT_last_s, EVT_SUMMARY_words,
      gEVT_STATUS, gEVT_COUNT, gEVT_SUMMARY]
    omega

/-- What raising an event can change, whatever gives its entry a place. -/
theorem Chip.raiseTo_keeps (c : Chip) (e : Nat) (b : Bool) (log : Chip → LogEntry → Chip) (he : e < 2048)
    (hl : ∀ d l, Chip.keeps evtParts evtKeys d (log d l)) : c.keeps evtParts evtKeys (c.raiseTo e b log) := by
  unfold Chip.raiseTo
  split
  · exact c.keeps_refl _ _
  · simp only
    have hm := c.markEvent_keeps e he
    generalize c.markEvent e = d at hm ⊢
    refine Chip.keeps_ite _ (Chip.keeps_trans hm ?_) hm
    have h2 : ∀ b : Bool, d.keeps evtParts evtKeys (if b = true then d.msix (d.get EVT_ROUTE_vector e) else d) :=
      fun b => Chip.keeps_ite _ (Chip.msix_keeps _ _) (Chip.keeps_refl _ _ _)
    exact Chip.keeps_ite _ (Chip.keeps_trans (h2 _) (hl _ _)) (h2 _)

theorem Chip.logWrite_keeps (c : Chip) (l : LogEntry) : c.keeps evtParts evtKeys (c.logWrite l) := by
  have hp : Part.regs ∈ evtParts := by simp [evtParts]
  have hk : ∀ f : Field, f = EVT_LOG_STAT_next ∨ f = EVT_LOG_STAT_lost → evtKeys (f.key 0 0) := by
    rintro f (rfl | rfl) <;> simp [evtKeys, inRange, Field.key, Geo.addr, EVT_LOG_STAT_next, EVT_LOG_STAT_lost, gEVT_LOG_STAT]
  have h1 : ∀ (d : Chip) (x : EvtState), d.keeps evtParts evtKeys { d with evt := x } := by
    intro d x
    refine ⟨⟨rfl, fun p hp => ?_⟩, fun k _ => rfl⟩
    cases p <;> first | rfl | exact absurd (by simp [evtParts]) hp
  unfold Chip.logWrite
  have h2 := Chip.keeps_trans (Chip.keeps_trans (h1 c { c.evt with log := c.evt.log.put (c.get EVT_LOG_STAT_next % 4096) l, lastEntry := c.evt.lastEntry.put l.event c.clk })
    (Chip.keeps_set _ EVT_LOG_STAT_next (c.get EVT_LOG_STAT_next + 1) 0 0 hp (hk _ (Or.inl rfl)))) (Chip.notify_keeps _ l)
  dsimp only at h2 ⊢
  generalize Chip.notify _ l = d at h2 ⊢
  split
  · exact Chip.keeps_trans h2 (Chip.keeps_trans (h1 d _) (Chip.keeps_trans (Chip.keeps_set _ EVT_LOG_STAT_lost _ 0 0 hp (hk _ (Or.inr rfl)))
      (Chip.raiseTo_keeps _ _ _ _ (by decide) Chip.logWait_keeps)))
  · exact h2

theorem Chip.logRaise_keeps (c : Chip) (l : LogEntry) : c.keeps evtParts evtKeys (c.logRaise l) := by
  unfold Chip.logRaise
  dsimp only
  exact Chip.keeps_ite _ (c.logWrite_keeps l) (c.logWait_keeps l)

/-- Raising an event changes the event unit's registers and log, sends at most messages, and leaves the rest of the chip. -/
theorem Chip.raiseAs_keeps (c : Chip) (e : Nat) (b : Bool) (he : e < 2048) : c.keeps evtParts evtKeys (c.raiseAs e b) :=
  c.raiseTo_keeps e b _ he Chip.logRaise_keeps

theorem Chip.raise_keeps (c : Chip) (e : Nat) (he : e < 2048) : c.keeps evtParts evtKeys (c.raise e) := c.raiseAs_keeps e false he

theorem Chip.raiseIf_keeps (c : Chip) (b : Bool) (e : Nat) (he : e < 2048) : c.keeps evtParts evtKeys (c.raiseIf b e) :=
  Chip.keeps_ite _ (c.raise_keeps e he) (c.keeps_refl _ _)

/-- A register outside the event unit reads as before an event. -/
theorem Chip.get_raise (c : Chip) (e : Nat) (he : e < 2048) (f : Field) (i j : Nat) (hk : ¬ evtKeys (f.key i j)) :
    (c.raise e).get f i j = c.get f i j := Chip.get_of_keeps (c.raise_keeps e he) f i j hk

end Sys2Proof.Machine
end

