-- ==== Sys2Proof/Laws/State.lean ====
section
/-!
SUPPORT. What each named update of the chip leaves in every field of it, and what a step's frame leaves in the state: one lemma per field per update, true by unfolding, for simp.
-/

namespace Sys2Proof.Machine

variable (c : Chip)

/-! ### Chip.set -/

@[simp] theorem Chip.set_id (f : Field) (v i j : Nat) : (c.set f v i j).id = c.id := rfl
@[simp] theorem Chip.set_regs (f : Field) (v i j : Nat) : (c.set f v i j).regs = c.regs.put (f.key i j) (v % 2 ^ f.width) := rfl
@[simp] theorem Chip.set_hbm (f : Field) (v i j : Nat) : (c.set f v i j).hbm = c.hbm := rfl
@[simp] theorem Chip.set_now (f : Field) (v i j : Nat) : (c.set f v i j).now = c.now := rfl
@[simp] theorem Chip.set_clk (f : Field) (v i j : Nat) : (c.set f v i j).clk = c.clk := rfl
@[simp] theorem Chip.set_freeN (f : Field) (v i j : Nat) : (c.set f v i j).freeN = c.freeN := rfl
@[simp] theorem Chip.set_out (f : Field) (v i j : Nat) : (c.set f v i j).out = c.out := rfl
@[simp] theorem Chip.set_fuses (f : Field) (v i j : Nat) : (c.set f v i j).fuses = c.fuses := rfl
@[simp] theorem Chip.set_mgmt (f : Field) (v i j : Nat) : (c.set f v i j).mgmt = c.mgmt := rfl
@[simp] theorem Chip.set_evt (f : Field) (v i j : Nat) : (c.set f v i j).evt = c.evt := rfl
@[simp] theorem Chip.set_tally (f : Field) (v i j : Nat) : (c.set f v i j).tally = c.tally := rfl
@[simp] theorem Chip.set_flash (f : Field) (v i j : Nat) : (c.set f v i j).flash = c.flash := rfl
@[simp] theorem Chip.set_start (f : Field) (v i j : Nat) : (c.set f v i j).start = c.start := rfl
@[simp] theorem Chip.set_swx (f : Field) (v i j : Nat) : (c.set f v i j).swx = c.swx := rfl
@[simp] theorem Chip.set_ports (f : Field) (v i j : Nat) : (c.set f v i j).ports = c.ports := rfl
@[simp] theorem Chip.set_heldOut (f : Field) (v i j : Nat) : (c.set f v i j).heldOut = c.heldOut := rfl
@[simp] theorem Chip.set_conns (f : Field) (v i j : Nat) : (c.set f v i j).conns = c.conns := rfl
@[simp] theorem Chip.set_ctrls (f : Field) (v i j : Nat) : (c.set f v i j).ctrls = c.ctrls := rfl
@[simp] theorem Chip.set_paddocks (f : Field) (v i j : Nat) : (c.set f v i j).paddocks = c.paddocks := rfl
@[simp] theorem Chip.set_hosts (f : Field) (v i j : Nat) : (c.set f v i j).hosts = c.hosts := rfl
@[simp] theorem Chip.set_grants (f : Field) (v i j : Nat) : (c.set f v i j).grants = c.grants := rfl
@[simp] theorem Chip.set_grantNo (f : Field) (v i j : Nat) : (c.set f v i j).grantNo = c.grantNo := rfl
@[simp] theorem Chip.set_vols (f : Field) (v i j : Nat) : (c.set f v i j).vols = c.vols := rfl
@[simp] theorem Chip.set_map (f : Field) (v i j : Nat) : (c.set f v i j).map = c.map := rfl
@[simp] theorem Chip.set_intake (f : Field) (v i j : Nat) : (c.set f v i j).intake = c.intake := rfl
@[simp] theorem Chip.set_shape (f : Field) (v i j : Nat) : (c.set f v i j).shape = c.shape := rfl
@[simp] theorem Chip.set_creditQ (f : Field) (v i j : Nat) : (c.set f v i j).creditQ = c.creditQ := rfl
@[simp] theorem Chip.set_connects (f : Field) (v i j : Nat) : (c.set f v i j).connects = c.connects := rfl
@[simp] theorem Chip.set_lost (f : Field) (v i j : Nat) : (c.set f v i j).lost = c.lost := rfl
@[simp] theorem Chip.set_cache (f : Field) (v i j : Nat) : (c.set f v i j).cache = c.cache := rfl
@[simp] theorem Chip.set_mirror (f : Field) (v i j : Nat) : (c.set f v i j).mirror = c.mirror := rfl
@[simp] theorem Chip.set_twin (f : Field) (v i j : Nat) : (c.set f v i j).twin = c.twin := rfl
@[simp] theorem Chip.set_stripes (f : Field) (v i j : Nat) : (c.set f v i j).stripes = c.stripes := rfl
@[simp] theorem Chip.set_cipher (f : Field) (v i j : Nat) : (c.set f v i j).cipher = c.cipher := rfl
@[simp] theorem Chip.set_gov (f : Field) (v i j : Nat) : (c.set f v i j).gov = c.gov := rfl
@[simp] theorem Chip.set_slots (f : Field) (v i j : Nat) : (c.set f v i j).slots = c.slots := rfl

/-! ### Chip.setFlag -/

@[simp] theorem Chip.setFlag_id (f : Field) (b : Bool) (i j : Nat) : (c.setFlag f b i j).id = c.id := rfl
@[simp] theorem Chip.setFlag_hbm (f : Field) (b : Bool) (i j : Nat) : (c.setFlag f b i j).hbm = c.hbm := rfl
@[simp] theorem Chip.setFlag_now (f : Field) (b : Bool) (i j : Nat) : (c.setFlag f b i j).now = c.now := rfl
@[simp] theorem Chip.setFlag_clk (f : Field) (b : Bool) (i j : Nat) : (c.setFlag f b i j).clk = c.clk := rfl
@[simp] theorem Chip.setFlag_freeN (f : Field) (b : Bool) (i j : Nat) : (c.setFlag f b i j).freeN = c.freeN := rfl
@[simp] theorem Chip.setFlag_out (f : Field) (b : Bool) (i j : Nat) : (c.setFlag f b i j).out = c.out := rfl
@[simp] theorem Chip.setFlag_fuses (f : Field) (b : Bool) (i j : Nat) : (c.setFlag f b i j).fuses = c.fuses := rfl
@[simp] theorem Chip.setFlag_mgmt (f : Field) (b : Bool) (i j : Nat) : (c.setFlag f b i j).mgmt = c.mgmt := rfl
@[simp] theorem Chip.setFlag_evt (f : Field) (b : Bool) (i j : Nat) : (c.setFlag f b i j).evt = c.evt := rfl
@[simp] theorem Chip.setFlag_tally (f : Field) (b : Bool) (i j : Nat) : (c.setFlag f b i j).tally = c.tally := rfl
@[simp] theorem Chip.setFlag_flash (f : Field) (b : Bool) (i j : Nat) : (c.setFlag f b i j).flash = c.flash := rfl
@[simp] theorem Chip.setFlag_start (f : Field) (b : Bool) (i j : Nat) : (c.setFlag f b i j).start = c.start := rfl
@[simp] theorem Chip.setFlag_swx (f : Field) (b : Bool) (i j : Nat) : (c.setFlag f b i j).swx = c.swx := rfl
@[simp] theorem Chip.setFlag_ports (f : Field) (b : Bool) (i j : Nat) : (c.setFlag f b i j).ports = c.ports := rfl
@[simp] theorem Chip.setFlag_heldOut (f : Field) (b : Bool) (i j : Nat) : (c.setFlag f b i j).heldOut = c.heldOut := rfl
@[simp] theorem Chip.setFlag_conns (f : Field) (b : Bool) (i j : Nat) : (c.setFlag f b i j).conns = c.conns := rfl
@[simp] theorem Chip.setFlag_ctrls (f : Field) (b : Bool) (i j : Nat) : (c.setFlag f b i j).ctrls = c.ctrls := rfl
@[simp] theorem Chip.setFlag_paddocks (f : Field) (b : Bool) (i j : Nat) : (c.setFlag f b i j).paddocks = c.paddocks := rfl
@[simp] theorem Chip.setFlag_hosts (f : Field) (b : Bool) (i j : Nat) : (c.setFlag f b i j).hosts = c.hosts := rfl
@[simp] theorem Chip.setFlag_grants (f : Field) (b : Bool) (i j : Nat) : (c.setFlag f b i j).grants = c.grants := rfl
@[simp] theorem Chip.setFlag_grantNo (f : Field) (b : Bool) (i j : Nat) : (c.setFlag f b i j).grantNo = c.grantNo := rfl
@[simp] theorem Chip.setFlag_vols (f : Field) (b : Bool) (i j : Nat) : (c.setFlag f b i j).vols = c.vols := rfl
@[simp] theorem Chip.setFlag_map (f : Field) (b : Bool) (i j : Nat) : (c.setFlag f b i j).map = c.map := rfl
@[simp] theorem Chip.setFlag_intake (f : Field) (b : Bool) (i j : Nat) : (c.setFlag f b i j).intake = c.intake := rfl
@[simp] theorem Chip.setFlag_shape (f : Field) (b : Bool) (i j : Nat) : (c.setFlag f b i j).shape = c.shape := rfl
@[simp] theorem Chip.setFlag_creditQ (f : Field) (b : Bool) (i j : Nat) : (c.setFlag f b i j).creditQ = c.creditQ := rfl
@[simp] theorem Chip.setFlag_connects (f : Field) (b : Bool) (i j : Nat) : (c.setFlag f b i j).connects = c.connects := rfl
@[simp] theorem Chip.setFlag_lost (f : Field) (b : Bool) (i j : Nat) : (c.setFlag f b i j).lost = c.lost := rfl
@[simp] theorem Chip.setFlag_cache (f : Field) (b : Bool) (i j : Nat) : (c.setFlag f b i j).cache = c.cache := rfl
@[simp] theorem Chip.setFlag_mirror (f : Field) (b : Bool) (i j : Nat) : (c.setFlag f b i j).mirror = c.mirror := rfl
@[simp] theorem Chip.setFlag_twin (f : Field) (b : Bool) (i j : Nat) : (c.setFlag f b i j).twin = c.twin := rfl
@[simp] theorem Chip.setFlag_stripes (f : Field) (b : Bool) (i j : Nat) : (c.setFlag f b i j).stripes = c.stripes := rfl
@[simp] theorem Chip.setFlag_cipher (f : Field) (b : Bool) (i j : Nat) : (c.setFlag f b i j).cipher = c.cipher := rfl
@[simp] theorem Chip.setFlag_gov (f : Field) (b : Bool) (i j : Nat) : (c.setFlag f b i j).gov = c.gov := rfl
@[simp] theorem Chip.setFlag_slots (f : Field) (b : Bool) (i j : Nat) : (c.setFlag f b i j).slots = c.slots := rfl

/-! ### Chip.bump -/

@[simp] theorem Chip.bump_id (f : Field) (n i j : Nat) : (c.bump f n i j).id = c.id := rfl
@[simp] theorem Chip.bump_hbm (f : Field) (n i j : Nat) : (c.bump f n i j).hbm = c.hbm := rfl
@[simp] theorem Chip.bump_now (f : Field) (n i j : Nat) : (c.bump f n i j).now = c.now := rfl
@[simp] theorem Chip.bump_clk (f : Field) (n i j : Nat) : (c.bump f n i j).clk = c.clk := rfl
@[simp] theorem Chip.bump_freeN (f : Field) (n i j : Nat) : (c.bump f n i j).freeN = c.freeN := rfl
@[simp] theorem Chip.bump_out (f : Field) (n i j : Nat) : (c.bump f n i j).out = c.out := rfl
@[simp] theorem Chip.bump_fuses (f : Field) (n i j : Nat) : (c.bump f n i j).fuses = c.fuses := rfl
@[simp] theorem Chip.bump_mgmt (f : Field) (n i j : Nat) : (c.bump f n i j).mgmt = c.mgmt := rfl
@[simp] theorem Chip.bump_evt (f : Field) (n i j : Nat) : (c.bump f n i j).evt = c.evt := rfl
@[simp] theorem Chip.bump_tally (f : Field) (n i j : Nat) : (c.bump f n i j).tally = c.tally := rfl
@[simp] theorem Chip.bump_flash (f : Field) (n i j : Nat) : (c.bump f n i j).flash = c.flash := rfl
@[simp] theorem Chip.bump_start (f : Field) (n i j : Nat) : (c.bump f n i j).start = c.start := rfl
@[simp] theorem Chip.bump_swx (f : Field) (n i j : Nat) : (c.bump f n i j).swx = c.swx := rfl
@[simp] theorem Chip.bump_ports (f : Field) (n i j : Nat) : (c.bump f n i j).ports = c.ports := rfl
@[simp] theorem Chip.bump_heldOut (f : Field) (n i j : Nat) : (c.bump f n i j).heldOut = c.heldOut := rfl
@[simp] theorem Chip.bump_conns (f : Field) (n i j : Nat) : (c.bump f n i j).conns = c.conns := rfl
@[simp] theorem Chip.bump_ctrls (f : Field) (n i j : Nat) : (c.bump f n i j).ctrls = c.ctrls := rfl
@[simp] theorem Chip.bump_paddocks (f : Field) (n i j : Nat) : (c.bump f n i j).paddocks = c.paddocks := rfl
@[simp] theorem Chip.bump_hosts (f : Field) (n i j : Nat) : (c.bump f n i j).hosts = c.hosts := rfl
@[simp] theorem Chip.bump_grants (f : Field) (n i j : Nat) : (c.bump f n i j).grants = c.grants := rfl
@[simp] theorem Chip.bump_grantNo (f : Field) (n i j : Nat) : (c.bump f n i j).grantNo = c.grantNo := rfl
@[simp] theorem Chip.bump_vols (f : Field) (n i j : Nat) : (c.bump f n i j).vols = c.vols := rfl
@[simp] theorem Chip.bump_map (f : Field) (n i j : Nat) : (c.bump f n i j).map = c.map := rfl
@[simp] theorem Chip.bump_intake (f : Field) (n i j : Nat) : (c.bump f n i j).intake = c.intake := rfl
@[simp] theorem Chip.bump_shape (f : Field) (n i j : Nat) : (c.bump f n i j).shape = c.shape := rfl
@[simp] theorem Chip.bump_creditQ (f : Field) (n i j : Nat) : (c.bump f n i j).creditQ = c.creditQ := rfl
@[simp] theorem Chip.bump_connects (f : Field) (n i j : Nat) : (c.bump f n i j).connects = c.connects := rfl
@[simp] theorem Chip.bump_lost (f : Field) (n i j : Nat) : (c.bump f n i j).lost = c.lost := rfl
@[simp] theorem Chip.bump_cache (f : Field) (n i j : Nat) : (c.bump f n i j).cache = c.cache := rfl
@[simp] theorem Chip.bump_mirror (f : Field) (n i j : Nat) : (c.bump f n i j).mirror = c.mirror := rfl
@[simp] theorem Chip.bump_twin (f : Field) (n i j : Nat) : (c.bump f n i j).twin = c.twin := rfl
@[simp] theorem Chip.bump_stripes (f : Field) (n i j : Nat) : (c.bump f n i j).stripes = c.stripes := rfl
@[simp] theorem Chip.bump_cipher (f : Field) (n i j : Nat) : (c.bump f n i j).cipher = c.cipher := rfl
@[simp] theorem Chip.bump_gov (f : Field) (n i j : Nat) : (c.bump f n i j).gov = c.gov := rfl
@[simp] theorem Chip.bump_slots (f : Field) (n i j : Nat) : (c.bump f n i j).slots = c.slots := rfl

/-! ### Chip.lessen -/

@[simp] theorem Chip.lessen_id (f : Field) (n i j : Nat) : (c.lessen f n i j).id = c.id := rfl
@[simp] theorem Chip.lessen_hbm (f : Field) (n i j : Nat) : (c.lessen f n i j).hbm = c.hbm := rfl
@[simp] theorem Chip.lessen_now (f : Field) (n i j : Nat) : (c.lessen f n i j).now = c.now := rfl
@[simp] theorem Chip.lessen_clk (f : Field) (n i j : Nat) : (c.lessen f n i j).clk = c.clk := rfl
@[simp] theorem Chip.lessen_freeN (f : Field) (n i j : Nat) : (c.lessen f n i j).freeN = c.freeN := rfl
@[simp] theorem Chip.lessen_out (f : Field) (n i j : Nat) : (c.lessen f n i j).out = c.out := rfl
@[simp] theorem Chip.lessen_fuses (f : Field) (n i j : Nat) : (c.lessen f n i j).fuses = c.fuses := rfl
@[simp] theorem Chip.lessen_mgmt (f : Field) (n i j : Nat) : (c.lessen f n i j).mgmt = c.mgmt := rfl
@[simp] theorem Chip.lessen_evt (f : Field) (n i j : Nat) : (c.lessen f n i j).evt = c.evt := rfl
@[simp] theorem Chip.lessen_tally (f : Field) (n i j : Nat) : (c.lessen f n i j).tally = c.tally := rfl
@[simp] theorem Chip.lessen_flash (f : Field) (n i j : Nat) : (c.lessen f n i j).flash = c.flash := rfl
@[simp] theorem Chip.lessen_start (f : Field) (n i j : Nat) : (c.lessen f n i j).start = c.start := rfl
@[simp] theorem Chip.lessen_swx (f : Field) (n i j : Nat) : (c.lessen f n i j).swx = c.swx := rfl
@[simp] theorem Chip.lessen_ports (f : Field) (n i j : Nat) : (c.lessen f n i j).ports = c.ports := rfl
@[simp] theorem Chip.lessen_heldOut (f : Field) (n i j : Nat) : (c.lessen f n i j).heldOut = c.heldOut := rfl
@[simp] theorem Chip.lessen_conns (f : Field) (n i j : Nat) : (c.lessen f n i j).conns = c.conns := rfl
@[simp] theorem Chip.lessen_ctrls (f : Field) (n i j : Nat) : (c.lessen f n i j).ctrls = c.ctrls := rfl
@[simp] theorem Chip.lessen_paddocks (f : Field) (n i j : Nat) : (c.lessen f n i j).paddocks = c.paddocks := rfl
@[simp] theorem Chip.lessen_hosts (f : Field) (n i j : Nat) : (c.lessen f n i j).hosts = c.hosts := rfl
@[simp] theorem Chip.lessen_grants (f : Field) (n i j : Nat) : (c.lessen f n i j).grants = c.grants := rfl
@[simp] theorem Chip.lessen_grantNo (f : Field) (n i j : Nat) : (c.lessen f n i j).grantNo = c.grantNo := rfl
@[simp] theorem Chip.lessen_vols (f : Field) (n i j : Nat) : (c.lessen f n i j).vols = c.vols := rfl
@[simp] theorem Chip.lessen_map (f : Field) (n i j : Nat) : (c.lessen f n i j).map = c.map := rfl
@[simp] theorem Chip.lessen_intake (f : Field) (n i j : Nat) : (c.lessen f n i j).intake = c.intake := rfl
@[simp] theorem Chip.lessen_shape (f : Field) (n i j : Nat) : (c.lessen f n i j).shape = c.shape := rfl
@[simp] theorem Chip.lessen_creditQ (f : Field) (n i j : Nat) : (c.lessen f n i j).creditQ = c.creditQ := rfl
@[simp] theorem Chip.lessen_connects (f : Field) (n i j : Nat) : (c.lessen f n i j).connects = c.connects := rfl
@[simp] theorem Chip.lessen_lost (f : Field) (n i j : Nat) : (c.lessen f n i j).lost = c.lost := rfl
@[simp] theorem Chip.lessen_cache (f : Field) (n i j : Nat) : (c.lessen f n i j).cache = c.cache := rfl
@[simp] theorem Chip.lessen_mirror (f : Field) (n i j : Nat) : (c.lessen f n i j).mirror = c.mirror := rfl
@[simp] theorem Chip.lessen_twin (f : Field) (n i j : Nat) : (c.lessen f n i j).twin = c.twin := rfl
@[simp] theorem Chip.lessen_stripes (f : Field) (n i j : Nat) : (c.lessen f n i j).stripes = c.stripes := rfl
@[simp] theorem Chip.lessen_cipher (f : Field) (n i j : Nat) : (c.lessen f n i j).cipher = c.cipher := rfl
@[simp] theorem Chip.lessen_gov (f : Field) (n i j : Nat) : (c.lessen f n i j).gov = c.gov := rfl
@[simp] theorem Chip.lessen_slots (f : Field) (n i j : Nat) : (c.lessen f n i j).slots = c.slots := rfl

/-! ### Chip.send -/

@[simp] theorem Chip.send_id (o : Out) : (c.send o).id = c.id := rfl
@[simp] theorem Chip.send_regs (o : Out) : (c.send o).regs = c.regs := rfl
@[simp] theorem Chip.send_hbm (o : Out) : (c.send o).hbm = c.hbm := rfl
@[simp] theorem Chip.send_now (o : Out) : (c.send o).now = c.now := rfl
@[simp] theorem Chip.send_clk (o : Out) : (c.send o).clk = c.clk := rfl
@[simp] theorem Chip.send_freeN (o : Out) : (c.send o).freeN = c.freeN := rfl
@[simp] theorem Chip.send_out (o : Out) : (c.send o).out = o :: c.out := rfl
@[simp] theorem Chip.send_fuses (o : Out) : (c.send o).fuses = c.fuses := rfl
@[simp] theorem Chip.send_mgmt (o : Out) : (c.send o).mgmt = c.mgmt := rfl
@[simp] theorem Chip.send_evt (o : Out) : (c.send o).evt = c.evt := rfl
@[simp] theorem Chip.send_tally (o : Out) : (c.send o).tally = c.tally := rfl
@[simp] theorem Chip.send_flash (o : Out) : (c.send o).flash = c.flash := rfl
@[simp] theorem Chip.send_start (o : Out) : (c.send o).start = c.start := rfl
@[simp] theorem Chip.send_swx (o : Out) : (c.send o).swx = c.swx := rfl
@[simp] theorem Chip.send_ports (o : Out) : (c.send o).ports = c.ports := rfl
@[simp] theorem Chip.send_heldOut (o : Out) : (c.send o).heldOut = c.heldOut := rfl
@[simp] theorem Chip.send_conns (o : Out) : (c.send o).conns = c.conns := rfl
@[simp] theorem Chip.send_ctrls (o : Out) : (c.send o).ctrls = c.ctrls := rfl
@[simp] theorem Chip.send_paddocks (o : Out) : (c.send o).paddocks = c.paddocks := rfl
@[simp] theorem Chip.send_hosts (o : Out) : (c.send o).hosts = c.hosts := rfl
@[simp] theorem Chip.send_grants (o : Out) : (c.send o).grants = c.grants := rfl
@[simp] theorem Chip.send_grantNo (o : Out) : (c.send o).grantNo = c.grantNo := rfl
@[simp] theorem Chip.send_vols (o : Out) : (c.send o).vols = c.vols := rfl
@[simp] theorem Chip.send_map (o : Out) : (c.send o).map = c.map := rfl
@[simp] theorem Chip.send_intake (o : Out) : (c.send o).intake = c.intake := rfl
@[simp] theorem Chip.send_shape (o : Out) : (c.send o).shape = c.shape := rfl
@[simp] theorem Chip.send_creditQ (o : Out) : (c.send o).creditQ = c.creditQ := rfl
@[simp] theorem Chip.send_connects (o : Out) : (c.send o).connects = c.connects := rfl
@[simp] theorem Chip.send_lost (o : Out) : (c.send o).lost = c.lost := rfl
@[simp] theorem Chip.send_cache (o : Out) : (c.send o).cache = c.cache := rfl
@[simp] theorem Chip.send_mirror (o : Out) : (c.send o).mirror = c.mirror := rfl
@[simp] theorem Chip.send_twin (o : Out) : (c.send o).twin = c.twin := rfl
@[simp] theorem Chip.send_stripes (o : Out) : (c.send o).stripes = c.stripes := rfl
@[simp] theorem Chip.send_cipher (o : Out) : (c.send o).cipher = c.cipher := rfl
@[simp] theorem Chip.send_gov (o : Out) : (c.send o).gov = c.gov := rfl
@[simp] theorem Chip.send_slots (o : Out) : (c.send o).slots = c.slots := rfl
@[simp] theorem Chip.send_get (o : Out) (g : Field) (k l : Nat) : (c.send o).get g k l = c.get g k l := rfl
@[simp] theorem Chip.send_flag (o : Out) (g : Field) (k l : Nat) : (c.send o).flag g k l = c.flag g k l := rfl

/-! ### Chip.unfetch -/

@[simp] theorem Chip.unfetch_id (h : Hdr) (opcode : Nat) : (c.unfetch h opcode).id = c.id := rfl
@[simp] theorem Chip.unfetch_regs (h : Hdr) (opcode : Nat) : (c.unfetch h opcode).regs = c.regs := rfl
@[simp] theorem Chip.unfetch_hbm (h : Hdr) (opcode : Nat) : (c.unfetch h opcode).hbm = c.hbm := rfl
@[simp] theorem Chip.unfetch_now (h : Hdr) (opcode : Nat) : (c.unfetch h opcode).now = c.now := rfl
@[simp] theorem Chip.unfetch_clk (h : Hdr) (opcode : Nat) : (c.unfetch h opcode).clk = c.clk := rfl
@[simp] theorem Chip.unfetch_freeN (h : Hdr) (opcode : Nat) : (c.unfetch h opcode).freeN = c.freeN := rfl
@[simp] theorem Chip.unfetch_out (h : Hdr) (opcode : Nat) : (c.unfetch h opcode).out = c.out := rfl
@[simp] theorem Chip.unfetch_fuses (h : Hdr) (opcode : Nat) : (c.unfetch h opcode).fuses = c.fuses := rfl
@[simp] theorem Chip.unfetch_evt (h : Hdr) (opcode : Nat) : (c.unfetch h opcode).evt = c.evt := rfl
@[simp] theorem Chip.unfetch_tally (h : Hdr) (opcode : Nat) : (c.unfetch h opcode).tally = c.tally := rfl
@[simp] theorem Chip.unfetch_flash (h : Hdr) (opcode : Nat) : (c.unfetch h opcode).flash = c.flash := rfl
@[simp] theorem Chip.unfetch_start (h : Hdr) (opcode : Nat) : (c.unfetch h opcode).start = c.start := rfl
@[simp] theorem Chip.unfetch_swx (h : Hdr) (opcode : Nat) : (c.unfetch h opcode).swx = c.swx := rfl
@[simp] theorem Chip.unfetch_ports (h : Hdr) (opcode : Nat) : (c.unfetch h opcode).ports = c.ports := rfl
@[simp] theorem Chip.unfetch_heldOut (h : Hdr) (opcode : Nat) : (c.unfetch h opcode).heldOut = c.heldOut := rfl
@[simp] theorem Chip.unfetch_conns (h : Hdr) (opcode : Nat) : (c.unfetch h opcode).conns = c.conns := rfl
@[simp] theorem Chip.unfetch_ctrls (h : Hdr) (opcode : Nat) : (c.unfetch h opcode).ctrls = c.ctrls := rfl
@[simp] theorem Chip.unfetch_paddocks (h : Hdr) (opcode : Nat) : (c.unfetch h opcode).paddocks = c.paddocks := rfl
@[simp] theorem Chip.unfetch_hosts (h : Hdr) (opcode : Nat) : (c.unfetch h opcode).hosts = c.hosts := rfl
@[simp] theorem Chip.unfetch_grants (h : Hdr) (opcode : Nat) : (c.unfetch h opcode).grants = c.grants := rfl
@[simp] theorem Chip.unfetch_grantNo (h : Hdr) (opcode : Nat) : (c.unfetch h opcode).grantNo = c.grantNo := rfl
@[simp] theorem Chip.unfetch_vols (h : Hdr) (opcode : Nat) : (c.unfetch h opcode).vols = c.vols := rfl
@[simp] theorem Chip.unfetch_map (h : Hdr) (opcode : Nat) : (c.unfetch h opcode).map = c.map := rfl
@[simp] theorem Chip.unfetch_intake (h : Hdr) (opcode : Nat) : (c.unfetch h opcode).intake = c.intake := rfl
@[simp] theorem Chip.unfetch_shape (h : Hdr) (opcode : Nat) : (c.unfetch h opcode).shape = c.shape := rfl
@[simp] theorem Chip.unfetch_creditQ (h : Hdr) (opcode : Nat) : (c.unfetch h opcode).creditQ = c.creditQ := rfl
@[simp] theorem Chip.unfetch_connects (h : Hdr) (opcode : Nat) : (c.unfetch h opcode).connects = c.connects := rfl
@[simp] theorem Chip.unfetch_lost (h : Hdr) (opcode : Nat) : (c.unfetch h opcode).lost = c.lost := rfl
@[simp] theorem Chip.unfetch_cache (h : Hdr) (opcode : Nat) : (c.unfetch h opcode).cache = c.cache := rfl
@[simp] theorem Chip.unfetch_mirror (h : Hdr) (opcode : Nat) : (c.unfetch h opcode).mirror = c.mirror := rfl
@[simp] theorem Chip.unfetch_twin (h : Hdr) (opcode : Nat) : (c.unfetch h opcode).twin = c.twin := rfl
@[simp] theorem Chip.unfetch_stripes (h : Hdr) (opcode : Nat) : (c.unfetch h opcode).stripes = c.stripes := rfl
@[simp] theorem Chip.unfetch_cipher (h : Hdr) (opcode : Nat) : (c.unfetch h opcode).cipher = c.cipher := rfl
@[simp] theorem Chip.unfetch_gov (h : Hdr) (opcode : Nat) : (c.unfetch h opcode).gov = c.gov := rfl
@[simp] theorem Chip.unfetch_slots (h : Hdr) (opcode : Nat) : (c.unfetch h opcode).slots = c.slots := rfl
@[simp] theorem Chip.unfetch_get (h : Hdr) (opcode : Nat) (g : Field) (k l : Nat) : (c.unfetch h opcode).get g k l = c.get g k l := rfl
@[simp] theorem Chip.unfetch_flag (h : Hdr) (opcode : Nat) (g : Field) (k l : Nat) : (c.unfetch h opcode).flag g k l = c.flag g k l := rfl

/-! ### Chip.updConn -/

@[simp] theorem Chip.updConn_id (x : Nat) (f : Conn → Conn) : (c.updConn x f).id = c.id := rfl
@[simp] theorem Chip.updConn_regs (x : Nat) (f : Conn → Conn) : (c.updConn x f).regs = c.regs := rfl
@[simp] theorem Chip.updConn_hbm (x : Nat) (f : Conn → Conn) : (c.updConn x f).hbm = c.hbm := rfl
@[simp] theorem Chip.updConn_now (x : Nat) (f : Conn → Conn) : (c.updConn x f).now = c.now := rfl
@[simp] theorem Chip.updConn_clk (x : Nat) (f : Conn → Conn) : (c.updConn x f).clk = c.clk := rfl
@[simp] theorem Chip.updConn_freeN (x : Nat) (f : Conn → Conn) : (c.updConn x f).freeN = c.freeN := rfl
@[simp] theorem Chip.updConn_out (x : Nat) (f : Conn → Conn) : (c.updConn x f).out = c.out := rfl
@[simp] theorem Chip.updConn_fuses (x : Nat) (f : Conn → Conn) : (c.updConn x f).fuses = c.fuses := rfl
@[simp] theorem Chip.updConn_mgmt (x : Nat) (f : Conn → Conn) : (c.updConn x f).mgmt = c.mgmt := rfl
@[simp] theorem Chip.updConn_evt (x : Nat) (f : Conn → Conn) : (c.updConn x f).evt = c.evt := rfl
@[simp] theorem Chip.updConn_tally (x : Nat) (f : Conn → Conn) : (c.updConn x f).tally = c.tally := rfl
@[simp] theorem Chip.updConn_flash (x : Nat) (f : Conn → Conn) : (c.updConn x f).flash = c.flash := rfl
@[simp] theorem Chip.updConn_start (x : Nat) (f : Conn → Conn) : (c.updConn x f).start = c.start := rfl
@[simp] theorem Chip.updConn_swx (x : Nat) (f : Conn → Conn) : (c.updConn x f).swx = c.swx := rfl
@[simp] theorem Chip.updConn_ports (x : Nat) (f : Conn → Conn) : (c.updConn x f).ports = c.ports := rfl
@[simp] theorem Chip.updConn_heldOut (x : Nat) (f : Conn → Conn) : (c.updConn x f).heldOut = c.heldOut := rfl
@[simp] theorem Chip.updConn_conns (x : Nat) (f : Conn → Conn) : (c.updConn x f).conns = c.conns.upd x f := rfl
@[simp] theorem Chip.updConn_ctrls (x : Nat) (f : Conn → Conn) : (c.updConn x f).ctrls = c.ctrls := rfl
@[simp] theorem Chip.updConn_paddocks (x : Nat) (f : Conn → Conn) : (c.updConn x f).paddocks = c.paddocks := rfl
@[simp] theorem Chip.updConn_hosts (x : Nat) (f : Conn → Conn) : (c.updConn x f).hosts = c.hosts := rfl
@[simp] theorem Chip.updConn_grants (x : Nat) (f : Conn → Conn) : (c.updConn x f).grants = c.grants := rfl
@[simp] theorem Chip.updConn_grantNo (x : Nat) (f : Conn → Conn) : (c.updConn x f).grantNo = c.grantNo := rfl
@[simp] theorem Chip.updConn_vols (x : Nat) (f : Conn → Conn) : (c.updConn x f).vols = c.vols := rfl
@[simp] theorem Chip.updConn_map (x : Nat) (f : Conn → Conn) : (c.updConn x f).map = c.map := rfl
@[simp] theorem Chip.updConn_intake (x : Nat) (f : Conn → Conn) : (c.updConn x f).intake = c.intake := rfl
@[simp] theorem Chip.updConn_shape (x : Nat) (f : Conn → Conn) : (c.updConn x f).shape = c.shape := rfl
@[simp] theorem Chip.updConn_creditQ (x : Nat) (f : Conn → Conn) : (c.updConn x f).creditQ = c.creditQ := rfl
@[simp] theorem Chip.updConn_connects (x : Nat) (f : Conn → Conn) : (c.updConn x f).connects = c.connects := rfl
@[simp] theorem Chip.updConn_lost (x : Nat) (f : Conn → Conn) : (c.updConn x f).lost = c.lost := rfl
@[simp] theorem Chip.updConn_cache (x : Nat) (f : Conn → Conn) : (c.updConn x f).cache = c.cache := rfl
@[simp] theorem Chip.updConn_mirror (x : Nat) (f : Conn → Conn) : (c.updConn x f).mirror = c.mirror := rfl
@[simp] theorem Chip.updConn_twin (x : Nat) (f : Conn → Conn) : (c.updConn x f).twin = c.twin := rfl
@[simp] theorem Chip.updConn_stripes (x : Nat) (f : Conn → Conn) : (c.updConn x f).stripes = c.stripes := rfl
@[simp] theorem Chip.updConn_cipher (x : Nat) (f : Conn → Conn) : (c.updConn x f).cipher = c.cipher := rfl
@[simp] theorem Chip.updConn_gov (x : Nat) (f : Conn → Conn) : (c.updConn x f).gov = c.gov := rfl
@[simp] theorem Chip.updConn_slots (x : Nat) (f : Conn → Conn) : (c.updConn x f).slots = c.slots := rfl
@[simp] theorem Chip.updConn_get (x : Nat) (f : Conn → Conn) (g : Field) (k l : Nat) : (c.updConn x f).get g k l = c.get g k l := rfl
@[simp] theorem Chip.updConn_flag (x : Nat) (f : Conn → Conn) (g : Field) (k l : Nat) : (c.updConn x f).flag g k l = c.flag g k l := rfl

/-! ### Chip.updCtrl -/

@[simp] theorem Chip.updCtrl_id (x : Nat) (f : Ctrl → Ctrl) : (c.updCtrl x f).id = c.id := rfl
@[simp] theorem Chip.updCtrl_regs (x : Nat) (f : Ctrl → Ctrl) : (c.updCtrl x f).regs = c.regs := rfl
@[simp] theorem Chip.updCtrl_hbm (x : Nat) (f : Ctrl → Ctrl) : (c.updCtrl x f).hbm = c.hbm := rfl
@[simp] theorem Chip.updCtrl_now (x : Nat) (f : Ctrl → Ctrl) : (c.updCtrl x f).now = c.now := rfl
@[simp] theorem Chip.updCtrl_clk (x : Nat) (f : Ctrl → Ctrl) : (c.updCtrl x f).clk = c.clk := rfl
@[simp] theorem Chip.updCtrl_freeN (x : Nat) (f : Ctrl → Ctrl) : (c.updCtrl x f).freeN = c.freeN := rfl
@[simp] theorem Chip.updCtrl_out (x : Nat) (f : Ctrl → Ctrl) : (c.updCtrl x f).out = c.out := rfl
@[simp] theorem Chip.updCtrl_fuses (x : Nat) (f : Ctrl → Ctrl) : (c.updCtrl x f).fuses = c.fuses := rfl
@[simp] theorem Chip.updCtrl_mgmt (x : Nat) (f : Ctrl → Ctrl) : (c.updCtrl x f).mgmt = c.mgmt := rfl
@[simp] theorem Chip.updCtrl_evt (x : Nat) (f : Ctrl → Ctrl) : (c.updCtrl x f).evt = c.evt := rfl
@[simp] theorem Chip.updCtrl_tally (x : Nat) (f : Ctrl → Ctrl) : (c.updCtrl x f).tally = c.tally := rfl
@[simp] theorem Chip.updCtrl_flash (x : Nat) (f : Ctrl → Ctrl) : (c.updCtrl x f).flash = c.flash := rfl
@[simp] theorem Chip.updCtrl_start (x : Nat) (f : Ctrl → Ctrl) : (c.updCtrl x f).start = c.start := rfl
@[simp] theorem Chip.updCtrl_swx (x : Nat) (f : Ctrl → Ctrl) : (c.updCtrl x f).swx = c.swx := rfl
@[simp] theorem Chip.updCtrl_ports (x : Nat) (f : Ctrl → Ctrl) : (c.updCtrl x f).ports = c.ports := rfl
@[simp] theorem Chip.updCtrl_heldOut (x : Nat) (f : Ctrl → Ctrl) : (c.updCtrl x f).heldOut = c.heldOut := rfl
@[simp] theorem Chip.updCtrl_conns (x : Nat) (f : Ctrl → Ctrl) : (c.updCtrl x f).conns = c.conns := rfl
@[simp] theorem Chip.updCtrl_ctrls (x : Nat) (f : Ctrl → Ctrl) : (c.updCtrl x f).ctrls = c.ctrls.upd x f := rfl
@[simp] theorem Chip.updCtrl_paddocks (x : Nat) (f : Ctrl → Ctrl) : (c.updCtrl x f).paddocks = c.paddocks := rfl
@[simp] theorem Chip.updCtrl_hosts (x : Nat) (f : Ctrl → Ctrl) : (c.updCtrl x f).hosts = c.hosts := rfl
@[simp] theorem Chip.updCtrl_grants (x : Nat) (f : Ctrl → Ctrl) : (c.updCtrl x f).grants = c.grants := rfl
@[simp] theorem Chip.updCtrl_grantNo (x : Nat) (f : Ctrl → Ctrl) : (c.updCtrl x f).grantNo = c.grantNo := rfl
@[simp] theorem Chip.updCtrl_vols (x : Nat) (f : Ctrl → Ctrl) : (c.updCtrl x f).vols = c.vols := rfl
@[simp] theorem Chip.updCtrl_map (x : Nat) (f : Ctrl → Ctrl) : (c.updCtrl x f).map = c.map := rfl
@[simp] theorem Chip.updCtrl_intake (x : Nat) (f : Ctrl → Ctrl) : (c.updCtrl x f).intake = c.intake := rfl
@[simp] theorem Chip.updCtrl_shape (x : Nat) (f : Ctrl → Ctrl) : (c.updCtrl x f).shape = c.shape := rfl
@[simp] theorem Chip.updCtrl_creditQ (x : Nat) (f : Ctrl → Ctrl) : (c.updCtrl x f).creditQ = c.creditQ := rfl
@[simp] theorem Chip.updCtrl_connects (x : Nat) (f : Ctrl → Ctrl) : (c.updCtrl x f).connects = c.connects := rfl
@[simp] theorem Chip.updCtrl_lost (x : Nat) (f : Ctrl → Ctrl) : (c.updCtrl x f).lost = c.lost := rfl
@[simp] theorem Chip.updCtrl_cache (x : Nat) (f : Ctrl → Ctrl) : (c.updCtrl x f).cache = c.cache := rfl
@[simp] theorem Chip.updCtrl_mirror (x : Nat) (f : Ctrl → Ctrl) : (c.updCtrl x f).mirror = c.mirror := rfl
@[simp] theorem Chip.updCtrl_twin (x : Nat) (f : Ctrl → Ctrl) : (c.updCtrl x f).twin = c.twin := rfl
@[simp] theorem Chip.updCtrl_stripes (x : Nat) (f : Ctrl → Ctrl) : (c.updCtrl x f).stripes = c.stripes := rfl
@[simp] theorem Chip.updCtrl_cipher (x : Nat) (f : Ctrl → Ctrl) : (c.updCtrl x f).cipher = c.cipher := rfl
@[simp] theorem Chip.updCtrl_gov (x : Nat) (f : Ctrl → Ctrl) : (c.updCtrl x f).gov = c.gov := rfl
@[simp] theorem Chip.updCtrl_slots (x : Nat) (f : Ctrl → Ctrl) : (c.updCtrl x f).slots = c.slots := rfl
@[simp] theorem Chip.updCtrl_get (x : Nat) (f : Ctrl → Ctrl) (g : Field) (k l : Nat) : (c.updCtrl x f).get g k l = c.get g k l := rfl
@[simp] theorem Chip.updCtrl_flag (x : Nat) (f : Ctrl → Ctrl) (g : Field) (k l : Nat) : (c.updCtrl x f).flag g k l = c.flag g k l := rfl

/-! ### Chip.updCmd -/

@[simp] theorem Chip.updCmd_id (x : Nat) (f : HostCmd → HostCmd) : (c.updCmd x f).id = c.id := rfl
@[simp] theorem Chip.updCmd_regs (x : Nat) (f : HostCmd → HostCmd) : (c.updCmd x f).regs = c.regs := rfl
@[simp] theorem Chip.updCmd_hbm (x : Nat) (f : HostCmd → HostCmd) : (c.updCmd x f).hbm = c.hbm := rfl
@[simp] theorem Chip.updCmd_now (x : Nat) (f : HostCmd → HostCmd) : (c.updCmd x f).now = c.now := rfl
@[simp] theorem Chip.updCmd_clk (x : Nat) (f : HostCmd → HostCmd) : (c.updCmd x f).clk = c.clk := rfl
@[simp] theorem Chip.updCmd_freeN (x : Nat) (f : HostCmd → HostCmd) : (c.updCmd x f).freeN = c.freeN := rfl
@[simp] theorem Chip.updCmd_out (x : Nat) (f : HostCmd → HostCmd) : (c.updCmd x f).out = c.out := rfl
@[simp] theorem Chip.updCmd_fuses (x : Nat) (f : HostCmd → HostCmd) : (c.updCmd x f).fuses = c.fuses := rfl
@[simp] theorem Chip.updCmd_mgmt (x : Nat) (f : HostCmd → HostCmd) : (c.updCmd x f).mgmt = c.mgmt := rfl
@[simp] theorem Chip.updCmd_evt (x : Nat) (f : HostCmd → HostCmd) : (c.updCmd x f).evt = c.evt := rfl
@[simp] theorem Chip.updCmd_tally (x : Nat) (f : HostCmd → HostCmd) : (c.updCmd x f).tally = c.tally := rfl
@[simp] theorem Chip.updCmd_flash (x : Nat) (f : HostCmd → HostCmd) : (c.updCmd x f).flash = c.flash := rfl
@[simp] theorem Chip.updCmd_start (x : Nat) (f : HostCmd → HostCmd) : (c.updCmd x f).start = c.start := rfl
@[simp] theorem Chip.updCmd_swx (x : Nat) (f : HostCmd → HostCmd) : (c.updCmd x f).swx = c.swx := rfl
@[simp] theorem Chip.updCmd_ports (x : Nat) (f : HostCmd → HostCmd) : (c.updCmd x f).ports = c.ports := rfl
@[simp] theorem Chip.updCmd_heldOut (x : Nat) (f : HostCmd → HostCmd) : (c.updCmd x f).heldOut = c.heldOut := rfl
@[simp] theorem Chip.updCmd_conns (x : Nat) (f : HostCmd → HostCmd) : (c.updCmd x f).conns = c.conns := rfl
@[simp] theorem Chip.updCmd_ctrls (x : Nat) (f : HostCmd → HostCmd) : (c.updCmd x f).ctrls = c.ctrls := rfl
@[simp] theorem Chip.updCmd_paddocks (x : Nat) (f : HostCmd → HostCmd) : (c.updCmd x f).paddocks = c.paddocks := rfl
@[simp] theorem Chip.updCmd_hosts (x : Nat) (f : HostCmd → HostCmd) : (c.updCmd x f).hosts = c.hosts := rfl
@[simp] theorem Chip.updCmd_grants (x : Nat) (f : HostCmd → HostCmd) : (c.updCmd x f).grants = c.grants := rfl
@[simp] theorem Chip.updCmd_grantNo (x : Nat) (f : HostCmd → HostCmd) : (c.updCmd x f).grantNo = c.grantNo := rfl
@[simp] theorem Chip.updCmd_vols (x : Nat) (f : HostCmd → HostCmd) : (c.updCmd x f).vols = c.vols := rfl
@[simp] theorem Chip.updCmd_map (x : Nat) (f : HostCmd → HostCmd) : (c.updCmd x f).map = c.map := rfl
@[simp] theorem Chip.updCmd_intake (x : Nat) (f : HostCmd → HostCmd) : (c.updCmd x f).intake = { c.intake with cmds := c.intake.cmds.upd x f } := rfl
@[simp] theorem Chip.updCmd_shape (x : Nat) (f : HostCmd → HostCmd) : (c.updCmd x f).shape = c.shape := rfl
@[simp] theorem Chip.updCmd_creditQ (x : Nat) (f : HostCmd → HostCmd) : (c.updCmd x f).creditQ = c.creditQ := rfl
@[simp] theorem Chip.updCmd_connects (x : Nat) (f : HostCmd → HostCmd) : (c.updCmd x f).connects = c.connects := rfl
@[simp] theorem Chip.updCmd_lost (x : Nat) (f : HostCmd → HostCmd) : (c.updCmd x f).lost = c.lost := rfl
@[simp] theorem Chip.updCmd_cache (x : Nat) (f : HostCmd → HostCmd) : (c.updCmd x f).cache = c.cache := rfl
@[simp] theorem Chip.updCmd_mirror (x : Nat) (f : HostCmd → HostCmd) : (c.updCmd x f).mirror = c.mirror := rfl
@[simp] theorem Chip.updCmd_twin (x : Nat) (f : HostCmd → HostCmd) : (c.updCmd x f).twin = c.twin := rfl
@[simp] theorem Chip.updCmd_stripes (x : Nat) (f : HostCmd → HostCmd) : (c.updCmd x f).stripes = c.stripes := rfl
@[simp] theorem Chip.updCmd_cipher (x : Nat) (f : HostCmd → HostCmd) : (c.updCmd x f).cipher = c.cipher := rfl
@[simp] theorem Chip.updCmd_gov (x : Nat) (f : HostCmd → HostCmd) : (c.updCmd x f).gov = c.gov := rfl
@[simp] theorem Chip.updCmd_slots (x : Nat) (f : HostCmd → HostCmd) : (c.updCmd x f).slots = c.slots := rfl
@[simp] theorem Chip.updCmd_get (x : Nat) (f : HostCmd → HostCmd) (g : Field) (k l : Nat) : (c.updCmd x f).get g k l = c.get g k l := rfl
@[simp] theorem Chip.updCmd_flag (x : Nat) (f : HostCmd → HostCmd) (g : Field) (k l : Nat) : (c.updCmd x f).flag g k l = c.flag g k l := rfl

/-! ### Chip.updEntry -/

@[simp] theorem Chip.updEntry_id (x : Nat) (f : JEntry → JEntry) : (c.updEntry x f).id = c.id := rfl
@[simp] theorem Chip.updEntry_regs (x : Nat) (f : JEntry → JEntry) : (c.updEntry x f).regs = c.regs := rfl
@[simp] theorem Chip.updEntry_hbm (x : Nat) (f : JEntry → JEntry) : (c.updEntry x f).hbm = c.hbm := rfl
@[simp] theorem Chip.updEntry_now (x : Nat) (f : JEntry → JEntry) : (c.updEntry x f).now = c.now := rfl
@[simp] theorem Chip.updEntry_clk (x : Nat) (f : JEntry → JEntry) : (c.updEntry x f).clk = c.clk := rfl
@[simp] theorem Chip.updEntry_freeN (x : Nat) (f : JEntry → JEntry) : (c.updEntry x f).freeN = c.freeN := rfl
@[simp] theorem Chip.updEntry_out (x : Nat) (f : JEntry → JEntry) : (c.updEntry x f).out = c.out := rfl
@[simp] theorem Chip.updEntry_fuses (x : Nat) (f : JEntry → JEntry) : (c.updEntry x f).fuses = c.fuses := rfl
@[simp] theorem Chip.updEntry_mgmt (x : Nat) (f : JEntry → JEntry) : (c.updEntry x f).mgmt = c.mgmt := rfl
@[simp] theorem Chip.updEntry_evt (x : Nat) (f : JEntry → JEntry) : (c.updEntry x f).evt = c.evt := rfl
@[simp] theorem Chip.updEntry_tally (x : Nat) (f : JEntry → JEntry) : (c.updEntry x f).tally = c.tally := rfl
@[simp] theorem Chip.updEntry_flash (x : Nat) (f : JEntry → JEntry) : (c.updEntry x f).flash = c.flash := rfl
@[simp] theorem Chip.updEntry_start (x : Nat) (f : JEntry → JEntry) : (c.updEntry x f).start = c.start := rfl
@[simp] theorem Chip.updEntry_swx (x : Nat) (f : JEntry → JEntry) : (c.updEntry x f).swx = c.swx := rfl
@[simp] theorem Chip.updEntry_ports (x : Nat) (f : JEntry → JEntry) : (c.updEntry x f).ports = c.ports := rfl
@[simp] theorem Chip.updEntry_heldOut (x : Nat) (f : JEntry → JEntry) : (c.updEntry x f).heldOut = c.heldOut := rfl
@[simp] theorem Chip.updEntry_conns (x : Nat) (f : JEntry → JEntry) : (c.updEntry x f).conns = c.conns := rfl
@[simp] theorem Chip.updEntry_ctrls (x : Nat) (f : JEntry → JEntry) : (c.updEntry x f).ctrls = c.ctrls := rfl
@[simp] theorem Chip.updEntry_paddocks (x : Nat) (f : JEntry → JEntry) : (c.updEntry x f).paddocks = c.paddocks := rfl
@[simp] theorem Chip.updEntry_hosts (x : Nat) (f : JEntry → JEntry) : (c.updEntry x f).hosts = c.hosts := rfl
@[simp] theorem Chip.updEntry_grants (x : Nat) (f : JEntry → JEntry) : (c.updEntry x f).grants = c.grants := rfl
@[simp] theorem Chip.updEntry_grantNo (x : Nat) (f : JEntry → JEntry) : (c.updEntry x f).grantNo = c.grantNo := rfl
@[simp] theorem Chip.updEntry_vols (x : Nat) (f : JEntry → JEntry) : (c.updEntry x f).vols = c.vols := rfl
@[simp] theorem Chip.updEntry_map (x : Nat) (f : JEntry → JEntry) : (c.updEntry x f).map = c.map := rfl
@[simp] theorem Chip.updEntry_intake (x : Nat) (f : JEntry → JEntry) : (c.updEntry x f).intake = c.intake := rfl
@[simp] theorem Chip.updEntry_shape (x : Nat) (f : JEntry → JEntry) : (c.updEntry x f).shape = c.shape := rfl
@[simp] theorem Chip.updEntry_creditQ (x : Nat) (f : JEntry → JEntry) : (c.updEntry x f).creditQ = c.creditQ := rfl
@[simp] theorem Chip.updEntry_connects (x : Nat) (f : JEntry → JEntry) : (c.updEntry x f).connects = c.connects := rfl
@[simp] theorem Chip.updEntry_lost (x : Nat) (f : JEntry → JEntry) : (c.updEntry x f).lost = c.lost := rfl
@[simp] theorem Chip.updEntry_cache (x : Nat) (f : JEntry → JEntry) : (c.updEntry x f).cache = c.cache := rfl
@[simp] theorem Chip.updEntry_mirror (x : Nat) (f : JEntry → JEntry) : (c.updEntry x f).mirror = c.mirror := rfl
@[simp] theorem Chip.updEntry_twin (x : Nat) (f : JEntry → JEntry) : (c.updEntry x f).twin = c.twin := rfl
@[simp] theorem Chip.updEntry_cipher (x : Nat) (f : JEntry → JEntry) : (c.updEntry x f).cipher = c.cipher := rfl
@[simp] theorem Chip.updEntry_gov (x : Nat) (f : JEntry → JEntry) : (c.updEntry x f).gov = c.gov := rfl
@[simp] theorem Chip.updEntry_slots (x : Nat) (f : JEntry → JEntry) : (c.updEntry x f).slots = c.slots := rfl
@[simp] theorem Chip.updEntry_get (x : Nat) (f : JEntry → JEntry) (g : Field) (k l : Nat) : (c.updEntry x f).get g k l = c.get g k l := rfl
@[simp] theorem Chip.updEntry_flag (x : Nat) (f : JEntry → JEntry) (g : Field) (k l : Nat) : (c.updEntry x f).flag g k l = c.flag g k l := rfl

/-! ### Chip.updFlock -/

@[simp] theorem Chip.updFlock_id (x : Nat) (f : Flock → Flock) : (c.updFlock x f).id = c.id := rfl
@[simp] theorem Chip.updFlock_regs (x : Nat) (f : Flock → Flock) : (c.updFlock x f).regs = c.regs := rfl
@[simp] theorem Chip.updFlock_hbm (x : Nat) (f : Flock → Flock) : (c.updFlock x f).hbm = c.hbm := rfl
@[simp] theorem Chip.updFlock_now (x : Nat) (f : Flock → Flock) : (c.updFlock x f).now = c.now := rfl
@[simp] theorem Chip.updFlock_clk (x : Nat) (f : Flock → Flock) : (c.updFlock x f).clk = c.clk := rfl
@[simp] theorem Chip.updFlock_freeN (x : Nat) (f : Flock → Flock) : (c.updFlock x f).freeN = c.freeN := rfl
@[simp] theorem Chip.updFlock_out (x : Nat) (f : Flock → Flock) : (c.updFlock x f).out = c.out := rfl
@[simp] theorem Chip.updFlock_fuses (x : Nat) (f : Flock → Flock) : (c.updFlock x f).fuses = c.fuses := rfl
@[simp] theorem Chip.updFlock_mgmt (x : Nat) (f : Flock → Flock) : (c.updFlock x f).mgmt = c.mgmt := rfl
@[simp] theorem Chip.updFlock_evt (x : Nat) (f : Flock → Flock) : (c.updFlock x f).evt = c.evt := rfl
@[simp] theorem Chip.updFlock_tally (x : Nat) (f : Flock → Flock) : (c.updFlock x f).tally = c.tally := rfl
@[simp] theorem Chip.updFlock_flash (x : Nat) (f : Flock → Flock) : (c.updFlock x f).flash = c.flash := rfl
@[simp] theorem Chip.updFlock_start (x : Nat) (f : Flock → Flock) : (c.updFlock x f).start = c.start := rfl
@[simp] theorem Chip.updFlock_swx (x : Nat) (f : Flock → Flock) : (c.updFlock x f).swx = c.swx := rfl
@[simp] theorem Chip.updFlock_ports (x : Nat) (f : Flock → Flock) : (c.updFlock x f).ports = c.ports := rfl
@[simp] theorem Chip.updFlock_heldOut (x : Nat) (f : Flock → Flock) : (c.updFlock x f).heldOut = c.heldOut := rfl
@[simp] theorem Chip.updFlock_conns (x : Nat) (f : Flock → Flock) : (c.updFlock x f).conns = c.conns := rfl
@[simp] theorem Chip.updFlock_ctrls (x : Nat) (f : Flock → Flock) : (c.updFlock x f).ctrls = c.ctrls := rfl
@[simp] theorem Chip.updFlock_paddocks (x : Nat) (f : Flock → Flock) : (c.updFlock x f).paddocks = c.paddocks := rfl
@[simp] theorem Chip.updFlock_hosts (x : Nat) (f : Flock → Flock) : (c.updFlock x f).hosts = c.hosts := rfl
@[simp] theorem Chip.updFlock_grants (x : Nat) (f : Flock → Flock) : (c.updFlock x f).grants = c.grants := rfl
@[simp] theorem Chip.updFlock_grantNo (x : Nat) (f : Flock → Flock) : (c.updFlock x f).grantNo = c.grantNo := rfl
@[simp] theorem Chip.updFlock_vols (x : Nat) (f : Flock → Flock) : (c.updFlock x f).vols = c.vols := rfl
@[simp] theorem Chip.updFlock_map (x : Nat) (f : Flock → Flock) : (c.updFlock x f).map = c.map := rfl
@[simp] theorem Chip.updFlock_intake (x : Nat) (f : Flock → Flock) : (c.updFlock x f).intake = c.intake := rfl
@[simp] theorem Chip.updFlock_shape (x : Nat) (f : Flock → Flock) : (c.updFlock x f).shape = c.shape := rfl
@[simp] theorem Chip.updFlock_creditQ (x : Nat) (f : Flock → Flock) : (c.updFlock x f).creditQ = c.creditQ := rfl
@[simp] theorem Chip.updFlock_connects (x : Nat) (f : Flock → Flock) : (c.updFlock x f).connects = c.connects := rfl
@[simp] theorem Chip.updFlock_lost (x : Nat) (f : Flock → Flock) : (c.updFlock x f).lost = c.lost := rfl
@[simp] theorem Chip.updFlock_cache (x : Nat) (f : Flock → Flock) : (c.updFlock x f).cache = c.cache := rfl
@[simp] theorem Chip.updFlock_mirror (x : Nat) (f : Flock → Flock) : (c.updFlock x f).mirror = c.mirror := rfl
@[simp] theorem Chip.updFlock_twin (x : Nat) (f : Flock → Flock) : (c.updFlock x f).twin = c.twin := rfl
@[simp] theorem Chip.updFlock_stripes (x : Nat) (f : Flock → Flock) : (c.updFlock x f).stripes = { c.stripes with flocks := c.stripes.flocks.upd x f } := rfl
@[simp] theorem Chip.updFlock_cipher (x : Nat) (f : Flock → Flock) : (c.updFlock x f).cipher = c.cipher := rfl
@[simp] theorem Chip.updFlock_gov (x : Nat) (f : Flock → Flock) : (c.updFlock x f).gov = c.gov := rfl
@[simp] theorem Chip.updFlock_slots (x : Nat) (f : Flock → Flock) : (c.updFlock x f).slots = c.slots := rfl
@[simp] theorem Chip.updFlock_get (x : Nat) (f : Flock → Flock) (g : Field) (k l : Nat) : (c.updFlock x f).get g k l = c.get g k l := rfl
@[simp] theorem Chip.updFlock_flag (x : Nat) (f : Flock → Flock) (g : Field) (k l : Nat) : (c.updFlock x f).flag g k l = c.flag g k l := rfl

/-! ### Chip.updBg -/

@[simp] theorem Chip.updBg_id (x : Nat) (f : BgOp → BgOp) : (c.updBg x f).id = c.id := rfl
@[simp] theorem Chip.updBg_regs (x : Nat) (f : BgOp → BgOp) : (c.updBg x f).regs = c.regs := rfl
@[simp] theorem Chip.updBg_hbm (x : Nat) (f : BgOp → BgOp) : (c.updBg x f).hbm = c.hbm := rfl
@[simp] theorem Chip.updBg_now (x : Nat) (f : BgOp → BgOp) : (c.updBg x f).now = c.now := rfl
@[simp] theorem Chip.updBg_clk (x : Nat) (f : BgOp → BgOp) : (c.updBg x f).clk = c.clk := rfl
@[simp] theorem Chip.updBg_freeN (x : Nat) (f : BgOp → BgOp) : (c.updBg x f).freeN = c.freeN := rfl
@[simp] theorem Chip.updBg_out (x : Nat) (f : BgOp → BgOp) : (c.updBg x f).out = c.out := rfl
@[simp] theorem Chip.updBg_fuses (x : Nat) (f : BgOp → BgOp) : (c.updBg x f).fuses = c.fuses := rfl
@[simp] theorem Chip.updBg_mgmt (x : Nat) (f : BgOp → BgOp) : (c.updBg x f).mgmt = c.mgmt := rfl
@[simp] theorem Chip.updBg_evt (x : Nat) (f : BgOp → BgOp) : (c.updBg x f).evt = c.evt := rfl
@[simp] theorem Chip.updBg_tally (x : Nat) (f : BgOp → BgOp) : (c.updBg x f).tally = c.tally := rfl
@[simp] theorem Chip.updBg_flash (x : Nat) (f : BgOp → BgOp) : (c.updBg x f).flash = c.flash := rfl
@[simp] theorem Chip.updBg_start (x : Nat) (f : BgOp → BgOp) : (c.updBg x f).start = c.start := rfl
@[simp] theorem Chip.updBg_swx (x : Nat) (f : BgOp → BgOp) : (c.updBg x f).swx = c.swx := rfl
@[simp] theorem Chip.updBg_ports (x : Nat) (f : BgOp → BgOp) : (c.updBg x f).ports = c.ports := rfl
@[simp] theorem Chip.updBg_heldOut (x : Nat) (f : BgOp → BgOp) : (c.updBg x f).heldOut = c.heldOut := rfl
@[simp] theorem Chip.updBg_conns (x : Nat) (f : BgOp → BgOp) : (c.updBg x f).conns = c.conns := rfl
@[simp] theorem Chip.updBg_ctrls (x : Nat) (f : BgOp → BgOp) : (c.updBg x f).ctrls = c.ctrls := rfl
@[simp] theorem Chip.updBg_paddocks (x : Nat) (f : BgOp → BgOp) : (c.updBg x f).paddocks = c.paddocks := rfl
@[simp] theorem Chip.updBg_hosts (x : Nat) (f : BgOp → BgOp) : (c.updBg x f).hosts = c.hosts := rfl
@[simp] theorem Chip.updBg_grants (x : Nat) (f : BgOp → BgOp) : (c.updBg x f).grants = c.grants := rfl
@[simp] theorem Chip.updBg_grantNo (x : Nat) (f : BgOp → BgOp) : (c.updBg x f).grantNo = c.grantNo := rfl
@[simp] theorem Chip.updBg_vols (x : Nat) (f : BgOp → BgOp) : (c.updBg x f).vols = c.vols := rfl
@[simp] theorem Chip.updBg_map (x : Nat) (f : BgOp → BgOp) : (c.updBg x f).map = c.map := rfl
@[simp] theorem Chip.updBg_intake (x : Nat) (f : BgOp → BgOp) : (c.updBg x f).intake = c.intake := rfl
@[simp] theorem Chip.updBg_shape (x : Nat) (f : BgOp → BgOp) : (c.updBg x f).shape = c.shape := rfl
@[simp] theorem Chip.updBg_creditQ (x : Nat) (f : BgOp → BgOp) : (c.updBg x f).creditQ = c.creditQ := rfl
@[simp] theorem Chip.updBg_connects (x : Nat) (f : BgOp → BgOp) : (c.updBg x f).connects = c.connects := rfl
@[simp] theorem Chip.updBg_lost (x : Nat) (f : BgOp → BgOp) : (c.updBg x f).lost = c.lost := rfl
@[simp] theorem Chip.updBg_cache (x : Nat) (f : BgOp → BgOp) : (c.updBg x f).cache = c.cache := rfl
@[simp] theorem Chip.updBg_mirror (x : Nat) (f : BgOp → BgOp) : (c.updBg x f).mirror = c.mirror := rfl
@[simp] theorem Chip.updBg_twin (x : Nat) (f : BgOp → BgOp) : (c.updBg x f).twin = c.twin := rfl
@[simp] theorem Chip.updBg_stripes (x : Nat) (f : BgOp → BgOp) : (c.updBg x f).stripes = { c.stripes with bg := c.stripes.bg.upd x f } := rfl
@[simp] theorem Chip.updBg_cipher (x : Nat) (f : BgOp → BgOp) : (c.updBg x f).cipher = c.cipher := rfl
@[simp] theorem Chip.updBg_gov (x : Nat) (f : BgOp → BgOp) : (c.updBg x f).gov = c.gov := rfl
@[simp] theorem Chip.updBg_slots (x : Nat) (f : BgOp → BgOp) : (c.updBg x f).slots = c.slots := rfl
@[simp] theorem Chip.updBg_get (x : Nat) (f : BgOp → BgOp) (g : Field) (k l : Nat) : (c.updBg x f).get g k l = c.get g k l := rfl
@[simp] theorem Chip.updBg_flag (x : Nat) (f : BgOp → BgOp) (g : Field) (k l : Nat) : (c.updBg x f).flag g k l = c.flag g k l := rfl

/-! ### Chip.putDrv -/

@[simp] theorem Chip.putDrv_id (x : Nat) (d : DrvCmd) : (c.putDrv x d).id = c.id := rfl
@[simp] theorem Chip.putDrv_regs (x : Nat) (d : DrvCmd) : (c.putDrv x d).regs = c.regs := rfl
@[simp] theorem Chip.putDrv_hbm (x : Nat) (d : DrvCmd) : (c.putDrv x d).hbm = c.hbm := rfl
@[simp] theorem Chip.putDrv_now (x : Nat) (d : DrvCmd) : (c.putDrv x d).now = c.now := rfl
@[simp] theorem Chip.putDrv_clk (x : Nat) (d : DrvCmd) : (c.putDrv x d).clk = c.clk := rfl
@[simp] theorem Chip.putDrv_freeN (x : Nat) (d : DrvCmd) : (c.putDrv x d).freeN = c.freeN := rfl
@[simp] theorem Chip.putDrv_out (x : Nat) (d : DrvCmd) : (c.putDrv x d).out = c.out := rfl
@[simp] theorem Chip.putDrv_fuses (x : Nat) (d : DrvCmd) : (c.putDrv x d).fuses = c.fuses := rfl
@[simp] theorem Chip.putDrv_mgmt (x : Nat) (d : DrvCmd) : (c.putDrv x d).mgmt = c.mgmt := rfl
@[simp] theorem Chip.putDrv_evt (x : Nat) (d : DrvCmd) : (c.putDrv x d).evt = c.evt := rfl
@[simp] theorem Chip.putDrv_tally (x : Nat) (d : DrvCmd) : (c.putDrv x d).tally = c.tally := rfl
@[simp] theorem Chip.putDrv_flash (x : Nat) (d : DrvCmd) : (c.putDrv x d).flash = c.flash := rfl
@[simp] theorem Chip.putDrv_start (x : Nat) (d : DrvCmd) : (c.putDrv x d).start = c.start := rfl
@[simp] theorem Chip.putDrv_swx (x : Nat) (d : DrvCmd) : (c.putDrv x d).swx = c.swx := rfl
@[simp] theorem Chip.putDrv_ports (x : Nat) (d : DrvCmd) : (c.putDrv x d).ports = c.ports := rfl
@[simp] theorem Chip.putDrv_heldOut (x : Nat) (d : DrvCmd) : (c.putDrv x d).heldOut = c.heldOut := rfl
@[simp] theorem Chip.putDrv_conns (x : Nat) (d : DrvCmd) : (c.putDrv x d).conns = c.conns := rfl
@[simp] theorem Chip.putDrv_ctrls (x : Nat) (d : DrvCmd) : (c.putDrv x d).ctrls = c.ctrls := rfl
@[simp] theorem Chip.putDrv_paddocks (x : Nat) (d : DrvCmd) : (c.putDrv x d).paddocks = c.paddocks := rfl
@[simp] theorem Chip.putDrv_hosts (x : Nat) (d : DrvCmd) : (c.putDrv x d).hosts = c.hosts := rfl
@[simp] theorem Chip.putDrv_grants (x : Nat) (d : DrvCmd) : (c.putDrv x d).grants = c.grants := rfl
@[simp] theorem Chip.putDrv_grantNo (x : Nat) (d : DrvCmd) : (c.putDrv x d).grantNo = c.grantNo := rfl
@[simp] theorem Chip.putDrv_vols (x : Nat) (d : DrvCmd) : (c.putDrv x d).vols = c.vols := rfl
@[simp] theorem Chip.putDrv_map (x : Nat) (d : DrvCmd) : (c.putDrv x d).map = c.map := rfl
@[simp] theorem Chip.putDrv_intake (x : Nat) (d : DrvCmd) : (c.putDrv x d).intake = c.intake := rfl
@[simp] theorem Chip.putDrv_shape (x : Nat) (d : DrvCmd) : (c.putDrv x d).shape = c.shape := rfl
@[simp] theorem Chip.putDrv_creditQ (x : Nat) (d : DrvCmd) : (c.putDrv x d).creditQ = c.creditQ := rfl
@[simp] theorem Chip.putDrv_connects (x : Nat) (d : DrvCmd) : (c.putDrv x d).connects = c.connects := rfl
@[simp] theorem Chip.putDrv_lost (x : Nat) (d : DrvCmd) : (c.putDrv x d).lost = c.lost := rfl
@[simp] theorem Chip.putDrv_cache (x : Nat) (d : DrvCmd) : (c.putDrv x d).cache = c.cache := rfl
@[simp] theorem Chip.putDrv_mirror (x : Nat) (d : DrvCmd) : (c.putDrv x d).mirror = c.mirror := rfl
@[simp] theorem Chip.putDrv_twin (x : Nat) (d : DrvCmd) : (c.putDrv x d).twin = c.twin := rfl
@[simp] theorem Chip.putDrv_stripes (x : Nat) (d : DrvCmd) : (c.putDrv x d).stripes = { c.stripes with drv := c.stripes.drv.put x d } := rfl
@[simp] theorem Chip.putDrv_cipher (x : Nat) (d : DrvCmd) : (c.putDrv x d).cipher = c.cipher := rfl
@[simp] theorem Chip.putDrv_gov (x : Nat) (d : DrvCmd) : (c.putDrv x d).gov = c.gov := rfl
@[simp] theorem Chip.putDrv_slots (x : Nat) (d : DrvCmd) : (c.putDrv x d).slots = c.slots := rfl
@[simp] theorem Chip.putDrv_get (x : Nat) (d : DrvCmd) (g : Field) (k l : Nat) : (c.putDrv x d).get g k l = c.get g k l := rfl
@[simp] theorem Chip.putDrv_flag (x : Nat) (d : DrvCmd) (g : Field) (k l : Nat) : (c.putDrv x d).flag g k l = c.flag g k l := rfl

/-! ### Chip.updDump -/

@[simp] theorem Chip.updDump_id (f : Dump → Dump) : (c.updDump f).id = c.id := rfl
@[simp] theorem Chip.updDump_regs (f : Dump → Dump) : (c.updDump f).regs = c.regs := rfl
@[simp] theorem Chip.updDump_hbm (f : Dump → Dump) : (c.updDump f).hbm = c.hbm := rfl
@[simp] theorem Chip.updDump_now (f : Dump → Dump) : (c.updDump f).now = c.now := rfl
@[simp] theorem Chip.updDump_clk (f : Dump → Dump) : (c.updDump f).clk = c.clk := rfl
@[simp] theorem Chip.updDump_freeN (f : Dump → Dump) : (c.updDump f).freeN = c.freeN := rfl
@[simp] theorem Chip.updDump_out (f : Dump → Dump) : (c.updDump f).out = c.out := rfl
@[simp] theorem Chip.updDump_fuses (f : Dump → Dump) : (c.updDump f).fuses = c.fuses := rfl
@[simp] theorem Chip.updDump_mgmt (f : Dump → Dump) : (c.updDump f).mgmt = c.mgmt := rfl
@[simp] theorem Chip.updDump_evt (f : Dump → Dump) : (c.updDump f).evt = c.evt := rfl
@[simp] theorem Chip.updDump_tally (f : Dump → Dump) : (c.updDump f).tally = c.tally := rfl
@[simp] theorem Chip.updDump_flash (f : Dump → Dump) : (c.updDump f).flash = c.flash := rfl
@[simp] theorem Chip.updDump_start (f : Dump → Dump) : (c.updDump f).start = c.start := rfl
@[simp] theorem Chip.updDump_swx (f : Dump → Dump) : (c.updDump f).swx = c.swx := rfl
@[simp] theorem Chip.updDump_ports (f : Dump → Dump) : (c.updDump f).ports = c.ports := rfl
@[simp] theorem Chip.updDump_heldOut (f : Dump → Dump) : (c.updDump f).heldOut = c.heldOut := rfl
@[simp] theorem Chip.updDump_conns (f : Dump → Dump) : (c.updDump f).conns = c.conns := rfl
@[simp] theorem Chip.updDump_ctrls (f : Dump → Dump) : (c.updDump f).ctrls = c.ctrls := rfl
@[simp] theorem Chip.updDump_paddocks (f : Dump → Dump) : (c.updDump f).paddocks = c.paddocks := rfl
@[simp] theorem Chip.updDump_hosts (f : Dump → Dump) : (c.updDump f).hosts = c.hosts := rfl
@[simp] theorem Chip.updDump_grants (f : Dump → Dump) : (c.updDump f).grants = c.grants := rfl
@[simp] theorem Chip.updDump_grantNo (f : Dump → Dump) : (c.updDump f).grantNo = c.grantNo := rfl
@[simp] theorem Chip.updDump_vols (f : Dump → Dump) : (c.updDump f).vols = c.vols := rfl
@[simp] theorem Chip.updDump_map (f : Dump → Dump) : (c.updDump f).map = c.map := rfl
@[simp] theorem Chip.updDump_intake (f : Dump → Dump) : (c.updDump f).intake = c.intake := rfl
@[simp] theorem Chip.updDump_shape (f : Dump → Dump) : (c.updDump f).shape = c.shape := rfl
@[simp] theorem Chip.updDump_creditQ (f : Dump → Dump) : (c.updDump f).creditQ = c.creditQ := rfl
@[simp] theorem Chip.updDump_connects (f : Dump → Dump) : (c.updDump f).connects = c.connects := rfl
@[simp] theorem Chip.updDump_lost (f : Dump → Dump) : (c.updDump f).lost = c.lost := rfl
@[simp] theorem Chip.updDump_cache (f : Dump → Dump) : (c.updDump f).cache = { c.cache with dump := f c.cache.dump } := rfl
@[simp] theorem Chip.updDump_mirror (f : Dump → Dump) : (c.updDump f).mirror = c.mirror := rfl
@[simp] theorem Chip.updDump_twin (f : Dump → Dump) : (c.updDump f).twin = c.twin := rfl
@[simp] theorem Chip.updDump_stripes (f : Dump → Dump) : (c.updDump f).stripes = c.stripes := rfl
@[simp] theorem Chip.updDump_cipher (f : Dump → Dump) : (c.updDump f).cipher = c.cipher := rfl
@[simp] theorem Chip.updDump_gov (f : Dump → Dump) : (c.updDump f).gov = c.gov := rfl
@[simp] theorem Chip.updDump_slots (f : Dump → Dump) : (c.updDump f).slots = c.slots := rfl
@[simp] theorem Chip.updDump_get (f : Dump → Dump) (g : Field) (k l : Nat) : (c.updDump f).get g k l = c.get g k l := rfl
@[simp] theorem Chip.updDump_flag (f : Dump → Dump) (g : Field) (k l : Nat) : (c.updDump f).flag g k l = c.flag g k l := rfl

/-! ### Chip.updPad -/

@[simp] theorem Chip.updPad_id (x : Nat) (f : PadKey → PadKey) : (c.updPad x f).id = c.id := rfl
@[simp] theorem Chip.updPad_regs (x : Nat) (f : PadKey → PadKey) : (c.updPad x f).regs = c.regs := rfl
@[simp] theorem Chip.updPad_hbm (x : Nat) (f : PadKey → PadKey) : (c.updPad x f).hbm = c.hbm := rfl
@[simp] theorem Chip.updPad_now (x : Nat) (f : PadKey → PadKey) : (c.updPad x f).now = c.now := rfl
@[simp] theorem Chip.updPad_clk (x : Nat) (f : PadKey → PadKey) : (c.updPad x f).clk = c.clk := rfl
@[simp] theorem Chip.updPad_freeN (x : Nat) (f : PadKey → PadKey) : (c.updPad x f).freeN = c.freeN := rfl
@[simp] theorem Chip.updPad_out (x : Nat) (f : PadKey → PadKey) : (c.updPad x f).out = c.out := rfl
@[simp] theorem Chip.updPad_fuses (x : Nat) (f : PadKey → PadKey) : (c.updPad x f).fuses = c.fuses := rfl
@[simp] theorem Chip.updPad_mgmt (x : Nat) (f : PadKey → PadKey) : (c.updPad x f).mgmt = c.mgmt := rfl
@[simp] theorem Chip.updPad_evt (x : Nat) (f : PadKey → PadKey) : (c.updPad x f).evt = c.evt := rfl
@[simp] theorem Chip.updPad_tally (x : Nat) (f : PadKey → PadKey) : (c.updPad x f).tally = c.tally := rfl
@[simp] theorem Chip.updPad_flash (x : Nat) (f : PadKey → PadKey) : (c.updPad x f).flash = c.flash := rfl
@[simp] theorem Chip.updPad_start (x : Nat) (f : PadKey → PadKey) : (c.updPad x f).start = c.start := rfl
@[simp] theorem Chip.updPad_swx (x : Nat) (f : PadKey → PadKey) : (c.updPad x f).swx = c.swx := rfl
@[simp] theorem Chip.updPad_ports (x : Nat) (f : PadKey → PadKey) : (c.updPad x f).ports = c.ports := rfl
@[simp] theorem Chip.updPad_heldOut (x : Nat) (f : PadKey → PadKey) : (c.updPad x f).heldOut = c.heldOut := rfl
@[simp] theorem Chip.updPad_conns (x : Nat) (f : PadKey → PadKey) : (c.updPad x f).conns = c.conns := rfl
@[simp] theorem Chip.updPad_ctrls (x : Nat) (f : PadKey → PadKey) : (c.updPad x f).ctrls = c.ctrls := rfl
@[simp] theorem Chip.updPad_paddocks (x : Nat) (f : PadKey → PadKey) : (c.updPad x f).paddocks = c.paddocks := rfl
@[simp] theorem Chip.updPad_hosts (x : Nat) (f : PadKey → PadKey) : (c.updPad x f).hosts = c.hosts := rfl
@[simp] theorem Chip.updPad_grants (x : Nat) (f : PadKey → PadKey) : (c.updPad x f).grants = c.grants := rfl
@[simp] theorem Chip.updPad_grantNo (x : Nat) (f : PadKey → PadKey) : (c.updPad x f).grantNo = c.grantNo := rfl
@[simp] theorem Chip.updPad_vols (x : Nat) (f : PadKey → PadKey) : (c.updPad x f).vols = c.vols := rfl
@[simp] theorem Chip.updPad_map (x : Nat) (f : PadKey → PadKey) : (c.updPad x f).map = c.map := rfl
@[simp] theorem Chip.updPad_intake (x : Nat) (f : PadKey → PadKey) : (c.updPad x f).intake = c.intake := rfl
@[simp] theorem Chip.updPad_shape (x : Nat) (f : PadKey → PadKey) : (c.updPad x f).shape = c.shape := rfl
@[simp] theorem Chip.updPad_creditQ (x : Nat) (f : PadKey → PadKey) : (c.updPad x f).creditQ = c.creditQ := rfl
@[simp] theorem Chip.updPad_connects (x : Nat) (f : PadKey → PadKey) : (c.updPad x f).connects = c.connects := rfl
@[simp] theorem Chip.updPad_lost (x : Nat) (f : PadKey → PadKey) : (c.updPad x f).lost = c.lost := rfl
@[simp] theorem Chip.updPad_cache (x : Nat) (f : PadKey → PadKey) : (c.updPad x f).cache = c.cache := rfl
@[simp] theorem Chip.updPad_mirror (x : Nat) (f : PadKey → PadKey) : (c.updPad x f).mirror = c.mirror := rfl
@[simp] theorem Chip.updPad_twin (x : Nat) (f : PadKey → PadKey) : (c.updPad x f).twin = c.twin := rfl
@[simp] theorem Chip.updPad_stripes (x : Nat) (f : PadKey → PadKey) : (c.updPad x f).stripes = c.stripes := rfl
@[simp] theorem Chip.updPad_cipher (x : Nat) (f : PadKey → PadKey) : (c.updPad x f).cipher = { c.cipher with pads := c.cipher.pads.upd x f } := rfl
@[simp] theorem Chip.updPad_gov (x : Nat) (f : PadKey → PadKey) : (c.updPad x f).gov = c.gov := rfl
@[simp] theorem Chip.updPad_slots (x : Nat) (f : PadKey → PadKey) : (c.updPad x f).slots = c.slots := rfl
@[simp] theorem Chip.updPad_get (x : Nat) (f : PadKey → PadKey) (g : Field) (k l : Nat) : (c.updPad x f).get g k l = c.get g k l := rfl
@[simp] theorem Chip.updPad_flag (x : Nat) (f : PadKey → PadKey) (g : Field) (k l : Nat) : (c.updPad x f).flag g k l = c.flag g k l := rfl

/-! ### Chip.updRun -/

@[simp] theorem Chip.updRun_id (x : Nat) (f : SlotRun → SlotRun) : (c.updRun x f).id = c.id := rfl
@[simp] theorem Chip.updRun_regs (x : Nat) (f : SlotRun → SlotRun) : (c.updRun x f).regs = c.regs := rfl
@[simp] theorem Chip.updRun_hbm (x : Nat) (f : SlotRun → SlotRun) : (c.updRun x f).hbm = c.hbm := rfl
@[simp] theorem Chip.updRun_now (x : Nat) (f : SlotRun → SlotRun) : (c.updRun x f).now = c.now := rfl
@[simp] theorem Chip.updRun_clk (x : Nat) (f : SlotRun → SlotRun) : (c.updRun x f).clk = c.clk := rfl
@[simp] theorem Chip.updRun_freeN (x : Nat) (f : SlotRun → SlotRun) : (c.updRun x f).freeN = c.freeN := rfl
@[simp] theorem Chip.updRun_out (x : Nat) (f : SlotRun → SlotRun) : (c.updRun x f).out = c.out := rfl
@[simp] theorem Chip.updRun_fuses (x : Nat) (f : SlotRun → SlotRun) : (c.updRun x f).fuses = c.fuses := rfl
@[simp] theorem Chip.updRun_mgmt (x : Nat) (f : SlotRun → SlotRun) : (c.updRun x f).mgmt = c.mgmt := rfl
@[simp] theorem Chip.updRun_evt (x : Nat) (f : SlotRun → SlotRun) : (c.updRun x f).evt = c.evt := rfl
@[simp] theorem Chip.updRun_tally (x : Nat) (f : SlotRun → SlotRun) : (c.updRun x f).tally = c.tally := rfl
@[simp] theorem Chip.updRun_flash (x : Nat) (f : SlotRun → SlotRun) : (c.updRun x f).flash = c.flash := rfl
@[simp] theorem Chip.updRun_start (x : Nat) (f : SlotRun → SlotRun) : (c.updRun x f).start = c.start := rfl
@[simp] theorem Chip.updRun_swx (x : Nat) (f : SlotRun → SlotRun) : (c.updRun x f).swx = c.swx := rfl
@[simp] theorem Chip.updRun_ports (x : Nat) (f : SlotRun → SlotRun) : (c.updRun x f).ports = c.ports := rfl
@[simp] theorem Chip.updRun_heldOut (x : Nat) (f : SlotRun → SlotRun) : (c.updRun x f).heldOut = c.heldOut := rfl
@[simp] theorem Chip.updRun_conns (x : Nat) (f : SlotRun → SlotRun) : (c.updRun x f).conns = c.conns := rfl
@[simp] theorem Chip.updRun_ctrls (x : Nat) (f : SlotRun → SlotRun) : (c.updRun x f).ctrls = c.ctrls := rfl
@[simp] theorem Chip.updRun_paddocks (x : Nat) (f : SlotRun → SlotRun) : (c.updRun x f).paddocks = c.paddocks := rfl
@[simp] theorem Chip.updRun_hosts (x : Nat) (f : SlotRun → SlotRun) : (c.updRun x f).hosts = c.hosts := rfl
@[simp] theorem Chip.updRun_grants (x : Nat) (f : SlotRun → SlotRun) : (c.updRun x f).grants = c.grants := rfl
@[simp] theorem Chip.updRun_grantNo (x : Nat) (f : SlotRun → SlotRun) : (c.updRun x f).grantNo = c.grantNo := rfl
@[simp] theorem Chip.updRun_vols (x : Nat) (f : SlotRun → SlotRun) : (c.updRun x f).vols = c.vols := rfl
@[simp] theorem Chip.updRun_map (x : Nat) (f : SlotRun → SlotRun) : (c.updRun x f).map = c.map := rfl
@[simp] theorem Chip.updRun_intake (x : Nat) (f : SlotRun → SlotRun) : (c.updRun x f).intake = c.intake := rfl
@[simp] theorem Chip.updRun_shape (x : Nat) (f : SlotRun → SlotRun) : (c.updRun x f).shape = c.shape := rfl
@[simp] theorem Chip.updRun_creditQ (x : Nat) (f : SlotRun → SlotRun) : (c.updRun x f).creditQ = c.creditQ := rfl
@[simp] theorem Chip.updRun_connects (x : Nat) (f : SlotRun → SlotRun) : (c.updRun x f).connects = c.connects := rfl
@[simp] theorem Chip.updRun_lost (x : Nat) (f : SlotRun → SlotRun) : (c.updRun x f).lost = c.lost := rfl
@[simp] theorem Chip.updRun_cache (x : Nat) (f : SlotRun → SlotRun) : (c.updRun x f).cache = c.cache := rfl
@[simp] theorem Chip.updRun_mirror (x : Nat) (f : SlotRun → SlotRun) : (c.updRun x f).mirror = c.mirror := rfl
@[simp] theorem Chip.updRun_twin (x : Nat) (f : SlotRun → SlotRun) : (c.updRun x f).twin = c.twin := rfl
@[simp] theorem Chip.updRun_stripes (x : Nat) (f : SlotRun → SlotRun) : (c.updRun x f).stripes = c.stripes := rfl
@[simp] theorem Chip.updRun_cipher (x : Nat) (f : SlotRun → SlotRun) : (c.updRun x f).cipher = c.cipher := rfl
@[simp] theorem Chip.updRun_gov (x : Nat) (f : SlotRun → SlotRun) : (c.updRun x f).gov = c.gov := rfl
@[simp] theorem Chip.updRun_slots (x : Nat) (f : SlotRun → SlotRun) : (c.updRun x f).slots = c.slots.put x (f (c.run x)) := rfl
@[simp] theorem Chip.updRun_get (x : Nat) (f : SlotRun → SlotRun) (g : Field) (k l : Nat) : (c.updRun x f).get g k l = c.get g k l := rfl
@[simp] theorem Chip.updRun_flag (x : Nat) (f : SlotRun → SlotRun) (g : Field) (k l : Nat) : (c.updRun x f).flag g k l = c.flag g k l := rfl

/-! ### The state -/

@[simp] theorem State.run_of_live (s : State) (g : Gate) (f : Chip → Chip) (h : g.admits s.chip = true) : s.run g f = .next { s with chip := f s.chip } := by
  simp [State.run, Chip.under, h]

@[simp] theorem State.run_of_shut (s : State) (g : Gate) (f : Chip → Chip) (h : g.admits s.chip = false) : s.run g f = .next s := by
  simp [State.run, Chip.under, h]

@[simp] theorem State.runSettled_of_live (s : State) (g : Gate) (f : Chip → Chip) (h : g.admits s.chip = true) :
    s.runSettled g f = .next { s with chip := (f s.chip).settle } := by simp [State.runSettled, h]

@[simp] theorem State.runSettled_of_shut (s : State) (g : Gate) (f : Chip → Chip) (h : g.admits s.chip = false) : s.runSettled g f = .next s := by
  simp [State.runSettled, h]

@[simp] theorem Chip.settle_of_stopped (h : c.stopped = true) : c.settle = c := by simp [Chip.settle, h]

end Sys2Proof.Machine
end

