-- ==== Sys2Proof/Laws/Command.lean ====
section
/-!
SUPPORT. What the shared course of a management command can do: its refusal before its effect, its effect and reply, what the reply leaves as it was, the three courses of a pair-scoped
command, the slot that a long operation takes; and that the row of every opcode takes that course.
-/

namespace Sys2Proof.Machine

/-! ### Refusal, effect, reply -/

theorem runCommand_of_ready (k : CmdInfo) (h : Hdr) (ps : List Nat) (body : Chip → Res) (c : Chip) (hr : (c.unfetch h k.opcode).refusal k h ps = none) :
    runCommand k h ps body c = Chip.finish k h (body (c.unfetch h k.opcode)) := by
  simp only [runCommand, hr]

theorem runCommand_of_refused (k : CmdInfo) (h : Hdr) (ps : List Nat) (body : Chip → Res) (c : Chip) (st d : Nat) (hr : (c.unfetch h k.opcode).refusal k h ps = some (st, d)) :
    runCommand k h ps body c =
      ((c.unfetch h k.opcode).raiseIf (decide (st = 0x0104)) 0x731).answer h k.opcode (Res.no (c.unfetch h k.opcode) st d) := by
  simp only [runCommand, hr]

/-- The checks before a command's effect read nothing that taking it from the fetched commands changes. -/
@[simp] theorem Chip.refusal_unfetch (c : Chip) (k : CmdInfo) (h : Hdr) (n : Nat) (ps : List Nat) : (c.unfetch h n).refusal k h ps = c.refusal k h ps := rfl

theorem Chip.finish_of_later (k : CmdInfo) (h : Hdr) (r : Res) (hl : r.later = true) : Chip.finish k h r = r.chip := by simp [Chip.finish, hl]

/-- A reply leaves the chip as it was but for the management state, what goes out, and, for a packet of the shelf record, the count of its errors. -/
theorem Chip.reply_sameBut (c : Chip) (src : Src) (opcode fmt tag status detail handle : Nat) (final : Bool) (data : Bytes) :
    c.sameBut [.mgmt, .out, .start] (c.reply src opcode fmt tag status detail handle final data) := by
  unfold Chip.reply
  cases src <;> simp only <;> (repeat' split) <;> exact ⟨rfl, fun p hp => by cases p <;> first | rfl | simp at hp⟩

theorem Chip.answer_sameBut (c : Chip) (h : Hdr) (opcode : Nat) (r : Res) : c.sameBut [.mgmt, .out, .start] (c.answer h opcode r) := by
  unfold Chip.answer
  split
  · exact c.sameBut_refl _
  · exact c.reply_sameBut ..

@[simp] theorem Chip.answer_regs (c : Chip) (h : Hdr) (opcode : Nat) (r : Res) : (c.answer h opcode r).regs = c.regs :=
  (c.answer_sameBut h opcode r).2 .regs (by decide)

@[simp] theorem Chip.answer_id (c : Chip) (h : Hdr) (opcode : Nat) (r : Res) : (c.answer h opcode r).id = c.id := (c.answer_sameBut h opcode r).1

@[simp] theorem Chip.answer_get (c : Chip) (h : Hdr) (opcode : Nat) (r : Res) (f : Field) (i j : Nat) : (c.answer h opcode r).get f i j = c.get f i j := by
  simp [Chip.get]

/-- After an effect only the configuration generation, the management state and what goes out change. -/
theorem Chip.finish_sameBut (k : CmdInfo) (h : Hdr) (r : Res) : r.chip.sameBut [.regs, .mgmt, .out, .start] (Chip.finish k h r) := by
  have hmono : ∀ p ∈ [Part.mgmt, .out, .start], p ∈ [Part.regs, .mgmt, .out, .start] := by decide
  have hset : ∀ p ∈ [Part.regs], p ∈ [Part.regs, .mgmt, .out, .start] := by decide
  unfold Chip.finish
  split
  · exact r.chip.sameBut_refl _
  · split
    · exact Chip.sameBut_trans (Chip.sameBut_mono hset (Chip.set_sameBut ..)) (Chip.sameBut_mono hmono (Chip.answer_sameBut ..))
    · exact Chip.sameBut_mono hmono (Chip.answer_sameBut ..)

/-- Every register field but GLB_CFG_GEN.cfg_gen reads after the reply as it read after the effect. -/
theorem Chip.get_finish (k : CmdInfo) (h : Hdr) (r : Res) (f : Field) (i j : Nat) (hf : f.key i j ≠ GLB_CFG_GEN_cfg_gen.key 0 0) :
    (Chip.finish k h r).get f i j = r.chip.get f i j := by
  unfold Chip.finish
  split
  · rfl
  · split
    · rw [Chip.answer_get, Chip.get_set_of_ne _ _ hf]
    · rw [Chip.answer_get]

/-! ### Pair-scoped commands (R417) -/

theorem pairScope_of_local (h : Hdr) (cmd : PairCmd) (body : Chip → Res) (c : Chip) (hl : h.localOnly = true) : pairScope h cmd body c = body c := by
  simp [pairScope, hl]

theorem pairScope_of_split (h : Hdr) (cmd : PairCmd) (body : Chip → Res) (c : Chip) (hl : h.localOnly = false) (h1 : h.src ≠ .partner) (h2 : h.src ≠ .record)
    (hs : c.get TWIN_STATUS_pair_state = 3 ∨ c.get TWIN_STATUS_pair_state = 4) : pairScope h cmd body c = Res.no c 0x0500 := by
  rcases hs with hs | hs <;> simp [pairScope, hl, h1, h2, hs]

theorem pairScope_of_paired (h : Hdr) (cmd : PairCmd) (body : Chip → Res) (c : Chip) (hl : h.localOnly = false) (h1 : h.src ≠ .partner) (h2 : h.src ≠ .record)
    (hs : c.get TWIN_STATUS_pair_state = 1) (hp : h.partner ≤ 2) (ha : accepted (body c).status = true) :
    pairScope h cmd body c = { body c with chip := (body c).chip.send (.partnerCommand cmd) } := by
  have hp' : h.partner = 0 ∨ h.partner = 1 ∨ h.partner = 2 := by omega
  rcases hp' with hp' | hp' | hp' <;> simp [pairScope, hl, h1, h2, hs, ha, hp']

/-! ### Long operations (R429) -/

theorem longAccept_of_slot (c : Chip) (h : Hdr) (opcode total : Nat) (args : List Nat) (f : Nat → Chip → Chip) (d : Chip) (i handle : Nat)
    (hs : c.loStart h opcode total args = some (d, i, handle)) : longAccept c h opcode total args f = ⟨f i d, 1, 0, handle, [], false⟩ := by
  simp [longAccept, hs]

theorem longAccept_of_full (c : Chip) (h : Hdr) (opcode total : Nat) (args : List Nat) (f : Nat → Chip → Chip) (hs : c.loStart h opcode total args = none) :
    longAccept c h opcode total args f = Res.no (c.raise 0x730) 0x0204 := by
  simp [longAccept, hs]

/-! ### Every opcode takes that course -/

set_option maxRecDepth 4000 in
/-- The row of every opcode but CHIP_RESET (which resets after its reply) is a run of `runCommand` under the header and information that `Instr.command` names. -/
theorem Instr.command_runs (i : Instr) (s : State) (k : CmdInfo) (h : Hdr) (ps : List Nat) (hc : Instr.command i = some (k, h, ps)) (hn : k.opcode ≠ 0x0B10) :
    ∃ body, exec i s = s.run .up (runCommand k h ps body) ∨ exec i s = s.runSettled .up (runCommand k h ps body) := by
  cases i <;> first
    | (cases hc; done)
    | (cases hc; exact ⟨_, Or.inl rfl⟩)
    | (cases hc; exact ⟨_, Or.inr rfl⟩)
    | (cases hc; exact absurd rfl hn)

end Sys2Proof.Machine
end

