-- ==== Sys2Proof/Laws/Write.lean ====
section
/-!
SUPPORT. What writing a register can do: a field's write touches that field alone, a register's write its fields, and an image written by firmware is what the fields then hold.
-/

namespace Sys2Proof.Machine

/-- A write to one field changes that field at most. -/
theorem Chip.writeField_keeps (c : Chip) (f : Field) (i j v m : Nat) (b : Bool) : c.keeps [.regs] (fun k => k = f.key i j) (c.writeField f i j v m b) := by
  unfold Chip.writeField
  cases f.ty <;> dsimp only <;> (repeat' split) <;>
    first | exact c.keeps_refl _ _ | exact c.keeps_set _ _ _ _ (by simp) rfl

/-- A write to a register changes its fields at most. -/
theorem Chip.writeReg_keeps (c : Chip) (r : Reg) (i j v m : Nat) (b : Bool) : c.keeps [.regs] (regKeys r i j) (c.writeReg r i j v m b) := by
  unfold Chip.writeReg
  split
  · exact c.keeps_refl _ _
  · refine Chip.keeps_foldl _ _ (fun d f hf => ?_) c
    exact Chip.keeps_mono (fun _ h => h) (fun k hk => ⟨f, hf, hk⟩) (d.writeField_keeps f i j v m b)

theorem Chip.writeImage_keeps (c : Chip) (r : Reg) (v i j : Nat) : c.keeps [.regs] (regKeys r i j) (c.writeImage r v i j) := c.writeReg_keeps r i j v _ false

theorem Chip.get_writeField_of_ne (c : Chip) (f g : Field) (i j v m : Nat) (b : Bool) (h : g.key i j ≠ f.key i j) :
    (c.writeField f i j v m b).get g i j = c.get g i j := Chip.get_of_keeps (c.writeField_keeps f i j v m b) g i j h

theorem Chip.get_writeFields_of_ne (l : List Field) (c : Chip) (g : Field) (i j v m : Nat) (b : Bool) (h : ∀ f ∈ l, g.key i j ≠ f.key i j) :
    (l.foldl (fun d f => d.writeField f i j v m b) c).get g i j = c.get g i j := by
  induction l generalizing c with
  | nil => rfl
  | cons f t ih =>
    rw [List.foldl_cons, ih _ (fun x hx => h x (List.mem_cons_of_mem _ hx)), c.get_writeField_of_ne f g i j v m b (h f List.mem_cons_self)]

/-- Firmware's write of an image under a full mask leaves an RW field at the image's value. -/
theorem Chip.get_writeField_full (c : Chip) (f : Field) (i j v : Nat) (ht : f.ty = .rw) (hw : 0 < f.width) (hl : f.lo + f.width ≤ 64) :
    (c.writeField f i j v (2 ^ 64 - 1) false).get f i j = f.of v := by
  have hm : bits (2 ^ 64 - 1) (f.lo + f.width - 1) f.lo = 2 ^ f.width - 1 := by
    unfold bits
    have e : f.lo + f.width - 1 + 1 - f.lo = f.width := by omega
    have h64 : (2 : Nat) ^ 64 = 2 ^ f.lo * 2 ^ (64 - f.lo) := by rw [← Nat.pow_add]; congr 1; omega
    have hd : (2 ^ 64 - 1) / 2 ^ f.lo = 2 ^ (64 - f.lo) - 1 := by
      rw [h64]
      have hp : 0 < 2 ^ (64 - f.lo) := Nat.two_pow_pos _
      have hq : 0 < 2 ^ f.lo := Nat.two_pow_pos _
      apply Nat.div_eq_of_lt_le
      · have := Nat.mul_le_mul_right (2 ^ f.lo) (Nat.sub_le (2 ^ (64 - f.lo)) 1)
        have h1 : (2 ^ (64 - f.lo) - 1) * 2 ^ f.lo = 2 ^ (64 - f.lo) * 2 ^ f.lo - 2 ^ f.lo := by rw [Nat.sub_mul, Nat.one_mul]
        rw [h1, Nat.mul_comm (2 ^ (64 - f.lo))]
        omega
      · rw [Nat.sub_add_cancel hp, Nat.mul_comm]
        exact Nat.sub_lt (Nat.mul_pos hp hq) Nat.one_pos
    rw [e, hd]
    have hs : (2 : Nat) ^ (64 - f.lo) = 2 ^ f.width * 2 ^ (64 - f.lo - f.width) := by rw [← Nat.pow_add]; congr 1; omega
    rw [hs]
    have hp : 0 < 2 ^ f.width := Nat.two_pow_pos _
    have hq : 0 < 2 ^ (64 - f.lo - f.width) := Nat.two_pow_pos _
    obtain ⟨q, hq'⟩ : ∃ q, 2 ^ (64 - f.lo - f.width) = q + 1 := ⟨_, (Nat.sub_add_cancel hq).symm⟩
    rw [hq', Nat.mul_add, Nat.mul_one, Nat.add_sub_assoc hp, Nat.mul_add_mod]
    exact Nat.mod_eq_of_lt (by omega)
  have hne : (2 : Nat) ^ f.width - 1 ≠ 0 := by
    have : 2 ≤ 2 ^ f.width := by simpa using Nat.pow_le_pow_right (show 0 < 2 by decide) hw
    omega
  have e : f.lo + f.width - 1 + 1 - f.lo = f.width := by omega
  unfold Chip.writeField
  simp only [ht, Bool.false_and, Bool.false_eq_true, if_false, hm, hne, Nat.xor_self, Nat.and_zero, Nat.zero_or, Chip.get_set_self, Nat.and_two_pow_sub_one_eq_mod, Nat.mod_mod]
  simp only [Field.of, bits, e, Nat.mod_mod]

/-- After firmware's write of an image, each RW field of a register whose fields do not overlap holds what the image says (R415). -/
theorem Chip.get_writeImage (c : Chip) (r : Reg) (v i j : Nat) (ha : r.geo.absence.absent c.id i = false) (hp : r.fields.Pairwise (fun f g => f.key i j ≠ g.key i j)) (f : Field)
    (hf : f ∈ r.fields) (ht : f.ty = .rw) (hw : 0 < f.width) (hl : f.lo + f.width ≤ 64) : (c.writeImage r v i j).get f i j = f.of v := by
  unfold Chip.writeImage Chip.writeReg
  simp only [ha, Bool.false_eq_true, if_false]
  clear ha
  generalize r.fields = l at hp hf
  induction l generalizing c with
  | nil => cases hf
  | cons g t ih =>
    rw [List.pairwise_cons] at hp
    rw [List.foldl_cons]
    rcases List.mem_cons.mp hf with rfl | hf
    · rw [Chip.get_writeFields_of_ne t _ f i j v _ false (fun x hx => hp.1 x hx), Chip.get_writeField_full c f i j v ht hw hl]
    · exact ih _ hp.2 hf

end Sys2Proof.Machine
end

