-- ==== Sys2Proof/Tests/Slice0.lean ====
section
/-!
SUPPORT. This model's own tests: terms that WellFormed refuses, the spec's worked examples, and, for every statement of Obligations.lean that has hypotheses, a concrete state and
operands that meet them together, clause by clause.
-/

namespace Sys2Proof.Tests

open Sys2Proof Sys2Proof.Machine

set_option maxRecDepth 20000
set_option Elab.async false
set_option linter.unusedVariables false

/-- Chip A of an SV3432 out of PORST_N, before its start has run; a state of it with nothing pending; a header from ring 0. -/
def live : Chip := { blankChip ⟨false, false, 0⟩ with start := { start0 with porst := false } }
def W (c : Chip) : State := ⟨c, []⟩
def hd : Hdr := ⟨.ring 0, 2, false, false, false, 64, 0xFFFF, 0, 0, 0, 0, 0⟩
def cell0 : Cell := ⟨3, 5, 2, true, true, false, 0, 7, 0, 0, 0, false, 0, 0, [1]⟩
def conn0 : Conn :=
  { transport := .drove, state := .opened, version := 0x0200, sub := 0, srcAddr := 9, openedNs := 0, identity := none, host := some 1, hostIdent := 77, paddock := 1, ctrl := 1, qid := 1, qsize := 64
    cls := 2, connected := true, sqHead := 0, hostCid := 5, chipCid := 6, hostNonce := [], chipNonce := [], cachedNs := none, secret := [], confirm := [], segSize := 4096, pathsMax := 4
    paths := [(0, { sub := 0, srcAddr := 9, srcPort := 1000, dstAddr := 8, live := true, rtoRun := 0, probeMiss := 0, heardNs := 0, hitS := 0, vtime := 0, rate := ⟨1000000, 1000000, 0, 0, none⟩ })]
    rxCum := 0, rxBits := [], rxCtrl := none, ackFrom := none, newPkts := 0, ceMask := 0, lastPath := 0, named := [], reorderOn := false, nextMsn := 0, msgs := [], txNext := 0, txMsn := 0, txCtrl := 0
    unacked := [], txWait := [], gen := 0, sent := 0, received := 0, hostData := 0, rekeyOpen := false, rekeySent := false, oldGen := false, stopped := false, creditLimit := 1024, consumed := 0
    wanted := none, digestH := false, digestD := false, tls := false, maxR2t := 0, retrans := 0, capsules := [], recSent := 0, recRecv := 0, keyAsked := false, failed := false, expectPsn := 0
    nextTxPsn := 0, retries := 0, rnrRetries := 0, cnpNs := 0, rate := ⟨1000000, 1000000, 0, 0, none⟩, acceptMsg := [], timerImg := 0, pathImg := 0, creditImg := 0, rateImg := 0 }
def frame0 : Frame := ⟨64, true, 0, false, 0, 0, false, true, 0, 1, true, false, false, 0, 0, none, 0, 0, []⟩
def packet0 : Packet := ⟨1, 2, 0, 1, 0xFFFF, 0, 0, 0, 0, [], true⟩
def reply0 : Reply := ⟨.ring 0, 1, 2, true, 0, 0, 0, 0, 0, 0, []⟩
/-- A submission ring of 64 units that runs. -/
def ringOn (c : Chip) (r : Nat) : Chip :=
  let c : Chip := { c with mgmt := { c.mgmt with bme := true, d3 := false } }
  (((((c.set GLB_START_step 5).set RING_SQ_CFG_size_64 64 r).set RING_SQ_STAT_state 1 r).set RING_SQ_STAT_phase 1 r).set RING_SQ_STAT_head 62 r)
def sess0 : MgmtSession := ⟨0, 2, 1, 1, 0, 0, 0, [5], 1, 9, 0, 0, [⟨5, 5, false, false, 1⟩], 0⟩
def withSess (c : Chip) (i : Nat) : Chip := { c with mgmt := { c.mgmt with sessions := [(i, sess0)] } }
/-- A long operation of an opcode in slot 63, in a state. -/
def longOp (opcode : Nat) : LongOp := ⟨opcode, 127, .ring 0, 2, 0, false, 2, 0, false, 0, []⟩
def withOp (c : Chip) (opcode state : Nat) : Chip := { c.set LONGOP_STATUS_status (loWord state 1 0 0) 63 with mgmt := { c.mgmt with ops := [(63, longOp opcode)] } }
def rx0 : Rx := ⟨0, 9, 1000, 8, false, 0, 21876⟩
def sqe0 : Sqe := ⟨2, 7, 1, 0, 0, 0, 0, 0, 0, 0, 0, 0, 0, 0, 0, 1⟩
def dpkt0 : DPkt := ⟨6, 0, 1, 0x10, 0, 0, 2 ^ 32 - 1, 0, 0, 0, 0, true, 0, [], none⟩
def opened0 : Conn := { conn0 with rxCum := 2 ^ 32 - 1 }
def txPkt0 : TxPkt := ⟨5, 1, 0, 0, 0, 0, [], 0, 0, 0, 0, []⟩
def withConn (c : Chip) (n : Conn) : Chip := { c with conns := [(131071, n)] }
def sqeHost0 : HostCmd :=
  { ctx := 131071, sqe := sqe0, blocks := [], ranges := [], dataLen := 0, units := 0, host := 1, ident := 77, paddock := 1, volume := none, grant := 0, fold := 0, cls := 4, red := false, order := 0
    st := .queued, seq := 0, lba := 0, count := 0, learns := [], got := [], dep := [], need := [], spots := [], pinned := [], open_ := [], multi := [], fwd := none, bad := 0, lastMseq := 0, lastDelta := 0
    silent := false, cost := 0 }
def tcp0 : Conn := { conn0 with transport := .tcp }
def roce0 : Conn := { conn0 with transport := .roce }
def done0 : Completion := ⟨131071, 7, 0, 0, 5, 0, [], false, false⟩
def withDone (c : Chip) : Chip := { c with intake := { c.intake with done := [done0] } }
def vol0 : Volume := newVolume 1 1 0 0 4 3 0
def entryOf0 (acre : Nat) : Entry := ⟨3, 0, acre, false, 0, 0, 0, 0⟩
/-- Volume 3 of 4 acres, the first three mapped, granted to host 1; its fold is owned. -/
def withVol (c : Chip) (v : Volume := vol0) : Chip :=
  let es := [entryOf0 0, entryOf0 1, entryOf0 2]
  { c.set TWIN_FOLD_STAT_gate_open 1 0 with
    vols := [(3, v)]
    grants := [(grantKey 1 1, ⟨3, false, 0⟩)]
    grantNo := 1
    map := { c.map with fallback := [(0, es), (1, es)] } }
def io0 : HostCmd := { sqeHost0 with cls := 2, volume := some 3, st := .admitted, seq := 1, count := 1 }
def blk0 : Blk := ⟨List.replicate 4096 7, 0⟩
def withCmd (c : Chip) (key : Nat) (k : HostCmd) : Chip := { c with intake := { c.intake with cmds := [(key, k)] }, conns := [(131071, conn0)] }
def ioOf (opc : Nat) : HostCmd := { io0 with sqe := { sqe0 with opc := opc } }
def wr0 : HostCmd := { ioOf 1 with blocks := [(0, blk0)], dataLen := 4096 }
def line0 : Line := ⟨3, 5, .filling, 9, 1, 0, 0, false, false, 0, List.replicate 4096 7, 0, false, 0⟩
def withLine (c : Chip) (l : Line) : Chip := { c with cache := { c.cache with sets := [(c.setKey l.volume l.lba, ⟨[(15, l)], 0⟩)] } }
/-- A flock of 8 members of width 4 with one spare: 2 layout rows. -/
def flock0 : Flock :=
  { width := 0, z := 1, n := 8, slots := [0, 1, 2, 3, 4, 5, 6, 7], rows := [[0, 1, 2, 3, 4, 5, 6, 7], [7, 6, 5, 4, 3, 2, 1, 0]], k := 1, s := 4, cycles := 2, uuid := [], labelGen := 1, relocs := []
    groups := [(0, 0)], acres := [], absent := [], failed := [], rebuilt := [], placed := [], home := [], stale := [], sinceNs := [], rdErrs := [], replayed := true, needScrub := false, scrubNs := 0 }
def withFlock (c : Chip) (f : Flock := flock0) : Chip := { c with stripes := { c.stripes with flocks := [(0, f)] } }
def admin0 (opc : Nat) : HostCmd := { sqeHost0 with st := .admitted, sqe := { sqe0 with opc := opc } }
def ctrl0 : Ctrl := newCtrl 1 77 1 1000 0 5 false
def adminConn0 : Conn := { conn0 with qid := 0 }
def withAdmin (c : Chip) (k : HostCmd) : Chip := { c with intake := { c.intake with cmds := [(cmdKey 0 16383, k)] }, conns := [(131071, adminConn0)], ctrls := [(1, ctrl0)] }
/-- The data of a Connect: host identifier 77, controller, subsystem "s", host "h". -/
def connectData (cntlid : Nat) : Bytes := le 16 77 ++ le 2 cntlid ++ zeros 238 ++ [115] ++ zeros 255 ++ [104] ++ zeros 511
def connect0 (cntlid qid sqsize : Nat) : HostCmd :=
  { admin0 0x7F with sqe := { sqe0 with opc := 0x7F, fctype := 1, cdw10 := qid * 65536, cdw11 := sqsize, cdw12 := 1000 }, blocks := [(0, ⟨connectData cntlid, 0⟩)], dataLen := 1024 }
def withHost (c : Chip) : Chip := { c with paddocks := [(1, ⟨[115]⟩)], hosts := [(1, ⟨1, 0, nqnHashOf [104], none, []⟩)] }
def newConn0 : Conn := { conn0 with connected := false, qid := 0 }
def withConnect (c : Chip) (k : HostCmd) (ts : Tab Ctrl) : Chip := { withHost c with intake := { c.intake with cmds := [(cmdKey 0 16383, k)] }, conns := [(131071, newConn0)], ctrls := ts }
def padKey0 : PadKey := ⟨1, 0, 0, [], [], [], 1, none, false, false, false, false, false⟩
def learn0 : Learn :=
  { kind := 4, whole := true, volume := 3, member := 0, lineage := 3, foundK := 0, found := none, acre := 3, epoch := 0, admSeq := 1, half := 0, queued := true, covered := [], waiting := []
    placing := none, data := [], record := [] }
def withLearn (c : Chip) (l : Learn) : Chip := { c with map := { c.map with learns := [(5, l)] } }
def bgOp0 : BgOp := { bg0 with slot := 63 }
def withBg (c : Chip) (o : BgOp) : Chip := { c with stripes := { c.stripes with bg := [(5, o)] } }
def dirty0 : Line := { line0 with st := .dirty }
/-- A Dirty line of block 5 of volume 3, with its flock. -/
def withDirty (c : Chip) : Chip := withFlock (withLine (withVol (c.set STRIPE_CTL_en 1)) dirty0)
def dirtySpot (c : Chip) : Nat × Nat × Nat × Nat := ((withDirty c).lineSpot dirty0).getD (0, 0, 0, 0)
def acreRec0 : AcreRec := ⟨1, 3, 0, 0, 0, none⟩
def range0 : RangeOp := ⟨3, 0, 0, 16, 1, [], [], none, ⟨.ring 0, 2, false, false, false, 64, 0xFFFF, 0, 0, 0, 0, 0⟩⟩
def entryJ0 : JEntry := entry0
def lost0 : LostRec := ⟨1, 0, 5, 0, 9, 3, 7⟩
def drvAt (slot : Nat) : DrvCmd := { drvCmd0 with slot := slot, cid := 255, pen := 0 }
def withDrv (c : Chip) (d : DrvCmd) : Chip := { c with stripes := { c.stripes with drv := [(7, d)], drvId := 8 } }
def withEntry (c : Chip) (e : JEntry) : Chip := { c with stripes := { c.stripes with entries := [(9, e)], entryId := 10 } }
/-- A drive that takes commands: link up, controller ready, reservation held. -/
def driveOn (c : Chip) (slot : Nat) : Chip :=
  (((((c.set DRV_LINK_STAT_up 1 slot).set DRV_NVME_STAT_ready 1 slot).set DRV_NVME_STAT_req_ok 1 slot).set DRV_NVME_STAT_rsv_held 1 slot).set SLOT_CH_STAT_pg 1 slot).set GOV_CTL_en 0

def padC (c : Chip) : Chip := { c with paddocks := [(1, ⟨[115]⟩)] }
def bks0 : Buckets := ⟨⟨5000000, 7000000, 65536, 65536⟩, ⟨5, 0⟩, ⟨6, 0⟩⟩
def gEn (c : Chip) : Chip := ((c.set GOV_CTL_en 1).set GOV_CAP_shelf_cap_w 1000).set SLOT_CH_STAT_pg 1 5
def gOn (c : Chip) : List Nat := c.slotList.filter c.powered
def gD (c : Chip) : List Nat := (List.range 5).map (fun l => ((gOn c).map (fun x => c.laneDemand x l)).sum)
def gW (c : Chip) : List Nat := [atLeast1 (c.get GOV_CLASS_W_high_w), atLeast1 (c.get GOV_CLASS_W_med_w), atLeast1 (c.get GOV_CLASS_W_low_w)]
def gG (c : Chip) : Giving := giving c.budget (gD c) (gW c) (c.get GOV_CAP_urgent_min_w * 100) (min 50 (c.get GOV_CAP_bg_floor_pct)) (decide (2 ≤ c.get GOV_TEMP_STAT_state))
def gDef (c : Chip) : Chip := withDrv ((gEn c).set GOV_STAT_chip_w 65535) { drvAt 5 with pen := 3, lane := 4 }
def vf0 (c : Chip) : Chip := ((((c.set GOV_CTL_vf_en 1).set GOV_ISL_CAL_valid 1 8 2).set GOV_ISL_CAL_valid 1 8 1).set GOV_ISL_PT_recal_pending 1 8).set GOV_ISL_PT_max_point 2 8
def psC (c : Chip) : Chip := { (c.set GOV_CTL_ps_en 1).set GOV_DRV_PS_CFG_idle_np_ms 5 31 with gov := { c.gov with npState := [(31, 4)] }, stripes := { c.stripes with flocks := [(0, { flock0 with slots := [31, 1, 2, 3, 4, 5, 6, 7] })], drv := [] } }
def psW (c : Chip) (k : Nat) : Chip := { c with gov := { c.gov with psWait := [(33, (15, true, k))] } }
def sl (c : Chip) (slot st : Nat) (r : SlotRun := slotRun0) : Chip := { c.set SLOT_CH_STAT_state st slot with slots := [(slot, r)] }
def pres (c : Chip) (slot : Nat) : Chip := (c.set SLOT_CH_STAT_present 1 slot).set SLOT_CH_CTL_en 1 slot
def pw (c : Chip) (slot : Nat) : Chip := c.set SLOT_CH_STAT_pg 1 slot
def ceil (c : Chip) (slot : Nat) : Chip := (c.set SLOT_CEIL_cont_ma 65535 slot).set SLOT_CEIL_peak_ma 65535 slot
def cur0 : List Nat := (List.range 8).map (fun k => (100 + k) + (90 - k) * 65536)
def acc8 (c : Chip) (slot amps : Nat) : List Nat := (List.range 8).map (fun k => if c.get SLOT_CURVE_i_ma slot k < amps then (c.run slot).acc.getD k 0 + 1 else (c.run slot).acc.getD k 0 - 1)
def onBody (c : Chip) (slot : Nat) : Chip := sl ((pw (pres c slot) slot).set SLOT_CH_STAT_fault_cnt 1 slot) slot 3
def kekOn (c : Chip) : Chip := { c.set CIPH_KEK_ID_kek_id 9 with cipher := { c.cipher with kek := some (9, [1, 2]) } }
def rootOk (c : Chip) : Chip := let d := c.set FUSE_STAT_debug_locked 1; { d with fuses := crc16 (d.fuseField 2) <<< (15360 + 32) }
def blob0 (kind paddock keyId gen len : Nat) (idh : Bytes) : Bytes := le 4 0x53564B59 ++ le 1 kind ++ le 1 len ++ le 2 paddock ++ le 8 keyId ++ le 4 gen ++ zeros 4 ++ idh ++ zeros 48
def padK (c : Chip) (k : PadKey) : Chip := { c with cipher := { c.cipher with pads := [(4095, k)] } }
def psk0 : Psk := ⟨5, 1, [7], [8]⟩
def ctxs0 (c : Chip) (isl : Nat) (l : List Nat) : Chip := { c with cipher := { c.cipher with ctxs := [(isl, l)] } }
def wh0 (c : Chip) (flags chip grade proto owns : Nat) (seq : Nat := 5) : Bytes :=
  let a := le 2 0x5357 ++ le 1 chip ++ le 1 flags ++ le 4 seq ++ zeros 8 ++ le 1 owns ++ zeros 1 ++ le 2 proto ++ le 2 grade ++ zeros 6
  a ++ le 4 (crc32c a)
def twOn (c : Chip) (st : Nat) : Chip := (c.set TWIN_STATUS_pair_state st).set TWIN_CTL_en 1
def carr (c : Chip) : Chip := { c with mgmt := { c.mgmt with carried := [(.paddockDelete 1)] } }
def tm (c : Chip) (m : Tab (Nat × Option Nat)) : Chip := { (c.set TWIN_STATUS_pair_state 1).set TWIN_RESYNC_state 2 with twin := { c.twin with moves := m } }
def je0 : JEntry := { entry0 with fold := 7, state := 2 }
def cmd7 : HostCmd := { io0 with fold := 7 }
def img0 : Image := ⟨true, 7, 0x0200, 3, 1, true⟩
def im (c : Chip) : Chip := { c with flash := { c.flash with images := [(0, img0), (1, { img0 with rollback := 5 })] }, start := { c.start with running := 1 } }
def fz (c : Chip) (n : Nat) : Chip := { c with fuses := n }
def crcs (c : Chip) (ks : List Nat) : Chip := ks.foldl (fun (c : Chip) k => { c with fuses := c.fuses ||| crc16 (c.fuseField k) * 2 ^ (15360 + 16 * k) }) c
def sealC (c : Chip) : Chip := crcs (fz c (2 ^ 1120 + 2 ^ 1400 + 2 ^ 1831)) [2, 3]
def shc (c : Chip) : Chip := { c with flash := { c.flash with shelf := [(0, ⟨5, true, [1, 2, 3]⟩), (1, ⟨7, true, [4, 5, 6, 7]⟩)] } }
def porstC (c : Chip) : Chip := { c with start := { c.start with porst := true } }
def dumpC (c : Chip) (p : Nat) : Chip := { c with cache := { c.cache with dump := { c.cache.dump with phase := p } } }
def full (c : Chip) : Chip := { withConn (withVol (withFlock c)) conn0 with hbm := [(5, 7)], ctrls := [(1, ctrl0)] }
def st (c : Chip) (n : Nat) : Chip := { (c.set GLB_START_step n).setFlag GLB_START_in_service false with start := { c.start with failed := false } }
def sess (c : Chip) : Chip := withSess c 63
def stE (c : Chip) (n reason : Nat) : StepEnd := (st c n).stepEnd reason 7 .nothing
def att (c : Chip) (n k : Nat) : Chip := { st c n with flash := { c.flash with attempts := [(n, k)] } }
def sessRole (c : Chip) (r : Nat) : Chip := { c with mgmt := { c.mgmt with sessions := [(63, { sess0 with role := r })] } }
def zeroBlock : Bytes := List.replicate memberBlock 0
def zeroTab : Tab Bytes := (List.range 16).map (fun k => (k, zeroBlock))
def after (s : State) : State := match step s with
  | .next t => t
  | _ => s
def porstS : State := ⟨{ live with start := { live.start with porst := true } }, [.minuteTick]⟩
def tripS : State := ⟨{ live with gov := { live.gov with tripped := true } }, [.minuteTick]⟩
def dumpS : State := ⟨{ live with cache := { live.cache with dump := { live.cache.dump with phase := 4 } } }, [.minuteTick]⟩
def hbmS : State := ⟨{ live with hbm := [(5, 7)] }, [.minuteTick]⟩

theorem access0 (k : HostCmd) (ts : Tab Ctrl) (m : Nat) (hm : nameAt (connectData m) 256 = [115] ∧ nameAt (connectData m) 512 = [104]) :
    (withConnect live k ts).access newConn0 (nameAt (connectData m) 256) (nqnHashOf (nameAt (connectData m) 512)) = .host 1 1 := by
  rw [hm.1, hm.2]
  have h1 : ((withConnect live k ts).paddocks.first? (fun _ p => p.nqn = [115])) = some (1, ⟨[115]⟩) := rfl
  have h2 : ((withConnect live k ts).hosts.first? (fun _ e => e.admits newConn0 1 (nqnHashOf [104]))) = some (1, ⟨1, 0, nqnHashOf [104], none, []⟩) := by
    simp [withConnect, withHost, Tab.first?, HostEntry.admits, newConn0, conn0]
  simp only [Chip.access, h1, h2]
  rfl
theorem ctxsDistinct : (3 * 2 ^ 20 :: ((List.range (ctxLimit 3)).map (fun i => 3 * 2 ^ 20 + i)).drop 1).Nodup := by
  have h : 3 * 2 ^ 20 :: ((List.range (ctxLimit 3)).map (fun i => 3 * 2 ^ 20 + i)).drop 1 = (List.range (ctxLimit 3)).map (fun i => 3 * 2 ^ 20 + i) := by decide +kernel
  rw [h]
  exact List.pairwise_map.mpr (List.nodup_range.imp (fun h e => h (Nat.add_left_cancel e)))
theorem zeroTab_get (k : Nat) (hk : k < 16) : ∃ b, zeroTab.get? k = some b ∧ b.length = memberBlock := by
  have h : ∀ k, k < 16 → zeroTab.get? k = some zeroBlock := by decide +kernel
  exact ⟨zeroBlock, h k hk, List.length_replicate⟩
theorem witness_ResetState : 7 < 8 ∧ 33 < 34 ∧ regMap.any (fun r => r.fields.any (fun f => f.ty = .rw && decide (7 < r.geo.count1) && decide (1 < r.geo.count2))) = true := by decide +kernel


/-! ### Terms that no sender could send: one for each check of WellFormed -/

theorem test_header_refused :
    [{ hd with fmt := 0 }, { hd with fmt := 4 }, { hd with len64 := 0 }, { hd with len64 := 65 }, { hd with paddock := 2 ^ 16 }, { hd with fmt := 1, tag := 2 ^ 32 }, { hd with tag := 2 ^ 64 },
      { hd with fmt := 1, deadlineMs := 1 }, { hd with deadlineMs := 2 ^ 32 }, { hd with expectGen := 1 }, { hd with fmt := 3, expectGen := 2 ^ 64 }].all
      (fun h => (Instr.nop h).wellFormed = false) = true ∧ (Instr.nop hd).wellFormed = true := by decide +kernel

theorem test_operand_width_refused : (Instr.slotLedSet hd 256 0).wellFormed = false ∧ (Instr.slotLedSet hd 0 (2 ^ 32)).wellFormed = false ∧ (Instr.slotLedSet hd 255 (2 ^ 32 - 1)).wellFormed = true := by
  decide +kernel

theorem test_images_refused :
    (Instr.gateSet hd 0 0 (List.replicate 7 0)).wellFormed = false ∧ (Instr.gateSet hd 0 0 (2 ^ 32 :: List.replicate 7 0)).wellFormed = false ∧ (Instr.gateSet hd 0 0 (List.replicate 8 0)).wellFormed = true := by
  decide +kernel

theorem test_bytes_refused :
    [Instr.paddockCreate hd 1 (zeros 224), Instr.kekImport hd 1 (zeros 97) (zeros 47), Instr.driveReadComplete 5 7 false [zeros 4095], Instr.whistleRx 0 (zeros 31), Instr.healthReportRx (zeros 255)].all
      (fun i => i.wellFormed = false) = true := by decide +kernel

/-! ### The spec's worked examples -/

/-- The example after the address map of 00_scope: SLOT33's SLOT_CH_CTL and PORT5's block. -/
theorem test_register_addresses : gSLOT_CH_CTL.addr 33 0 = 0x00182100 ∧ gPORT_CFG.addr 5 0 = 0x00228000 := by decide +kernel

/-- The example of R209: 112 J, 111 J, 128 J and 80 J at 170 W and 16 GB/s. -/
theorem test_holdup_bound :
    holdupBound 112 170 16000 30 = 8658823529 / 2 ^ 20 ∧ holdupBound 111 170 16000 30 = 8564705882 / 2 ^ 20 ∧ holdupBound 128 170 16000 30 = 10164705882 / 2 ^ 20 ∧ holdupBound 80 170 16000 30 = 5385 := by
  decide +kernel

/-- The example of R228 to R230: the products, and D_3 from the divisor 0x0A. -/
theorem test_field_products : gfMul 2 0x34 = 0x68 ∧ gfMul 4 0x56 = 0x45 ∧ gfMul 8 0x78 = 0xE7 ∧ gfMul 0x17 (gfInv 0x0A) = 0x78 ∧ gfG 1 ^^^ gfG 3 = 0x0A := by decide +kernel

/-- The example of R225 and R226: the first rows of flock 0's table; block 700 of physical acre 100, its P and Q, and its strip relocated to member 0. -/
def flockEx : Flock :=
  { flock0 with
    n := 10
    slots := List.range 10
    rows := [[0, 1, 2, 3, 4, 5], [6, 7, 8, 9, 0, 1], [2, 3, 6, 7, 4, 8], [5, 9, 7, 6, 1, 3], [4, 8, 0, 7, 9, 5], [1, 4, 5, 8, 6, 2]] ++ List.replicate 9 []
    k := 9
    s := 1 }

theorem test_placement :
    layoutL 10 4 1 = 15 ∧ flockEx.place 100 700 = (1610, 3, 12) ∧ flockEx.row 1610 = 5 ∧ flockEx.cycle 1610 = 107 ∧ flockEx.member 5 3 = 8 ∧ stripLba (flockEx.strip 1610 3) 12 = 33564 ∧
      stripLba (flockEx.strip 1610 4) 12 = 33564 ∧ stripLba (flockEx.strip 1610 5) 12 = 33548 ∧
      (({ flockEx with relocs := [(5 * 32 + 3, (0, 0))] } : Flock).reloc 1610 3).map (fun (t : Nat × Nat) => (t.1, stripLba t.2 12)) = some (0, 33660) := by decide +kernel

/-- The example of 08_rebuild_and_scrub: L, K, S and cycles of a 16+2 flock of 32. -/
theorem test_flock_geometry : layoutL 32 16 2 = 80 ∧ 80 * 18 / 32 = 45 ∧ 45 * 2 / 30 = 3 ∧ (7812500000 - 16384) / (16 * 48) = 10172504 := by decide +kernel

/-- The example of R281 and R282: the buckets after command 1 of 69,632 units. -/
theorem test_shaping_charge :
    (((contractOf 200000 1000000 4194304 131072).fine.full 0).charge 69632 0).tc.level = 4124672 * unitScale ∧
      (((contractOf 200000 1000000 4194304 131072).fine.full 0).charge 69632 0).tp.level = 61440 * unitScale := by decide +kernel

/-- The example of R291 to R297: the budget, and what the classes are given. -/
theorem test_energy_budget :
    (((List.range 32).foldl (fun (c : Chip) s => (c.set SLOT_CH_STAT_pg 1 s).set GOV_DRV_PWR_idle_mw 5000 s)
      ((((live.set TWIN_STATUS_pair_state 1).set GOV_CAP_shelf_cap_w 1000).set GOV_STAT_chip_w 230).set GOV_CAP_other_w 40)).budget) = 15000 := by decide +kernel

theorem test_energy_giving : (giving 15000 [1000, 6000, 8000, 4000, 6000] [8, 4, 1] 2000 5 false).give = [2000, 6000, 5000, 1250, 750] ∧
    (giving 15000 [1000, 6000, 8000, 4000, 6000] [8, 4, 1] 2000 5 false).level = 2 := by decide +kernel

/-- The example of R76 and R77: frames 8, 15 and 16 of 9,000 bytes, levels in thousandths of a byte. -/
theorem test_hurdle_colours :
    ((Meter.mark ⟨1000, 2000, 65536, 131072, 3798800, 70597600, 0, false⟩ 0 9000 0).1, (Meter.mark ⟨1000, 2000, 65536, 131072, 3798800, 70597600, 0, false⟩ 0 9000 0).2.tp) = (1, 61597600) ∧
      (Meter.mark ⟨1000, 2000, 65536, 131072, 3798800, 1484000, 0, false⟩ 0 9000 0).1 = 2 ∧ (Meter.mark ⟨1000, 2000, 65536, 131072, 9030400, 9060800, 0, false⟩ 0 9000 0).1 = 0 := by decide +kernel

/-- The example of 15_events_counters_tallies: the energy of paddock 12 in the minute. -/
theorem test_tally_energy :
    let c := ({ live with tally := { live.tally with energyRem := [(12, 780)] } } : Chip).tallyEnergy 12 3215460
    c.tally.energyRem.get? 12 = some 240 := by decide +kernel

/-- What the standards give for "123456789": CRC-16 with initial value 0xFFFF, CRC-32C, and the CRC-64 of NVMe (assumption 6). -/
theorem test_check_values : crc16 (ascii "123456789") = 0x29B1 ∧ crc32c (ascii "123456789") = 0xE3069283 ∧ crc64 (ascii "123456789") = 0xAE8B14860A799888 := by decide +kernel

/-! ### The host's functions -/

theorem test_no_words : decodeTableWord 8 5 = none ∧ State.reset.withFetchWord 8 5 = State.reset := ⟨rfl, rfl⟩

theorem test_reset_idles : ∃ c, step State.reset = .next ⟨c, []⟩ ∧ c.clk = 1000 := ⟨_, rfl, rfl⟩

/-! ### States and operands that meet the hypotheses of each statement -/

theorem witness_SwitchRegisters :
    (∃ (s : State), Live .up s) ∧
    (∃ (s : State), Live .up s) ∧
    (∃ (s : State) (k : Nat) (image : Nat), Live .up s ∧ k < 8 ∧ ((List.range 8).map (fun j => if j = k then SWX_CLASS_CFG_rsv_cells.of image else s.chip.get SWX_CLASS_CFG_rsv_cells j)).sum ≤ 114688 ∧ SWX_CLASS_CFG_rsv_cells.of image ≤ SWX_CLASS_CFG_ceil_cells.of image) ∧
    (∃ (s : State) (k : Nat) (image : Nat), Live .up s ∧ k < 8 ∧ (114688 < ((List.range 8).map (fun j => if j = k then SWX_CLASS_CFG_rsv_cells.of image else s.chip.get SWX_CLASS_CFG_rsv_cells j)).sum ∨ SWX_CLASS_CFG_ceil_cells.of image < SWX_CLASS_CFG_rsv_cells.of image)) ∧
    (∃ (s : State) (a : Nat) (b : Nat), Live .up s ∧ s.chip.swx.stiles.getD (a * 64 + b) [] ≠ []) ∧
    (∃ (s : State) (o : Nat), Live .up s ∧ s.chip.outCeil o ≤ s.chip.get SWX_OUT_STAT_queued o) :=
  ⟨⟨W ((live.set SWX_BUF_HWM_peak_cells 9).set SWX_CLASS_STAT_peak 4 7), by decide +kernel⟩,
   ⟨W (live.set SWX_RESEQ_ERR_valid 1), by decide +kernel⟩,
   ⟨W (live), 7, 1 + 3 * 2 ^ 20, by refine ⟨?_, ?_, ?_, ?_⟩ <;> decide +kernel⟩,
   ⟨W (live), 7, 3, by refine ⟨?_, ?_, ?_⟩ <;> decide +kernel⟩,
   ⟨W ({ live with swx := { live.swx with stiles := [(3 * 64 + 5, [1])] } }), 3, 5, by refine ⟨?_, ?_⟩ <;> decide +kernel⟩,
   ⟨W (live.set SWX_OUT_STAT_queued (live.outCeil 31) 31), 31, by refine ⟨?_, ?_⟩ <;> decide +kernel⟩⟩

theorem witness_SwitchCells :
    (∃ (s : State) (x : Cell), Live .up s ∧ s.chip.offers x ∧ (∀ y ∈ s.chip.swx.held, y.src ≠ x.src) ∧ s.chip.get SWX_OUT_STAT_queued x.dst < s.chip.outCeil x.dst ∧ s.chip.get SWX_CLASS_STAT_occ x.cls < s.chip.get SWX_CLASS_CFG_rsv_cells x.cls) ∧
    (∃ (s : State) (x : Cell), Live .up s ∧ s.chip.offers x ∧ (∀ y ∈ s.chip.swx.held, y.src ≠ x.src) ∧ s.chip.outCeil x.dst ≤ s.chip.get SWX_OUT_STAT_queued x.dst) ∧
    (∃ (s : State) (src : Nat) (id : Nat) (cls : Nat) (dst : Nat), Live .up s ∧ s.chip.swx.notices = [(src, id, cls, dst)] ∧ s.chip.swx.kept = []) ∧
    (∃ (s : State) (src : Nat) (id : Nat), Live .up s ∧ (src, id) ∈ s.chip.swx.reports) :=
  ⟨⟨W ((live.set SWX_OUT_STAT_queued (live.outCeil 5 - 1) 5).set SWX_CLASS_STAT_occ (live.get SWX_CLASS_CFG_rsv_cells 2 - 1) 2), cell0, by refine ⟨?_, ?_, ?_, ?_, ?_⟩ <;> decide +kernel⟩,
   ⟨W (live.set SWX_OUT_STAT_queued (live.outCeil 5) 5), cell0, by refine ⟨?_, ?_, ?_, ?_⟩ <;> decide +kernel⟩,
   ⟨W ({ live with swx := { live.swx with notices := [(3, 7, 6, 5)] } }), 3, 7, 6, 5, by refine ⟨?_, ?_, ?_⟩ <;> decide +kernel⟩,
   ⟨W ({ live with swx := { live.swx with reports := [(2, 1), (3, 7)], kept := [⟨3, 7, 6, 5, [cell0], 0⟩, ⟨4, 7, 6, 5, [cell0], 0⟩] } }), 3, 7, by refine ⟨?_, ?_⟩ <;> decide +kernel⟩⟩

theorem witness_SwitchPlanes :
    (∃ (s : State) (x : Cell) (n : Nat), Live .up s ∧ x.src < 32 ∧ x.dst < 32 ∧ x.cls < 8 ∧ x.mirror = false ∧ x.poison = false ∧ s.chip.linkHolds 0 x.dst = false ∧ s.chip.swx.resend = [] ∧ s.chip.swx.queues = [(qKey x.src x.dst x.cls, [x])] ∧ s.chip.swx.held = [] ∧ s.chip.swx.reorder = [] ∧ s.chip.swx.poisoned = [] ∧ s.chip.swx.seqNext.getD (x.src * 32 + x.dst) 0 = n ∧ s.chip.swx.seqExpect.getD (x.dst * 32 + x.src) 0 = n ∧ n < 65536 ∧ s.chip.flag SWX_OUT_STAT_stalled x.dst = false ∧ s.chip.get SWX_CTL_plane_en = 1) ∧
    (∃ (s : State) (x : Cell) (p : Nat) (o : Nat), Live .up s ∧ s.chip.swx.bad = [x] ∧ s.chip.swx.damaged = [] ∧ x.plane = p ∧ x.dst = o ∧ p < 2 ∧ s.chip.swx.failRun.getD (p * 32 + o) 0 + 1 ≤ s.chip.get SWX_REPLAY_CFG_fault_limit) ∧
    (∃ (s : State) (x : Cell) (dst : Nat) (src : Nat) (id : Nat), Live .up s ∧ dst < 32 ∧ src < 32 ∧ s.chip.swx.reorder = [x] ∧ x.dst = dst ∧ x.src = src ∧ x.msgId = id ∧ x.mirror = false ∧ x.seq < 65536 ∧ s.chip.swx.bad = [] ∧ s.chip.swx.resend = [] ∧ s.chip.flag SWX_RESEQ_ERR_valid = false) :=
  ⟨⟨W ({ (live.set SWX_CTL_plane_en 1) with swx := { live.swx with queues := [(qKey 3 5 2, [cell0])], seqNext := [(3 * 32 + 5, 65535)], seqExpect := [(5 * 32 + 3, 65535)] } }), cell0, 65535, by refine ⟨?_, ?_, ?_, ?_, ?_, ?_, ?_, ?_, ?_, ?_, ?_, ?_, ?_, ?_, ?_, ?_, ?_⟩ <;> decide +kernel⟩,
   ⟨W ({ live with swx := { live.swx with bad := [{ cell0 with plane := 1 }] } }), { cell0 with plane := 1 }, 1, 5, by refine ⟨?_, ?_, ?_, ?_, ?_, ?_, ?_⟩ <;> decide +kernel⟩,
   ⟨W ({ live with swx := { live.swx with reorder := [{ cell0 with seq := 65535 }] } }), { cell0 with seq := 65535 }, 5, 3, 7, by refine ⟨?_, ?_, ?_, ?_, ?_, ?_, ?_, ?_, ?_, ?_, ?_, ?_⟩ <;> decide +kernel⟩⟩

theorem witness_EventRows :
    (∃ (s : State) (w : Nat), Live .up s ∧ w < 32) ∧
    (∃ (s : State) (w : Nat), Live .up s ∧ w < 32) ∧
    (∃ (s : State) (e : Nat), Live .up s ∧ e < 2048) ∧
    (∃ (s : State) (e : Nat) (l : LogEntry), Live .up s ∧ s.chip.evt.waiting.get? e = some l ∧ ahead 32 (s.chip.get EVT_LOG_STAT_next + 1) s.chip.evt.readTo ≤ 4096) ∧
    (∃ (s : State), Live .up s) ∧
    (∃ (s : State) (h : Hdr) (first : Nat) (vector : Nat), Ready s ⟨0x0A00, false, .w, paramBytes [2, 2, 1, 1, 1, 1]⟩ h [] ∧ first < 2048 ∧ vector < 64) ∧
    (∃ (s : State) (h : Hdr) (n : Nat) (max : Nat) (l : LogEntry), Ready s ⟨0x0A01, false, .r, paramBytes [4, 2]⟩ h [] ∧ 1 ≤ max ∧ max ≤ 250 ∧ 0 < n ∧ s.chip.get EVT_LOG_STAT_next = n ∧ s.chip.evt.log.get? ((n - 1) % 4096) = some l ∧ n < 2 ^ 32) ∧
    (∃ (s : State) (h : Hdr) (i : Nat) (coalMs : Nat) (m : MgmtSession), Ready s ⟨0x0A03, false, .w, paramBytes [2, 2, 4] + 256⟩ h [] ∧ h.src = .session i ∧ s.chip.mgmt.sessions.get? i = some m ∧ 1 ≤ coalMs ∧ coalMs ≤ 60000) :=
  ⟨⟨W (live.set EVT_STATUS_status 7 31), 31, by refine ⟨?_, ?_⟩ <;> decide +kernel⟩,
   ⟨W (live.set EVT_STATUS_status 7 31), 31, by refine ⟨?_, ?_⟩ <;> decide +kernel⟩,
   ⟨W (live), 2047, by refine ⟨?_, ?_⟩ <;> decide +kernel⟩,
   ⟨W ({ live with evt := { live.evt with waiting := [(2047, ⟨5, 2047, false, false, 1⟩)], readTo := live.get EVT_LOG_STAT_next } }), 2047, ⟨5, 2047, false, false, 1⟩, by refine ⟨?_, ?_, ?_⟩ <;> decide +kernel⟩,
   ⟨W (live), by decide +kernel⟩,
   ⟨W (live), hd, 2047, 63, by refine ⟨?_, ?_, ?_⟩ <;> decide +kernel⟩,
   ⟨W ({ (live.set EVT_LOG_STAT_next 1) with evt := { live.evt with log := [(0, ⟨5, 2047, false, false, 1⟩)] } }), hd, 1, 250, ⟨5, 2047, false, false, 1⟩, by refine ⟨?_, ?_, ?_, ?_, ?_, ?_, ?_⟩ <;> decide +kernel⟩,
   ⟨W ({ live with mgmt := { live.mgmt with sessions := [(7, ⟨0, 2, 1, 1, 0, 0, 0, [], 1, 0, 0, 0, [], 0⟩)] } }), { hd with src := .session 7 }, 7, 60000, ⟨0, 2, 1, 1, 0, 0, 0, [], 1, 0, 0, 0, [], 0⟩, by refine ⟨?_, ?_, ?_, ?_, ?_⟩ <;> decide +kernel⟩⟩

theorem witness_CounterRows :
    (∃ (s : State) (h : Hdr) (i : Nat) (kind : Nat) (island : Nat), Ready s ⟨0x0A10, false, .w, paramBytes [2, 2, 2, 1, 1, 1]⟩ h [] ∧ i < 1024 ∧ kind < 1024 ∧ island < 64 ∧ pmcSelectable s.chip.id kind island = true ∧ s.chip.flag PMC_CFG_chained i = false) ∧
    (∃ (s : State) (h : Hdr) (i : Nat), Ready s ⟨0x0A11, false, .w, paramBytes [2, 2, 4, 8]⟩ h [] ∧ i < 1024) ∧
    (∃ (s : State) (h : Hdr) (even : Nat), Ready s ⟨0x0A12, false, .w, paramBytes [2, 1]⟩ h [] ∧ s.chip.id.half = true ∧ even < 1024 ∧ even % 2 = 0 ∧ s.chip.get PMC_CFG_mode even = 0 ∧ s.chip.get PMC_CFG_mode (even + 1) = 0) ∧
    (∃ (s : State) (i : Nat) (island : Nat) (kind : Nat) (n : Nat), Live .up s ∧ i < 1024 ∧ pmcSelectable s.chip.id kind island = true ∧ s.chip.get PMC_CFG_mode i = 1 ∧ s.chip.get PMC_CFG_kind i = kind ∧ s.chip.get PMC_CFG_island i = island ∧ s.chip.flag PMC_CFG_chained i = false ∧ (∀ j, j < 1024 → j ≠ i → s.chip.get PMC_CFG_mode j = 0) ∧ s.chip.get PMC_CNT_count i + n < pmcTop) ∧
    (∃ (s : State), Live .up s) ∧
    (∃ (s : State), Live .up s) :=
  ⟨⟨W (live), hd, 1023, 1, 63, by refine ⟨?_, ?_, ?_, ?_, ?_, ?_⟩ <;> decide +kernel⟩,
   ⟨W (live), hd, 1023, by refine ⟨?_, ?_⟩ <;> decide +kernel⟩,
   ⟨W ({ live with id := ⟨true, false, 0⟩ }), hd, 1022, by refine ⟨?_, ?_, ?_, ?_, ?_, ?_⟩ <;> decide +kernel⟩,
   ⟨W (((live.set PMC_CFG_mode 1 1023).set PMC_CFG_kind 1 1023).set PMC_CFG_island 63 1023), 1023, 63, 1, pmcTop - 1, by refine ⟨?_, ?_, ?_, ?_, ?_, ?_, ?_, ?_, ?_⟩ <;> decide +kernel⟩,
   ⟨W (live.set PMC_STAT_sat_valid 1), by decide +kernel⟩,
   ⟨W (live), by decide +kernel⟩⟩

theorem witness_TallyRows :
    (∃ (s : State), Live .up s ∧ s.chip.get PORT_TICK_LAST_minute < s.chip.minuteNumber ∧ s.chip.minuteNumber < 2 ^ PORT_TICK_LAST_minute.width ∧ s.chip.flag TALLY_CTL_en = false) ∧
    (∃ (s : State), Live .up s ∧ s.chip.tally.sealing = true ∧ s.chip.tally.waitingReads = [] ∧ s.chip.get TWIN_STATUS_pair_state ≠ 1) ∧
    (∃ (s : State), Live .up s) ∧
    (∃ (s : State), Live .up s ∧ s.chip.tally.copySeen = false) ∧
    (∃ (s : State) (h : Hdr) (minute : Nat) (first : Nat), Ready s tallyReadInfo h [] ∧ first < 2048 ∧ s.chip.flag TALLY_BANK_sealed = true ∧ s.chip.get TALLY_CLOSED_minute = minute) ∧
    (∃ (s : State) (h : Hdr) (minute : Nat), Ready s ⟨0x0A21, false, .w, paramBytes [8, 1]⟩ h [] ∧ s.chip.flag TALLY_BANK_sealed = true ∧ s.chip.get TALLY_CLOSED_minute = minute) ∧
    (∃ (s : State) (h : Hdr) (first : Nat), Ready s ⟨0x0A22, false, .r, paramBytes [2, 1, 1]⟩ h [] ∧ first < 2048) :=
  ⟨⟨W ({ live.set TALLY_CTL_en 0 with now := 120 * second }), by refine ⟨?_, ?_, ?_, ?_⟩ <;> decide +kernel⟩,
   ⟨W ({ live with tally := { live.tally with sealing := true } }), by refine ⟨?_, ?_, ?_, ?_⟩ <;> decide +kernel⟩,
   ⟨W (live), by decide +kernel⟩,
   ⟨W ({ live with tally := { live.tally with copySeen := false } }), by refine ⟨?_, ?_⟩ <;> decide +kernel⟩,
   ⟨W ((live.setFlag TALLY_BANK_sealed true).set TALLY_CLOSED_minute 9), hd, 9, 2047, by refine ⟨?_, ?_, ?_, ?_⟩ <;> decide +kernel⟩,
   ⟨W ((live.setFlag TALLY_BANK_sealed true).set TALLY_CLOSED_minute 9), hd, 9, by refine ⟨?_, ?_, ?_⟩ <;> decide +kernel⟩,
   ⟨W (live), hd, 2047, by refine ⟨?_, ?_⟩ <;> decide +kernel⟩⟩

theorem witness_HealthRows :
    (∃ (s : State), Live .up s) ∧
    (∃ (s : State) (raw : Bytes), Live .up s ∧ raw.length = 256 ∧ unle (raw.take 4) = 0x5356484C ∧ s.chip.twin.withdrawn = false) ∧
    (∃ (s : State) (h : Hdr) (which : Nat), Ready s ⟨0x0905, false, .r, paramBytes [1]⟩ h [] ∧ which < 2 ∧ s.chip.lastReport which ≠ []) ∧
    (∃ (s : State), Live .up s) ∧
    (∃ (s : State) (margin : Nat), Live .up s ∧ s.chip.get TWIN_FAILBACK_CFG_margin_min ≤ margin) ∧
    (∃ (s : State) (kind : Nat), Live .up s ∧ (kind = 1 ∨ kind = 2 ∨ kind = 9)) ∧
    (∃ (s : State), Live .up s) ∧
    (∃ (s : State), Live .up s) :=
  ⟨⟨W (live), by decide +kernel⟩,
   ⟨W (live), le 4 0x5356484C ++ zeros 32 ++ le 4 9 ++ zeros 216, by refine ⟨?_, ?_, ?_, ?_⟩ <;> decide +kernel⟩,
   ⟨W ({ live with twin := { live.twin with partner := zeros 256 } }), hd, 1, by refine ⟨?_, ?_, ?_⟩ <;> decide +kernel⟩,
   ⟨W ({ live with twin := { live.twin with partner := List.replicate 256 3 } }), by decide +kernel⟩,
   ⟨W (live), 255, by refine ⟨?_, ?_⟩ <;> decide +kernel⟩,
   ⟨W (live), 9, by refine ⟨?_, ?_⟩ <;> decide +kernel⟩,
   ⟨W (live), by decide +kernel⟩,
   ⟨W (live), by decide +kernel⟩⟩

theorem witness_PortCommands :
    (∃ (s : State) (h : Hdr) (port : Nat), Ready s ⟨0x0222, false, .w, paramBytes [1, 4, 4, 8, 4]⟩ h [] ∧ portRefusal s.chip port 32 = none) ∧
    (∃ (s : State) (h : Hdr) (port : Nat) (sub : Nat), Ready s ⟨0x0223, false, .w, paramBytes [1, 1] + 6 + 16 + 96 + 32⟩ h [] ∧ portRefusal s.chip port 32 = none ∧ sub < 4) ∧
    (∃ (s : State) (h : Hdr) (port : Nat) (d : Nat), Ready s ⟨0x0224, false, .w, paramBytes [1] + 7 + 64⟩ h [] ∧ portRefusal s.chip port 32 = none ∧ d < 64) ∧
    (∃ (s : State) (h : Hdr) (pps : Nat), Ready s ⟨0x0225, false, .w, paramBytes [8, 8]⟩ h [] ∧ pps < 2 ^ 64 - 1) ∧
    (∃ (s : State) (h : Hdr), Ready s ⟨0x0225, false, .w, paramBytes [8, 8]⟩ h []) ∧
    (∃ (s : State) (h : Hdr) (port : Nat) (loopback : Nat), Ready s ⟨0x0C00, false, .w, paramBytes [1, 1]⟩ h [] ∧ portRefusal s.chip port 32 = none ∧ loopback < 4) ∧
    (∃ (s : State) (h : Hdr) (ctx : Nat), Ready s ⟨0x0230, true, .w, paramBytes [4, 2, 2, 4, 4, 1]⟩ h [] ∧ PairOk s h ∧ rangeRefusal s.chip ctx 262144 131072 32 = none ∧ s.chip.conns.has ctx = true) ∧
    (∃ (s : State) (h : Hdr) (ctx : Nat) (cir : Nat) (pir : Nat) (cbs : Nat) (pbs : Nat) (mode : Nat), Ready s ⟨0x0230, true, .w, paramBytes [4, 2, 2, 4, 4, 1]⟩ h [] ∧ PairOk s h ∧ rangeRefusal s.chip ctx 262144 131072 32 = none ∧ s.chip.conns.has ctx = true ∧ mode < 2 ∧ 1 ≤ cir ∧ cir ≤ pir ∧ pir ≤ 60000 ∧ (∀ n, s.chip.conns.get? ctx = some n → s.chip.mtu (n.sub / 4) ≤ cbs) ∧ cbs ≤ pbs ∧ pbs ≤ 16777216) ∧
    (∃ (s : State) (h : Hdr) (ctx : Nat) (cir : Nat) (pir : Nat) (cbs : Nat) (pbs : Nat) (mode : Nat), Ready s ⟨0x0230, true, .w, paramBytes [4, 2, 2, 4, 4, 1]⟩ h [] ∧ PairOk s h ∧ rangeRefusal s.chip ctx 262144 131072 32 = none ∧ s.chip.conns.has ctx = true ∧ mode < 2 ∧ (cir < 1 ∨ 60000 < cir ∨ pir < cir ∨ 60000 < pir ∨ (∃ n, s.chip.conns.get? ctx = some n ∧ cbs < s.chip.mtu (n.sub / 4)) ∨ 16777216 < cbs ∨ pbs < cbs ∨ 16777216 < pbs)) ∧
    (∃ (s : State) (h : Hdr) (p : Nat) (red : Nat) (cir : Nat) (pir : Nat) (cbs : Nat) (pbs : Nat), Ready s ⟨0x0231, true, .w, paramBytes [2, 1, 2, 2, 4, 4]⟩ h [p] ∧ PairOk s h ∧ rangeRefusal s.chip p 4096 2048 32 = none ∧ s.chip.paddocks.has p = true ∧ red ≤ 1 ∧ 1 ≤ cir ∧ cir ≤ pir ∧ pir ≤ 60000 ∧ 1518 ≤ cbs ∧ cbs ≤ pbs ∧ pbs ≤ 16777216) :=
  ⟨⟨W (live), hd, 7, by refine ⟨?_, ?_⟩ <;> decide +kernel⟩,
   ⟨W (live), hd, 7, 3, by refine ⟨?_, ?_, ?_⟩ <;> decide +kernel⟩,
   ⟨W (live), hd, 7, 63, by refine ⟨?_, ?_, ?_⟩ <;> decide +kernel⟩,
   ⟨W (live), hd, 2 ^ 64 - 2, by refine ⟨?_, ?_⟩ <;> decide +kernel⟩,
   ⟨W (live), hd, by decide +kernel⟩,
   ⟨W (live), hd, 7, 3, by refine ⟨?_, ?_, ?_⟩ <;> decide +kernel⟩,
   ⟨W ({ live with conns := [(131071, conn0)] }), hd, 131071, by refine ⟨?_, ?_, ?_, ?_⟩ <;> decide +kernel⟩,
   ⟨W ({ live with conns := [(131071, conn0)] }), hd, 131071, 1, 60000, 9216, 16777216, 1, by refine ⟨?_, ?_, ?_, ?_, ?_, ?_, ?_, ?_, ?_, ?_, ?_⟩ <;> decide +kernel⟩,
   ⟨W ({ live with conns := [(131071, conn0)] }), hd, 131071, 1, 60001, 9216, 16777216, 1, by refine ⟨?_, ?_, ?_, ?_, ?_, ?_⟩ <;> decide +kernel⟩,
   ⟨W ({ live with paddocks := [(2047, ⟨[]⟩)] }), hd, 2047, 1, 1, 60000, 1518, 16777216, by refine ⟨?_, ?_, ?_, ?_, ?_, ?_, ?_, ?_, ?_, ?_, ?_⟩ <;> decide +kernel⟩⟩

theorem witness_PortRows :
    (∃ (s : State) (sub : Nat) (k : Nat) (f : Frame), Live .network s ∧ s.chip.takesFrames sub ∧ frameDrop (s.chip.mtu (sub / 4)) (s.chip.slowLeft (sub / 4)) (s.chip.ports.subs.getD sub ⟨0, [], [], []⟩) f = some k ∧ s.chip.get PORT_DROP_CNT_count (sub / 4) k + 1 < 2 ^ PORT_DROP_CNT_count.width - 1) ∧
    (∃ (s : State) (sub : Nat) (f : Frame), Live .network s ∧ s.chip.takesFrames sub ∧ frameDrop (s.chip.mtu (sub / 4)) (s.chip.slowLeft (sub / 4)) (s.chip.ports.subs.getD sub ⟨0, [], [], []⟩) f = none ∧ f.proto ≠ 1 ∧ f.ctx = none ∧ s.chip.get PORT_PRIO_MAP_pfc_en (sub / 4) = 0 ∧ (∀ m, m < 4 → s.chip.flag SWX_MIR_CTL_en m = false)) ∧
    (∃ (s : State) (sub : Nat) (kind : Nat) (addr : Nat), Live .network s ∧ s.chip.plainPorts ∧ kind ≤ 2 ∧ sub ∈ s.chip.subsOn ∧ (s.chip.ports.subs.getD sub ⟨0, [], [], []⟩).ipv4.contains addr = true) ∧
    (∃ (s : State) (i : Nat), Live .network s ∧ s.chip.plainPorts ∧ s.chip.subsOn = [i] ∧ bit (s.chip.get PORT_STATUS_link_up (i / 4)) (i % 4) = true) ∧
    (∃ (s : State) (sub : Nat) (partner : Option (List Nat)), Live .gated s ∧ sub ∈ s.chip.subsOn ∧ bit (s.chip.get PORT_STATUS_link_up (sub / 4)) (sub % 4) = false ∧ bit s.chip.start.deadPorts (sub / 4) = false ∧ (∀ l ∈ subLanes (s.chip.portMode (sub / 4)) (sub % 4), bit (s.chip.get PORT_STATUS_lane_disabled (sub / 4)) l = false) ∧ (s.chip.flag PORT_CFG_an_en (sub / 4) = false ∨ ∀ l, partner = some l → (subLanes (s.chip.portMode (sub / 4)) (sub % 4)).length ∈ l)) ∧
    (∃ (s : State) (sub : Nat), Live .gated s ∧ bit (s.chip.get PORT_STATUS_link_up (sub / 4)) (sub % 4) = true ∧ sub < 32) ∧
    (∃ (s : State) (port : Nat) (lane : Nat), Live .gated s ∧ port < 8 ∧ portAbsent s.chip.id port = false ∧ lane < 4) ∧
    (∃ (s : State) (port : Nat) (prio : Nat) (quanta : Nat), Live .network s ∧ port < 8 ∧ portAbsent s.chip.id port = false ∧ prio < 8 ∧ bit (s.chip.get PORT_PRIO_MAP_pfc_en port) prio = true ∧ bit (s.chip.get PORT_PFC_CFG_watchdog_tripped port) prio = false ∧ 0 < quanta) ∧
    (∃ (s : State), Live .gated s) ∧
    (∃ (s : State) (port : Nat) (prio : Nat), Live .gated s ∧ s.chip.get PORT_PFC_CFG_watchdog_ms port ≠ 0 ∧ s.chip.ports.paused.has (port * 8 + prio) = true ∧ prio < 8 ∧ port < 8) ∧
    (∃ (s : State) (port : Nat), Live .up s ∧ port < 8 ∧ portAbsent s.chip.id port = false) ∧
    (∃ (s : State) (port : Nat), Live .gated s ∧ port < 8 ∧ portAbsent s.chip.id port = false) :=
  ⟨⟨W ({ live.set PORT_CFG_sub_en 15 7 with ports := { live.ports with mode := [(7, 2)] } }), 31, 1, { frame0 with len := 63 }, by refine ⟨?_, ?_, ?_, ?_⟩ <;> decide +kernel⟩,
   ⟨W ({ live.set PORT_CFG_sub_en 15 7 with ports := { live.ports with subs := [(31, ⟨0, [1], [], []⟩)], mode := [(7, 2)] } }), 31, frame0, by refine ⟨?_, ?_, ?_, ?_, ?_, ?_, ?_⟩ <;> decide +kernel⟩,
   ⟨W ({ live.set PORT_CFG_sub_en 15 7 with ports := { live.ports with subs := [(31, ⟨0, [1], [], []⟩)], mode := [(7, 2)] } }), 31, 2, 1, by refine ⟨?_, ?_, ?_, ?_, ?_⟩ <;> decide +kernel⟩,
   ⟨W ({ (live.set PORT_CFG_sub_en 8 7).set PORT_STATUS_link_up 8 7 with ports := { live.ports with mode := [(7, 2)] } }), 31, by refine ⟨?_, ?_, ?_, ?_⟩ <;> decide +kernel⟩,
   ⟨W ({ live.set PORT_CFG_sub_en 15 7 with ports := { live.ports with mode := [(7, 2)] } }), 31, some [1, 4], by refine ⟨?_, ?_, ?_, ?_, ?_, ?_⟩ <;> decide +kernel⟩,
   ⟨W ({ live.set PORT_STATUS_link_up 15 7 with ports := { live.ports with mode := [(7, 2)] } }), 31, by refine ⟨?_, ?_, ?_⟩ <;> decide +kernel⟩,
   ⟨W (live), 7, 3, by refine ⟨?_, ?_, ?_, ?_⟩ <;> decide +kernel⟩,
   ⟨W (live.set PORT_PRIO_MAP_pfc_en 0x80 7), 7, 7, 1, by refine ⟨?_, ?_, ?_, ?_, ?_, ?_, ?_⟩ <;> decide +kernel⟩,
   ⟨W ({ live with ports := { live.ports with paused := [(63, 9)] }, heldOut := [(63, [.thermtrip])] }), by decide +kernel⟩,
   ⟨W ({ live.set PORT_PFC_CFG_watchdog_ms 9 7 with ports := { live.ports with paused := [(63, 9)] }, heldOut := [(63, [.thermtrip])] }), 7, 7, by refine ⟨?_, ?_, ?_, ?_, ?_⟩ <;> decide +kernel⟩,
   ⟨W (live.set PORT_PFC_CFG_watchdog_tripped 255 7), 7, by refine ⟨?_, ?_, ?_⟩ <;> decide +kernel⟩,
   ⟨W (live.set PORT_FEC_CNT_count 77 7 1), 7, by refine ⟨?_, ?_, ?_⟩ <;> decide +kernel⟩⟩

theorem witness_TimeRows :
    (∃ (s : State) (form : Nat), Live .network s ∧ form < 3 ∧ s.chip.ports.ptpMaster = none) ∧
    (∃ (s : State) (form : Nat) (d : PtpData), Live .network s ∧ form < 3 ∧ s.chip.ports.ptpMaster = some d ∧ s.chip.plainPorts ∧ s.chip.get PORT_TIME_CFG_ptp_port < 32) ∧
    (∃ (s : State) (o : Int) (form : Nat) (t1 : Nat) (t2 : Nat) (t3 : Nat) (t4 : Nat) (d : PtpData), Live .network s ∧ form < 3 ∧ s.chip.ports.ptpMaster = some d ∧ s.chip.ports.ptpSync = some (t1, t2, t3) ∧ s.chip.minuteNumber ≤ s.chip.get PORT_TICK_LAST_minute ∧ s.chip.ports.srcInForce ≠ 2 ∧ o = (((t2 : Int) - t1) - ((t4 : Int) - t3)) / 2 ∧ 1000000 < o.natAbs ∧ 0 < o ∧ o ≤ s.chip.now) ∧
    (∃ (s : State) (o : Int) (form : Nat) (t1 : Nat) (t2 : Nat) (t3 : Nat) (t4 : Nat) (d : PtpData), Live .network s ∧ form < 3 ∧ s.chip.ports.ptpMaster = some d ∧ s.chip.ports.ptpSync = some (t1, t2, t3) ∧ s.chip.minuteNumber ≤ s.chip.get PORT_TICK_LAST_minute ∧ s.chip.ports.srcInForce ≠ 2 ∧ o = (((t2 : Int) - t1) - ((t4 : Int) - t3)) / 2 ∧ o.natAbs ≤ 1000000) ∧
    (∃ (s : State), Live .up s ∧ s.chip.ports.ptpHeard = true) ∧
    (∃ (s : State) (falling : Bool), Live .up s ∧ falling = s.chip.flag PORT_TIME_CFG_pps_edge) ∧
    (∃ (s : State), Live .up s ∧ s.chip.ports.srcInForce = 1) :=
  ⟨⟨W (live), 0, by refine ⟨?_, ?_, ?_⟩ <;> decide +kernel⟩,
   ⟨W ({ live with ports := { live.ports with ptpMaster := some ⟨1, 2, 3, 4, 5, 6, 7⟩ } }), 2, ⟨1, 2, 3, 4, 5, 6, 7⟩, by refine ⟨?_, ?_, ?_, ?_, ?_⟩ <;> decide +kernel⟩,
   ⟨W ({ live with now := 5000000, ports := { live.ports with ptpMaster := some ⟨1, 2, 3, 4, 5, 6, 7⟩, ptpSync := some (1, 4000001, 9), srcInForce := 0  } }), 2000000, 2, 1, 4000001, 9, 9, ⟨1, 2, 3, 4, 5, 6, 7⟩, by refine ⟨?_, ?_, ?_, ?_, ?_, ?_, ?_, ?_, ?_, ?_⟩ <;> decide +kernel⟩,
   ⟨W ({ live with now := 5000000, ports := { live.ports with ptpMaster := some ⟨1, 2, 3, 4, 5, 6, 7⟩, ptpSync := some (1, 1001, 9), srcInForce := 0  } }), 500, 2, 1, 1001, 9, 9, ⟨1, 2, 3, 4, 5, 6, 7⟩, by refine ⟨?_, ?_, ?_, ?_, ?_, ?_, ?_, ?_⟩ <;> decide +kernel⟩,
   ⟨W ({ live.set PORT_TIME_STATUS_ptp_locked 1 with ports := { live.ports with ptpHeard := true } }), by refine ⟨?_, ?_⟩ <;> decide +kernel⟩,
   ⟨W (live), live.flag PORT_TIME_CFG_pps_edge, by refine ⟨?_, ?_⟩ <;> decide +kernel⟩,
   ⟨W ({ live with ports := { live.ports with srcInForce := 1 } }), by refine ⟨?_, ?_⟩ <;> decide +kernel⟩⟩

theorem witness_RingRows :
    (∃ (s : State) (r : Nat), Live .up s ∧ r < 16 ∧ 64 ≤ s.chip.get RING_SQ_CFG_size_64 r ∧ s.chip.get RING_SQ_CFG_size_64 r ≤ 65536 ∧ s.chip.mgmt.bme = true ∧ s.chip.mgmt.d3 = false) ∧
    (∃ (s : State) (r : Nat), Live .up s ∧ r < 16) ∧
    (∃ (s : State) (r : Nat), Live .up s ∧ r < 16 ∧ s.chip.sqState r = 3) ∧
    (∃ (s : State) (r : Nat) (i : Instr), i ∈ [Instr.sqDoorbell r, Instr.sqPoll r] ∧ Live .up s ∧ s.chip.sqState r = 1 ∧ s.chip.mgmt.bme = true ∧ s.chip.mgmt.d3 = false ∧ s.chip.sqAllowed r = true) ∧
    (∃ (s : State) (r : Nat) (p : Packet), Live .up s ∧ r < 16 ∧ s.chip.sqState r = 1 ∧ s.chip.mgmt.bme = true ∧ s.chip.mgmt.d3 = false ∧ s.chip.sqAllowed r = true ∧ malformedReason p (s.chip.get RING_SQ_STAT_head r) (s.chip.get RING_SQ_CFG_size_64 r) = 0 ∧ b2n (bit p.flags 7) = s.chip.get RING_SQ_STAT_phase r ∧ p.opcode ≠ 0x00FE ∧ p.opcode ∈ opcodes ∧ s.chip.get RING_SQ_STAT_head r + p.len64 < s.chip.get RING_SQ_CFG_size_64 r ∧ s.chip.get RING_SQ_CFG_size_64 r ≤ 65536) ∧
    (∃ (s : State) (r : Nat) (p : Packet) (k : Nat), Live .up s ∧ r < 16 ∧ s.chip.sqState r = 1 ∧ s.chip.mgmt.bme = true ∧ s.chip.mgmt.d3 = false ∧ s.chip.sqAllowed r = true ∧ malformedReason p (s.chip.get RING_SQ_STAT_head r) (s.chip.get RING_SQ_CFG_size_64 r) = k ∧ 1 ≤ k ∧ k ≤ 5 ∧ b2n (bit p.flags 7) = s.chip.get RING_SQ_STAT_phase r) ∧
    (∃ (s : State) (r : Nat) (n : Nat), Live .up s ∧ r < 16 ∧ s.chip.sqState r = 1 ∧ s.chip.mgmt.bme = true ∧ s.chip.mgmt.d3 = false ∧ s.chip.sqAllowed r = true ∧ s.chip.get RING_SQ_STAT_phase r ≤ 1 ∧ 1 ≤ n ∧ n ≤ 64 ∧ s.chip.get RING_SQ_STAT_head r + n < s.chip.get RING_SQ_CFG_size_64 r ∧ s.chip.get RING_SQ_CFG_size_64 r ≤ 65536) :=
  ⟨⟨W ({ live.set RING_SQ_CFG_size_64 65536 15 with mgmt := { live.mgmt with bme := true } }), 15, by refine ⟨?_, ?_, ?_, ?_, ?_, ?_⟩ <;> decide +kernel⟩,
   ⟨W (ringOn live 15), 15, by refine ⟨?_, ?_⟩ <;> decide +kernel⟩,
   ⟨W ((ringOn live 15).set RING_SQ_STAT_state 3 15), 15, by refine ⟨?_, ?_, ?_⟩ <;> decide +kernel⟩,
   ⟨W (ringOn live 0), 0, Instr.sqPoll 0, by refine ⟨?_, ?_, ?_, ?_, ?_, ?_⟩ <;> first | decide +kernel | rfl | simp⟩,
   ⟨W (ringOn live 0), 0, { packet0 with flags := 128 }, by refine ⟨?_, ?_, ?_, ?_, ?_, ?_, ?_, ?_, ?_, ?_, ?_, ?_⟩ <;> decide +kernel⟩,
   ⟨W (ringOn live 0), 0, { packet0 with flags := 128, len64 := 0 }, malformedReason { packet0 with flags := 128, len64 := 0 } 62 64, by refine ⟨?_, ?_, ?_, ?_, ?_, ?_, ?_, ?_, ?_, ?_⟩ <;> decide +kernel⟩,
   ⟨W ((ringOn live 0).set RING_SQ_STAT_head 62 0), 0, 1, by refine ⟨?_, ?_, ?_, ?_, ?_, ?_, ?_, ?_, ?_, ?_, ?_⟩ <;> decide +kernel⟩⟩

theorem witness_CompletionRows :
    (∃ (s : State) (q : Nat) (r : Reply), Live .up s ∧ q < 16 ∧ s.chip.cqFirst q = some r ∧ s.chip.flag RING_CQ_CFG_en q = true ∧ s.chip.mgmt.bme = true ∧ s.chip.mgmt.d3 = false ∧ s.chip.get RING_CQ_STAT_tail q + replyUnits r ≤ s.chip.get RING_CQ_CFG_size_64 q ∧ s.chip.mgmt.cqUsed.getD q 0 + replyUnits r ≤ s.chip.get RING_CQ_CFG_size_64 q ∧ s.chip.flag RING_CQ_STAT_holding q = false) ∧
    (∃ (s : State) (q : Nat) (image : Nat), Live .up s ∧ q < 16 ∧ s.chip.flag RING_CQ_CFG_en q = false ∧ RING_CQ_CFG_en.of image = 1 ∧ s.chip.mgmt.replies = [] ∧ (∀ r, r < 16 → s.chip.sqState r ≠ 4)) ∧
    (∃ (s : State) (q : Nat), Live .up s ∧ q < 16 ∧ s.chip.mgmt.replies = [] ∧ (∀ r, r < 16 → s.chip.sqState r ≠ 4)) ∧
    (∃ (s : State) (q : Nat), Live .up s ∧ s.chip.flag RING_CQ_CFG_irq_en q = true ∧ 0 < (s.chip.mgmt.cqCoal.getD q ⟨0, 0⟩).since) ∧
    (∃ (s : State), Live .up s) ∧
    (∃ (s : State), Live .up s ∧ s.chip.mgmt.capNew = true) ∧
    (∃ (s : State) (h : Hdr), Ready s ⟨0x0C12, false, .w, paramBytes [8, 4, 8]⟩ h []) :=
  ⟨⟨W ({ ((live.set RING_CQ_CFG_size_64 64 0).set RING_CQ_CFG_en 1 0).set RING_CQ_STAT_tail 63 0 with mgmt := { live.mgmt with bme := true, replies := [reply0] } }), 0, reply0, by refine ⟨?_, ?_, ?_, ?_, ?_, ?_, ?_, ?_, ?_⟩ <;> decide +kernel⟩,
   ⟨W (live), 15, 64 + 2 ^ 31, by refine ⟨?_, ?_, ?_, ?_, ?_, ?_⟩ <;> decide +kernel⟩,
   ⟨W (live), 15, by refine ⟨?_, ?_, ?_, ?_⟩ <;> decide +kernel⟩,
   ⟨W ({ live.set RING_CQ_CFG_irq_en 1 15 with mgmt := { live.mgmt with cqCoal := [(15, ⟨3, 0⟩)] } }), 15, by refine ⟨?_, ?_, ?_⟩ <;> decide +kernel⟩,
   ⟨W (live), by decide +kernel⟩,
   ⟨W ({ live with mgmt := { live.mgmt with capNew := true } }), by refine ⟨?_, ?_⟩ <;> decide +kernel⟩,
   ⟨W (live), hd, by decide +kernel⟩⟩

theorem witness_EndpointRows :
    (∃ (s : State), Live .up s) ∧
    (∃ (s : State), Live .up s) ∧
    (∃ (s : State), Live .up s ∧ s.chip.mgmt.replies = []) ∧
    (∃ (s : State), Live .up s ∧ s.chip.mgmt.replies = []) ∧
    (∃ (s : State), Live .up s) ∧
    (∃ (s : State), Live .up s) ∧
    (∃ (s : State), Live .up s) ∧
    (∃ (s : State), Live .up s ∧ s.chip.mgmt.pba = []) ∧
    (∃ (s : State) (v : Nat), Live .up s ∧ v ∉ s.chip.mgmt.pba) ∧
    (∃ (s : State), Live .up s) ∧
    (∃ (s : State), Live .up s) ∧
    (∃ (s : State) (x : Nat) (len : Nat) (d : Bytes), Live .up s ∧ s.chip.tlpRefused true x len = false ∧ d.length = len) ∧
    (∃ (s : State) (x : Nat) (len : Nat), Live .up s ∧ s.chip.tlpRefused false x len = false) ∧
    (∃ (s : State) (x : Nat) (len : Nat), Live .up s ∧ s.chip.tlpRefused false x len = true ∧ s.chip.flag WIN_UR_LAST_valid = false) :=
  ⟨⟨W (ringOn live 15), by decide +kernel⟩,
   ⟨W (ringOn live 15), by decide +kernel⟩,
   ⟨W ({ ringOn live 15 with mgmt := { live.mgmt with bme := false } }), by refine ⟨?_, ?_⟩ <;> decide +kernel⟩,
   ⟨W ({ ringOn live 15 with mgmt := { live.mgmt with d3 := true } }), by refine ⟨?_, ?_⟩ <;> decide +kernel⟩,
   ⟨W (ringOn live 15), by decide +kernel⟩,
   ⟨W (live), by decide +kernel⟩,
   ⟨W (live), by decide +kernel⟩,
   ⟨W (live), by refine ⟨?_, ?_⟩ <;> decide +kernel⟩,
   ⟨W ({ live with mgmt := { live.mgmt with msix := [(63, ⟨4, 5, true⟩)] } }), 63, by refine ⟨?_, ?_⟩ <;> decide +kernel⟩,
   ⟨W (((live.set WIN_CTL_SH_en 1).set WIN_BASE_SH_base_2m 3).set WIN_SIZE_SH_size_2m 2), by decide +kernel⟩,
   ⟨W (live.set WIN_UR_LAST_valid 1), by decide +kernel⟩,
   ⟨W ({ ((((live.set CACHE_STATUS_stacks 3).set WIN_ACTIVE_en 1).set WIN_ACTIVE_wr_en 1).set WIN_ACTIVE_base_2m (xferBase (live.oneStack) / 2097152)).set WIN_ACTIVE_size_2m 2 with mgmt := { live.mgmt with memEn := true } }), 4, 4, [1, 2, 3, 4], by refine ⟨?_, ?_, ?_⟩ <;> decide +kernel⟩,
   ⟨W ({ ((live.set WIN_ACTIVE_en 1).set WIN_ACTIVE_base_2m (xferBase (live.oneStack) / 2097152)).set WIN_ACTIVE_size_2m 2 with mgmt := { live.mgmt with memEn := true } }), 0, 4, by refine ⟨?_, ?_⟩ <;> decide +kernel⟩,
   ⟨W (live), 4194304, 4, by refine ⟨?_, ?_, ?_⟩ <;> decide +kernel⟩⟩

theorem witness_SessionRows :
    (∃ (s : State) (psk : Nat) (k : MgmtPsk), Live .up s ∧ s.chip.mgmt.mgmtEn = true ∧ s.chip.mgmt.sessions.length < 4 ∧ s.chip.mgmt.psks.get? psk = some k) ∧
    (∃ (s : State), Live .up s ∧ 4 ≤ s.chip.mgmt.sessions.length) ∧
    (∃ (s : State) (i : Nat) (x : Instr), x ∈ [Instr.sessionIdleExpiry i, Instr.mgmtSessionCloseRx i] ∧ Live .up s ∧ s.chip.mgmt.sessions.has i = true) ∧
    (∃ (s : State) (i : Nat) (p : Packet) (m : MgmtSession), Live .up s ∧ s.chip.mgmt.sessions.get? i = some m ∧ m.ahead < 64 ∧ 1 ≤ p.fmt ∧ p.fmt ≤ 3 ∧ p.crcOk = true ∧ p.opcode ∈ opcodes ∧ p.opcode ≠ 0x00FE) ∧
    (∃ (s : State) (i : Nat) (m : MgmtSession), Live .up s ∧ s.chip.mgmt.sessions.get? i = some m ∧ m.waiting ≠ [] ∧ m.subFmt ≠ 3) ∧
    (∃ (s : State) (h : Hdr), Ready s ⟨0x0242, false, .w, paramBytes [2, 1, 2]⟩ h []) ∧
    (∃ (s : State) (h : Hdr), Ready s ⟨0x0243, false, .r, 0⟩ h []) ∧
    (∃ (s : State) (h : Hdr) (i : Nat), Ready s ⟨0x0241, false, .w, paramBytes [1]⟩ h [] ∧ i < 8 ∧ s.chip.mgmt.psks.has i = true) ∧
    (∃ (s : State) (h : Hdr), Ready s ⟨0x0000, false, .r, 0⟩ h []) ∧
    (∃ (s : State) (h : Hdr), Ready s ⟨0x0001, false, .r, 0⟩ h []) ∧
    (∃ (s : State) (h : Hdr), Ready s ⟨0x0002, false, .r, 0⟩ h []) :=
  ⟨⟨W ({ live with mgmt := { live.mgmt with mgmtEn := true, psks := [(7, ⟨2, 1, [], []⟩)], sessions := [(0, sess0), (1, sess0), (3, sess0)] } }), 7, ⟨2, 1, [], []⟩, by refine ⟨?_, ?_, ?_, ?_⟩ <;> decide +kernel⟩,
   ⟨W ({ live with mgmt := { live.mgmt with sessions := [(0, sess0), (1, sess0), (2, sess0), (3, sess0)] } }), by refine ⟨?_, ?_⟩ <;> decide +kernel⟩,
   ⟨W (withSess live 3), 3, Instr.mgmtSessionCloseRx 3, by refine ⟨?_, ?_, ?_⟩ <;> first | decide +kernel | rfl | simp⟩,
   ⟨W ({ live with mgmt := { live.mgmt with sessions := [(3, { sess0 with ahead := 63 })] } }), 3, { packet0 with fmt := 2 }, { sess0 with ahead := 63 }, by refine ⟨?_, ?_, ?_, ?_, ?_, ?_, ?_, ?_⟩ <;> decide +kernel⟩,
   ⟨W (withSess live 3), 3, sess0, by refine ⟨?_, ?_, ?_, ?_⟩ <;> decide +kernel⟩,
   ⟨W (live), hd, by decide +kernel⟩,
   ⟨W (withSess live 3), hd, by decide +kernel⟩,
   ⟨W ({ live with mgmt := { live.mgmt with psks := [(7, ⟨2, 1, [], []⟩)] } }), hd, 7, by refine ⟨?_, ?_, ?_⟩ <;> decide +kernel⟩,
   ⟨W (live), hd, by decide +kernel⟩,
   ⟨W (live), hd, by decide +kernel⟩,
   ⟨W (live), hd, by decide +kernel⟩⟩

theorem witness_LongOpRows :
    (∃ (s : State) (h : Hdr) (x : Nat) (i : Nat), Ready s ⟨0x0500, false, .r, paramBytes [4]⟩ h [] ∧ s.chip.loFind x = some i) ∧
    (∃ (s : State) (h : Hdr) (x : Nat) (i : Nat) (op : LongOp), Ready s ⟨0x0501, false, .w, paramBytes [4]⟩ h [] ∧ s.chip.loFind x = some i ∧ s.chip.mgmt.ops.get? i = some op ∧ loState (s.chip.lo i) = 2 ∧ noPause op (loStep (s.chip.lo i)) = false) ∧
    (∃ (s : State) (h : Hdr) (x : Nat) (i : Nat) (op : LongOp), Ready s ⟨0x0502, false, .w, paramBytes [4]⟩ h [] ∧ s.chip.loFind x = some i ∧ s.chip.mgmt.ops.get? i = some op ∧ loState (s.chip.lo i) = 3 ∧ op.leftState < 16) ∧
    (∃ (s : State) (h : Hdr) (x : Nat) (i : Nat) (op : LongOp), Ready s ⟨0x0503, false, .w, paramBytes [4]⟩ h [] ∧ s.chip.loFind x = some i ∧ s.chip.mgmt.ops.get? i = some op ∧ loState (s.chip.lo i) = 2 ∧ noCancel op (loStep (s.chip.lo i)) = false ∧ hasFences op.opcode = true) ∧
    (∃ (s : State) (h : Hdr), Ready s ⟨0x0504, false, .r, 0⟩ h []) ∧
    (∃ (s : State) (h : Hdr) (x : Nat) (i : Nat) (op : LongOp), Ready s ⟨0x0505, false, .w, paramBytes [4]⟩ h [] ∧ s.chip.loFind x = some i ∧ s.chip.mgmt.ops.get? i = some op ∧ finished (loState (s.chip.lo i)) = true) ∧
    (∃ (s : State) (h : Hdr) (x : Nat) (i : Nat) (op : LongOp), Ready s ⟨0x0506, false, .r, paramBytes [4, 4, 1]⟩ h [] ∧ s.chip.loFind x = some i ∧ s.chip.mgmt.ops.get? i = some op ∧ s.chip.get LONGOP_RES_PROD_prod i = 1) ∧
    (∃ (s : State) (i : Nat), Live .up s ∧ i < 64) ∧
    (∃ (s : State) (h : Hdr) (lane : Nat) (kind : Nat) (i : Nat), Ready s ⟨0x0C01, false, .l, paramBytes [1, 1, 1, 4]⟩ h [] ∧ lane < 16 ∧ laneAbsent s.chip.id 0 lane = false ∧ kind < 2 ∧ s.chip.loSlot = some i ∧ i < 64) ∧
    (∃ (s : State) (i : Nat) (op : LongOp), Live .up s ∧ i < 64 ∧ s.chip.mgmt.ops.get? i = some op ∧ op.opcode = 0x0C01 ∧ loState (s.chip.lo i) = 2 ∧ op.final = false) :=
  ⟨⟨W (withOp live 0x0410 2), hd, 127, 63, by refine ⟨?_, ?_⟩ <;> decide +kernel⟩,
   ⟨W (withOp live 0x0410 2), hd, 127, 63, longOp 0x0410, by refine ⟨?_, ?_, ?_, ?_, ?_⟩ <;> decide +kernel⟩,
   ⟨W (withOp live 0x0410 3), hd, 127, 63, longOp 0x0410, by refine ⟨?_, ?_, ?_, ?_, ?_⟩ <;> decide +kernel⟩,
   ⟨W (withOp live 0x0410 2), hd, 127, 63, longOp 0x0410, by refine ⟨?_, ?_, ?_, ?_, ?_, ?_⟩ <;> decide +kernel⟩,
   ⟨W (withOp live 0x0410 2), hd, by decide +kernel⟩,
   ⟨W (withOp live 0x0410 4), hd, 127, 63, longOp 0x0410, by refine ⟨?_, ?_, ?_, ?_⟩ <;> decide +kernel⟩,
   ⟨W ((withOp live 0x0410 4).set LONGOP_RES_PROD_prod 1 63), hd, 127, 63, longOp 0x0410, by refine ⟨?_, ?_, ?_, ?_⟩ <;> decide +kernel⟩,
   ⟨W (live), 63, by refine ⟨?_, ?_⟩ <;> decide +kernel⟩,
   ⟨W (live), hd, 15, 1, 0, by refine ⟨?_, ?_, ?_, ?_, ?_, ?_⟩ <;> decide +kernel⟩,
   ⟨W (withOp live 0x0C01 2), 63, longOp 0x0C01, by refine ⟨?_, ?_, ?_, ?_, ?_, ?_⟩ <;> decide +kernel⟩⟩

theorem witness_RegisterAccess :
    (∃ (s : State) (v : Nat), Live .up s ∧ v < 2 ^ 32) ∧
    (∃ (s : State) (offset : Nat), Live .up s ∧ offset % 8 = 0 ∧ findReg offset = none ∧ (¬ (0x48000 ≤ offset ∧ offset < 0x48400))) ∧
    (∃ (s : State) (h : Hdr), Ready s ⟨0x0C31, false, .w, paramBytes [4, 8, 8]⟩ h []) ∧
    (∃ (s : State) (h : Hdr) (offset : Nat), Ready s ⟨0x0C30, false, .r, paramBytes [4, 2]⟩ h [] ∧ offset % 8 = 0 ∧ offset + 8 ≤ bar0Size ∧ PMC_CNT.geo.index? offset = none) ∧
    (∃ (s : State) (h : Hdr) (n : Nat) (image : Nat), Ready s ⟨0x0C10, false, .w, paramBytes [1, 8]⟩ h [] ∧ n < 4 ∧ SWX_MIR_CTL_src_kind.of image = 0 ∧ SWX_MIR_CTL_dst_kind.of image = 1 ∧ SWX_MIR_CTL_dir.of image ≠ 0 ∧ portRefusal s.chip (SWX_MIR_CTL_src_port.of image / 4) 40 = none ∧ s.chip.flag FUSE_STAT_isolation = false) ∧
    (∃ (s : State) (h : Hdr) (n : Nat), Ready s ⟨0x0C11, false, .w, paramBytes [1]⟩ h [] ∧ n < 4) :=
  ⟨⟨W (live), 2 ^ 32 - 1, by refine ⟨?_, ?_⟩ <;> decide +kernel⟩,
   ⟨W (live), 0xFFFFF8, by refine ⟨?_, ?_, ?_, ?_⟩ <;> decide +kernel⟩,
   ⟨W (live), hd, by decide +kernel⟩,
   ⟨W (live), hd, 0xFFFFF8, by refine ⟨?_, ?_, ?_, ?_⟩ <;> decide +kernel⟩,
   ⟨W (live), hd, 3, SWX_MIR_CTL_dst_kind.geo.base * 0 + 2 ^ SWX_MIR_CTL_dst_kind.lo + 2 ^ SWX_MIR_CTL_dir.lo, by refine ⟨?_, ?_, ?_, ?_, ?_, ?_, ?_⟩ <;> decide +kernel⟩,
   ⟨W (live.set SWX_MIR_CTL_en 1 3), hd, 3, by refine ⟨?_, ?_⟩ <;> decide +kernel⟩⟩

theorem witness_DroveOpening :
    (∃ (s : State) (r : Rx) (verMin : Nat) (verMax : Nat) (hostCid : Nat) (segMax : Nat) (pathsMax : Nat) (v : Nat) (seg : Nat) (identity : Bytes) (k : Nat) (psk : Psk), Live .network s ∧ s.chip.takesDrove r (s.chip.get DROVE_DRV_CFG_udp_port) = true ∧ s.chip.flag DROVE_DRV_CFG_en = true ∧ s.chip.drbgStopped = false ∧ s.chip.conns = [] ∧ (if s.chip.connects.1 = s.chip.clk / second then s.chip.connects.2 + 1 else 1) ≤ s.chip.get DROVE_DRV_CFG_connect_rate ∧ hostCid ≠ 0 ∧ segMax ∈ [1024, 2048, 4096, 8192] ∧ 1 ≤ pathsMax ∧ pathsMax ≤ 8 ∧ 1 ≤ identity.length ∧ identity.length ≤ 128 ∧ (s.chip.versionsOn.filter (fun v => decide (verMin ≤ v) && decide (v ≤ verMax))).getLast? = some v ∧ s.chip.cipher.psks.first? (fun _ p => p.identity = identity) = some (k, psk) ∧ s.chip.segmentFor segMax v = some seg ∧ s.chip.plainPorts) ∧
    (∃ (s : State) (r : Rx), Live .network s ∧ s.chip.takesDrove r (s.chip.get DROVE_DRV_CFG_udp_port) = true ∧ s.chip.flag DROVE_DRV_CFG_en = false) ∧
    (∃ (s : State) (cid : Nat) (ctx : Nat) (r : Rx) (proof : Bytes) (n : Conn), Live .network s ∧ s.chip.byCid cid = some (ctx, n) ∧ s.chip.conns.get? ctx = some n ∧ n.state = .opening ∧ s.chip.takesDrove r n.udpPort = true ∧ padTo 16 proof = padTo 16 n.confirm) ∧
    (∃ (s : State) (cid : Nat) (ctx : Nat) (r : Rx) (proof : Bytes) (n : Conn), Live .network s ∧ s.chip.byCid cid = some (ctx, n) ∧ s.chip.conns.get? ctx = some n ∧ n.state = .opening ∧ s.chip.takesDrove r n.udpPort = true ∧ padTo 16 proof ≠ padTo 16 n.confirm ∧ s.chip.plainPorts) ∧
    (∃ (s : State) (ctx : Nat) (t : Nat) (n : Conn), Live .gated s ∧ s.chip.conns.get? ctx = some n ∧ n.state = .opened ∧ n.cachedNs = some t) ∧
    (∃ (s : State) (ctx : Nat) (t : Nat) (n : Conn), Live .gated s ∧ s.chip.conns.get? ctx = some n ∧ n.state = .opening ∧ n.cachedNs = some t) ∧
    (∃ (s : State) (ctx : Nat) (n : Conn), Live .gated s ∧ s.chip.conns.get? ctx = some n ∧ n.state = .closing) :=
  ⟨⟨W ({ ((live.set DROVE_DRV_CFG_en 1).set CIPH_STATUS_drbg_ready 1).set PORT_CFG_sub_en 1 0 with ports := { live.ports with mode := [(0, 1)] }, cipher := { live.cipher with psks := [(3, ⟨1, 1, [65], [1]⟩)] } }), rx0, 0x100, 0x200, 5, 8192, 8, (live.versionsOn.getLast?).getD 0, (live.segmentFor 8192 ((live.versionsOn.getLast?).getD 0)).getD 0, [65], 3, ⟨1, 1, [65], [1]⟩, by refine ⟨?_, ?_, ?_, ?_, ?_, ?_, ?_, ?_, ?_, ?_, ?_, ?_, ?_, ?_, ?_, ?_⟩ <;> decide +kernel⟩,
   ⟨W (live.set DROVE_DRV_CFG_en 0), rx0, by refine ⟨?_, ?_, ?_⟩ <;> decide +kernel⟩,
   ⟨W (withConn live { conn0 with state := .opening, confirm := [1] }), 6, 131071, rx0, [1], { conn0 with state := .opening, confirm := [1] }, by refine ⟨?_, ?_, ?_, ?_, ?_, ?_⟩ <;> decide +kernel⟩,
   ⟨W (withConn live { conn0 with state := .opening, confirm := [1] }), 6, 131071, rx0, [2], { conn0 with state := .opening, confirm := [1] }, by refine ⟨?_, ?_, ?_, ?_, ?_, ?_, ?_⟩ <;> decide +kernel⟩,
   ⟨W (withConn live { conn0 with cachedNs := some 5, acceptMsg := [1] }), 131071, 5, { conn0 with cachedNs := some 5, acceptMsg := [1] }, by refine ⟨?_, ?_, ?_, ?_⟩ <;> decide +kernel⟩,
   ⟨W (withConn live { conn0 with state := .opening, cachedNs := some 5 }), 131071, 5, { conn0 with state := .opening, cachedNs := some 5 }, by refine ⟨?_, ?_, ?_, ?_⟩ <;> decide +kernel⟩,
   ⟨W (withConn live { conn0 with state := .closing }), 131071, { conn0 with state := .closing }, by refine ⟨?_, ?_, ?_⟩ <;> decide +kernel⟩⟩

theorem witness_DroveMessages :
    (∃ (s : State) (p : DPkt) (r : Rx) (data : Bytes) (ctx : Nat) (n : Conn), Live .network s ∧ s.chip.hears p r 0x01 ctx n ∧ n.inOrder p ∧ n.msgs = [] ∧ p.msn = n.nextMsn ∧ p.offset = 0 ∧ 0 < p.msgLen ∧ 0 < n.segSize ∧ data.length = min n.segSize p.msgLen ∧ unitsOf p.msgLen ≤ ahead 32 n.creditLimit n.consumed) ∧
    (∃ (s : State) (p : DPkt) (r : Rx) (ctx : Nat) (n : Conn), Live .network s ∧ s.chip.hears p r 0x02 ctx n ∧ n.inOrder p ∧ n.msgs = [] ∧ p.msn = n.nextMsn ∧ 0 < p.msgLen ∧ 0 < n.segSize ∧ unitsOf p.msgLen ≤ ahead 32 n.creditLimit n.consumed) ∧
    (∃ (s : State) (p : DPkt) (r : Rx) (ctx : Nat) (n : Conn), Live .network s ∧ s.chip.byCid p.cid = some (ctx, n) ∧ s.chip.takesDrove r n.udpPort = true ∧ n.state = .opened ∧ p.cipher = none ∧ p.tagOk = false) ∧
    (∃ (s : State) (p : DPkt) (r : Rx) (ctx : Nat) (n : Conn), Live .network s ∧ s.chip.hears p r 0x22 ctx n ∧ n.inOrder p) ∧
    (∃ (s : State) (ctx : Nat) (n : Conn), Live .network s ∧ s.chip.conns.get? ctx = some n ∧ n.state = .opened ∧ n.qid = 0 ∧ s.chip.intake.held = [] ∧ s.chip.intake.cmds = [] ∧ s.chip.flag CMDQ_CTL_en = true) ∧
    (∃ (s : State) (ctx : Nat) (n : Conn), Live .network s ∧ s.chip.conns.get? ctx = some n ∧ n.state = .opened ∧ n.qid = 0 ∧ s.chip.intake.held = [] ∧ (s.chip.intake.cmds.keep (fun key _ => key / cmdTags = 0)).length < cmdTags ∧ s.chip.flag CMDQ_CTL_en = false) ∧
    (∃ (s : State) (k : HostCmd), Live .network s ∧ s.chip.intake.held = [(2 ^ 32, k)] ∧ k.io = false ∧ k.bad = 0 ∧ s.chip.intake.cmds = [] ∧ s.chip.flag CMDQ_CTL_en = true) :=
  ⟨⟨W (withConn live opened0), { dpkt0 with type := 1, msgLen := 5000 }, rx0, List.replicate 4096 1, 131071, opened0, by refine ⟨?_, ?_, ?_, ?_, ?_, ?_, ?_, ?_, ?_, ?_⟩ <;> decide +kernel⟩,
   ⟨W (withConn live opened0), { dpkt0 with type := 2, flags := 1, msgLen := 5000 }, rx0, 131071, opened0, by refine ⟨?_, ?_, ?_, ?_, ?_, ?_, ?_, ?_⟩ <;> decide +kernel⟩,
   ⟨W (withConn live opened0), { dpkt0 with type := 1, msgLen := 5000, tagOk := false }, rx0, 131071, opened0, by refine ⟨?_, ?_, ?_, ?_, ?_, ?_⟩ <;> decide +kernel⟩,
   ⟨W (withConn live opened0), { dpkt0 with type := 0x22, rest := zeros 6 }, rx0, 131071, opened0, by refine ⟨?_, ?_, ?_⟩ <;> decide +kernel⟩,
   ⟨W (withConn (live.set CMDQ_CTL_en 1) { conn0 with qid := 0 }), 131071, { conn0 with qid := 0 }, by refine ⟨?_, ?_, ?_, ?_, ?_, ?_, ?_⟩ <;> decide +kernel⟩,
   ⟨W (withConn (live.set CMDQ_CTL_en 0) { conn0 with qid := 0 }), 131071, { conn0 with qid := 0 }, by refine ⟨?_, ?_, ?_, ?_, ?_, ?_, ?_⟩ <;> decide +kernel⟩,
   ⟨W ({ live.set CMDQ_CTL_en 1 with intake := { live.intake with held := [(2 ^ 32, sqeHost0)] }, conns := [(131071, { conn0 with qid := 0 })] }), sqeHost0, by refine ⟨?_, ?_, ?_, ?_, ?_, ?_⟩ <;> decide +kernel⟩⟩

theorem witness_DroveControl :
    (∃ (s : State) (p : DPkt) (r : Rx) (ctx : Nat) (n : Conn), Live .network s ∧ s.chip.hears p r 0x10 ctx n ∧ n.rxCtrl = none ∧ n.txWait = [] ∧ s.chip.creditQ = []) ∧
    (∃ (s : State) (p : DPkt) (r : Rx) (ctx : Nat) (x : Nat) (n : Conn), Live .network s ∧ s.chip.hears p r 0x10 ctx n ∧ n.rxCtrl = some x ∧ p.psn = x) ∧
    (∃ (s : State) (p : DPkt) (r : Rx) (len : Nat) (ctx : Nat) (n : Conn) (u : TxPkt), Live .network s ∧ s.chip.hears p r 0x11 ctx n ∧ n.rxCtrl = none ∧ n.unacked = [u] ∧ n.txWait = [] ∧ u.resends < n.retryMax ∧ n.stopped = false ∧ n.spray (some u.path) ≠ none ∧ 1 ≤ len ∧ len ≤ 4096) ∧
    (∃ (s : State) (p : DPkt) (r : Rx) (ctx : Nat) (n : Conn), Live .network s ∧ s.chip.hears p r 0x12 ctx n ∧ n.paths.has p.path = true ∧ s.chip.plainPorts) ∧
    (∃ (s : State) (p : DPkt) (r : Rx) (ctx : Nat) (n : Conn) (q : Path), Live .network s ∧ s.chip.hears p r 0x13 ctx n ∧ n.rxCtrl = none ∧ n.paths.get? p.path = some q) ∧
    (∃ (s : State) (p : DPkt) (r : Rx) (ctx : Nat) (n : Conn), Live .network s ∧ s.chip.hears p r 0x20 ctx n ∧ n.inOrder p ∧ n.txWait = [] ∧ n.gen < 2 ^ 32 - 1 ∧ n.spanRoom = true ∧ n.spray none ≠ none) ∧
    (∃ (s : State) (p : DPkt) (r : Rx) (ctx : Nat) (n : Conn), Live .network s ∧ s.chip.hears p r 0x21 ctx n ∧ n.inOrder p ∧ n.txWait = [] ∧ n.rekeySent = true) ∧
    (∃ (s : State) (ctx : Nat) (w : Nat) (t : Nat) (n : Conn), Live .network s ∧ s.chip.creditQ = [ctx] ∧ s.chip.opened .drove ctx n ∧ n.wanted = some (w, t) ∧ 1 ≤ w ∧ w ≤ n.maxGrant - ahead 32 n.creditLimit n.consumed ∧ w ≤ s.chip.get DROVE_RXPOOL_free_units) ∧
    (∃ (s : State) (ctx : Nat) (n : Conn) (x : Nat × Nat), Live .gated s ∧ s.chip.opened .drove ctx n ∧ n.wanted = some x) :=
  ⟨⟨W (withConn live { opened0 with unacked := [txPkt0, { txPkt0 with psn := 9 }] }), dpkt0, rx0, 131071, { opened0 with unacked := [txPkt0, { txPkt0 with psn := 9 }] }, by refine ⟨?_, ?_, ?_, ?_, ?_⟩ <;> decide +kernel⟩,
   ⟨W (withConn live { opened0 with unacked := [txPkt0], rxCtrl := some (2 ^ 32 - 1) }), dpkt0, rx0, 131071, 2 ^ 32 - 1, { opened0 with unacked := [txPkt0], rxCtrl := some (2 ^ 32 - 1) }, by refine ⟨?_, ?_, ?_, ?_⟩ <;> decide +kernel⟩,
   ⟨W (withConn live { opened0 with unacked := [txPkt0] }), { dpkt0 with type := 0x11 }, rx0, 4096, 131071, { opened0 with unacked := [txPkt0] }, txPkt0, by refine ⟨?_, ?_, ?_, ?_, ?_, ?_, ?_, ?_, ?_, ?_⟩ <;> decide +kernel⟩,
   ⟨W (withConn live opened0), { dpkt0 with type := 0x12 }, rx0, 131071, opened0, by refine ⟨?_, ?_, ?_, ?_⟩ <;> decide +kernel⟩,
   ⟨W (withConn live opened0), { dpkt0 with type := 0x13 }, rx0, 131071, opened0, (opened0.paths.getD 0 ⟨0, 0, 0, 0, false, 0, 0, 0, 0, 0, ⟨0, 0, 0, 0, none⟩⟩), by refine ⟨?_, ?_, ?_, ?_⟩ <;> decide +kernel⟩,
   ⟨W (withConn live opened0), { dpkt0 with type := 0x20, rest := zeros 4 }, rx0, 131071, opened0, by refine ⟨?_, ?_, ?_, ?_, ?_, ?_, ?_⟩ <;> decide +kernel⟩,
   ⟨W (withConn live { opened0 with rekeySent := true, rekeyOpen := true }), { dpkt0 with type := 0x21, rest := zeros 4 }, rx0, 131071, { opened0 with rekeySent := true, rekeyOpen := true }, by refine ⟨?_, ?_, ?_, ?_, ?_⟩ <;> decide +kernel⟩,
   ⟨W ({ (withConn live { opened0 with wanted := some (1, 5), creditLimit := 0 }).set DROVE_RXPOOL_free_units 1 with creditQ := [131071] }), 131071, 1, 5, { opened0 with wanted := some (1, 5), creditLimit := 0 }, by refine ⟨?_, ?_, ?_, ?_, ?_, ?_, ?_⟩ <;> decide +kernel⟩,
   ⟨W (withConn live { opened0 with wanted := some (256, 5) }), 131071, { opened0 with wanted := some (256, 5) }, (256, 5), by refine ⟨?_, ?_, ?_⟩ <;> decide +kernel⟩⟩

theorem witness_DroveTimers :
    (∃ (s : State) (ctx : Nat) (path : Nat) (n : Conn), Live .gated s ∧ s.chip.opened .drove ctx n ∧ n.calm ∧ n.reorderOn = true ∧ n.missing ≠ [] ∧ n.ackPath = some path ∧ s.chip.plainPorts) ∧
    (∃ (s : State) (ctx : Nat) (path : Nat) (t : Nat) (n : Conn), Live .gated s ∧ s.chip.opened .drove ctx n ∧ n.calm ∧ n.ackFrom = some t ∧ n.ackPath = some path ∧ s.chip.plainPorts) ∧
    (∃ (s : State) (ctx : Nat) (n : Conn) (u : TxPkt), Live .gated s ∧ s.chip.opened .drove ctx n ∧ n.calm ∧ n.unacked = [u] ∧ u.resends < n.retryMax ∧ n.stopped = false ∧ n.spray (some u.path) ≠ none ∧ (n.paths.get? u.path).elim 0 (·.rtoRun) + 1 < n.pathRtoLimit) ∧
    (∃ (s : State) (ctx : Nat) (n : Conn) (u : TxPkt), Live .gated s ∧ s.chip.opened .drove ctx n ∧ n.calm ∧ n.unacked = [u] ∧ n.retryMax ≤ u.resends) ∧
    (∃ (s : State) (ctx : Nat) (path : Nat) (n : Conn) (q : Path), Live .gated s ∧ s.chip.opened .drove ctx n ∧ n.calm ∧ n.version ≠ 0x100 ∧ n.paths.get? path = some q ∧ s.chip.plainPorts) ∧
    (∃ (s : State) (ctx : Nat) (n : Conn), Live .gated s ∧ s.chip.opened .drove ctx n ∧ n.livePaths = []) ∧
    (∃ (s : State) (ctx : Nat) (n : Conn), Live .gated s ∧ s.chip.opened .drove ctx n) ∧
    (∃ (s : State) (h : Hdr), Ready s ⟨0x0220, false, .w, paramBytes [8, 8, 8, 8, 8, 8, 8, 8]⟩ h [] ∧ s.chip.creditQ = []) ∧
    (∃ (s : State) (ctx : Nat) (n : Conn), Live .up s ∧ ctx < 2 ^ 18 ∧ s.chip.conns.get? ctx = some n) :=
  ⟨⟨W (withConn live { opened0 with reorderOn := true, rxBits := [3] }), 131071, 0, { opened0 with reorderOn := true, rxBits := [3] }, by refine ⟨?_, ?_, ?_, ?_, ?_, ?_, ?_⟩ <;> decide +kernel⟩,
   ⟨W (withConn live { opened0 with ackFrom := some 7 }), 131071, 0, 7, { opened0 with ackFrom := some 7 }, by refine ⟨?_, ?_, ?_, ?_, ?_, ?_⟩ <;> decide +kernel⟩,
   ⟨W (withConn live { opened0 with unacked := [txPkt0], pathImg := 2 ^ 64 - 1 }), 131071, { opened0 with unacked := [txPkt0], pathImg := 2 ^ 64 - 1 }, txPkt0, by refine ⟨?_, ?_, ?_, ?_, ?_, ?_, ?_, ?_⟩ <;> decide +kernel⟩,
   ⟨W (withConn live { opened0 with unacked := [{ txPkt0 with resends := 15 }] }), 131071, { opened0 with unacked := [{ txPkt0 with resends := 15 }] }, { txPkt0 with resends := 15 }, by refine ⟨?_, ?_, ?_, ?_, ?_⟩ <;> decide +kernel⟩,
   ⟨W (withConn live opened0), 131071, 0, opened0, (opened0.paths.getD 0 ⟨0, 0, 0, 0, false, 0, 0, 0, 0, 0, ⟨0, 0, 0, 0, none⟩⟩), by refine ⟨?_, ?_, ?_, ?_, ?_, ?_⟩ <;> decide +kernel⟩,
   ⟨W (withConn live { opened0 with paths := [] }), 131071, { opened0 with paths := [] }, by refine ⟨?_, ?_, ?_⟩ <;> decide +kernel⟩,
   ⟨W (withConn live { opened0 with oldGen := true }), 131071, { opened0 with oldGen := true }, by refine ⟨?_, ?_⟩ <;> decide +kernel⟩,
   ⟨W (live), hd, by refine ⟨?_, ?_⟩ <;> decide +kernel⟩,
   ⟨W (withConn live opened0), 131071, opened0, by refine ⟨?_, ?_, ?_⟩ <;> decide +kernel⟩⟩

theorem witness_TcpRows :
    (∃ (s : State) (r : Rx) (port : Nat) (digests : Nat), Live .network s ∧ s.chip.listens port = true ∧ s.chip.analysis r.sub = false ∧ s.chip.conns = [] ∧ s.chip.flag DROVE_TCP_CFG_tls_req = false ∧ (s.chip.flag DROVE_TCP_CFG_digest_req = true → digests % 4 = 3)) ∧
    (∃ (s : State) (r : Rx) (port : Nat), Live .network s ∧ s.chip.listens port = true ∧ s.chip.analysis r.sub = false ∧ s.chip.conns = [] ∧ s.chip.flag DROVE_TCP_CFG_tls_req = true) ∧
    (∃ (s : State) (ctx : Nat) (q : Sqe) (seg : TcpSeg) (n : Conn), Live .network s ∧ s.chip.opened .tcp ctx n ∧ n.tls = false ∧ n.tcpIdle ∧ 0 < seg.wnd ∧ n.capsules.has q.cid = false ∧ q.hostData = true ∧ s.chip.plainPorts) ∧
    (∃ (s : State) (ctx : Nat) (q : Sqe) (n : Conn), Live .network s ∧ s.chip.opened .tcp ctx n ∧ n.tls = false ∧ n.txWait = [] ∧ n.capsules.has q.cid = false ∧ q.hostData = false ∧ n.qid = 0 ∧ s.chip.intake.held = [] ∧ s.chip.intake.cmds = [] ∧ s.chip.flag CMDQ_CTL_en = true) ∧
    (∃ (s : State) (ctx : Nat) (cid : Nat) (data : Bytes) (n : Conn) (k : Capsule), Live .network s ∧ s.chip.opened .tcp ctx n ∧ n.tls = false ∧ n.capsules.get? cid = some k ∧ k.got = 0 ∧ k.segs = [] ∧ 1 ≤ data.length ∧ data.length ≤ 131072 ∧ data.length < k.sqe.len) ∧
    (∃ (s : State) (ctx : Nat) (n : Conn) (x : Instr), x ∈ [Instr.tcpTermReq ctx, Instr.tcpCloseRx ctx false] ∧ Live .network s ∧ s.chip.conns.get? ctx = some n ∧ n.transport = .tcp ∧ s.chip.plainPorts) ∧
    (∃ (s : State) (ctx : Nat) (n : Conn), Live .network s ∧ s.chip.conns.get? ctx = some n ∧ n.transport = .tcp) ∧
    (∃ (s : State) (ctx : Nat) (again : Bool) (n : Conn), Live .network s ∧ s.chip.conns.get? ctx = some n ∧ n.transport = .tcp ∧ (again = true → n.retrans < 15)) ∧
    (∃ (s : State) (ctx : Nat) (n : Conn), Live .network s ∧ s.chip.conns.get? ctx = some n ∧ n.transport = .tcp ∧ 15 ≤ n.retrans ∧ s.chip.plainPorts) ∧
    (∃ (s : State) (port : Nat) (modes : Nat) (identity : Bytes) (secp : Bool), Live .network s ∧ s.chip.listens port = true ∧ s.chip.drbgStopped = false ∧ s.chip.plainPorts ∧ s.chip.conns = [] ∧ s.chip.cipher.psks.any (fun e => e.2.identity = identity) = true ∧ (bit modes 0 || (bit modes 1 && secp)) = true) ∧
    (∃ (s : State) (r : Rx) (port : Nat) (ctx : Nat) (n : Conn), Live .network s ∧ s.chip.listens port = true ∧ s.chip.analysis r.sub = false ∧ s.chip.drbgStopped = false ∧ s.chip.flowOf r = some (ctx, n) ∧ s.chip.conns.get? ctx = some n ∧ n.state = .opening ∧ n.identity.isSome = true ∧ n.tls = false) ∧
    (∃ (s : State) (ctx : Nat) (asks : Bool) (n : Conn), Live .network s ∧ s.chip.opened .tcp ctx n ∧ n.tls = true ∧ n.txWait = [] ∧ (asks || n.keyAsked) = true ∧ s.chip.plainPorts) :=
  ⟨⟨W (live), rx0, live.get DROVE_TCP_CFG_io_port, 3, by refine ⟨?_, ?_, ?_, ?_, ?_, ?_⟩ <;> decide +kernel⟩,
   ⟨W (live.set DROVE_TCP_CFG_tls_req 1), rx0, live.get DROVE_TCP_CFG_io_port, by refine ⟨?_, ?_, ?_, ?_, ?_⟩ <;> decide +kernel⟩,
   ⟨W (withConn live tcp0), 131071, { sqe0 with opc := 1, len := 200000 }, ⟨0, [], 10, 1, false, false⟩, tcp0, by refine ⟨?_, ?_, ?_, ?_, ?_, ?_, ?_, ?_⟩ <;> decide +kernel⟩,
   ⟨W (withConn (live.set CMDQ_CTL_en 1) { tcp0 with qid := 0 }), 131071, sqe0, { tcp0 with qid := 0 }, by refine ⟨?_, ?_, ?_, ?_, ?_, ?_, ?_, ?_, ?_, ?_⟩ <;> decide +kernel⟩,
   ⟨W (withConn live { tcp0 with capsules := [(7, ⟨{ sqe0 with opc := 1, len := 4096 }, [], 0, 0⟩)] }), 131071, 7, List.replicate 4095 1, { tcp0 with capsules := [(7, ⟨{ sqe0 with opc := 1, len := 4096 }, [], 0, 0⟩)] }, ⟨{ sqe0 with opc := 1, len := 4096 }, [], 0, 0⟩, by refine ⟨?_, ?_, ?_, ?_, ?_, ?_, ?_, ?_, ?_⟩ <;> decide +kernel⟩,
   ⟨W (withConn live tcp0), 131071, tcp0, Instr.tcpCloseRx 131071 false, by refine ⟨?_, ?_, ?_, ?_, ?_⟩ <;> first | decide +kernel | rfl | simp⟩,
   ⟨W (withConn live tcp0), 131071, tcp0, by refine ⟨?_, ?_, ?_⟩ <;> decide +kernel⟩,
   ⟨W (withConn live { tcp0 with retrans := 14 }), 131071, true, { tcp0 with retrans := 14 }, by refine ⟨?_, ?_, ?_, ?_⟩ <;> decide +kernel⟩,
   ⟨W (withConn live { tcp0 with retrans := 15 }), 131071, { tcp0 with retrans := 15 }, by refine ⟨?_, ?_, ?_, ?_, ?_⟩ <;> decide +kernel⟩,
   ⟨W ({ live.set CIPH_STATUS_drbg_ready 1 with cipher := { live.cipher with psks := [(3, ⟨1, 1, [65], [1]⟩)] } }), live.get DROVE_TCP_CFG_io_port, 2, [65], true, by refine ⟨?_, ?_, ?_, ?_, ?_, ?_, ?_⟩ <;> decide +kernel⟩,
   ⟨W (withConn (live.set CIPH_STATUS_drbg_ready 1) { tcp0 with state := .opening, identity := some [65] }), rx0, live.get DROVE_TCP_CFG_io_port, 131071, { tcp0 with state := .opening, identity := some [65] }, by refine ⟨?_, ?_, ?_, ?_, ?_, ?_, ?_, ?_, ?_⟩ <;> decide +kernel⟩,
   ⟨W (withConn live { tcp0 with tls := true }), 131071, true, { tcp0 with tls := true }, by refine ⟨?_, ?_, ?_, ?_, ?_, ?_⟩ <;> decide +kernel⟩⟩

theorem witness_RoceRows :
    (∃ (s : State), Live .network s ∧ s.chip.plainPorts ∧ s.chip.conns = []) ∧
    (∃ (s : State) (r : Rx) (ctx : Nat) (n : Conn), Live .network s ∧ s.chip.conns.get? ctx = some n ∧ n.transport = .roce ∧ n.state = .opening ∧ s.chip.analysis r.sub = false) ∧
    (∃ (s : State) (ctx : Nat) (n : Conn), Live .network s ∧ s.chip.conns.get? ctx = some n ∧ n.transport = .roce ∧ s.chip.plainPorts) ∧
    (∃ (s : State) (ctx : Nat) (q : Sqe) (n : Conn), Live .network s ∧ s.chip.opened .roce ctx n ∧ n.expectPsn < 2 ^ 24 ∧ q.hostData = true ∧ s.chip.plainPorts) ∧
    (∃ (s : State) (ctx : Nat) (psn : Nat) (n : Conn), Live .network s ∧ s.chip.opened .roce ctx n ∧ 2 ^ 23 ≤ ahead 24 psn n.expectPsn ∧ s.chip.plainPorts) ∧
    (∃ (s : State) (ctx : Nat) (psn : Nat) (data : Bytes) (key : Nat) (n : Conn) (k : Capsule) (rest : Tab Capsule), Live .network s ∧ s.chip.opened .roce ctx n ∧ n.capsules = (key, k) :: rest ∧ s.chip.readPsn n k = some psn ∧ k.got + data.length < k.sqe.len) ∧
    (∃ (s : State) (ctx : Nat) (n : Conn), Live .network s ∧ s.chip.opened .roce ctx n) ∧
    (∃ (s : State) (ctx : Nat) (kind : Nat) (n : Conn), Live .network s ∧ s.chip.opened .roce ctx n ∧ s.chip.plainPorts ∧ (kind = 1 ∧ s.chip.get DROVE_ROCE_CFG_retry_cnt ≤ n.retries ∨ kind = 2 ∧ s.chip.get DROVE_ROCE_CFG_rnr_retry ≤ n.rnrRetries ∨ 3 ≤ kind)) ∧
    (∃ (s : State) (ctx : Nat) (n : Conn), Live .network s ∧ s.chip.opened .roce ctx n ∧ s.chip.plainPorts) ∧
    (∃ (s : State) (ctx : Nat) (n : Conn), Live .network s ∧ s.chip.opened .roce ctx n) ∧
    (∃ (s : State) (ctx : Nat) (n : Conn), Live .gated s ∧ s.chip.conns.get? ctx = some n ∧ n.transport = .roce) ∧
    (∃ (s : State) (ctx : Nat) (path : Nat) (n : Conn) (q : Path), Live .gated s ∧ s.chip.conns.get? ctx = some n ∧ n.transport = .drove ∧ n.version = 0x200 ∧ n.paths.get? path = some q) ∧
    (∃ (s : State) (ctx : Nat) (n : Conn), Live .gated s ∧ s.chip.conns.get? ctx = some n ∧ n.transport = .roce) ∧
    (∃ (s : State) (ctx : Nat) (t : Nat) (n : Conn), Live .gated s ∧ s.chip.opened .roce ctx n ∧ n.rate.minSince = some t ∧ t + second < s.chip.clk) ∧
    (∃ (s : State) (ctx : Nat) (n : Conn) (u : TxPkt) (us : List TxPkt), Live .gated s ∧ s.chip.opened .roce ctx n ∧ n.unacked = u :: us ∧ n.retries < s.chip.get DROVE_ROCE_CFG_retry_cnt ∧ s.chip.plainPorts) ∧
    (∃ (s : State) (ctx : Nat) (n : Conn) (u : TxPkt) (us : List TxPkt), Live .gated s ∧ s.chip.opened .roce ctx n ∧ n.unacked = u :: us ∧ s.chip.get DROVE_ROCE_CFG_retry_cnt ≤ n.retries ∧ s.chip.plainPorts) :=
  ⟨⟨W (live), by refine ⟨?_, ?_, ?_⟩ <;> decide +kernel⟩,
   ⟨W (withConn live { roce0 with state := .opening }), rx0, 131071, { roce0 with state := .opening }, by refine ⟨?_, ?_, ?_, ?_, ?_⟩ <;> decide +kernel⟩,
   ⟨W (withConn live roce0), 131071, roce0, by refine ⟨?_, ?_, ?_, ?_⟩ <;> decide +kernel⟩,
   ⟨W (withConn live { roce0 with expectPsn := 2 ^ 24 - 1 }), 131071, { sqe0 with opc := 1, len := 8192 }, { roce0 with expectPsn := 2 ^ 24 - 1 }, by refine ⟨?_, ?_, ?_, ?_, ?_⟩ <;> decide +kernel⟩,
   ⟨W (withConn live { roce0 with expectPsn := 0 }), 131071, 2 ^ 23, { roce0 with expectPsn := 0 }, by refine ⟨?_, ?_, ?_, ?_⟩ <;> decide +kernel⟩,
   ⟨W (withConn live { roce0 with capsules := [(7, ⟨{ sqe0 with opc := 1, len := 4096 }, [], 0, 0⟩)], unacked := [⟨9, roceRead, 0, 0, 1, 7, [], 0, 0, 0, 0, []⟩] }), 131071, 9, [1, 2], 7, { roce0 with capsules := [(7, ⟨{ sqe0 with opc := 1, len := 4096 }, [], 0, 0⟩)], unacked := [⟨9, roceRead, 0, 0, 1, 7, [], 0, 0, 0, 0, []⟩] }, ⟨{ sqe0 with opc := 1, len := 4096 }, [], 0, 0⟩, [], by refine ⟨?_, ?_, ?_, ?_, ?_⟩ <;> decide +kernel⟩,
   ⟨W (withConn live { roce0 with unacked := [⟨1, 1, 0, 0, 1, 0, [], 0, 0, 0, 0, []⟩, ⟨2, roceRead, 0, 0, 1, 0, [], 0, 0, 0, 0, []⟩, ⟨5, 1, 0, 0, 1, 0, [], 0, 0, 0, 0, []⟩] }), 131071, { roce0 with unacked := [⟨1, 1, 0, 0, 1, 0, [], 0, 0, 0, 0, []⟩, ⟨2, roceRead, 0, 0, 1, 0, [], 0, 0, 0, 0, []⟩, ⟨5, 1, 0, 0, 1, 0, [], 0, 0, 0, 0, []⟩] }, by refine ⟨?_, ?_⟩ <;> decide +kernel⟩,
   ⟨W (withConn live roce0), 131071, 3, roce0, by refine ⟨?_, ?_, ?_, ?_⟩ <;> decide +kernel⟩,
   ⟨W (withConn live roce0), 131071, roce0, by refine ⟨?_, ?_, ?_⟩ <;> decide +kernel⟩,
   ⟨W (withConn live roce0), 131071, roce0, by refine ⟨?_, ?_⟩ <;> decide +kernel⟩,
   ⟨W (withConn live { roce0 with rate := ⟨1000, 1000, 65536, 0, none⟩ }), 131071, { roce0 with rate := ⟨1000, 1000, 65536, 0, none⟩ }, by refine ⟨?_, ?_, ?_⟩ <;> decide +kernel⟩,
   ⟨W (withConn live conn0), 131071, 0, conn0, (conn0.paths.getD 0 ⟨0, 0, 0, 0, false, 0, 0, 0, 0, 0, ⟨0, 0, 0, 0, none⟩⟩), by refine ⟨?_, ?_, ?_, ?_, ?_⟩ <;> decide +kernel⟩,
   ⟨W (withConn live { roce0 with rate := ⟨1000, 2000, 65536, 0, none⟩ }), 131071, { roce0 with rate := ⟨1000, 2000, 65536, 0, none⟩ }, by refine ⟨?_, ?_, ?_⟩ <;> decide +kernel⟩,
   ⟨W ({ withConn live { roce0 with rate := ⟨1000, 2000, 65536, 0, some 5⟩ } with clk := second + 6 }), 131071, 5, { roce0 with rate := ⟨1000, 2000, 65536, 0, some 5⟩ }, by refine ⟨?_, ?_, ?_, ?_⟩ <;> decide +kernel⟩,
   ⟨W (withConn live { roce0 with unacked := [txPkt0] }), 131071, { roce0 with unacked := [txPkt0] }, txPkt0, [], by refine ⟨?_, ?_, ?_, ?_, ?_⟩ <;> decide +kernel⟩,
   ⟨W (withConn live { roce0 with unacked := [txPkt0], retries := 7 }), 131071, { roce0 with unacked := [txPkt0], retries := 7 }, txPkt0, [], by refine ⟨?_, ?_, ?_, ?_, ?_⟩ <;> decide +kernel⟩⟩

theorem witness_ConnectionRows :
    (∃ (s : State) (ctx : Nat) (n : Conn) (d : Completion), Live .network s ∧ s.chip.opened .tcp ctx n ∧ n.tls = false ∧ n.tcpIdle ∧ 0 < n.tcp.rwnd ∧ n.pduBytes pduC2hData d.data.flatten + n.pduBytes pduCapsuleResp (cqe n d) ≤ min n.tcp.cwnd n.tcp.rwnd ∧ s.chip.intake.done = [d] ∧ d.ctx = ctx ∧ d.close = false ∧ s.chip.plainPorts) ∧
    (∃ (s : State) (ctx : Nat) (path : Nat) (n : Conn) (d : Completion), Live .network s ∧ s.chip.opened .drove ctx n ∧ n.calm ∧ n.txWait = [] ∧ n.unacked = [] ∧ n.stopped = false ∧ n.spray none = some path ∧ ahead 32 n.txMsn n.hostMsn < 1024 ∧ s.chip.intake.done = [d] ∧ d.ctx = ctx ∧ d.close = false ∧ d.data = [] ∧ s.chip.plainPorts) ∧
    (∃ (s : State) (ctx : Nat) (n : Conn) (d : Completion), Live .network s ∧ s.chip.opened .roce ctx n ∧ s.chip.intake.done = [d] ∧ d.ctx = ctx ∧ d.close = false ∧ d.data = [] ∧ s.chip.plainPorts) ∧
    (∃ (s : State) (h : Hdr), Ready s ⟨0x0221, false, .w, paramBytes [DROVE_TCP_CFG.bytes, DROVE_ROCE_CFG.bytes, DROVE_ROCE_RATE.bytes]⟩ h []) ∧
    (∃ (s : State) (h : Hdr) (first : Nat) (ctx : Nat) (n : Conn), Ready s ⟨0x0228, false, .r, paramBytes [4]⟩ h [] ∧ s.chip.conns = [(ctx, n)] ∧ first ≤ ctx) ∧
    (∃ (s : State) (h : Hdr) (ctx : Nat) (n : Conn), Ready s ⟨0x0229, false, .w, paramBytes [4]⟩ h [] ∧ ctx < s.chip.maxConns ∧ s.chip.opened .drove ctx n ∧ n.spanRoom = true) ∧
    (∃ (s : State) (h : Hdr) (ctx : Nat) (n : Conn), Ready s ⟨0x0229, false, .w, paramBytes [4]⟩ h [] ∧ ctx < s.chip.maxConns ∧ s.chip.conns.get? ctx = some n ∧ n.transport ≠ .drove) :=
  ⟨⟨W (withDone (withConn live tcp0)), 131071, tcp0, done0, by refine ⟨?_, ?_, ?_, ?_, ?_, ?_, ?_, ?_, ?_, ?_⟩ <;> decide +kernel⟩,
   ⟨W (withDone (withConn live conn0)), 131071, 0, conn0, done0, by refine ⟨?_, ?_, ?_, ?_, ?_, ?_, ?_, ?_, ?_, ?_, ?_, ?_, ?_⟩ <;> decide +kernel⟩,
   ⟨W (withDone (withConn live roce0)), 131071, roce0, done0, by refine ⟨?_, ?_, ?_, ?_, ?_, ?_, ?_⟩ <;> decide +kernel⟩,
   ⟨W (live), hd, by decide +kernel⟩,
   ⟨W (withConn live conn0), hd, 131071, 131071, conn0, by refine ⟨?_, ?_, ?_⟩ <;> decide +kernel⟩,
   ⟨W ({ live with conns := [(live.maxConns - 1, conn0)] }), hd, live.maxConns - 1, conn0, by refine ⟨?_, ?_, ?_, ?_⟩ <;> decide +kernel⟩,
   ⟨W ({ live with conns := [(live.maxConns - 1, tcp0)] }), hd, live.maxConns - 1, tcp0, by refine ⟨?_, ?_, ?_, ?_⟩ <;> decide +kernel⟩⟩

theorem witness_IoRows :
    (∃ (s : State) (isl : Nat) (key : Nat) (cls : Nat) (n : Nat) (k : HostCmd) (rr : Tab (Nat × Nat)) (v : Volume), Live .network s ∧ s.chip.cmdIslands.contains isl = true ∧ s.chip.dumpBusy = false ∧ s.chip.choose isl = some (key, k, cls, rr) ∧ s.chip.intake.cmds.get? key = some k ∧ k.io = true ∧ k.sqe.opc = 0x01 ∧ k.volume = some n ∧ s.chip.vols.get? n = some v ∧ s.chip.judge k n v = none) ∧
    (∃ (s : State) (isl : Nat) (key : Nat) (cls : Nat) (k : HostCmd) (rr : Tab (Nat × Nat)), Live .network s ∧ s.chip.cmdIslands.contains isl = true ∧ s.chip.dumpBusy = false ∧ s.chip.choose isl = some (key, k, cls, rr) ∧ s.chip.intake.cmds.get? key = some k ∧ k.io = false ∧ s.chip.judgeAdmin k = none) ∧
    (∃ (s : State), Live .gated s) ∧
    (∃ (s : State) (isl : Nat) (v : Nat) (t : Nat) (r : Volume), Live .gated s ∧ s.chip.shape.wheel = [(v, (t, false))] ∧ t ≤ s.chip.clk ∧ s.chip.vols.get? v = some r ∧ s.chip.islandOf r.fold = isl ∧ s.chip.eligibleAt v r.paddock isl ≤ s.chip.clk) ∧
    (∃ (s : State) (isl : Nat) (tag : Nat) (n : Nat) (k : HostCmd) (v : Volume) (x : Instr × Nat), Live .network s ∧ x ∈ [(Instr.nvmeRead isl tag, 0x02), (Instr.nvmeCompare isl tag, 0x05), (Instr.nvmeVerify isl tag, 0x0C)] ∧ s.chip.ioWaits (cmdKey isl tag) x.2 k n v ∧ k.need = [] ∧ s.chip.flag CACHE_CTL_prefetch_en = false) ∧
    (∃ (s : State) (isl : Nat) (tag : Nat) (n : Nat) (k : HostCmd) (v : Volume) (b : Blk), Live .network s ∧ s.chip.ioWaits (cmdKey isl tag) 0x01 k n v ∧ v.lbaf = 0 ∧ k.blocks = [(0, b)] ∧ s.chip.writeNeeds k v = []) ∧
    (∃ (s : State) (isl : Nat) (tag : Nat) (n : Nat) (kind : Nat) (a : Nat) (lo : Nat) (hi : Nat) (k : HostCmd) (v : Volume), Live .network s ∧ s.chip.ioWaits (cmdKey isl tag) 0x01 k n v ∧ v.lbaf = 0 ∧ s.chip.writeNeeds k v = [(kind, a, lo, hi)] ∧ s.chip.map.learns = []) ∧
    (∃ (s : State) (isl : Nat) (tag : Nat) (n : Nat) (a : Nat) (k : HostCmd) (v : Volume), Live .network s ∧ s.chip.ioWaits (cmdKey isl tag) 0x08 k n v ∧ s.chip.intake.cmds = [(cmdKey isl tag, k)] ∧ s.chip.enginePaused = false ∧ k.lba = a * 1024 ∧ k.count = 1024 ∧ s.chip.entryOf v a = none) ∧
    (∃ (s : State) (isl : Nat) (tag : Nat) (n : Nat) (k : HostCmd) (v : Volume), Live .network s ∧ s.chip.ioWaits (cmdKey isl tag) 0x08 k n v ∧ s.chip.intake.cmds = [(cmdKey isl tag, k)] ∧ s.chip.enginePaused = false ∧ k.count = 1 ∧ s.chip.learnKind v (acreOf k.lba) = none) ∧
    (∃ (s : State) (isl : Nat) (tag : Nat) (n : Nat) (k : HostCmd) (v : Volume), Live .network s ∧ s.chip.ioWaits (cmdKey isl tag) 0x09 k n v ∧ k.sqe.deallocates = false) ∧
    (∃ (s : State) (isl : Nat) (tag : Nat) (n : Nat) (lba : Nat) (k : HostCmd) (v : Volume), Live .network s ∧ s.chip.ioWaits (cmdKey isl tag) 0x09 k n v ∧ s.chip.intake.cmds = [(cmdKey isl tag, k)] ∧ s.chip.enginePaused = false ∧ k.sqe.deallocates = true ∧ k.ranges = [(lba, 1)] ∧ k.lba = 0 ∧ s.chip.learnKind v (acreOf lba) = none) ∧
    (∃ (s : State) (isl : Nat) (tag : Nat) (n : Nat) (k : HostCmd) (v : Volume), Live .network s ∧ s.chip.ioWaits (cmdKey isl tag) 0x00 k n v) ∧
    (∃ (s : State) (volume : Nat) (lba : Nat) (seq : Nat) (i : Nat) (w : Nat) (key : Nat) (l : Line) (k : HostCmd), Live .work s ∧ seq ≠ 0 ∧ (s.chip.blockLines volume lba).find? (fun e => e.2.2.st = .filling && e.2.2.seq = seq) = some (i, w, l) ∧ (s.chip.cacheSet i).ways.get? w = some l ∧ s.chip.intake.cmds = [(key, k)] ∧ k.volume = some volume ∧ k.seq = seq ∧ k.st = .waitRoom ∧ k.need = [lba - k.lba]) :=
  ⟨⟨W (withVol (withCmd live (cmdKey 0 16383) { wr0 with st := .queued, seq := 0 })), 0, cmdKey 0 16383, 2, 3, { wr0 with st := .queued, seq := 0 }, ((withVol (withCmd live (cmdKey 0 16383) { wr0 with st := .queued, seq := 0 })).choose 0).elim [] (fun x => x.2.2.2), vol0, by refine ⟨?_, ?_, ?_, ?_, ?_, ?_, ?_, ?_, ?_, ?_⟩ <;> first | decide +kernel | rfl | simp⟩,
   ⟨W (withCmd live (cmdKey 3 16383) { sqeHost0 with sqe := { sqe0 with opc := 0x18 } }), 3, cmdKey 3 16383, 4, { sqeHost0 with sqe := { sqe0 with opc := 0x18 } }, live.intake.rr, by refine ⟨?_, ?_, ?_, ?_, ?_, ?_, ?_⟩ <;> first | decide +kernel | rfl | simp⟩,
   ⟨W ({ live with intake := { live.intake with urgent := [(3, 9)] } }), by decide +kernel⟩,
   ⟨W ({ withVol live with shape := { live.shape with wheel := [(3, (0, false))] } }), 0, 3, 0, vol0, by refine ⟨?_, ?_, ?_, ?_, ?_, ?_⟩ <;> first | decide +kernel | rfl | simp⟩,
   ⟨W (withVol (withCmd (live.set CACHE_CTL_prefetch_en 0) (cmdKey 0 16383) (ioOf 0x0C))), 0, 16383, 3, ioOf 0x0C, vol0, (Instr.nvmeVerify 0 16383, 0x0C), by refine ⟨?_, ?_, ?_, ?_, ?_⟩ <;> first | decide +kernel | rfl | simp⟩,
   ⟨W (withVol (withCmd live (cmdKey 0 16383) wr0)), 0, 16383, 3, wr0, vol0, blk0, by refine ⟨?_, ?_, ?_, ?_, ?_⟩ <;> first | decide +kernel | rfl | simp⟩,
   ⟨W (withVol (withCmd live (cmdKey 0 16383) { wr0 with lba := 4095 })), 0, 16383, 3, 1, 3, 1023, 1024, { wr0 with lba := 4095 }, vol0, by refine ⟨?_, ?_, ?_, ?_, ?_⟩ <;> first | decide +kernel | rfl | simp⟩,
   ⟨W (withVol (withCmd live (cmdKey 0 16383) { ioOf 8 with lba := 3072, count := 1024 })), 0, 16383, 3, 3, { ioOf 8 with lba := 3072, count := 1024 }, vol0, by refine ⟨?_, ?_, ?_, ?_, ?_, ?_, ?_⟩ <;> first | decide +kernel | rfl | simp⟩,
   ⟨W (withVol (withCmd live (cmdKey 0 16383) (ioOf 8))), 0, 16383, 3, ioOf 8, vol0, by refine ⟨?_, ?_, ?_, ?_, ?_, ?_⟩ <;> first | decide +kernel | rfl | simp⟩,
   ⟨W (withVol (withCmd live (cmdKey 0 16383) (ioOf 9))), 0, 16383, 3, ioOf 9, vol0, by refine ⟨?_, ?_, ?_⟩ <;> first | decide +kernel | rfl | simp⟩,
   ⟨W (withVol (withCmd live (cmdKey 0 16383) { ioOf 9 with sqe := { sqe0 with opc := 9, cdw11 := 4 }, ranges := [(3071, 1)] })), 0, 16383, 3, 3071, { ioOf 9 with sqe := { sqe0 with opc := 9, cdw11 := 4 }, ranges := [(3071, 1)] }, vol0, by refine ⟨?_, ?_, ?_, ?_, ?_, ?_, ?_, ?_⟩ <;> first | decide +kernel | rfl | simp⟩,
   ⟨W (withVol (withCmd live (cmdKey 0 16383) (ioOf 0))), 0, 16383, 3, ioOf 0, vol0, by refine ⟨?_, ?_⟩ <;> first | decide +kernel | rfl | simp⟩,
   ⟨W (withLine (withVol (withCmd live (cmdKey 0 16383) { wr0 with lba := 5, seq := 9, st := .waitRoom, need := [0] })) line0), 3, 5, 9, live.setKey 3 5, 15, cmdKey 0 16383, line0, { wr0 with lba := 5, seq := 9, st := .waitRoom, need := [0] }, by refine ⟨?_, ?_, ?_, ?_, ?_, ?_, ?_, ?_, ?_⟩ <;> first | decide +kernel | rfl | simp⟩⟩

theorem witness_ReadEnds :
    (∃ (c : Chip) (key : Nat) (n : Nat) (k : HostCmd) (v : Volume) (b : Blk), c.ioWaits key 0x02 { k with st := .admitted } n v ∧ c.intake.cmds.get? key = some k ∧ v.lbaf = 0 ∧ k.bad = 0 ∧ k.count = 1 ∧ k.got = [(0, b)] ∧ k.fwd = none ∧ k.silent = false) ∧
    (∃ (c : Chip) (key : Nat) (k : HostCmd) (b : Blk) (x : Blk), c.intake.cmds.get? key = some k ∧ k.sqe.opc = 0x05 ∧ k.bad = 0 ∧ k.count = 1 ∧ k.got = [(0, b)] ∧ k.blocks = [(0, x)] ∧ k.fwd = none ∧ k.silent = false) ∧
    (∃ (c : Chip) (key : Nat) (k : HostCmd), c.intake.cmds.get? key = some k ∧ k.bad ≠ 0 ∧ k.fwd = none ∧ k.silent = false) :=
  ⟨⟨withVol (withCmd live (cmdKey 0 16383) { ioOf 2 with st := .admitted, got := [(0, blk0)] }), cmdKey 0 16383, 3, { ioOf 2 with got := [(0, blk0)] }, vol0, blk0, by refine ⟨?_, ?_, ?_, ?_, ?_, ?_, ?_, ?_⟩ <;> decide +kernel⟩,
   ⟨withVol (withCmd live (cmdKey 0 16383) { ioOf 5 with got := [(0, blk0)], blocks := [(0, blk0)] }), cmdKey 0 16383, { ioOf 5 with got := [(0, blk0)], blocks := [(0, blk0)] }, blk0, blk0, by refine ⟨?_, ?_, ?_, ?_, ?_, ?_, ?_, ?_⟩ <;> decide +kernel⟩,
   ⟨withVol (withCmd live (cmdKey 0 16383) { ioOf 2 with bad := 0x281 }), cmdKey 0 16383, { ioOf 2 with bad := 0x281 }, by refine ⟨?_, ?_, ?_, ?_⟩ <;> decide +kernel⟩⟩

theorem witness_ReservationRows :
    (∃ (s : State) (isl : Nat) (tag : Nat) (n : Nat) (k : HostCmd) (v : Volume), Live .network s ∧ s.chip.ioWaits (cmdKey isl tag) 0x0D k n v ∧ k.sqe.cdw10 % 8 = 0 ∧ k.sqe.cdw10 / 2 ^ 30 % 4 = 0 ∧ v.keyOf k.ident = none ∧ v.registrants.length < 64) ∧
    (∃ (s : State) (isl : Nat) (tag : Nat) (n : Nat) (x : Nat) (k : HostCmd) (v : Volume), Live .network s ∧ s.chip.ioWaits (cmdKey isl tag) 0x11 k n v ∧ k.sqe.cdw10 % 8 = 0 ∧ v.keyOf k.ident = some x ∧ x = unle ((k.blocks.getD 0 ⟨[], 0⟩).data.take 8) ∧ 1 ≤ k.sqe.cdw10 / 256 % 256 ∧ k.sqe.cdw10 / 256 % 256 ≤ 6 ∧ v.resvType = 0) ∧
    (∃ (s : State) (isl : Nat) (tag : Nat) (n : Nat) (k : HostCmd) (v : Volume), Live .network s ∧ s.chip.ioWaits (cmdKey isl tag) 0x11 k n v ∧ k.sqe.cdw10 % 8 = 0 ∧ v.keyOf k.ident = none) ∧
    (∃ (s : State) (isl : Nat) (tag : Nat) (n : Nat) (x : Nat) (k : HostCmd) (v : Volume), Live .network s ∧ s.chip.ioWaits (cmdKey isl tag) 0x15 k n v ∧ k.sqe.cdw10 % 8 = 0 ∧ v.keyOf k.ident = some x ∧ x = unle ((k.blocks.getD 0 ⟨[], 0⟩).data.take 8) ∧ v.holder = some k.ident ∧ (v.resvType = 1 ∨ v.resvType = 2) ∧ k.sqe.cdw10 / 256 % 256 = v.resvType) ∧
    (∃ (s : State) (isl : Nat) (tag : Nat) (n : Nat) (k : HostCmd) (v : Volume), Live .network s ∧ s.chip.ioWaits (cmdKey isl tag) 0x0E k n v ∧ bit k.sqe.cdw11 0 = true ∧ v.registrants = []) ∧
    (∃ (s : State) (tag : Nat) (k : HostCmd) (n : Conn), Live .network s ∧ s.chip.adminWaits tag 0x08 k n ∧ n.connected = true ∧ s.chip.intake.cmds = [(cmdKey 0 tag, k)] ∧ s.chip.intake.forwards = [] ∧ (∀ e ∈ s.chip.conns, ¬ (e.2.connected = true ∧ e.2.ctrl = n.ctrl ∧ e.2.qid = k.sqe.cdw10 % 65536))) ∧
    (∃ (s : State) (tag : Nat) (key : Nat) (ctx : Nat) (k : HostCmd) (x : HostCmd) (n : Conn) (m : Conn), Live .network s ∧ s.chip.adminWaits tag 0x08 k n ∧ n.connected = true ∧ s.chip.intake.cmds = [(cmdKey 0 tag, k), (key, x)] ∧ key ≠ cmdKey 0 tag ∧ s.chip.intake.forwards = [] ∧ s.chip.conns.first? (fun _ m => m.connected && m.ctrl = n.ctrl && m.qid = k.sqe.cdw10 % 65536) = some (ctx, m) ∧ k.ctx ≠ ctx ∧ x.ctx = ctx ∧ x.sqe.cid = k.sqe.cdw10 / 65536 ∧ x.fwd = none ∧ x.silent = false ∧ x.abortable = true) :=
  ⟨⟨W (withVol (withCmd live (cmdKey 0 16383) { ioOf 0x0D with blocks := [(0, blk0)] })), 0, 16383, 3, { ioOf 0x0D with blocks := [(0, blk0)] }, vol0, by refine ⟨?_, ?_, ?_, ?_, ?_, ?_⟩ <;> decide +kernel⟩,
   ⟨W (withVol (withCmd live (cmdKey 0 16383) { ioOf 0x11 with sqe := { sqe0 with opc := 0x11, cdw10 := 6 * 256 }, blocks := [(0, ⟨zeros 16, 0⟩)] }) { vol0 with registrants := [(77, 0)] }), 0, 16383, 3, 0, { ioOf 0x11 with sqe := { sqe0 with opc := 0x11, cdw10 := 6 * 256 }, blocks := [(0, ⟨zeros 16, 0⟩)] }, { vol0 with registrants := [(77, 0)] }, by refine ⟨?_, ?_, ?_, ?_, ?_, ?_, ?_, ?_⟩ <;> decide +kernel⟩,
   ⟨W (withVol (withCmd live (cmdKey 0 16383) (ioOf 0x11))), 0, 16383, 3, ioOf 0x11, vol0, by refine ⟨?_, ?_, ?_, ?_⟩ <;> decide +kernel⟩,
   ⟨W (withVol (withCmd live (cmdKey 0 16383) { ioOf 0x15 with sqe := { sqe0 with opc := 0x15, cdw10 := 2 * 256 }, blocks := [(0, ⟨zeros 16, 0⟩)] }) { vol0 with registrants := [(77, 0)], holder := some 77, resvType := 2 }), 0, 16383, 3, 0, { ioOf 0x15 with sqe := { sqe0 with opc := 0x15, cdw10 := 2 * 256 }, blocks := [(0, ⟨zeros 16, 0⟩)] }, { vol0 with registrants := [(77, 0)], holder := some 77, resvType := 2 }, by refine ⟨?_, ?_, ?_, ?_, ?_, ?_, ?_, ?_⟩ <;> decide +kernel⟩,
   ⟨W (withVol (withCmd live (cmdKey 0 16383) { ioOf 0x0E with sqe := { sqe0 with opc := 0x0E, cdw10 := 15, cdw11 := 1 } })), 0, 16383, 3, { ioOf 0x0E with sqe := { sqe0 with opc := 0x0E, cdw10 := 15, cdw11 := 1 } }, vol0, by refine ⟨?_, ?_, ?_, ?_⟩ <;> decide +kernel⟩,
   ⟨W (withAdmin live { admin0 8 with sqe := { sqe0 with opc := 8, cdw10 := 5 } }), 16383, { admin0 8 with sqe := { sqe0 with opc := 8, cdw10 := 5 } }, adminConn0, by refine ⟨?_, ?_, ?_, ?_, ?_, ?_⟩ <;> decide +kernel⟩,
   ⟨W ({ withAdmin live { admin0 8 with sqe := { sqe0 with opc := 8, cdw10 := 1 + 7 * 65536 } } with intake := { live.intake with cmds := [(cmdKey 0 16383, { admin0 8 with sqe := { sqe0 with opc := 8, cdw10 := 1 + 7 * 65536 } }), (cmdKey 1 0, { ioOf 2 with ctx := 5 })] }, conns := [(5, conn0), (131071, adminConn0)] }), 16383, cmdKey 1 0, 5, { admin0 8 with sqe := { sqe0 with opc := 8, cdw10 := 1 + 7 * 65536 } }, { ioOf 2 with ctx := 5 }, adminConn0, conn0, by refine ⟨?_, ?_, ?_, ?_, ?_, ?_, ?_, ?_, ?_, ?_, ?_, ?_, ?_⟩ <;> decide +kernel⟩⟩

theorem witness_ControllerRows :
    (∃ (s : State) (tag : Nat) (host : Nat) (pad : Nat) (k : HostCmd) (n : Conn) (data : Bytes), Live .network s ∧ s.chip.adminWaits tag 0x7F k n ∧ k.sqe.fctype = 1 ∧ n.connected = false ∧ k.sqe.cdw10 = 0 ∧ 1 ≤ k.sqe.cdw11 % 65536 ∧ k.sqe.cdw11 % 65536 ≤ 31 ∧ 1024 ≤ k.dataLen ∧ data = (k.blocks.getD 0 ⟨[], 0⟩).data ∧ unle ((data.drop 16).take 2) = 0xFFFF ∧ s.chip.access n (nameAt data 256) (nqnHashOf (nameAt data 512)) = .host host pad ∧ host ≠ 0xFFFF ∧ s.chip.ctrls = []) ∧
    (∃ (s : State) (tag : Nat) (host : Nat) (pad : Nat) (cntlid : Nat) (k : HostCmd) (n : Conn) (t : Ctrl) (data : Bytes), Live .network s ∧ s.chip.adminWaits tag 0x7F k n ∧ k.sqe.fctype = 1 ∧ n.connected = false ∧ k.sqe.cdw10 % 65536 = 0 ∧ 1 ≤ k.sqe.cdw10 / 65536 ∧ k.sqe.cdw10 / 65536 ≤ 128 ∧ 1 ≤ k.sqe.cdw11 % 65536 ∧ k.sqe.cdw11 % 65536 ≤ 1023 ∧ 1024 ≤ k.dataLen ∧ data = (k.blocks.getD 0 ⟨[], 0⟩).data ∧ unle ((data.drop 16).take 2) = cntlid ∧ s.chip.access n (nameAt data 256) (nqnHashOf (nameAt data 512)) = .host host pad ∧ host ≠ 0xFFFF ∧ s.chip.ctrls.get? cntlid = some t ∧ t.discovery = false ∧ t.paddock = pad ∧ t.hostIdent = unle (data.take 16) ∧ t.nqnHash = nqnHashOf (nameAt data 512) ∧ (∀ e ∈ s.chip.conns, ¬ (e.2.connected = true ∧ e.2.ctrl = cntlid ∧ e.2.qid = k.sqe.cdw10 / 65536))) ∧
    (∃ (s : State) (tag : Nat) (k : HostCmd) (n : Conn) (data : Bytes), Live .network s ∧ s.chip.adminWaits tag 0x7F k n ∧ k.sqe.fctype = 1 ∧ n.connected = false ∧ k.sqe.cdw10 % 65536 = 0 ∧ 1024 ≤ k.dataLen ∧ data = (k.blocks.getD 0 ⟨[], 0⟩).data ∧ s.chip.access n (nameAt data 256) (nqnHashOf (nameAt data 512)) = .refused stConnectHost) ∧
    (∃ (s : State) (tag : Nat) (k : HostCmd) (n : Conn), Live .network s ∧ s.chip.adminWaits tag 0x7F k n ∧ k.sqe.fctype = 8 ∧ n.connected = true) ∧
    (∃ (s : State) (tag : Nat) (k : HostCmd) (n : Conn) (t : Ctrl) (x : Nat × Nat × Nat), Live .network s ∧ s.chip.ctrlWaits tag 0x7F k n t ∧ k.sqe.fctype = 4 ∧ x ∈ [(0x00, 1, capValue), (0x08, 0, 0x20000), (0x14, 0, t.cc), (0x1C, 0, t.csts)] ∧ k.sqe.cdw11 = x.1 ∧ k.sqe.cdw10 % 8 = x.2.1) ∧
    (∃ (s : State) (tag : Nat) (k : HostCmd) (n : Conn) (t : Ctrl), Live .network s ∧ s.chip.ctrlWaits tag 0x7F k n t ∧ k.sqe.fctype = 0 ∧ k.sqe.cdw11 = 0x14 ∧ k.sqe.cdw10 % 8 = 0) ∧
    (∃ (s : State) (tag : Nat) (k : HostCmd) (n : Conn) (t : Ctrl), Live .network s ∧ s.chip.ctrlWaits tag 0x18 k n t) ∧
    (∃ (s : State) (i : Nat) (ctx : Nat) (t : Ctrl) (n : Conn), Live .network s ∧ s.chip.ctrls.get? i = some t ∧ t.kato ≠ 0 ∧ s.chip.conns = [(ctx, n)] ∧ n.connected = true ∧ n.ctrl = i ∧ n.state = .opened) ∧
    (∃ (s : State) (tag : Nat) (k : HostCmd) (n : Conn) (t : Ctrl), Live .network s ∧ s.chip.ctrlWaits tag 0x06 k n t ∧ k.sqe.cdw10 % 256 = 0x01) ∧
    (∃ (s : State) (tag : Nat) (vol : Nat) (k : HostCmd) (n : Conn) (t : Ctrl) (v : Volume), Live .network s ∧ s.chip.ctrlWaits tag 0x06 k n t ∧ k.sqe.cdw10 % 256 = 0x00 ∧ t.discovery = false ∧ s.chip.activeNs t = [(k.sqe.nsid, vol)] ∧ s.chip.vols.get? vol = some v) ∧
    (∃ (s : State) (tag : Nat) (k : HostCmd) (n : Conn) (t : Ctrl) (t' : Ctrl) (b : Bytes), Live .network s ∧ s.chip.ctrlWaits tag 0x02 k n t ∧ k.volume = none ∧ s.chip.logPage (k.sqe.cdw10 % 256) (k.sqe.cdw10 / 256 % 128) t = some (b, t') ∧ k.sqe.cdw12 = 0 ∧ k.sqe.cdw13 = 0) ∧
    (∃ (s : State) (tag : Nat) (k : HostCmd) (n : Conn) (t : Ctrl) (x : Nat × Ctrl), Live .network s ∧ s.chip.ctrlWaits tag 0x09 k n t ∧ x ∈ [(0x0B, { t with aenCfg := k.sqe.cdw11 }), (0x0F, { t with kato := katoOf k.sqe.cdw11, kaAt := s.chip.clk }), (0x82, { t with resvMask := k.sqe.cdw11 })] ∧ k.sqe.cdw10 % 256 = x.1) ∧
    (∃ (s : State) (tag : Nat) (k : HostCmd) (n : Conn) (t : Ctrl) (x : Nat × Nat), Live .network s ∧ s.chip.ctrlWaits tag 0x0A k n t ∧ x ∈ [(0x07, 127 + 127 * 65536), (0x0B, t.aenCfg), (0x0F, t.kato), (0x82, t.resvMask)] ∧ k.sqe.cdw10 % 256 = x.1) ∧
    (∃ (s : State) (tag : Nat) (e : Nat) (k : HostCmd) (n : Conn) (t : Ctrl) (rest : List Nat), Live .network s ∧ s.chip.ctrlWaits tag 0x0C k n t ∧ t.aenWait = e :: rest) ∧
    (∃ (s : State) (tag : Nat) (k : HostCmd) (n : Conn) (t : Ctrl), Live .network s ∧ s.chip.ctrlWaits tag 0x0C k n t ∧ t.aenWait = [] ∧ t.aerHeld = []) ∧
    (∃ (s : State) (tag : Nat) (flock : Nat) (acres : Nat) (k : HostCmd) (n : Conn) (t : Ctrl) (data : Bytes), Live .network s ∧ s.chip.ctrlWaits tag 0x0D k n t ∧ t.discovery = false ∧ k.sqe.cdw10 % 16 = 0 ∧ data = (k.blocks.getD 0 ⟨[], 0⟩).data ∧ unle ((data.drop 92).take 4) = 1 ∧ unle ((data.drop 26).take 1) % 16 = 0 ∧ acres = ceilDiv (unle (data.take 8)) 1024 ∧ 1 ≤ acres ∧ acres < 2 ^ 40 ∧ s.chip.stripes.flocks.keys = [flock] ∧ s.chip.cipher.pads.has t.paddock = true ∧ s.chip.vols = [] ∧ s.chip.allEntries = []) ∧
    (∃ (s : State) (tag : Nat) (ns : Nat) (vol : Nat) (i : Nat) (k : HostCmd) (n : Conn) (t : Ctrl) (u : Ctrl) (v : Volume) (data : Bytes), Live .network s ∧ s.chip.ctrlWaits tag 0x15 k n t ∧ t.discovery = false ∧ k.sqe.cdw10 % 16 = 0 ∧ (s.chip.allNs t.paddock).find? (fun x => x.1 = k.sqe.nsid) = some (ns, vol) ∧ s.chip.vols.get? vol = some v ∧ data = (k.blocks.getD 0 ⟨[], 0⟩).data ∧ unle (data.take 2) = 1 ∧ unle ((data.drop 2).take 2) = i ∧ s.chip.ctrls.get? i = some u ∧ u.discovery = false ∧ u.paddock = t.paddock ∧ s.chip.grants.get? (grantKey u.host ns) = none ∧ (∀ e ∈ s.chip.ctrls, e.2.aerHeld = [])) :=
  ⟨⟨W (withConnect live (connect0 0xFFFF 0 31) []), 16383, 1, 1, connect0 0xFFFF 0 31, newConn0, connectData 0xFFFF, by refine ⟨?_, ?_, ?_, ?_, ?_, ?_, ?_, ?_, ?_, ?_, ?_, ?_, ?_⟩ <;> first | decide +kernel | rfl | exact access0 _ _ _ (by decide +kernel) | simp⟩,
   ⟨W (withConnect live (connect0 1 128 1023) [(1, { ctrl0 with nqnHash := nqnHashOf [104] })]), 16383, 1, 1, 1, connect0 1 128 1023, newConn0, { ctrl0 with nqnHash := nqnHashOf [104] }, connectData 1, by refine ⟨?_, ?_, ?_, ?_, ?_, ?_, ?_, ?_, ?_, ?_, ?_, ?_, ?_, ?_, ?_, ?_, ?_, ?_, ?_, ?_⟩ <;> first | decide +kernel | rfl | exact access0 _ _ _ (by decide +kernel) | simp⟩,
   ⟨W ({ withConnect live (connect0 1 0 31) [] with paddocks := [] }), 16383, connect0 1 0 31, newConn0, connectData 1, by refine ⟨?_, ?_, ?_, ?_, ?_, ?_, ?_, ?_⟩ <;> first | decide +kernel | rfl | exact access0 _ _ _ (by decide +kernel) | simp⟩,
   ⟨W (withAdmin live { admin0 0x7F with sqe := { sqe0 with opc := 0x7F, fctype := 8 } }), 16383, { admin0 0x7F with sqe := { sqe0 with opc := 0x7F, fctype := 8 } }, adminConn0, by refine ⟨?_, ?_, ?_, ?_⟩ <;> first | decide +kernel | rfl | exact access0 _ _ _ (by decide +kernel) | simp⟩,
   ⟨W (withAdmin live { admin0 0x7F with sqe := { sqe0 with opc := 0x7F, fctype := 4, cdw11 := 0x1C } }), 16383, { admin0 0x7F with sqe := { sqe0 with opc := 0x7F, fctype := 4, cdw11 := 0x1C } }, adminConn0, ctrl0, (0x1C, 0, ctrl0.csts), by refine ⟨?_, ?_, ?_, ?_, ?_, ?_⟩ <;> first | decide +kernel | rfl | exact access0 _ _ _ (by decide +kernel) | simp⟩,
   ⟨W (withAdmin live { admin0 0x7F with sqe := { sqe0 with opc := 0x7F, cdw11 := 0x14, cdw12 := 0x4001 } }), 16383, { admin0 0x7F with sqe := { sqe0 with opc := 0x7F, cdw11 := 0x14, cdw12 := 0x4001 } }, adminConn0, ctrl0, by refine ⟨?_, ?_, ?_, ?_, ?_⟩ <;> first | decide +kernel | rfl | exact access0 _ _ _ (by decide +kernel) | simp⟩,
   ⟨W (withAdmin live (admin0 0x18)), 16383, admin0 0x18, adminConn0, ctrl0, by refine ⟨?_, ?_⟩ <;> first | decide +kernel | rfl | exact access0 _ _ _ (by decide +kernel) | simp⟩,
   ⟨W (withAdmin live (admin0 0x18)), 1, 131071, ctrl0, adminConn0, by refine ⟨?_, ?_, ?_, ?_, ?_, ?_, ?_⟩ <;> first | decide +kernel | rfl | exact access0 _ _ _ (by decide +kernel) | simp⟩,
   ⟨W (withAdmin live { admin0 6 with sqe := { sqe0 with opc := 6, cdw10 := 1 } }), 16383, { admin0 6 with sqe := { sqe0 with opc := 6, cdw10 := 1 } }, adminConn0, ctrl0, by refine ⟨?_, ?_, ?_⟩ <;> first | decide +kernel | rfl | exact access0 _ _ _ (by decide +kernel) | simp⟩,
   ⟨W (withVol (withAdmin live (admin0 6))), 16383, 3, admin0 6, adminConn0, ctrl0, vol0, by refine ⟨?_, ?_, ?_, ?_, ?_, ?_⟩ <;> first | decide +kernel | rfl | exact access0 _ _ _ (by decide +kernel) | simp⟩,
   ⟨W (withAdmin live { admin0 2 with sqe := { sqe0 with opc := 2, cdw10 := 4 + 2 ^ 15 + 255 * 65536 } }), 16383, { admin0 2 with sqe := { sqe0 with opc := 2, cdw10 := 4 + 2 ^ 15 + 255 * 65536 } }, adminConn0, ctrl0, ((live.logPage 4 0 ctrl0).elim ctrl0 (·.2)), ((live.logPage 4 0 ctrl0).elim [] (·.1)), by refine ⟨?_, ?_, ?_, ?_, ?_, ?_⟩ <;> first | decide +kernel | rfl | exact access0 _ _ _ (by decide +kernel) | simp⟩,
   ⟨W (withAdmin live { admin0 9 with sqe := { sqe0 with opc := 9, cdw10 := 0x0F, cdw11 := 5000 } }), 16383, { admin0 9 with sqe := { sqe0 with opc := 9, cdw10 := 0x0F, cdw11 := 5000 } }, adminConn0, ctrl0, (0x0F, { ctrl0 with kato := katoOf 5000, kaAt := live.clk }), by refine ⟨?_, ?_, ?_, ?_⟩ <;> first | decide +kernel | rfl | exact access0 _ _ _ (by decide +kernel) | simp⟩,
   ⟨W (withAdmin live { admin0 10 with sqe := { sqe0 with opc := 10, cdw10 := 0x82 } }), 16383, { admin0 10 with sqe := { sqe0 with opc := 10, cdw10 := 0x82 } }, adminConn0, ctrl0, (0x82, ctrl0.resvMask), by refine ⟨?_, ?_, ?_, ?_⟩ <;> first | decide +kernel | rfl | exact access0 _ _ _ (by decide +kernel) | simp⟩,
   ⟨W ({ withAdmin live (admin0 12) with ctrls := [(1, { ctrl0 with aenWait := [5, 6] })] }), 16383, 5, admin0 12, adminConn0, { ctrl0 with aenWait := [5, 6] }, [6], by refine ⟨?_, ?_, ?_⟩ <;> first | decide +kernel | rfl | exact access0 _ _ _ (by decide +kernel) | simp⟩,
   ⟨W (withAdmin live (admin0 12)), 16383, admin0 12, adminConn0, ctrl0, by refine ⟨?_, ?_, ?_, ?_⟩ <;> first | decide +kernel | rfl | exact access0 _ _ _ (by decide +kernel) | simp⟩,
   ⟨W ({ withFlock (withAdmin live { admin0 13 with blocks := [(0, ⟨le 8 1024 ++ zeros 84 ++ le 4 1 ++ zeros 288, 0⟩)] }) with cipher := { live.cipher with pads := [(1, padKey0)] } }), 16383, 0, 1, { admin0 13 with blocks := [(0, ⟨le 8 1024 ++ zeros 84 ++ le 4 1 ++ zeros 288, 0⟩)] }, adminConn0, ctrl0, le 8 1024 ++ zeros 84 ++ le 4 1 ++ zeros 288, by refine ⟨?_, ?_, ?_, ?_, ?_, ?_, ?_, ?_, ?_, ?_, ?_, ?_, ?_, ?_⟩ <;> first | decide +kernel | rfl | exact access0 _ _ _ (by decide +kernel) | simp⟩,
   ⟨W ({ withVol (withAdmin live { admin0 0x15 with blocks := [(0, ⟨le 2 1 ++ le 2 1 ++ zeros 4092, 0⟩)] }) with grants := [] }), 16383, 1, 3, 1, { admin0 0x15 with blocks := [(0, ⟨le 2 1 ++ le 2 1 ++ zeros 4092, 0⟩)] }, adminConn0, ctrl0, ctrl0, vol0, le 2 1 ++ le 2 1 ++ zeros 4092, by refine ⟨?_, ?_, ?_, ?_, ?_, ?_, ?_, ?_, ?_, ?_, ?_, ?_, ?_, ?_⟩ <;> first | decide +kernel | rfl | exact access0 _ _ _ (by decide +kernel) | simp⟩⟩

theorem witness_VolumeRows :
    (∃ (s : State) (h : Hdr) (p : Nat) (nqn : Bytes), p < 2048 ∧ 1 ≤ nqn.length ∧ nqn.length ≤ 223 ∧ s.chip.paddocks.has p = false ∧ (∀ e ∈ s.chip.paddocks, e.2.nqn ≠ nqn) ∧ Ready s ⟨0x0100, true, .w, paramBytes [2, 2] + 4 + nqn.length⟩ h [p] ∧ PairOk s h) ∧
    (∃ (s : State) (h : Hdr) (p : Nat), p < 2048 ∧ s.chip.paddocks.has p = true ∧ (∀ v ∈ s.chip.vols, v.2.paddock ≠ p) ∧ (∀ x ∈ s.chip.hosts, x.2.paddock ≠ p) ∧ Ready s ⟨0x0101, true, .w, paramBytes [2]⟩ h [p] ∧ PairOk s h) ∧
    (∃ (s : State) (h : Hdr) (p : Nat), p < 2048 ∧ s.chip.paddocks.has p = true ∧ Ready s ⟨0x0102, true, .w, paramBytes [2, 4]⟩ h [p] ∧ PairOk s h) ∧
    (∃ (s : State) (h : Hdr) (p : Nat) (i : Nat), p < 2048 ∧ s.chip.paddocks.has p = true ∧ s.chip.cipher.erases.has p = false ∧ importGuards s.chip p = none ∧ h.src ≠ .partner ∧ s.chip.loSlot = some i ∧ i < 64 ∧ Ready s ⟨0x0103, true, .l, paramBytes [2, 1]⟩ h [p] ∧ PairOk s h) ∧
    (∃ (s : State) (h : Hdr) (p : Nat), p < 2048 ∧ s.chip.paddocks.has p = true ∧ Ready s ⟨0x0104, false, .r, paramBytes [2]⟩ h [p]) ∧
    (∃ (s : State) (h : Hdr) (volume : Nat) (p : Nat) (nsid : Nat) (fold : Nat) (flock : Nat) (acres : Nat) (f : Flock), volume < 32768 ∧ p < 2048 ∧ 1 ≤ nsid ∧ nsid ≤ 65535 ∧ fold < 8 ∧ flock < 4 ∧ 1 ≤ acres ∧ acres < 2 ^ 40 ∧ s.chip.paddocks.has p = true ∧ s.chip.flock? flock = some f ∧ s.chip.cipher.pads.has p = true ∧ s.chip.volumeHeld volume = false ∧ s.chip.lineageInUse volume = false ∧ s.chip.nsidHeld p nsid = false ∧ Ready s ⟨0x0110, true, .w, paramBytes [2, 2, 2, 1, 1, 8]⟩ h [p] ∧ PairOk s h) ∧
    (∃ (s : State) (h : Hdr) (volume : Nat) (v : Volume), volume < 32768 ∧ s.chip.vols.get? volume = some v ∧ (∀ g ∈ s.chip.grants, g.2.volume ≠ volume) ∧ s.chip.stageHere v.fold = true ∧ Ready s ⟨0x0111, true, .w, paramBytes [2]⟩ h [] ∧ PairOk s h) ∧
    (∃ (s : State) (h : Hdr) (volume : Nat) (acres : Nat) (v : Volume), s.chip.vols.get? volume = some v ∧ v.acres ≤ acres ∧ 1 ≤ acres ∧ acres < 2 ^ 40 ∧ Ready s ⟨0x0112, true, .w, paramBytes [2, 8]⟩ h [] ∧ PairOk s h) ∧
    (∃ (s : State) (h : Hdr) (source : Nat) (volume : Nat) (nsid : Nat) (w : Bool) (v : Volume) (x : Instr), x ∈ [if w then Instr.cloneCreate h source volume nsid else Instr.snapshotCreate h source volume nsid] ∧ s.chip.vols.get? source = some v ∧ volume < 32768 ∧ 1 ≤ nsid ∧ nsid ≤ 65535 ∧ s.chip.volumeHeld volume = false ∧ s.chip.lineageInUse volume = false ∧ s.chip.nsidHeld v.paddock nsid = false ∧ v.epoch + v.advances < 2 ^ 20 - 1 ∧ v.childAncestry.length ≤ 8 ∧ (s.chip.pendingMembers.filter (fun y => y.2.1 = v.lineage)).length < (s.chip.freeMembers v.lineage).length ∧ Ready s (memberInfo w) h [] ∧ PairOk s h) ∧
    (∃ (s : State) (h : Hdr) (volume : Nat), volume < 32768 ∧ s.chip.vols.has volume = true ∧ Ready s ⟨0x0115, true, .w, paramBytes [2, 4]⟩ h [] ∧ PairOk s h) ∧
    (∃ (s : State) (h : Hdr) (volume : Nat) (i : Nat) (v : Volume), s.chip.vols.get? volume = some v ∧ v.ancestry ≠ [] ∧ v.writable = true ∧ (∀ x ∈ s.chip.membersOf v.lineage, ∀ y ∈ x.ancestry, y.1 ≠ v.member) ∧ s.chip.stripes.bg = [] ∧ s.chip.loSlot = some i ∧ i < 64 ∧ s.chip.flag TWIN_FOLD_STAT_gate_open v.fold = true ∧ Ready s ⟨0x0116, true, .l, paramBytes [2]⟩ h [] ∧ PairOk s h) ∧
    (∃ (s : State) (h : Hdr) (volume : Nat) (v : Volume), s.chip.vols.get? volume = some v ∧ Ready s ⟨0x0117, false, .r, paramBytes [2]⟩ h []) ∧
    (∃ (s : State) (h : Hdr) (host : Nat) (p : Nat) (n : Nat) (pfx : List HostPrefix) (identity : Bytes), host < 4096 ∧ p < 2048 ∧ n ≤ 4 ∧ identity.length ≤ 128 ∧ prefixRefusal (pfx.take n) = none ∧ s.chip.paddocks.has p = true ∧ Ready s ⟨0x0200, true, .w, paramBytes [2, 2, 2, 1, 1, 8] + 96 + identity.length⟩ h [p] ∧ PairOk s h) ∧
    (∃ (s : State) (h : Hdr) (host : Nat), host < 4096 ∧ s.chip.hosts.has host = true ∧ Ready s ⟨0x0201, true, .w, paramBytes [2]⟩ h [] ∧ PairOk s h) ∧
    (∃ (s : State) (h : Hdr) (host : Nat) (e : HostEntry), s.chip.hosts.get? host = some e ∧ Ready s ⟨0x0202, false, .r, paramBytes [2]⟩ h []) ∧
    (∃ (s : State) (h : Hdr) (host : Nat) (band : Nat), host < 4096 ∧ band < 4 ∧ Ready s ⟨0x0204, true, .w, paramBytes [2, 1, 4]⟩ h [] ∧ PairOk s h) ∧
    (∃ (s : State) (h : Hdr) (host : Nat) (volume : Nat) (mode : Nat) (e : HostEntry) (v : Volume), s.chip.hosts.get? host = some e ∧ s.chip.vols.get? volume = some v ∧ v.paddock = e.paddock ∧ mode < 2 ∧ (v.writable = false → mode = 1) ∧ s.chip.grants.get? (grantKey host v.nsid) = none ∧ s.chip.grants.length < s.chip.maxGrants ∧ Ready s ⟨0x0210, true, .w, paramBytes [2, 2, 2, 1]⟩ h [] ∧ PairOk s h) ∧
    (∃ (s : State) (h : Hdr) (host : Nat) (nsid : Nat), host < 4096 ∧ s.chip.grants.has (grantKey host nsid) = true ∧ Ready s ⟨0x0211, true, .w, paramBytes [2, 2]⟩ h [] ∧ PairOk s h) ∧
    (∃ (s : State) (h : Hdr) (host : Nat) (nsid : Nat) (g : Grant), host < 4096 ∧ nsid < 65536 ∧ s.chip.grants = [(grantKey host nsid, g)] ∧ Ready s ⟨0x0212, false, .r, paramBytes [2, 2]⟩ h []) :=
  ⟨⟨W (live), hd, 2047, List.replicate 223 65, by refine ⟨?_, ?_, ?_, ?_, ?_, ?_, ?_⟩ <;> decide +kernel⟩,
   ⟨W ({ live with paddocks := [(2047, ⟨[]⟩)] }), hd, 2047, by refine ⟨?_, ?_, ?_, ?_, ?_, ?_⟩ <;> decide +kernel⟩,
   ⟨W ({ live with paddocks := [(2047, ⟨[]⟩)] }), hd, 2047, by refine ⟨?_, ?_, ?_, ?_⟩ <;> decide +kernel⟩,
   ⟨W ({ live.set CIPH_STATUS_debug_open 1 with paddocks := [(2047, ⟨[]⟩)], cipher := { live.cipher with kek := some (9, [1]), pads := [(2047, padKey0)] } }), hd, 2047, 0, by refine ⟨?_, ?_, ?_, ?_, ?_, ?_, ?_, ?_, ?_⟩ <;> decide +kernel⟩,
   ⟨W ({ live with paddocks := [(2047, ⟨[]⟩)] }), hd, 2047, by refine ⟨?_, ?_, ?_⟩ <;> decide +kernel⟩,
   ⟨W ({ withFlock live with paddocks := [(2047, ⟨[]⟩)], cipher := { live.cipher with pads := [(2047, padKey0)] } }), hd, 32767, 2047, 65535, 7, 0, 2 ^ 40 - 1, flock0, by refine ⟨?_, ?_, ?_, ?_, ?_, ?_, ?_, ?_, ?_, ?_, ?_, ?_, ?_, ?_, ?_, ?_⟩ <;> decide +kernel⟩,
   ⟨W ({ live with vols := [(32767, vol0)] }), hd, 32767, vol0, by refine ⟨?_, ?_, ?_, ?_, ?_, ?_⟩ <;> decide +kernel⟩,
   ⟨W ({ live with vols := [(32767, vol0)] }), hd, 32767, 2 ^ 40 - 1, vol0, by refine ⟨?_, ?_, ?_, ?_, ?_, ?_⟩ <;> decide +kernel⟩,
   ⟨W ({ live with vols := [(3, vol0)] }), hd, 3, 32767, 65535, false, vol0, Instr.snapshotCreate hd 3 32767 65535, by refine ⟨?_, ?_, ?_, ?_, ?_, ?_, ?_, ?_, ?_, ?_, ?_, ?_, ?_⟩ <;> first | decide +kernel | rfl | simp⟩,
   ⟨W ({ live with vols := [(32767, vol0)] }), hd, 32767, by refine ⟨?_, ?_, ?_, ?_⟩ <;> decide +kernel⟩,
   ⟨W ({ live.set TWIN_FOLD_STAT_gate_open 1 0 with vols := [(3, { vol0 with ancestry := [(0, 0)], member := 1 })] }), hd, 3, 0, { vol0 with ancestry := [(0, 0)], member := 1 }, by refine ⟨?_, ?_, ?_, ?_, ?_, ?_, ?_, ?_, ?_, ?_⟩ <;> decide +kernel⟩,
   ⟨W ({ live with vols := [(3, vol0)] }), hd, 3, vol0, by refine ⟨?_, ?_⟩ <;> decide +kernel⟩,
   ⟨W ({ live with paddocks := [(2047, ⟨[]⟩)] }), hd, 4095, 2047, 4, [⟨0, 0⟩], List.replicate 128 65, by refine ⟨?_, ?_, ?_, ?_, ?_, ?_, ?_, ?_⟩ <;> decide +kernel⟩,
   ⟨W ({ live with hosts := [(4095, ⟨1, 0, 5, none, []⟩)] }), hd, 4095, by refine ⟨?_, ?_, ?_, ?_⟩ <;> decide +kernel⟩,
   ⟨W ({ live with hosts := [(4095, ⟨1, 0, 5, none, []⟩)] }), hd, 4095, ⟨1, 0, 5, none, []⟩, by refine ⟨?_, ?_⟩ <;> decide +kernel⟩,
   ⟨W (live), hd, 4095, 3, by refine ⟨?_, ?_, ?_, ?_⟩ <;> decide +kernel⟩,
   ⟨W ({ live with hosts := [(4095, ⟨1, 0, 5, none, []⟩)], vols := [(3, vol0)] }), hd, 4095, 3, 1, ⟨1, 0, 5, none, []⟩, vol0, by refine ⟨?_, ?_, ?_, ?_, ?_, ?_, ?_, ?_, ?_⟩ <;> decide +kernel⟩,
   ⟨W ({ live with grants := [(grantKey 4095 1, ⟨3, false, 0⟩)], vols := [(3, vol0)] }), hd, 4095, 1, by refine ⟨?_, ?_, ?_, ?_⟩ <;> decide +kernel⟩,
   ⟨W ({ live with grants := [(grantKey 4095 65535, ⟨3, false, 0⟩)], vols := [(3, vol0)] }), hd, 4095, 65535, ⟨3, false, 0⟩, by refine ⟨?_, ?_, ?_, ?_⟩ <;> decide +kernel⟩⟩

theorem witness_MapRows :
    (∃ (s : State) (h : Hdr) (volume : Nat) (v : Volume), volume < 32768 ∧ s.chip.vols.get? volume = some v ∧ Ready s ⟨0x0300, false, .r, paramBytes [2, 8]⟩ h []) ∧
    (∃ (s : State) (h : Hdr) (flock : Nat) (pa : Nat) (f : Flock) (a : AcreRec), flock < 4 ∧ s.chip.flock? flock = some f ∧ f.acres.get? pa = some a ∧ Ready s ⟨0x0301, false, .r, paramBytes [1, 4]⟩ h []) ∧
    (∃ (s : State) (h : Hdr) (half : Nat) (k : Nat) (x : Nat) (i : Nat) (y : Nat × Nat), half < 2 ∧ k < 21 ∧ 10 ≤ x ∧ x ≤ 27 ∧ s.chip.rehashBusy half = false ∧ s.chip.drbgStopped = false ∧ s.chip.loSlot = some i ∧ i < 64 ∧ (s.chip.freeChunks half).find? (fun z => decide (2 ^ x * 64 ≤ z.2)) = some y ∧ Ready s ⟨0x0302, false, .l, paramBytes [1, 1, 1]⟩ h []) ∧
    (∃ (s : State) (h : Hdr) (half : Nat), half < 2 ∧ Ready s ⟨0x0303, false, .r, paramBytes [1]⟩ h []) ∧
    (∃ (s : State) (h : Hdr), s.chip.exchanging = false ∧ s.chip.map.paths = [] ∧ Ready s ⟨0x0C20, true, .w, paramBytes [2]⟩ h [] ∧ PairOk s h) ∧
    (∃ (s : State) (half : Nat), Live .up s ∧ half < 2) ∧
    (∃ (s : State) (half : Nat) (key : Nat) (e : PathEntry), Live .gated s ∧ s.chip.map.paths = [(key, e)] ∧ key % 2 = half ∧ e.flow = false ∧ s.chip.exchanging = false ∧ clamp 1 3600 (s.chip.get MAP_PATH_CFG_age_s) ≤ ahead 16 (s.chip.clk / second % 65536) e.stampS) ∧
    (∃ (s : State) (seq : Nat), Live .gated s ∧ s.chip.exchanging = true ∧ s.chip.map.foreignWait = [] ∧ seq = s.chip.nextLearning) ∧
    (∃ (s : State) (seq : Nat), Live .gated s ∧ s.chip.exchanging = true ∧ s.chip.map.foreignWait.has seq = false ∧ 0 < ahead 32 seq s.chip.nextLearning ∧ ahead 32 seq s.chip.nextLearning < 2 ^ 31) ∧
    (∃ (s : State), Live .gated s ∧ s.chip.exchanging = true) ∧
    (∃ (s : State) (i : Nat) (l : Learn) (v : Volume) (e : Entry), Live .work s ∧ s.chip.map.learns = [(i, l)] ∧ s.chip.vols.get? l.volume = some v ∧ l.queued = true ∧ l.placing = none ∧ s.chip.flag TWIN_FOLD_STAT_gate_open v.fold = true ∧ s.chip.enginePaused = false ∧ l.kind = 4 ∧ l.waiting = [] ∧ e = ⟨l.lineage, 0, l.acre, true, 0, 0, l.member, l.epoch⟩) ∧
    (∃ (s : State) (i : Nat) (key : Nat) (l : Learn) (v : Volume) (k : HostCmd), Live .work s ∧ s.chip.map.learns = [(i, l)] ∧ s.chip.vols.get? l.volume = some v ∧ l.queued = true ∧ l.placing = none ∧ s.chip.flag TWIN_FOLD_STAT_gate_open v.fold = true ∧ l.kind ≠ 4 ∧ s.chip.takeAcre v = none ∧ l.waiting = [key] ∧ s.chip.intake.cmds.get? key = some k ∧ k.fwd = none ∧ k.silent = false) ∧
    (∃ (s : State) (half : Nat) (n : Nat) (x : Rehash), Live .gated s ∧ s.chip.map.rehash.get? half = some x ∧ loState (s.chip.lo x.slot) = 2 ∧ s.chip.enginePaused = false ∧ (s.chip.map.fallback.getD half []).length + 4 * n ≤ s.chip.fallbackSize ∧ x.pos + n < 2 ^ (s.chip.table half x.k).s) ∧
    (∃ (s : State) (h : Hdr) (steps : Nat) (i : Nat), 1 ≤ steps ∧ steps < 16 ∧ s.chip.stripes.bg = [] ∧ s.chip.loSlot = some i ∧ i < 64 ∧ Ready s ⟨0x0413, false, .l, paramBytes [1]⟩ h []) ∧
    (∃ (s : State) (i : Nat), Live .work s ∧ s.chip.flag STRIPE_SHEAR_CFG_en = true ∧ s.chip.stripes.bg = [] ∧ s.chip.loSlot = some i ∧ i < 64) ∧
    (∃ (s : State) (n : Nat) (i : Nat) (o : BgOp) (op : LongOp), Live .gated s ∧ s.chip.stripes.bg = [(i, o)] ∧ o.kind = 5 ∧ o.step = 3 ∧ s.chip.bgRuns o = true ∧ n < o.todo.length ∧ s.chip.mgmt.ops.get? o.slot = some op ∧ op.cancelling = false) ∧
    (∃ (s : State) (volume : Nat) (n : Nat) (i : Nat) (o : BgOp) (v : Volume) (op : LongOp), Live .gated s ∧ s.chip.stripes.bg = [(i, o)] ∧ o.kind = 6 ∧ o.volume = volume ∧ o.step = 1 ∧ s.chip.vols.get? volume = some v ∧ s.chip.flag TWIN_FOLD_STAT_gate_open v.fold = true ∧ s.chip.bgRuns o = true ∧ o.pos + n < v.acres ∧ (∀ k, k < n → s.chip.entryOf v (o.pos + k) = none) ∧ s.chip.mgmt.ops.get? o.slot = some op ∧ op.cancelling = false) ∧
    (∃ (s : State) (flock : Nat) (pa : Nat) (f : Flock) (a : AcreRec) (g : AcreGone), Live .gated s ∧ s.chip.flock? flock = some f ∧ f.acres.get? pa = some a ∧ a.removed = some g ∧ s.chip.mayFree a g = true) ∧
    (∃ (s : State) (p : Nat) (k : PadKey), Live .up s ∧ s.chip.cipher.pads.get? p = some k ∧ s.chip.flag CIPH_CTL_auto_retire = true ∧ k.closed = false ∧ k.unusedHere = true ∧ k.gLo < k.gCur ∧ s.chip.stripes.drv = [] ∧ s.chip.cipher.waiting = []) ∧
    (∃ (s : State), Live .up s ∧ s.chip.flag MAP_CTL_en = true) :=
  ⟨⟨W (withVol live), hd, 3, vol0, by refine ⟨?_, ?_, ?_⟩ <;> decide +kernel⟩,
   ⟨W (withFlock live { flock0 with acres := [(9, acreRec0)] }), hd, 0, 9, { flock0 with acres := [(9, acreRec0)] }, acreRec0, by refine ⟨?_, ?_, ?_, ?_⟩ <;> decide +kernel⟩,
   ⟨W ((live.set CIPH_STATUS_drbg_ready 1)), hd, 1, 20, 10, 0, ((live.freeChunks 1).find? (fun z => decide (2 ^ 10 * 64 ≤ z.2))).getD (0, 0), by refine ⟨?_, ?_, ?_, ?_, ?_, ?_, ?_, ?_, ?_, ?_⟩ <;> decide +kernel⟩,
   ⟨W (live), hd, 1, by refine ⟨?_, ?_⟩ <;> decide +kernel⟩,
   ⟨W (live), hd, by refine ⟨?_, ?_, ?_, ?_⟩ <;> decide +kernel⟩,
   ⟨W (live.set MAP_LEARN_STAT_peak 9 1), 1, by refine ⟨?_, ?_⟩ <;> decide +kernel⟩,
   ⟨W ({ live with map := { live.map with paths := [(8 * 131070, ⟨0, 9, 1000, 8, false, (live.clk / second + 65536 - 3600) % 65536⟩)] } }), 0, 8 * 131070, ⟨0, 9, 1000, 8, false, (live.clk / second + 65536 - 3600) % 65536⟩, by refine ⟨?_, ?_, ?_, ?_, ?_, ?_⟩ <;> decide +kernel⟩,
   ⟨W (live.set MAP_STATUS_exchange_window 1), 0, by refine ⟨?_, ?_, ?_, ?_⟩ <;> decide +kernel⟩,
   ⟨W (live.set MAP_STATUS_exchange_window 1), 5, by refine ⟨?_, ?_, ?_, ?_, ?_⟩ <;> decide +kernel⟩,
   ⟨W (live.set MAP_STATUS_exchange_window 1), by refine ⟨?_, ?_⟩ <;> decide +kernel⟩,
   ⟨W (withVol (withLearn live learn0)), 5, learn0, vol0, ⟨3, 0, 3, true, 0, 0, 0, 0⟩, by refine ⟨?_, ?_, ?_, ?_, ?_, ?_, ?_, ?_, ?_, ?_⟩ <;> decide +kernel⟩,
   ⟨W ({ withVol (withCmd (withLearn live { learn0 with kind := 1, waiting := [cmdKey 0 7] }) (cmdKey 0 7) wr0) with map := (withLearn live { learn0 with kind := 1, waiting := [cmdKey 0 7] }).map }), 5, cmdKey 0 7, { learn0 with kind := 1, waiting := [cmdKey 0 7] }, vol0, wr0, by refine ⟨?_, ?_, ?_, ?_, ?_, ?_, ?_, ?_, ?_, ?_, ?_, ?_⟩ <;> decide +kernel⟩,
   ⟨W ({ withOp live 0x0302 2 with map := { live.map with rehash := [(1, ⟨20, 63, 1, 0, 12, 0, 0, 0, []⟩)] } }), 1, 5, ⟨20, 63, 1, 0, 12, 0, 0, 0, []⟩, by refine ⟨?_, ?_, ?_, ?_, ?_, ?_⟩ <;> decide +kernel⟩,
   ⟨W (live), hd, 15, 0, by refine ⟨?_, ?_, ?_, ?_, ?_, ?_⟩ <;> decide +kernel⟩,
   ⟨W (live.set STRIPE_SHEAR_CFG_en 1), 0, by refine ⟨?_, ?_, ?_, ?_, ?_⟩ <;> decide +kernel⟩,
   ⟨W (withBg (withOp live 0x0413 2) { bgOp0 with kind := 5, step := 3, todo := [entryOf0 0, entryOf0 1] }), 1, 5, { bgOp0 with kind := 5, step := 3, todo := [entryOf0 0, entryOf0 1] }, longOp 0x0413, by refine ⟨?_, ?_, ?_, ?_, ?_, ?_, ?_, ?_⟩ <;> decide +kernel⟩,
   ⟨W (withBg (withVol (withOp live 0x0116 2)) { bgOp0 with kind := 6, volume := 3, pos := 3 }), 3, 0, 5, { bgOp0 with kind := 6, volume := 3, pos := 3 }, vol0, longOp 0x0116, by refine ⟨?_, ?_, ?_, ?_, ?_, ?_, ?_, ?_, ?_, ?_, ?_, ?_⟩ <;> decide +kernel⟩,
   ⟨W (withFlock live { flock0 with acres := [(9, { acreRec0 with removed := some ⟨0, 0, []⟩ })] }), 0, 9, { flock0 with acres := [(9, { acreRec0 with removed := some ⟨0, 0, []⟩ })] }, { acreRec0 with removed := some ⟨0, 0, []⟩ }, ⟨0, 0, []⟩, by refine ⟨?_, ?_, ?_, ?_, ?_⟩ <;> decide +kernel⟩,
   ⟨W ({ live.set CIPH_CTL_auto_retire 1 with cipher := { live.cipher with pads := [(2047, { padKey0 with gCur := 1, unusedHere := true })] } }), 2047, { padKey0 with gCur := 1, unusedHere := true }, by refine ⟨?_, ?_, ?_, ?_, ?_, ?_, ?_, ?_⟩ <;> decide +kernel⟩,
   ⟨W (live.set MAP_CTL_en 1), by refine ⟨?_, ?_⟩ <;> decide +kernel⟩⟩

theorem witness_CacheRows :
    (∃ (s : State) (h : Hdr) (volume : Nat) (op : Nat) (lba : Nat) (count : Nat) (v : Volume), s.chip.vols.get? volume = some v ∧ op < 3 ∧ 1 ≤ count ∧ count ≤ 16384 ∧ lba + count ≤ v.acres * 1024 ∧ s.chip.stageHere v.fold = true ∧ s.chip.cache.ranges = [] ∧ Ready s rangeInfo h [] ∧ PairOk s h) ∧
    (∃ (s : State) (h : Hdr) (image : Nat), CACHE_VOL_MODE_mode.of image ≠ 0 ∧ s.chip.flag CACHE_CTL_through = false ∧ Ready s ⟨0x0131, true, .w, paramBytes [1, 1, 2, 4]⟩ h [] ∧ PairOk s h) ∧
    (∃ (s : State) (h : Hdr) (volume : Nat), volume < 32768 ∧ s.chip.vols.has volume = true ∧ Ready s ⟨0x0131, true, .w, paramBytes [1, 1, 2, 4]⟩ h [] ∧ PairOk s h) ∧
    (∃ (s : State) (h : Hdr) (joules : Nat) (watts : Nat) (mbps : Nat) (quiesce : Nat), joules < 65536 ∧ watts < 65536 ∧ mbps < 65536 ∧ 1 ≤ quiesce ∧ quiesce ≤ 100 ∧ Ready s ⟨0x0620, false, .w, paramBytes [2, 2, 2, 1]⟩ h []) ∧
    (∃ (s : State) (h : Hdr) (i : Nat), s.chip.cache.dump.phase = 0 ∧ s.chip.cache.drains = [] ∧ s.chip.handingOver = false ∧ s.chip.flag CACHE_STATUS_dump_armed = true ∧ s.chip.loSlot = some i ∧ i < 64 ∧ Ready s ⟨0x0621, false, .l, 0⟩ h []) ∧
    (∃ (s : State) (h : Hdr), Ready s ⟨0x0622, false, .w, paramBytes [8, 8, 8, 8, 8]⟩ h []) ∧
    (∃ (s : State) (l : Line) (d : Chip) (x : Instr), x ∈ [Instr.versionRoomFreed, Instr.limitRoomFreed] ∧ Live .work s ∧ s.chip.cache.waiting = [l] ∧ s.chip.mirror.rxWait = [] ∧ s.chip.dirtyLines < s.chip.dirtyMax ∧ s.chip.placeLine l = some d) ∧
    (∃ (s : State) (volume : Nat) (lba : Nat) (seq : Nat) (flock : Nat) (stripe : Nat) (pos : Nat) (blk : Nat) (e : Nat × Nat × Line), Live .work s ∧ (s.chip.blockLines volume lba).find? (fun e => e.2.2.st = .dirty && e.2.2.seq = seq) = some e ∧ s.chip.lineSpot e.2.2 = some (flock, stripe, pos, blk)) ∧
    (∃ (s : State) (flock : Nat) (stripe : Nat) (f : Flock) (ls : Tab (Nat × Nat × Line)), Live .work s ∧ flock < 4 ∧ s.chip.flock? flock = some f ∧ s.chip.stripeLines flock stripe = ls ∧ ls ≠ [] ∧ s.chip.flag STRIPE_CTL_en = true ∧ s.chip.stripes.offers = [] ∧ s.chip.commitWaits flock stripe f ls = none ∧ s.chip.stripes.entries = []) ∧
    (∃ (s : State) (flock : Nat) (stripe : Nat) (f : Flock) (ls : Tab (Nat × Nat × Line)), Live .work s ∧ flock < 4 ∧ s.chip.flock? flock = some f ∧ s.chip.stripeLines flock stripe = ls ∧ ls ≠ [] ∧ s.chip.flag STRIPE_CTL_en = true ∧ s.chip.stripes.offers = [] ∧ s.chip.commitWaits flock stripe f ls = some 0) ∧
    (∃ (s : State) (l : Line) (d : Chip), Live .gated s ∧ s.chip.mirror.rxWait = [] ∧ s.chip.dirtyLines < s.chip.dirtyMax ∧ (s.chip.blockLines l.volume l.lba).find? (fun e => e.2.2.st = .mirror && e.2.2.seq = l.seq) = none ∧ s.chip.placeLine { l with st := .mirror, pins := 0, bornNs := s.chip.clk } = some d) ∧
    (∃ (s : State) (key : Nat) (way : Nat) (volume : Nat) (fold : Nat) (lba : Nat) (count : Nat) (seq : Nat) (l : Line) (b : Bool) (x : Instr), x ∈ [if b then Instr.retireRx s.chip.mirror.rxNext volume fold lba count seq else Instr.discardRx s.chip.mirror.rxNext volume fold lba count] ∧ Live .gated s ∧ s.chip.mirror.rxWait = [] ∧ s.chip.lines = [(key, way, l)] ∧ l.st = .mirror ∧ l.volume = volume ∧ lba ≤ l.lba ∧ l.lba < lba + count ∧ (b = true → l.seq ≤ seq)) ∧
    (∃ (s : State), Live .gated s ∧ s.chip.mirror.rxWait = []) ∧
    (∃ (s : State) (volume : Nat) (v : Volume), Live .gated s ∧ s.chip.mirror.rxWait = [] ∧ s.chip.vols.get? volume = some v ∧ (∀ m ∈ v.marks, ∀ a b w, m.what ≠ .member a b w)) ∧
    (∃ (s : State), Live .gated s ∧ s.chip.mirror.resyncing = false) ∧
    (∃ (s : State), Live .gated s ∧ s.chip.mirror.ackDue = true) ∧
    (∃ (s : State), Live .gated s ∧ s.chip.mirroring = true ∧ s.chip.mirror.unacked ≠ []) ∧
    (∃ (s : State), Live .up s) ∧
    (∃ (s : State) (key : Nat) (way : Nat) (l : Line), Live .up s ∧ (s.chip.cacheSet key).ways.get? way = some l ∧ l.st ≠ .evicting ∧ (l.st = .filling → l.seq ≠ 0)) ∧
    (∃ (s : State) (volume : Nat) (lba : Nat) (seq : Nat) (key : Nat) (way : Nat) (l : Line), Live .up s ∧ (s.chip.blockLines volume lba).find? (fun e => isDirty e.2.2 && e.2.2.seq = seq && e.2.2.poisoned && e.2.2.data = []) = some (key, way, l) ∧ (s.chip.cacheSet key).ways.get? way = some l) ∧
    (∃ (s : State) (scope : Nat), Live .gated s ∧ (scope = 65536 ∨ scope < 32768) ∧ scope ∈ s.chip.cache.drains ∧ s.chip.lines = [] ∧ s.chip.cache.waiting = []) ∧
    (∃ (s : State) (r : RangeOp) (i : Nat), Live .gated s ∧ s.chip.cache.ranges = [r] ∧ s.chip.rangeDone r = true ∧ r.op = 0 ∧ r.slot = some i ∧ i < 64) ∧
    (∃ (s : State) (r : RangeOp), Live .gated s ∧ s.chip.cache.ranges = [r] ∧ s.chip.rangeDone r = true ∧ r.op = 0 ∧ r.slot = none) ∧
    (∃ (s : State) (x : Instr × Nat), Live .up s ∧ x ∈ [(Instr.dumpPwrFail, 1), (Instr.dumpSag, 2)] ∧ s.chip.cache.dump.phase = 0 ∧ s.chip.flag CACHE_DUMP_CFG_dump_en = true ∧ s.chip.flag CACHE_STATUS_dump_armed = true) ∧
    (∃ (s : State), Live .up s ∧ s.chip.cache.dump.phase = 1 ∧ s.chip.cache.dump.test = none) ∧
    (∃ (s : State) (n : Nat), Live .up s ∧ s.chip.cache.dump.phase = 2 ∧ s.chip.cache.dump.test = none ∧ s.chip.cache.dump.vaults = 3 ∧ s.chip.get CACHE_DUMP_STAT_segments = n ∧ n + 1 < 4096) ∧
    (∃ (s : State) (i : Nat), Live .up s ∧ s.chip.cache.dump.phase = 3 ∧ s.chip.cache.dump.test = some i ∧ i < 64) ∧
    (∃ (s : State), Live .up s ∧ s.chip.cache.dump.phase = 3 ∧ s.chip.cache.dump.test = none) :=
  ⟨⟨W (withVol live), hd, 3, 2, 0, 4096, vol0, by refine ⟨?_, ?_, ?_, ?_, ?_, ?_, ?_, ?_, ?_⟩ <;> first | decide +kernel | rfl | (intro m hm; simp [vol0, newVolume] at hm) | simp⟩,
   ⟨W (live), hd, 2 ^ CACHE_VOL_MODE_mode.lo, by refine ⟨?_, ?_, ?_, ?_⟩ <;> first | decide +kernel | rfl | (intro m hm; simp [vol0, newVolume] at hm) | simp⟩,
   ⟨W ({ live with vols := [(32767, vol0)] }), hd, 32767, by refine ⟨?_, ?_, ?_, ?_⟩ <;> first | decide +kernel | rfl | (intro m hm; simp [vol0, newVolume] at hm) | simp⟩,
   ⟨W (live), hd, 65535, 1, 65535, 100, by refine ⟨?_, ?_, ?_, ?_, ?_, ?_⟩ <;> first | decide +kernel | rfl | (intro m hm; simp [vol0, newVolume] at hm) | simp⟩,
   ⟨W (live.set CACHE_STATUS_dump_armed 1), hd, 0, by refine ⟨?_, ?_, ?_, ?_, ?_, ?_, ?_⟩ <;> first | decide +kernel | rfl | (intro m hm; simp [vol0, newVolume] at hm) | simp⟩,
   ⟨W (live), hd, by decide +kernel⟩,
   ⟨W ({ withVol live with cache := { live.cache with waiting := [line0] } }), line0, (({ withVol live with cache := { live.cache with waiting := [line0] } } : Chip).placeLine line0).getD live, Instr.limitRoomFreed, by refine ⟨?_, ?_, ?_, ?_, ?_, ?_⟩ <;> first | decide +kernel | rfl | (intro m hm; simp [vol0, newVolume] at hm) | simp⟩,
   ⟨W (withDirty live), 3, 5, 9, (dirtySpot live).1, (dirtySpot live).2.1, (dirtySpot live).2.2.1, (dirtySpot live).2.2.2, ((withDirty live).setKey 3 5, 15, dirty0), by refine ⟨?_, ?_, ?_⟩ <;> first | decide +kernel | rfl | (intro m hm; simp [vol0, newVolume] at hm) | simp⟩,
   ⟨W (withDirty live), (dirtySpot live).1, (dirtySpot live).2.1, flock0, (withDirty live).stripeLines (dirtySpot live).1 (dirtySpot live).2.1, by refine ⟨?_, ?_, ?_, ?_, ?_, ?_, ?_, ?_, ?_⟩ <;> first | decide +kernel | rfl | (intro m hm; simp [vol0, newVolume] at hm) | simp⟩,
   ⟨W ((withDirty live).set TWIN_FOLD_STAT_gate_open 0 0), (dirtySpot live).1, (dirtySpot live).2.1, flock0, (withDirty live).stripeLines (dirtySpot live).1 (dirtySpot live).2.1, by refine ⟨?_, ?_, ?_, ?_, ?_, ?_, ?_, ?_⟩ <;> first | decide +kernel | rfl | (intro m hm; simp [vol0, newVolume] at hm) | simp⟩,
   ⟨W (withVol live), { line0 with st := .mirror }, ((withVol live).placeLine { line0 with st := .mirror, pins := 0, bornNs := live.clk }).getD live, by refine ⟨?_, ?_, ?_, ?_, ?_⟩ <;> first | decide +kernel | rfl | (intro m hm; simp [vol0, newVolume] at hm) | simp⟩,
   ⟨W (withLine (withVol live) { line0 with st := .mirror }), live.setKey 3 5, 15, 3, 0, 5, 1, 9, { line0 with st := .mirror }, true, Instr.retireRx live.mirror.rxNext 3 0 5 1 9, by refine ⟨?_, ?_, ?_, ?_, ?_, ?_, ?_, ?_, ?_⟩ <;> first | decide +kernel | rfl | (intro m hm; simp [vol0, newVolume] at hm) | simp⟩,
   ⟨W (live), by refine ⟨?_, ?_⟩ <;> first | decide +kernel | rfl | (intro m hm; simp [vol0, newVolume] at hm) | simp⟩,
   ⟨W (withVol live), 3, vol0, by refine ⟨?_, ?_, ?_, ?_⟩ <;> first | decide +kernel | rfl | (intro m hm; simp [vol0, newVolume] at hm) | simp⟩,
   ⟨W ({ live with mirror := { live.mirror with unacked := [(3, .discard 3 0 5 1), (4, .discard 3 0 5 1)] } }), by refine ⟨?_, ?_⟩ <;> first | decide +kernel | rfl | (intro m hm; simp [vol0, newVolume] at hm) | simp⟩,
   ⟨W ({ live with mirror := { live.mirror with ackDue := true } }), by refine ⟨?_, ?_⟩ <;> first | decide +kernel | rfl | (intro m hm; simp [vol0, newVolume] at hm) | simp⟩,
   ⟨W ({ live.set CACHE_STATUS_solo 0 with mirror := { live.mirror with unacked := [(3, .discard 3 0 5 1)] } }), by refine ⟨?_, ?_, ?_⟩ <;> first | decide +kernel | rfl | (intro m hm; simp [vol0, newVolume] at hm) | simp⟩,
   ⟨W (withDirty live), by decide +kernel⟩,
   ⟨W (withDirty live), live.setKey 3 5, 15, dirty0, by refine ⟨?_, ?_, ?_, ?_⟩ <;> first | decide +kernel | rfl | (intro m hm; simp [vol0, newVolume] at hm) | simp⟩,
   ⟨W (withLine (withVol live) { dirty0 with poisoned := true, data := [] }), 3, 5, 9, live.setKey 3 5, 15, { dirty0 with poisoned := true, data := [] }, by refine ⟨?_, ?_, ?_⟩ <;> first | decide +kernel | rfl | (intro m hm; simp [vol0, newVolume] at hm) | simp⟩,
   ⟨W ({ (live.set CACHE_STATUS_draining 1) with cache := { live.cache with drains := [65536] } }), 65536, by refine ⟨?_, ?_, ?_, ?_, ?_⟩ <;> first | decide +kernel | rfl | (intro m hm; simp [vol0, newVolume] at hm) | simp⟩,
   ⟨W ({ withOp (withVol live) 0x0103 2 with cache := { live.cache with ranges := [{ range0 with slot := some 63 }] } }), { range0 with slot := some 63 }, 63, by refine ⟨?_, ?_, ?_, ?_, ?_, ?_⟩ <;> first | decide +kernel | rfl | (intro m hm; simp [vol0, newVolume] at hm) | simp⟩,
   ⟨W ({ withVol live with cache := { live.cache with ranges := [range0] } }), range0, by refine ⟨?_, ?_, ?_, ?_, ?_⟩ <;> first | decide +kernel | rfl | (intro m hm; simp [vol0, newVolume] at hm) | simp⟩,
   ⟨W ({ withDirty ((live.set CACHE_DUMP_CFG_dump_en 1).set CACHE_STATUS_dump_armed 1) with stripes := { live.stripes with drv := [(1, { drvCmd0 with kind := 1 }), (2, drvCmd0)] } }), (Instr.dumpSag, 2), by refine ⟨?_, ?_, ?_, ?_, ?_⟩ <;> first | decide +kernel | rfl | (intro m hm; simp [vol0, newVolume] at hm) | simp⟩,
   ⟨W ({ withDirty live with cache := { (withDirty live).cache with dump := { dump0 with phase := 1, vaults := 3 } } }), by refine ⟨?_, ?_, ?_⟩ <;> first | decide +kernel | rfl | (intro m hm; simp [vol0, newVolume] at hm) | simp⟩,
   ⟨W ({ withDirty live with cache := { (withDirty live).cache with dump := { dump0 with phase := 2, vaults := 3, total := 1 } } }), 0, by refine ⟨?_, ?_, ?_, ?_, ?_, ?_⟩ <;> first | decide +kernel | rfl | (intro m hm; simp [vol0, newVolume] at hm) | simp⟩,
   ⟨W ({ withOp live 0x0621 2 with cache := { live.cache with dump := { dump0 with phase := 3, vaults := 3, test := some 63, imageSeq := 4 } } }), 63, by refine ⟨?_, ?_, ?_, ?_⟩ <;> first | decide +kernel | rfl | (intro m hm; simp [vol0, newVolume] at hm) | simp⟩,
   ⟨W ({ withDirty live with cache := { (withDirty live).cache with dump := { dump0 with phase := 3, vaults := 3 } } }), by refine ⟨?_, ?_, ?_⟩ <;> first | decide +kernel | rfl | (intro m hm; simp [vol0, newVolume] at hm) | simp⟩⟩

theorem witness_FlockRows :
    (∃ (s : State) (h : Hdr) (flock : Nat) (width : Nat) (z : Nat) (n : Nat) (l : Nat) (k : Nat) (u : Nat) (cycles : Nat) (blocks : Nat) (slots : List Nat) (qualified : List Nat), flock < 4 ∧ width ≤ 2 ∧ 1 ≤ z ∧ z ≤ 2 ∧ 8 ≤ n ∧ n ≤ 32 ∧ widthOf width + 2 + z ≤ n ∧ (s.chip.id.half = true → n ≤ 16 ∧ width ≤ 1) ∧ n ≤ slots.length ∧ (∀ x ∈ slots.take n, x < 32 ∧ slotAbsent s.chip.id x = false ∧ (slots.take n).count x = 1 ∧ s.chip.memberOf x = none ∧ x ∈ qualified) ∧ s.chip.flock? flock = none ∧ layoutL n (widthOf width) z = l ∧ 1 ≤ l ∧ l ≤ 4096 ∧ k = l * (widthOf width + 2) / n ∧ u = k * z / (n - z) ∧ cycles = (blocks - 16384) / atLeast1 (16 * (k + u)) ∧ cycles * l * widthOf width / 64 ≠ 0 ∧ s.chip.drbgStopped = false ∧ s.chip.cipher.drbgWait = [] ∧ Ready s ⟨0x0400, true, .w, 36⟩ h [] ∧ PairOk s h) ∧
    (∃ (s : State) (h : Hdr) (flock : Nat) (f : Flock), flock < 4 ∧ s.chip.flock? flock = some f ∧ f.acres = [] ∧ Ready s ⟨0x0401, true, .w, paramBytes [1]⟩ h [] ∧ PairOk s h) ∧
    (∃ (s : State) (h : Hdr) (flock : Nat) (f : Flock), flock < 4 ∧ s.chip.flock? flock = some f ∧ Ready s ⟨0x0402, false, .r, paramBytes [1]⟩ h []) ∧
    (∃ (s : State) (h : Hdr) (flock : Nat) (fold : Nat) (group : Nat) (f : Flock), s.chip.flock? flock = some f ∧ (fold < 8 ∨ fold = 0xFF) ∧ group * 1024 < f.acreCount ∧ (∀ a ∈ f.acres, a.1 / 1024 ≠ group) ∧ Ready s ⟨0x0404, true, .w, paramBytes [1, 1, 4]⟩ h [] ∧ PairOk s h) ∧
    (∃ (s : State) (h : Hdr) (flock : Nat) (i : Nat) (f : Flock), flock < 4 ∧ s.chip.flock? flock = some f ∧ s.chip.stripes.bg = [] ∧ s.chip.loSlot = some i ∧ i < 64 ∧ Ready s ⟨0x0410, false, .l, paramBytes [1]⟩ h []) ∧
    (∃ (s : State) (h : Hdr) (flock : Nat) (member : Nat) (slot : Nat) (i : Nat) (f : Flock), flock < 4 ∧ s.chip.flock? flock = some f ∧ member < f.n ∧ slot < 32 ∧ slotAbsent s.chip.id slot = false ∧ member ∈ f.failed ∧ (∀ x ∈ s.chip.stripes.flocks, ∀ m, m < x.2.n → x.2.slots.getD m 0xFF = slot → x.1 = flock ∧ m = member) ∧ s.chip.stripes.bg = [] ∧ s.chip.loSlot = some i ∧ i < 64 ∧ Ready s ⟨0x0411, false, .l, paramBytes [1, 1, 1]⟩ h []) ∧
    (∃ (s : State) (h : Hdr) (flock : Nat) (mode : Nat) (i : Nat) (f : Flock), flock < 4 ∧ s.chip.flock? flock = some f ∧ mode < 2 ∧ s.chip.stripes.bg = [] ∧ s.chip.loSlot = some i ∧ i < 64 ∧ Ready s ⟨0x0412, false, .l, paramBytes [1, 1, 8]⟩ h []) ∧
    (∃ (s : State) (h : Hdr) (flock : Nat) (member : Nat) (f : Flock), flock < 4 ∧ s.chip.flock? flock = some f ∧ member < f.n ∧ member ∉ f.failed ∧ Ready s ⟨0x0414, true, .w, paramBytes [1, 1]⟩ h [] ∧ PairOk s h) ∧
    (∃ (s : State) (flock : Nat) (member : Nat) (f : Flock), Live .work s ∧ s.chip.flock? flock = some f ∧ member < f.n ∧ member ∈ f.absent ∧ member ∉ f.failed) ∧
    (∃ (s : State) (h : Hdr) (x : LostRec), s.chip.stripes.lost = [x] ∧ Ready s ⟨0x0415, false, .r, paramBytes [4]⟩ h []) ∧
    (∃ (s : State) (x : LostRec), Live .up s ∧ s.chip.isLost x.flock x.stripe x.pos x.blk = false ∧ s.chip.stripes.lost.length < 65536) ∧
    (∃ (s : State) (x : LostRec), Live .up s ∧ s.chip.stripes.lost = [x]) ∧
    (∃ (s : State) (flock : Nat) (member : Nat) (region : Nat) (entry : Nat) (rest : List RecWrite) (e : JEntry) (ok32 : Bool) (ok33 : Bool), Live .up s ∧ s.chip.stripes.recQ = .stale flock member region entry :: rest ∧ s.chip.stripes.entries.get? entry = some e ∧ (ok32 || ok33) = true) ∧
    (∃ (s : State) (flock : Nat) (member : Nat) (region : Nat) (entry : Nat) (rest : List RecWrite), Live .up s ∧ s.chip.stripes.recQ = .stale flock member region entry :: rest) ∧
    (∃ (s : State) (flock : Nat) (row : Nat) (p : Nat) (f : Flock), Live .up s ∧ flock < 4 ∧ s.chip.flock? flock = some f ∧ row < f.l ∧ p < f.w + 2) ∧
    (∃ (s : State) (x : Instr × Field), Live .up s ∧ s.chip.stripes.lost.length < 65536 ∧ x ∈ [(Instr.lostOverflowClear, STRIPE_LOST_STAT_overflow), (Instr.jnlPeakClr, STRIPE_JNL_STAT_peak), (Instr.stripeGateLastRearm, STRIPE_GATE_LAST_valid), (Instr.stripeVerifyLastRearm, STRIPE_VERIFY_LAST_valid), (Instr.cmdqTmoLastRearm, CMDQ_TMO_LAST_valid)]) :=
  ⟨⟨W ((live.set CIPH_STATUS_drbg_ready 1)), hd, 3, 2, 2, 32, 80, 45, 3, 100, 16384 + 16 * 48 * 100, List.range 32, List.range 32, by refine ⟨?_, ?_, ?_, ?_, ?_, ?_, ?_, ?_, ?_, ?_, ?_, ?_, ?_, ?_, ?_, ?_, ?_, ?_, ?_, ?_, ?_, ?_⟩ <;> decide +kernel⟩,
   ⟨W (withFlock live), hd, 0, flock0, by refine ⟨?_, ?_, ?_, ?_, ?_⟩ <;> decide +kernel⟩,
   ⟨W (withFlock live), hd, 0, flock0, by refine ⟨?_, ?_, ?_⟩ <;> decide +kernel⟩,
   ⟨W (withFlock live { flock0 with cycles := 100 }), hd, 0, 0xFF, 0, { flock0 with cycles := 100 }, by refine ⟨?_, ?_, ?_, ?_, ?_, ?_⟩ <;> decide +kernel⟩,
   ⟨W (withFlock live), hd, 0, 0, flock0, by refine ⟨?_, ?_, ?_, ?_, ?_, ?_⟩ <;> decide +kernel⟩,
   ⟨W (withFlock live { flock0 with failed := [7], absent := [7] }), hd, 0, 7, 31, 0, { flock0 with failed := [7], absent := [7] }, by refine ⟨?_, ?_, ?_, ?_, ?_, ?_, ?_, ?_, ?_, ?_, ?_⟩ <;> decide +kernel⟩,
   ⟨W (withFlock live), hd, 0, 1, 0, flock0, by refine ⟨?_, ?_, ?_, ?_, ?_, ?_, ?_⟩ <;> decide +kernel⟩,
   ⟨W (withFlock live), hd, 0, 7, flock0, by refine ⟨?_, ?_, ?_, ?_, ?_, ?_⟩ <;> decide +kernel⟩,
   ⟨W (withFlock live { flock0 with absent := [7] }), 0, 7, { flock0 with absent := [7] }, by refine ⟨?_, ?_, ?_, ?_, ?_⟩ <;> decide +kernel⟩,
   ⟨W ({ live with stripes := { live.stripes with lost := [lost0] } }), hd, lost0, by refine ⟨?_, ?_⟩ <;> decide +kernel⟩,
   ⟨W (withFlock live), lost0, by refine ⟨?_, ?_, ?_⟩ <;> decide +kernel⟩,
   ⟨W ({ live with stripes := { live.stripes with lost := [lost0] } }), lost0, by refine ⟨?_, ?_⟩ <;> decide +kernel⟩,
   ⟨W ({ withEntry live { entry0 with recs := 2 } with stripes := { (withEntry live { entry0 with recs := 2 }).stripes with recQ := [.stale 0 7 5 9] } }), 0, 7, 5, 9, [], { entry0 with recs := 2 }, false, true, by refine ⟨?_, ?_, ?_, ?_⟩ <;> decide +kernel⟩,
   ⟨W ({ withEntry live entry0 with stripes := { (withEntry live entry0).stripes with recQ := [.stale 0 7 5 9] } }), 0, 7, 5, 9, [], by refine ⟨?_, ?_⟩ <;> decide +kernel⟩,
   ⟨W (withFlock live), 0, 1, 5, flock0, by refine ⟨?_, ?_, ?_, ?_, ?_⟩ <;> decide +kernel⟩,
   ⟨W ((live.set STRIPE_VERIFY_LAST_valid 1).set STRIPE_JNL_STAT_peak 9), (Instr.stripeVerifyLastRearm, STRIPE_VERIFY_LAST_valid), by refine ⟨?_, ?_, ?_⟩ <;> first | decide +kernel | rfl | simp⟩⟩

theorem witness_DriveRows :
    (∃ (s : State) (h : Hdr) (slot : Nat), slot < 34 ∧ slotAbsent s.chip.id slot = false ∧ Ready s ⟨0x0610, false, .w, paramBytes [1, 2]⟩ h []) ∧
    (∃ (s : State) (isl : Nat), Live .up s ∧ isl < 4) ∧
    (∃ (s : State) (slot : Nat) (lane : Nat) (n : Nat) (d : DrvCmd), Live .work s ∧ slot < 34 ∧ lane < 5 ∧ s.chip.laneHead slot lane = some (n, d) ∧ s.chip.stripes.drv.get? n = some d ∧ s.chip.laneFree slot lane = true ∧ s.chip.headHeld d = false ∧ lane < s.chip.freeTags slot ∧ s.chip.chipTagsFree = true ∧ (d.fold.isSome = true → d.kind = 1 → s.chip.flag TWIN_FOLD_STAT_gate_open (d.fold.getD 0) = true)) ∧
    (∃ (s : State) (slot : Nat) (lane : Nat) (n : Nat) (f : Nat) (d : DrvCmd), Live .work s ∧ slot < 34 ∧ lane < 5 ∧ s.chip.laneHead slot lane = some (n, d) ∧ s.chip.stripes.drv.get? n = some d ∧ s.chip.laneFree slot lane = true ∧ s.chip.headHeld d = false ∧ lane < s.chip.freeTags slot ∧ s.chip.chipTagsFree = true ∧ d.fold = some f ∧ d.kind = 1 ∧ s.chip.flag TWIN_FOLD_STAT_gate_open f = false) ∧
    (∃ (s : State) (entry : Nat) (p : Nat) (b : Nat) (slot : Nat) (lba : Nat) (data : Bytes) (e : JEntry) (f : Flock), Live .work s ∧ s.chip.stripes.entries.get? entry = some e ∧ e.state = 1 ∧ e.kind ≤ 4 ∧ e.ckpt ≠ 0 ∧ s.chip.entryHeld e = true ∧ p < 18 ∧ b < 16 ∧ e.written = 2 ^ p ∧ e.done = 0 ∧ e.staged = [(p * 16 + b, data)] ∧ s.chip.flock? e.flock = some f ∧ f.writeAt e.stripe p = some (slot, lba)) ∧
    (∃ (s : State) (slot : Nat) (cid : Nat) (n : Nat) (id : Nat) (p : Nat) (d : DrvCmd) (e : JEntry), Live .gated s ∧ s.chip.tagIs slot cid n d ∧ d.pen = 0 ∧ d.kind = 1 ∧ d.use = .entryWrite id p ∧ s.chip.stripes.entries.get? id = some e ∧ p < 18 ∧ (∀ x ∈ s.chip.stripes.drv, x.1 ≠ n → ∀ q, x.2.use ≠ .entryWrite id q)) ∧
    (∃ (s : State) (slot : Nat) (cid : Nat) (n : Nat) (key : Nat) (b : Nat) (d : DrvCmd) (k : HostCmd) (ct : Bytes) (seen : Seen) (c1 : Chip), Live .gated s ∧ s.chip.tagIs slot cid n d ∧ d.pen = 0 ∧ d.kind = 0 ∧ d.use = .host key b ∧ s.chip.intake.cmds.get? key = some k ∧ (s.chip.readIn n d).openAt d.flock d.stripe d.pos d.blk ct (some (k.lba + b)) d.slot = (seen, c1)) ∧
    (∃ (s : State) (slot : Nat) (cid : Nat) (n : Nat) (key : Nat) (b : Nat) (d : DrvCmd) (k : HostCmd), Live .gated s ∧ s.chip.tagIs slot cid n d ∧ d.pen = 0 ∧ d.kind = 0 ∧ d.use = .host key b ∧ s.chip.intake.cmds.get? key = some k ∧ k.bad = 0) ∧
    (∃ (s : State) (slot : Nat) (cid : Nat) (n : Nat) (d : DrvCmd), Live .gated s ∧ s.chip.tagIs slot cid n d ∧ d.pen = 0) ∧
    (∃ (s : State) (slot : Nat) (cid : Nat) (n : Nat) (d : DrvCmd), Live .gated s ∧ s.chip.tagIs slot cid n d ∧ d.pen = 1 ∧ d.lateSeen = false) ∧
    (∃ (s : State) (slot : Nat) (cid : Nat) (n : Nat) (d : DrvCmd), Live .gated s ∧ s.chip.tagIs slot cid n d ∧ (d.pen = 1 ∨ d.pen = 2) ∧ d.lateSeen = false) ∧
    (∃ (s : State) (slot : Nat), Live .gated s ∧ 0 < s.chip.penned slot) ∧
    (∃ (s : State), Live .gated s) ∧
    (∃ (s : State), Live .gated s) ∧
    (∃ (s : State) (slot : Nat), Live .up s ∧ (∃ x ∈ s.chip.stripes.drv, x.2.slot = slot ∧ x.2.wake = true)) ∧
    (∃ (s : State), Live .work s ∧ s.chip.stripes.ckptRun = false) ∧
    (∃ (s : State), Live .up s ∧ s.chip.stripes.ckptRun = true) ∧
    (∃ (s : State) (slot : Nat) (gen : Nat) (width : Nat), Live .up s ∧ s.chip.slotOk slot = true ∧ s.chip.flag DRV_LINK_STAT_up slot = false ∧ s.chip.powered slot = true ∧ bits s.chip.flash.rules.drvOff (2 * slot + 1) (2 * slot) = 0 ∧ s.chip.memberOf slot = none ∧ gen < 4 ∧ width < 4 ∧ s.chip.freeTags slot ≠ 0 ∧ s.chip.chipTagsFree = true) ∧
    (∃ (s : State) (slot : Nat), Live .up s ∧ s.chip.slotOk slot = true ∧ s.chip.flag DRV_LINK_STAT_up slot = false ∧ s.chip.powered slot = true ∧ bits s.chip.flash.rules.drvOff (2 * slot + 1) (2 * slot) = 0) :=
  ⟨⟨W (live), hd, 33, by refine ⟨?_, ?_, ?_⟩ <;> first | decide +kernel | rfl | (intro x hx hn; rw [List.mem_singleton.mp hx] at hn; exact absurd rfl hn) | simp⟩,
   ⟨W (live.set CMDQ_ISL_TAGS_peak_inflight 9 3), 3, by refine ⟨?_, ?_⟩ <;> first | decide +kernel | rfl | (intro x hx hn; rw [List.mem_singleton.mp hx] at hn; exact absurd rfl hn) | simp⟩,
   ⟨W (withDrv (driveOn live 5) { drvAt 5 with pen := 3, lane := 4 }), 5, 4, 7, { drvAt 5 with pen := 3, lane := 4 }, by refine ⟨?_, ?_, ?_, ?_, ?_, ?_, ?_, ?_, ?_, ?_⟩ <;> first | decide +kernel | rfl | (intro x hx hn; rw [List.mem_singleton.mp hx] at hn; exact absurd rfl hn) | simp⟩,
   ⟨W (withDrv (driveOn live 5) { drvAt 5 with pen := 3, lane := 4, kind := 1, fold := some 7 }), 5, 4, 7, 7, { drvAt 5 with pen := 3, lane := 4, kind := 1, fold := some 7 }, by refine ⟨?_, ?_, ?_, ?_, ?_, ?_, ?_, ?_, ?_, ?_, ?_, ?_⟩ <;> first | decide +kernel | rfl | (intro x hx hn; rw [List.mem_singleton.mp hx] at hn; exact absurd rfl hn) | simp⟩,
   ⟨W (withEntry (withFlock (live.set STRIPE_CKPT_STAT_through 1)) { entry0 with written := 2, ckpt := 1, staged := [(16 + 15, [7])] }), 9, 1, 15, ((flock0.writeAt 0 1).getD (0, 0)).1, ((flock0.writeAt 0 1).getD (0, 0)).2, [7], { entry0 with written := 2, ckpt := 1, staged := [(16 + 15, [7])] }, flock0, by refine ⟨?_, ?_, ?_, ?_, ?_, ?_, ?_, ?_, ?_, ?_, ?_, ?_, ?_⟩ <;> first | decide +kernel | rfl | (intro x hx hn; rw [List.mem_singleton.mp hx] at hn; exact absurd rfl hn) | simp⟩,
   ⟨W ({ withEntry (withFlock live) { entry0 with state := 2, written := 2 } with stripes := { (withEntry (withFlock live) { entry0 with state := 2, written := 2 }).stripes with drv := [(7, { drvAt 5 with kind := 1, use := .entryWrite 9 1 })] } }), 5, 255, 7, 9, 1, { drvAt 5 with kind := 1, use := .entryWrite 9 1 }, { entry0 with state := 2, written := 2 }, by refine ⟨?_, ?_, ?_, ?_, ?_, ?_, ?_, ?_⟩ <;> first | decide +kernel | rfl | (intro x hx hn; rw [List.mem_singleton.mp hx] at hn; exact absurd rfl hn) | simp⟩,
   ⟨W (withFlock (withDrv (withCmd live (cmdKey 0 16383) { ioOf 2 with st := .reading, need := [0] }) { drvAt 5 with use := .host (cmdKey 0 16383) 0 }) { flock0 with acres := [(0, acreRec0)] }), 5, 255, 7, cmdKey 0 16383, 0, { drvAt 5 with use := .host (cmdKey 0 16383) 0 }, { ioOf 2 with st := .reading, need := [0] }, [1], (((withFlock (withDrv (withCmd live (cmdKey 0 16383) { ioOf 2 with st := .reading, need := [0] }) { drvAt 5 with use := .host (cmdKey 0 16383) 0 }) { flock0 with acres := [(0, acreRec0)] }).readIn 7 { drvAt 5 with use := .host (cmdKey 0 16383) 0 }).openAt 0 0 0 0 [1] (some 0) 5).1, (((withFlock (withDrv (withCmd live (cmdKey 0 16383) { ioOf 2 with st := .reading, need := [0] }) { drvAt 5 with use := .host (cmdKey 0 16383) 0 }) { flock0 with acres := [(0, acreRec0)] }).readIn 7 { drvAt 5 with use := .host (cmdKey 0 16383) 0 }).openAt 0 0 0 0 [1] (some 0) 5).2, by refine ⟨?_, ?_, ?_, ?_, ?_, ?_, ?_⟩ <;> first | decide +kernel | rfl | (intro x hx hn; rw [List.mem_singleton.mp hx] at hn; exact absurd rfl hn) | simp⟩,
   ⟨W (withDrv (withCmd live (cmdKey 0 16383) { ioOf 2 with st := .reading, need := [0] }) { drvAt 5 with use := .host (cmdKey 0 16383) 0 }), 5, 255, 7, cmdKey 0 16383, 0, { drvAt 5 with use := .host (cmdKey 0 16383) 0 }, { ioOf 2 with st := .reading, need := [0] }, by refine ⟨?_, ?_, ?_, ?_, ?_, ?_, ?_⟩ <;> first | decide +kernel | rfl | (intro x hx hn; rw [List.mem_singleton.mp hx] at hn; exact absurd rfl hn) | simp⟩,
   ⟨W (withDrv live (drvAt 33)), 33, 255, 7, drvAt 33, by refine ⟨?_, ?_, ?_⟩ <;> first | decide +kernel | rfl | (intro x hx hn; rw [List.mem_singleton.mp hx] at hn; exact absurd rfl hn) | simp⟩,
   ⟨W (withDrv live { drvAt 33 with pen := 1, kind := 1 }), 33, 255, 7, { drvAt 33 with pen := 1, kind := 1 }, by refine ⟨?_, ?_, ?_, ?_⟩ <;> first | decide +kernel | rfl | (intro x hx hn; rw [List.mem_singleton.mp hx] at hn; exact absurd rfl hn) | simp⟩,
   ⟨W (withDrv live { drvAt 33 with pen := 2, kind := 1 }), 33, 255, 7, { drvAt 33 with pen := 2, kind := 1 }, by refine ⟨?_, ?_, ?_, ?_⟩ <;> first | decide +kernel | rfl | (intro x hx hn; rw [List.mem_singleton.mp hx] at hn; exact absurd rfl hn) | simp⟩,
   ⟨W (withDrv live { drvAt 33 with pen := 2 }), 33, by refine ⟨?_, ?_⟩ <;> first | decide +kernel | rfl | (intro x hx hn; rw [List.mem_singleton.mp hx] at hn; exact absurd rfl hn) | simp⟩,
   ⟨W (withDrv live { drvAt 33 with pen := 2, kind := 1 }), by decide +kernel⟩,
   ⟨W (withDrv live { drvAt 33 with pen := 2, kind := 1 }), by decide +kernel⟩,
   ⟨W (withDrv live { drvAt 33 with pen := 3, wake := true }), 33, by refine ⟨?_, ?_⟩ <;> first | decide +kernel | rfl | (intro x hx hn; rw [List.mem_singleton.mp hx] at hn; exact absurd rfl hn) | simp⟩,
   ⟨W (withEntry live entry0), by refine ⟨?_, ?_⟩ <;> first | decide +kernel | rfl | (intro x hx hn; rw [List.mem_singleton.mp hx] at hn; exact absurd rfl hn) | simp⟩,
   ⟨W ({ live with stripes := { live.stripes with ckptRun := true, ckptCover := 4 } }), by refine ⟨?_, ?_⟩ <;> first | decide +kernel | rfl | (intro x hx hn; rw [List.mem_singleton.mp hx] at hn; exact absurd rfl hn) | simp⟩,
   ⟨W (live.set SLOT_CH_STAT_pg 1 33), 33, 3, 3, by refine ⟨?_, ?_, ?_, ?_, ?_, ?_, ?_, ?_, ?_, ?_⟩ <;> first | decide +kernel | rfl | (intro x hx hn; rw [List.mem_singleton.mp hx] at hn; exact absurd rfl hn) | simp⟩,
   ⟨W (live.set SLOT_CH_STAT_pg 1 33), 33, by refine ⟨?_, ?_, ?_, ?_, ?_⟩ <;> first | decide +kernel | rfl | (intro x hx hn; rw [List.mem_singleton.mp hx] at hn; exact absurd rfl hn) | simp⟩⟩

theorem witness_BackgroundRows :
    (∃ (s : State) (slot : Nat) (i : Nat) (st : Nat) (o : BgOp) (x : Instr × Nat), Live .gated s ∧ x ∈ [(Instr.rebuildStripeDone slot, 1), (Instr.resyncStripeDone slot, 2), (Instr.copybackStripeDone slot, 3), (Instr.scrubStripeDone slot, 4)] ∧ s.chip.bgReady slot x.2 = some (i, o, st) ∧ s.chip.stripes.bg.get? i = some o ∧ o.cur = some st ∧ o.sinceFence < 255) ∧
    (∃ (s : State) (slot : Nat) (i : Nat) (st : Nat) (o : BgOp) (f : Flock), Live .gated s ∧ s.chip.bgReady slot 1 = some (i, o, st) ∧ s.chip.stripes.bg.get? i = some o ∧ o.sinceFence < 255 ∧ s.chip.flock? o.flock = some f) ∧
    (∃ (s : State) (slot : Nat) (i : Nat) (st : Nat) (o : BgOp) (f : Flock), Live .gated s ∧ s.chip.bgReady slot 3 = some (i, o, st) ∧ s.chip.stripes.bg.get? i = some o ∧ o.sinceFence < 255 ∧ s.chip.flock? o.flock = some f) ∧
    (∃ (s : State) (slot : Nat) (i : Nat) (e : Nat) (o : BgOp) (x : JEntry) (op : LongOp), Live .gated s ∧ s.chip.stripes.bg = [(i, o)] ∧ o.slot = slot ∧ s.chip.bgRuns o = true ∧ o.kind ≤ 4 ∧ o.flock < 4 ∧ o.aside = [] ∧ o.entry = some e ∧ s.chip.stripes.entries.get? e = some x ∧ s.chip.mgmt.ops.get? slot = some op ∧ op.cancelling = false) ∧
    (∃ (s : State) (slot : Nat) (i : Nat) (st : Nat) (o : BgOp) (f : Flock) (rest : List Nat), Live .work s ∧ s.chip.stripes.bg = [(i, o)] ∧ o.slot = slot ∧ s.chip.flock? o.flock = some f ∧ o.aside = st :: rest ∧ (∀ d ∈ s.chip.stripes.drv, ¬ (d.2.flock = o.flock ∧ d.2.stripe = st ∧ (d.2.pen = 1 ∨ d.2.pen = 2))) ∧ o.cur = none ∧ s.chip.bgRuns o = true ∧ s.chip.stripeHeld o.flock st (some i) = false) ∧
    (∃ (s : State) (flock : Nat) (i : Nat) (f : Flock), Live .work s ∧ flock < 4 ∧ s.chip.flock? flock = some f ∧ s.chip.get STRIPE_SCRUB_CFG_period_days ≠ 0 ∧ s.chip.stripes.bg = [] ∧ s.chip.loSlot = some i ∧ i < 64) :=
  ⟨⟨W (withBg (withFlock (withOp live 0x0412 2)) { bgOp0 with kind := 4, phase := 1, cur := some 5, sinceFence := 254 }), 63, 5, 5, { bgOp0 with kind := 4, phase := 1, cur := some 5, sinceFence := 254 }, (Instr.scrubStripeDone 63, 4), by refine ⟨?_, ?_, ?_, ?_, ?_, ?_⟩ <;> first | decide +kernel | rfl | simp⟩,
   ⟨W ({ withOp live 0x0410 2 with stripes := { live.stripes with flocks := [(0, flock0)], bg := [(5, { bgOp0 with kind := 1, phase := 1, cur := some 1, goals := [5] })] } }), 63, 5, 1, { bgOp0 with kind := 1, phase := 1, cur := some 1, goals := [5] }, flock0, by refine ⟨?_, ?_, ?_, ?_, ?_⟩ <;> decide +kernel⟩,
   ⟨W ({ withOp live 0x0411 2 with stripes := { live.stripes with flocks := [(0, flock0)], bg := [(5, { bgOp0 with kind := 3, phase := 1, cur := some 1, goals := [5] })] } }), 63, 5, 1, { bgOp0 with kind := 3, phase := 1, cur := some 1, goals := [5] }, flock0, by refine ⟨?_, ?_, ?_, ?_, ?_⟩ <;> decide +kernel⟩,
   ⟨W ({ withOp live 0x0412 2 with stripes := { live.stripes with flocks := [(0, flock0)], entries := [(9, entry0)], bg := [(5, { bgOp0 with kind := 4, entry := some 9, pos := 7 })] } }), 63, 5, 9, { bgOp0 with kind := 4, entry := some 9, pos := 7 }, entry0, longOp 0x0412, by refine ⟨?_, ?_, ?_, ?_, ?_, ?_, ?_, ?_, ?_, ?_, ?_⟩ <;> decide +kernel⟩,
   ⟨W ({ withOp live 0x0410 2 with stripes := { live.stripes with flocks := [(0, flock0)], bg := [(5, { bgOp0 with kind := 1, aside := [1, 3] })] } }), 63, 5, 1, { bgOp0 with kind := 1, aside := [1, 3] }, flock0, [3], by refine ⟨?_, ?_, ?_, ?_, ?_, ?_, ?_, ?_, ?_⟩ <;> decide +kernel⟩,
   ⟨W (withFlock live), 0, 0, flock0, by refine ⟨?_, ?_, ?_, ?_, ?_, ?_, ?_⟩ <;> decide +kernel⟩⟩

theorem witness_GovernorCommands :
    (∃ (s : State) (h : Hdr) (p : Nat) (cr : Nat) (pr : Nat) (burst : Nat) (peak : Nat), shapedRefusal s.chip 0 p = none ∧ s.chip.paddocks.has p = true ∧ (pr = 0 ∨ cr ≤ pr) ∧ (burst = 0 ∨ 65536 ≤ burst) ∧ (peak = 0 ∨ 65536 ≤ peak) ∧ Ready s ⟨0x0700, true, .w, paramBytes [1, 2, 4, 4, 4, 4]⟩ h [p] ∧ PairOk s h) ∧
    (∃ (s : State) (h : Hdr) (v : Nat) (cr : Nat) (pr : Nat) (burst : Nat) (peak : Nat), shapedRefusal s.chip 1 v = none ∧ s.chip.vols.has v = true ∧ (pr = 0 ∨ cr ≤ pr) ∧ (burst = 0 ∨ 65536 ≤ burst) ∧ (peak = 0 ∨ 65536 ≤ peak) ∧ s.chip.shape.vols.get? v = none ∧ Ready s ⟨0x0700, true, .w, paramBytes [1, 2, 4, 4, 4, 4]⟩ h [] ∧ PairOk s h) ∧
    (∃ (s : State) (h : Hdr) (v : Nat) (x : Volume), shapedRefusal s.chip 1 v = none ∧ s.chip.vols.get? v = some x ∧ s.chip.shape.vols.has v = true ∧ s.chip.shape.parts.get? (padPart x.paddock (s.chip.islandOf x.fold)) = none ∧ Ready s ⟨0x0701, true, .w, paramBytes [1, 2]⟩ h [] ∧ PairOk s h) ∧
    (∃ (s : State) (h : Hdr) (p : Nat), shapedRefusal s.chip 0 p = none ∧ s.chip.shape.pads.has p = true ∧ Ready s ⟨0x0701, true, .w, paramBytes [1, 2]⟩ h [p] ∧ PairOk s h) ∧
    (∃ (s : State) (h : Hdr) (p : Nat), rangeRefusal s.chip p 4096 2048 32 = none ∧ s.chip.paddocks.has p = true ∧ Ready s ⟨0x0702, true, .w, paramBytes [2, 2]⟩ h [p] ∧ PairOk s h) ∧
    (∃ (s : State) (h : Hdr) (slot : Nat), slot < 34 ∧ slotAbsent s.chip.id slot = false ∧ Ready s ⟨0x0710, true, .w, paramBytes [1, 1, 4, 4, 4, 4, 4, 4, 4, 4]⟩ h [] ∧ PairOk s h) ∧
    (∃ (s : State) (h : Hdr) (image : Nat) (x : Instr × Nat × Reg), x ∈ [(Instr.gateCfgSet h image, 0x0711, GOV_GATE_CFG), (Instr.govClassSet h image, 0x0721, GOV_CLASS_W)] ∧ Ready s ⟨x.2.1, false, .w, paramBytes [8]⟩ h []) ∧
    (∃ (s : State) (h : Hdr), s.chip.get TWIN_STATUS_pair_state = 1 ∧ Ready s ⟨0x0720, false, .w, paramBytes [8]⟩ h []) ∧
    (∃ (s : State) (h : Hdr) (slot : Nat) (cls : Nat), slot < 34 ∧ slotAbsent s.chip.id slot = false ∧ cls < 16 ∧ Ready s ⟨0x0722, false, .w, paramBytes [1, 1, 8]⟩ h []) ∧
    (∃ (s : State) (h : Hdr), Ready s ⟨0x0723, false, .w, paramBytes [4]⟩ h []) ∧
    (∃ (s : State) (h : Hdr) (domain : Nat) (req : Nat), domain < 62 ∧ domainAbsent s.chip.id domain = false ∧ req < 4 ∧ (req = 3 → neverGated domain = false ∧ clockGated domain = false) ∧ Ready s ⟨0x0730, false, .w, paramBytes [1, 1]⟩ h []) ∧
    (∃ (s : State) (h : Hdr) (island : Nat) (point : Nat), island < 37 ∧ islandAbsent s.chip.id island = false ∧ point < 8 ∧ Ready s ⟨0x0731, false, .w, paramBytes [1, 1, 1]⟩ h []) ∧
    (∃ (s : State) (h : Hdr) (island : Nat) (i : Nat), island < 37 ∧ islandAbsent s.chip.id island = false ∧ s.chip.loSlot = some i ∧ i < 64 ∧ Ready s ⟨0x0732, false, .l, paramBytes [1]⟩ h []) ∧
    (∃ (s : State) (h : Hdr), Ready s ⟨0x0733, false, .w, paramBytes [8]⟩ h []) ∧
    (∃ (s : State) (h : Hdr) (slot : Nat) (lowest : Nat) (np : Nat) (idle : Nat), slot < 34 ∧ slotAbsent s.chip.id slot = false ∧ lowest < 32 ∧ np < 32 ∧ idle < 2 ^ 32 ∧ Ready s ⟨0x0740, true, .w, paramBytes [1, 1, 1, 4]⟩ h [] ∧ PairOk s h) ∧
    (∃ (s : State) (h : Hdr) (warn : Nat) (throttle : Nat) (crit : Nat), 80 ≤ warn ∧ warn ≤ 110 ∧ 85 ≤ throttle ∧ throttle ≤ 110 ∧ 90 ≤ crit ∧ crit ≤ 110 ∧ Ready s ⟨0x0750, false, .w, paramBytes [1, 1, 1]⟩ h []) ∧
    (∃ (s : State), Live .up s) ∧
    (∃ (s : State) (index : Nat) (b : Buckets), Live .up s ∧ s.chip.shape.vols.get? index = some b) :=
  ⟨⟨W (padC live), hd, 1, 5, 5, 65536, 65536, by refine ⟨?_, ?_, ?_, ?_, ?_, ?_, ?_⟩ <;> decide +kernel⟩,
   ⟨W (withVol live), hd, 3, 5, 0, 65536, 0, by refine ⟨?_, ?_, ?_, ?_, ?_, ?_, ?_, ?_⟩ <;> decide +kernel⟩,
   ⟨W ({ withVol live with shape := { live.shape with vols := [(3, bks0)], wheel := [(3, ⟨7, false⟩)] } }), hd, 3, vol0, by refine ⟨?_, ?_, ?_, ?_, ?_, ?_⟩ <;> decide +kernel⟩,
   ⟨W ({ padC live with shape := { live.shape with pads := [(1, ⟨5, 7, 65536, 65536⟩)], parts := [(padPart 1 3, bks0)] } }), hd, 1, by refine ⟨?_, ?_, ?_, ?_⟩ <;> decide +kernel⟩,
   ⟨W (padC live), hd, 1, by refine ⟨?_, ?_, ?_, ?_⟩ <;> decide +kernel⟩,
   ⟨W (live), hd, 33, by refine ⟨?_, ?_, ?_, ?_⟩ <;> decide +kernel⟩,
   ⟨W (live), hd, 0xFFFFFFFFFFFFFFFF, (Instr.gateCfgSet hd 0xFFFFFFFFFFFFFFFF, 0x0711, GOV_GATE_CFG), by refine ⟨?_, ?_⟩ <;> first | decide +kernel | rfl | simp⟩,
   ⟨W (live.set TWIN_STATUS_pair_state 1), hd, by refine ⟨?_, ?_⟩ <;> decide +kernel⟩,
   ⟨W (live), hd, 33, 15, by refine ⟨?_, ?_, ?_, ?_⟩ <;> decide +kernel⟩,
   ⟨W (live), hd, by decide +kernel⟩,
   ⟨W (live), hd, 61, 3, by refine ⟨?_, ?_, ?_, ?_, ?_⟩ <;> decide +kernel⟩,
   ⟨W (live), hd, 36, 7, by refine ⟨?_, ?_, ?_, ?_⟩ <;> decide +kernel⟩,
   ⟨W (live), hd, 36, (live.loSlot.getD 77), by refine ⟨?_, ?_, ?_, ?_, ?_⟩ <;> decide +kernel⟩,
   ⟨W (live), hd, by decide +kernel⟩,
   ⟨W (live), hd, 33, 31, 31, 0xFFFFFFFF, by refine ⟨?_, ?_, ?_, ?_, ?_, ?_, ?_⟩ <;> decide +kernel⟩,
   ⟨W (live), hd, 110, 85, 90, by refine ⟨?_, ?_, ?_, ?_, ?_, ?_, ?_⟩ <;> decide +kernel⟩,
   ⟨W (live.set GOV_TEMP_STAT_peak_c 5), by decide +kernel⟩,
   ⟨W ({ withVol live with shape := { live.shape with vols := [(3, bks0)], wheel := [] } }), 3, bks0, by refine ⟨?_, ?_⟩ <;> decide +kernel⟩⟩

theorem witness_GovernorEvents :
    (∃ (s : State) (d : List Nat) (w : List Nat) (e : Int) (on : List Nat) (g : Giving), Live .up s ∧ s.chip.gov.samples = 0 ∧ s.chip.energyOpen = false ∧ s.chip.flag GOV_CTL_en = true ∧ s.chip.slotList.filter s.chip.powered = on ∧ (List.range 5).map (fun l => (on.map (fun x => s.chip.laneDemand x l)).sum) = d ∧ [atLeast1 (s.chip.get GOV_CLASS_W_high_w), atLeast1 (s.chip.get GOV_CLASS_W_med_w), atLeast1 (s.chip.get GOV_CLASS_W_low_w)] = w ∧ s.chip.budget = e ∧ giving e d w (s.chip.get GOV_CAP_urgent_min_w * 100) (min 50 (s.chip.get GOV_CAP_bg_floor_pct)) (decide (2 ≤ s.chip.get GOV_TEMP_STAT_state)) = g) ∧
    (∃ (s : State), Live .up s ∧ s.chip.energyOpen = true) ∧
    (∃ (s : State) (t : Int), Live .up s ∧ -128 ≤ t ∧ t < 115) ∧
    (∃ (s : State) (t : Int), Live .up s ∧ 115 ≤ t) ∧
    (∃ (s : State), Live .up s) ∧
    (∃ (s : State) (slot : Nat), Live .up s ∧ slot < 34 ∧ slotAbsent s.chip.id slot = false ∧ slot ∉ s.chip.gov.psChanged) ∧
    (∃ (s : State) (share : Nat), Live .up s ∧ 1 ≤ share ∧ share ≤ 99) ∧
    (∃ (s : State), Live .up s) ∧
    (∃ (s : State) (p : Nat) (t : Contract), Live .up s ∧ s.chip.get TWIN_STATUS_pair_state = 1 ∧ s.chip.shape.pads = [(p, t)] ∧ s.chip.intake.cmds = []) ∧
    (∃ (s : State) (acts : List Nat) (i : Nat) (p : Nat), Live .up s ∧ i ∈ s.chip.slowable ∧ s.chip.flag GOV_CTL_vf_en = true ∧ s.chip.validPoints i ≠ [] ∧ s.chip.flag GOV_ISL_PT_recal_pending i = true ∧ s.chip.choosePoint i (min 255 (acts.getD i 0)) = p ∧ s.chip.get GOV_ISL_PT_point i < p ∧ p < 8) ∧
    (∃ (s : State) (island : Nat) (p : Nat), Live .up s ∧ island < 37 ∧ s.chip.gov.moves.get? island = some p ∧ p < 8) ∧
    (∃ (s : State) (island : Nat), Live .up s ∧ island < 37 ∧ islandAbsent s.chip.id island = false) ∧
    (∃ (s : State) (island : Nat), Live .up s ∧ island < 37 ∧ islandAbsent s.chip.id island = false) ∧
    (∃ (s : State) (island : Nat) (p : Nat), Live .up s ∧ island < 37 ∧ islandAbsent s.chip.id island = false ∧ p < 8) ∧
    (∃ (s : State), Live .up s) ∧
    (∃ (s : State) (slot : Nat), Live .up s ∧ slot < 34 ∧ slotAbsent s.chip.id slot = false) ∧
    (∃ (s : State) (slot : Nat) (st : Nat), Live .up s ∧ slot < 32 ∧ s.chip.get GOV_DRV_PS_CFG_idle_np_ms ≠ 0 ∧ (∃ f ∈ s.chip.stripes.flocks, slot ∈ f.2.slots) ∧ s.chip.flag GOV_DRV_PWR_np slot = false ∧ (∀ d ∈ s.chip.stripes.drv, d.2.slot ≠ slot) ∧ s.chip.id.chipB = false ∧ s.chip.gov.npState.get? slot = some st ∧ s.chip.flag GOV_CTL_ps_en = true ∧ s.chip.chipTagsFree = true) ∧
    (∃ (s : State) (domain : Nat), Live .up s ∧ domain < 62 ∧ domainAbsent s.chip.id domain = false ∧ s.chip.get GOV_PD_CTL_req domain = 0 ∧ s.chip.get GOV_PD_STAT_state domain = 2 ∧ neverGated domain = false ∧ (clockGated domain || s.chip.mayGate domain) = true) ∧
    (∃ (s : State) (domain : Nat), Live .up s ∧ domain < 62 ∧ domainAbsent s.chip.id domain = false ∧ s.chip.get GOV_PD_CTL_req domain < 2 ∧ s.chip.get GOV_PD_STAT_state domain < 2) ∧
    (∃ (s : State) (domain : Nat), Live .up s ∧ domain < 62 ∧ s.chip.get GOV_PD_STAT_state domain = 3) ∧
    (∃ (s : State) (slot : Nat), Live .up s ∧ slot < 32 ∧ s.chip.id.chipB = false ∧ s.chip.flag GOV_CTL_ps_en = true ∧ s.chip.freeTags slot ≠ 0 ∧ s.chip.chipTagsFree = true) ∧
    (∃ (s : State) (slot : Nat) (st : Nat) (tries : Nat) (np : Bool), Live .gated s ∧ slot < 34 ∧ slotAbsent s.chip.id slot = false ∧ st < 16 ∧ s.chip.gov.psWait.get? slot = some (st, np, tries) ∧ (s.chip.adminTag slot 0).2 = false) ∧
    (∃ (s : State) (slot : Nat) (st : Nat) (tries : Nat) (np : Bool), Live .gated s ∧ slot < 34 ∧ slotAbsent s.chip.id slot = false ∧ s.chip.gov.psWait.get? slot = some (st, np, tries) ∧ (s.chip.adminTag slot 0).2 = false) ∧
    (∃ (s : State) (slot : Nat), Live .gated s ∧ slot < 34 ∧ slotAbsent s.chip.id slot = false ∧ (s.chip.adminTag slot 1).2 = false) :=
  ⟨⟨W (gEn live), (gD (gEn live)), (gW (gEn live)), (gEn live).budget, (gOn (gEn live)), (gG (gEn live)), by refine ⟨?_, ?_, ?_, ?_, ?_, ?_, ?_, ?_, ?_⟩ <;> decide +kernel⟩,
   ⟨W ({ live.set GOV_CAP_shelf_cap_w 0 with gov := { live.gov with released := [(3, 5)] } }), by refine ⟨?_, ?_⟩ <;> decide +kernel⟩,
   ⟨W (live), 114, by refine ⟨?_, ?_, ?_⟩ <;> decide +kernel⟩,
   ⟨W (live), 115, by refine ⟨?_, ?_⟩ <;> decide +kernel⟩,
   ⟨W (live), by decide +kernel⟩,
   ⟨W (live), 33, by refine ⟨?_, ?_, ?_, ?_⟩ <;> decide +kernel⟩,
   ⟨W (live), 1, by refine ⟨?_, ?_, ?_⟩ <;> decide +kernel⟩,
   ⟨W ({ live with shape := { live.shape with demandMs := [(3, 4)] } }), by decide +kernel⟩,
   ⟨W ({ live.set TWIN_STATUS_pair_state 1 with shape := { live.shape with pads := [(1, ⟨5, 7, 65536, 65536⟩)], demand := [(1, 9)] } }), 1, ⟨5, 7, 65536, 65536⟩, by refine ⟨?_, ?_, ?_, ?_⟩ <;> decide +kernel⟩,
   ⟨W (vf0 live), [0, 0, 0, 0, 0, 0, 0, 0, 300], 8, (vf0 live).choosePoint 8 255, by refine ⟨?_, ?_, ?_, ?_, ?_, ?_, ?_, ?_⟩ <;> decide +kernel⟩,
   ⟨W ({ live with gov := { live.gov with moves := [(36, 7)] } }), 36, 7, by refine ⟨?_, ?_, ?_, ?_⟩ <;> decide +kernel⟩,
   ⟨W (live), 36, by refine ⟨?_, ?_, ?_⟩ <;> decide +kernel⟩,
   ⟨W (live.set GOV_ISL_PT_point 7 36), 36, by refine ⟨?_, ?_, ?_⟩ <;> decide +kernel⟩,
   ⟨W (live), 36, 7, by refine ⟨?_, ?_, ?_, ?_⟩ <;> decide +kernel⟩,
   ⟨W ({ live with gov := { live.gov with moves := [(36, 7), (8, 0)] } }), by decide +kernel⟩,
   ⟨W (live), 33, by refine ⟨?_, ?_, ?_⟩ <;> decide +kernel⟩,
   ⟨W (psC live), 31, 4, by refine ⟨?_, ?_, ?_, ?_, ?_, ?_, ?_, ?_, ?_, ?_⟩ <;> decide +kernel⟩,
   ⟨W ((live.set GOV_PD_STAT_state 2 61).set FUSE_STAT_debug_locked 1), 61, by refine ⟨?_, ?_, ?_, ?_, ?_, ?_, ?_⟩ <;> decide +kernel⟩,
   ⟨W (live.set GOV_PD_STAT_state 1 61), 61, by refine ⟨?_, ?_, ?_, ?_, ?_⟩ <;> decide +kernel⟩,
   ⟨W ({ live.set GOV_PD_STAT_state 3 61 with swx := { live.swx with stiles := [(99, [61])] } }), 61, by refine ⟨?_, ?_, ?_⟩ <;> decide +kernel⟩,
   ⟨W (live.set GOV_CTL_ps_en 1), 31, by refine ⟨?_, ?_, ?_, ?_, ?_, ?_⟩ <;> decide +kernel⟩,
   ⟨W (psW live 1), 33, 15, 1, true, by refine ⟨?_, ?_, ?_, ?_, ?_, ?_⟩ <;> decide +kernel⟩,
   ⟨W (psW live 1), 33, 15, 1, true, by refine ⟨?_, ?_, ?_, ?_, ?_⟩ <;> decide +kernel⟩,
   ⟨W (live), 33, by refine ⟨?_, ?_, ?_, ?_⟩ <;> decide +kernel⟩⟩

theorem witness_SlotCommands :
    (∃ (s : State) (h : Hdr) (slot : Nat) (on : Nat), slot < 32 ∧ slotAbsent s.chip.id slot = false ∧ on ≠ 0 ∧ h.src ≠ .record ∧ s.chip.flag SLOT_CH_STAT_present slot = true ∧ s.chip.pathState slot = 0 ∧ Ready s ⟨0x0600, true, .w, paramBytes [1, 1]⟩ h [] ∧ PairOk s h) ∧
    (∃ (s : State) (h : Hdr) (slot : Nat), slot < 34 ∧ slotAbsent s.chip.id slot = false ∧ (s.chip.pathState slot = 2 ∨ s.chip.pathState slot = 3) ∧ Ready s ⟨0x0600, true, .w, paramBytes [1, 1]⟩ h [] ∧ PairOk s h) ∧
    (∃ (s : State) (h : Hdr) (slot : Nat) (images : List Nat), slot < 34 ∧ slotAbsent s.chip.id slot = false ∧ (∀ k, k < 7 → SLOT_CURVE_i_ma.of (images.getD k 0) < SLOT_CURVE_i_ma.of (images.getD (k + 1) 0) ∧ SLOT_CURVE_t_us.of (images.getD (k + 1) 0) < SLOT_CURVE_t_us.of (images.getD k 0)) ∧ SLOT_CURVE_i_ma.of (images.getD 0 0) ≤ s.chip.get SLOT_CEIL_cont_ma slot ∧ (∀ k, k < 8 → SLOT_CURVE_i_ma.of (images.getD k 0) ≤ s.chip.get SLOT_CEIL_peak_ma slot) ∧ s.chip.get SLOT_CH_CFG_ilim_ramp_ma slot ≤ s.chip.get SLOT_CEIL_peak_ma slot ∧ s.chip.get SLOT_CH_LIM_sc_ma slot ≤ s.chip.get SLOT_CEIL_peak_ma slot ∧ Ready s ⟨0x0601, false, .w, paramBytes [1, 8, 8, 8, 8, 8, 8, 8, 8]⟩ h []) ∧
    (∃ (s : State) (h : Hdr) (slot : Nat) (cfg : Nat) (lim : Nat), slot < 34 ∧ slotAbsent s.chip.id slot = false ∧ SLOT_CH_CFG_ilim_ramp_ma.of cfg ≤ s.chip.get SLOT_CEIL_peak_ma slot ∧ SLOT_CH_LIM_sc_ma.of lim ≤ s.chip.get SLOT_CEIL_peak_ma slot ∧ Ready s ⟨0x0602, false, .w, paramBytes [1, 8, 8, 8, 8]⟩ h []) ∧
    (∃ (s : State) (h : Hdr) (slot : Nat), slot < 34 ∧ slotAbsent s.chip.id slot = false ∧ s.chip.pathState slot = 6 ∧ Ready s ⟨0x0603, true, .w, paramBytes [1]⟩ h [] ∧ PairOk s h) ∧
    (∃ (s : State) (slot : Nat), Live .up s ∧ s.chip.slotOk slot = true ∧ s.chip.pathState slot = 6) ∧
    (∃ (s : State) (h : Hdr) (slot : Nat), slot < 34 ∧ slotAbsent s.chip.id slot = false ∧ Ready s ⟨0x0604, true, .w, paramBytes [1, 4]⟩ h [] ∧ PairOk s h) ∧
    (∃ (s : State) (h : Hdr) (slot : Nat), slot < 34 ∧ slotAbsent s.chip.id slot = false ∧ s.chip.sidebandOwner = true ∧ s.chip.powered slot = true ∧ (s.chip.run slot).removeAt = none ∧ s.chip.removalRefused slot = false ∧ Ready s ⟨0x0605, true, .w, paramBytes [1]⟩ h [] ∧ PairOk s h) ∧
    (∃ (s : State) (h : Hdr) (slot : Nat), slot < 34 ∧ slotAbsent s.chip.id slot = false ∧ s.chip.sidebandOwner = true ∧ s.chip.powered slot = true ∧ (s.chip.run slot).removeAt = none ∧ s.chip.removalRefused slot = true ∧ Ready s ⟨0x0605, true, .w, paramBytes [1]⟩ h [] ∧ PairOk s h) ∧
    (∃ (s : State) (h : Hdr) (slot : Nat) (kind : Nat), slot < 34 ∧ slotAbsent s.chip.id slot = false ∧ kind < 3 ∧ Ready s ⟨0x0606, true, .r, paramBytes [1, 1, 1, 2]⟩ h [] ∧ PairOk s h) ∧
    (∃ (s : State) (h : Hdr) (slot : Nat), slot < 34 ∧ slotAbsent s.chip.id slot = false ∧ Ready s ⟨0x0607, false, .r, paramBytes [1]⟩ h []) ∧
    (∃ (s : State) (h : Hdr), Ready s ⟨0x0608, false, .w, paramBytes [8]⟩ h []) ∧
    (∃ (s : State) (h : Hdr) (slot : Nat), slot < 34 ∧ slotAbsent s.chip.id slot = false ∧ Ready s ⟨0x0611, false, .w, paramBytes [1, 4, 8]⟩ h []) ∧
    (∃ (s : State) (slot : Nat), Live .up s ∧ s.chip.slotOk slot = true ∧ (s.chip.pathState slot = 2 ∨ s.chip.pathState slot = 3)) ∧
    (∃ (s : State) (slot : Nat), Live .up s ∧ s.chip.slotOk slot = true) ∧
    (∃ (s : State), Live .up s) :=
  ⟨⟨W ({ sl (pres live 31) 31 0 with flash := { live.flash with rules := { live.flash.rules with holdSlots := 2^31 } } }), hd, 31, 1, by refine ⟨?_, ?_, ?_, ?_, ?_, ?_, ?_, ?_⟩ <;> decide +kernel⟩,
   ⟨W (sl live 33 2), hd, 33, by refine ⟨?_, ?_, ?_, ?_, ?_⟩ <;> decide +kernel⟩,
   ⟨W (ceil live 33), hd, 33, cur0, by refine ⟨?_, ?_, ?_, ?_, ?_, ?_, ?_, ?_⟩ <;> decide +kernel⟩,
   ⟨W (ceil live 33), hd, 33, 0xFFFFFFFFFFFFFFFF, 0xFFFFFFFFFFFFFFFF, by refine ⟨?_, ?_, ?_, ?_, ?_⟩ <;> decide +kernel⟩,
   ⟨W (sl (live.set SLOT_CH_STAT_fault_cnt 3 33) 33 6 { slotRun0 with retryEnd := some 7 }), hd, 33, by refine ⟨?_, ?_, ?_, ?_, ?_⟩ <;> decide +kernel⟩,
   ⟨W (sl (live.set SLOT_CH_STAT_fault_cnt 3 33) 33 6), 33, by refine ⟨?_, ?_, ?_⟩ <;> decide +kernel⟩,
   ⟨W (live), hd, 33, by refine ⟨?_, ?_, ?_, ?_⟩ <;> decide +kernel⟩,
   ⟨W (pw live 5), hd, 5, by refine ⟨?_, ?_, ?_, ?_, ?_, ?_, ?_, ?_⟩ <;> decide +kernel⟩,
   ⟨W (pw live 33), hd, 33, by refine ⟨?_, ?_, ?_, ?_, ?_, ?_, ?_, ?_⟩ <;> decide +kernel⟩,
   ⟨W (live), hd, 33, 2, by refine ⟨?_, ?_, ?_, ?_, ?_⟩ <;> decide +kernel⟩,
   ⟨W (live), hd, 33, by refine ⟨?_, ?_, ?_⟩ <;> decide +kernel⟩,
   ⟨W (live), hd, by decide +kernel⟩,
   ⟨W (live), hd, 33, by refine ⟨?_, ?_, ?_⟩ <;> decide +kernel⟩,
   ⟨W (sl live 33 3), 33, by refine ⟨?_, ?_, ?_⟩ <;> decide +kernel⟩,
   ⟨W (live.set SLOT_CH_FAULT_valid 1 33), 33, by refine ⟨?_, ?_⟩ <;> decide +kernel⟩,
   ⟨W (live.set SLOT_EVT_LAST_valid 1), by decide +kernel⟩⟩

theorem witness_SlotEvents :
    (∃ (s : State) (slot : Nat), Live .aon s ∧ s.chip.slotOk slot = true ∧ s.chip.gateIsOn slot = true) ∧
    (∃ (s : State) (slot : Nat), Live .aon s ∧ s.chip.slotOk slot = true ∧ s.chip.pathState slot = 2) ∧
    (∃ (s : State) (slot : Nat) (amps : Nat) (vout : Nat) (vin : Nat) (acc : List Nat), Live .aon s ∧ s.chip.slotOk slot = true ∧ (List.range 8).map (fun k => if s.chip.get SLOT_CURVE_i_ma slot k < amps then (s.chip.run slot).acc.getD k 0 + 1 else (s.chip.run slot).acc.getD k 0 - 1) = acc ∧ (∀ k, k < 8 → acc.getD k 0 = 0 ∨ acc.getD k 0 < s.chip.get SLOT_CURVE_t_us slot k) ∧ (s.chip.get SLOT_CH_LIM_uv_mv slot ≤ vout ∨ vin < s.chip.get SLOT_CH_LIM_uv_mv slot + 500)) ∧
    (∃ (s : State) (slot : Nat) (amps : Nat) (k : Nat), Live .aon s ∧ s.chip.slotOk slot = true ∧ s.chip.gateIsOn slot = true ∧ k < 8 ∧ s.chip.get SLOT_CURVE_i_ma slot k < amps ∧ s.chip.get SLOT_CURVE_t_us slot k ≤ (s.chip.run slot).acc.getD k 0 + 1) ∧
    (∃ (s : State) (slot : Nat) (d : Int), Live .aon s ∧ s.chip.slotOk slot = true ∧ 32 ≤ slot ∧ s.chip.flag SLOT_TH_CFG_src slot = true ∧ s.chip.gateIsOn slot = true ∧ (clamp 100 175 (s.chip.get SLOT_TH_CFG_tj_max_c slot) : Int) * 10 ≤ d) ∧
    (∃ (s : State) (slot : Nat) (t : Int), Live .aon s ∧ s.chip.slotOk slot = true ∧ s.chip.get SLOT_CH_STAT_i_ma slot = 0 ∧ signedOf 8 (s.chip.get SLOT_TH_CFG_ta_c slot) = t ∧ t < 100 ∧ (s.chip.run slot).tj = t * 1000000000 ∧ (s.chip.run slot).tc = t * 1000000000 ∧ (s.chip.run slot).cooling = false) ∧
    (∃ (s : State) (slot : Nat), Live .aon s ∧ s.chip.slotOk slot = true ∧ s.chip.pathState slot = 2) ∧
    (∃ (s : State) (slot : Nat), Live .aon s ∧ s.chip.slotOk slot = true ∧ (s.chip.run slot).retryEnd.isSome = true ∧ s.chip.pathState slot = 5) ∧
    (∃ (s : State) (slot : Nat), Live .aon s ∧ s.chip.slotOk slot = true ∧ s.chip.pathState slot = 3) ∧
    (∃ (s : State) (slot : Nat), Live .aon s ∧ s.chip.slotOk slot = true ∧ s.chip.pathState slot = 1 ∧ s.chip.startTrue slot = true) ∧
    (∃ (s : State) (slot : Nat), Live .aon s ∧ s.chip.slotOk slot = true ∧ s.chip.flag SLOT_CH_STAT_present slot = true ∧ (s.chip.pathState slot = 2 ∨ s.chip.pathState slot = 3)) ∧
    (∃ (s : State) (slot : Nat), Live .aon s ∧ s.chip.slotOk slot = true ∧ slot < 32 ∧ s.chip.flag SLOT_CH_STAT_present slot = false ∧ s.chip.pathState slot = 0 ∧ s.chip.flag SLOT_CH_CTL_en slot = true) ∧
    (∃ (s : State) (slot : Nat), Live .aon s ∧ (slot = 32 ∨ slot = 33) ∧ s.chip.pathState slot = 3) ∧
    (∃ (s : State) (slot : Nat), Live .aon s ∧ s.chip.slotOk slot = true ∧ s.chip.privileged slot = true ∧ s.chip.startTrue slot = true ∧ s.chip.pathState slot = 0) ∧
    (∃ (s : State) (slot : Nat), Live .aon s ∧ s.chip.slotOk slot = true ∧ s.chip.pathState slot = 4) ∧
    (∃ (s : State) (slot : Nat), Live .aon s ∧ s.chip.slotOk slot = true ∧ s.chip.flag SLOT_CH_CTL_pwarn slot = true ∧ s.chip.waitsPartner slot = false ∧ (s.chip.pathState slot = 2 ∨ s.chip.pathState slot = 3)) ∧
    (∃ (s : State) (slot : Nat), Live .aon s ∧ s.chip.slotOk slot = true ∧ s.chip.twin.withdrawn = true ∧ s.chip.gateIsOn slot = true) ∧
    (∃ (s : State) (slot : Nat) (ms : Nat), Live .up s ∧ s.chip.slotOk slot = true ∧ ms < 20) ∧
    (∃ (s : State) (slot : Nat) (ms : Nat), Live .up s ∧ s.chip.slotOk slot = true ∧ 20 ≤ ms ∧ ms ≤ 2000 ∧ s.chip.sidebandOwner = true ∧ s.chip.pathState slot ≠ 6 ∧ s.chip.flag SLOT_CH_STAT_present slot = true ∧ (s.chip.run slot).forcedAt = none ∧ (s.chip.run slot).removeAt = none ∧ s.chip.powered slot = true ∧ s.chip.removalRefused slot = false) ∧
    (∃ (s : State) (slot : Nat), Live .up s ∧ s.chip.slotOk slot = true ∧ s.chip.flag SLOT_CH_STAT_present slot = true ∧ s.chip.flag SLOT_GLB_CFG_forced_en = true) ∧
    (∃ (s : State) (slot : Nat), Live .up s ∧ s.chip.slotOk slot = true ∧ (s.chip.run slot).removeAt.isSome = true ∧ (s.chip.run slot).offAsked = false) ∧
    (∃ (s : State) (slot : Nat), Live .up s ∧ s.chip.slotOk slot = true ∧ (s.chip.run slot).offAsked = true ∧ (s.chip.pathState slot = 2 ∨ s.chip.pathState slot = 3)) ∧
    (∃ (s : State) (slot : Nat), Live .up s ∧ s.chip.slotOk slot = true ∧ (s.chip.run slot).offAsked = true ∧ s.chip.get TWIN_STATUS_pair_state = 1 ∧ s.chip.sidebandOwner = true) ∧
    (∃ (s : State) (slot : Nat), Live .up s ∧ s.chip.slotOk slot = true ∧ (s.chip.run slot).forcedAt.isSome = true ∧ s.chip.gateIsOn slot = true) ∧
    (∃ (s : State) (slot : Nat) (n : Nat) (g : Nat), Live .up s ∧ s.chip.slotOk slot = true ∧ s.chip.flag DRV_LINK_STAT_up slot = false ∧ (s.chip.run slot).trainFails = n ∧ (s.chip.run slot).trainGen = g) ∧
    (∃ (s : State) (slot : Nat), Live .up s ∧ s.chip.slotOk slot = true ∧ s.chip.flag DRV_LINK_STAT_up slot = true) ∧
    (∃ (s : State) (slot : Nat), Live .up s ∧ s.chip.slotOk slot = true ∧ s.chip.flag DRV_LINK_STAT_up slot = false ∧ (s.chip.run slot).linkDownAt.isSome = true ∧ s.chip.powered slot = true) ∧
    (∃ (s : State) (slot : Nat) (t : Int), Live .up s ∧ s.chip.slotOk slot = true ∧ s.chip.sidebandOwner = true ∧ s.chip.get SLOT_GLB_CFG_mi_poll_ms ≠ 0 ∧ s.chip.flag SLOT_CH_STAT_present slot = true ∧ s.chip.powered slot = true ∧ -128 ≤ t ∧ t ≤ 127) ∧
    (∃ (s : State) (slot : Nat), Live .up s ∧ s.chip.slotOk slot = true ∧ s.chip.sidebandOwner = true ∧ s.chip.get SLOT_GLB_CFG_mi_poll_ms ≠ 0 ∧ s.chip.flag SLOT_CH_STAT_present slot = true ∧ s.chip.powered slot = true) ∧
    (∃ (s : State) (slot : Nat) (t : Nat), Live .up s ∧ s.chip.slotOk slot = true ∧ (s.chip.run slot).pgSince = some t ∧ t + 100000000 ≤ s.chip.clk ∧ s.chip.flag SLOT_CH_CTL_perst_rel slot = false ∧ (if 32 ≤ slot then 8 else 10) ≤ s.chip.get GLB_START_step) ∧
    (∃ (s : State) (slot : Nat), Live .up s ∧ s.chip.slotOk slot = true) ∧
    (∃ (s : State) (slot : Nat), Live .up s ∧ s.chip.slotOk slot = true) :=
  ⟨⟨W (onBody live 33), 33, by refine ⟨?_, ?_, ?_⟩ <;> decide +kernel⟩,
   ⟨W (sl live 33 2), 33, by refine ⟨?_, ?_, ?_⟩ <;> decide +kernel⟩,
   ⟨W (sl (live.set SLOT_CURVE_i_ma 5 33 3) 33 2 { slotRun0 with acc := [0, 0, 0, 4, 4, 5, 6, 9] }), 33, 6, 60000, 50, (acc8 (sl (live.set SLOT_CURVE_i_ma 5 33 3) 33 2 { slotRun0 with acc := [0, 0, 0, 4, 4, 5, 6, 9] }) 33 6), by refine ⟨?_, ?_, ?_, ?_, ?_⟩ <;> decide +kernel⟩,
   ⟨W (sl (live.set SLOT_CURVE_i_ma 5 33 3) 33 2 { slotRun0 with acc := [0, 0, 0, 1000000000] }), 33, 6, 3, by refine ⟨?_, ?_, ?_, ?_, ?_, ?_⟩ <;> decide +kernel⟩,
   ⟨W (sl (live.set SLOT_TH_CFG_src 1 33) 33 3), 33, 2000, by refine ⟨?_, ?_, ?_, ?_, ?_, ?_⟩ <;> decide +kernel⟩,
   ⟨W (sl (live.set SLOT_TH_CFG_ta_c 40 33) 33 5 { slotRun0 with tj := 40000000000, tc := 40000000000 }), 33, 40, by refine ⟨?_, ?_, ?_, ?_, ?_, ?_, ?_, ?_⟩ <;> decide +kernel⟩,
   ⟨W (sl live 33 2), 33, by refine ⟨?_, ?_, ?_⟩ <;> decide +kernel⟩,
   ⟨W (sl live 33 5 { slotRun0 with retryEnd := some 7 }), 33, by refine ⟨?_, ?_, ?_, ?_⟩ <;> decide +kernel⟩,
   ⟨W (sl (live.set SLOT_CH_STAT_fault_cnt 2 33) 33 3), 33, by refine ⟨?_, ?_, ?_⟩ <;> decide +kernel⟩,
   ⟨W (sl (pres live 33) 33 1), 33, by refine ⟨?_, ?_, ?_, ?_⟩ <;> decide +kernel⟩,
   ⟨W (onBody live 33), 33, by refine ⟨?_, ?_, ?_, ?_⟩ <;> decide +kernel⟩,
   ⟨W (live.set SLOT_CH_CTL_en 1 31), 31, by refine ⟨?_, ?_, ?_, ?_, ?_, ?_⟩ <;> decide +kernel⟩,
   ⟨W (onBody (live.set SLOT_CH_STAT_seated 1 32) 32), 32, by refine ⟨?_, ?_, ?_⟩ <;> decide +kernel⟩,
   ⟨W (sl (((live.set SLOT_CH_STAT_present 1 33).set SLOT_CEIL_priv 1 33).set SLOT_CH_STAT_seated 1 33) 33 0), 33, by refine ⟨?_, ?_, ?_, ?_, ?_⟩ <;> decide +kernel⟩,
   ⟨W (sl (live.set SLOT_CH_CTL_en 1 33) 33 4 { slotRun0 with offAsked := true }), 33, by refine ⟨?_, ?_, ?_⟩ <;> decide +kernel⟩,
   ⟨W (onBody (live.set SLOT_CH_CTL_pwarn 1 33) 33), 33, by refine ⟨?_, ?_, ?_, ?_, ?_⟩ <;> decide +kernel⟩,
   ⟨W ({ onBody live 33 with twin := { live.twin with withdrawn := true } }), 33, by refine ⟨?_, ?_, ?_, ?_⟩ <;> decide +kernel⟩,
   ⟨W (live.set SLOT_CH_STAT_button 1 33), 33, 19, by refine ⟨?_, ?_, ?_⟩ <;> decide +kernel⟩,
   ⟨W (onBody live 5), 5, 20, by refine ⟨?_, ?_, ?_, ?_, ?_, ?_, ?_, ?_, ?_, ?_, ?_⟩ <;> decide +kernel⟩,
   ⟨W (onBody (live.set SLOT_GLB_CFG_forced_en 1) 33), 33, by refine ⟨?_, ?_, ?_, ?_⟩ <;> decide +kernel⟩,
   ⟨W (sl (live.set TWIN_STATUS_pair_state 1) 33 3 { slotRun0 with removeAt := some 7 }), 33, by refine ⟨?_, ?_, ?_, ?_⟩ <;> decide +kernel⟩,
   ⟨W (sl (live.set SLOT_CH_STAT_partner_on 1 33) 33 3 { slotRun0 with offAsked := true }), 33, by refine ⟨?_, ?_, ?_, ?_⟩ <;> decide +kernel⟩,
   ⟨W (sl (live.set TWIN_STATUS_pair_state 1) 33 3 { slotRun0 with offAsked := true, removeAt := some 7, quiesced := true }), 33, by refine ⟨?_, ?_, ?_, ?_, ?_⟩ <;> decide +kernel⟩,
   ⟨W (sl live 33 3 { slotRun0 with forcedAt := some 7 }), 33, by refine ⟨?_, ?_, ?_, ?_⟩ <;> decide +kernel⟩,
   ⟨W (sl (live.set DRV_LINK_CFG_retries 3 33) 33 3 { slotRun0 with trainFails := 1, trainGen := 2 }), 33, 1, 2, by refine ⟨?_, ?_, ?_, ?_, ?_⟩ <;> decide +kernel⟩,
   ⟨W (withDrv (driveOn live 5) (drvAt 5)), 5, by refine ⟨?_, ?_, ?_⟩ <;> decide +kernel⟩,
   ⟨W (withDrv (sl (pw live 5) 5 3 { slotRun0 with linkDownAt := some 7 }) (drvAt 5)), 5, by refine ⟨?_, ?_, ?_, ?_, ?_⟩ <;> decide +kernel⟩,
   ⟨W (onBody (live.set SLOT_GLB_CFG_mi_poll_ms 5) 33), 33, -128, by refine ⟨?_, ?_, ?_, ?_, ?_, ?_, ?_, ?_⟩ <;> decide +kernel⟩,
   ⟨W (onBody (live.set SLOT_GLB_CFG_mi_poll_ms 5) 33), 33, by refine ⟨?_, ?_, ?_, ?_, ?_, ?_⟩ <;> decide +kernel⟩,
   ⟨W ({ sl (live.set GLB_START_step 8) 33 3 { slotRun0 with pgSince := some 0 } with clk := 100000000 }), 33, 0, by refine ⟨?_, ?_, ?_, ?_, ?_, ?_⟩ <;> decide +kernel⟩,
   ⟨W (live), 33, by refine ⟨?_, ?_⟩ <;> decide +kernel⟩,
   ⟨W (live), 33, by refine ⟨?_, ?_⟩ <;> decide +kernel⟩⟩

theorem witness_KeyCommands :
    (∃ (s : State) (h : Hdr) (index : Nat) (role : Nat) (identity : Bytes), index < 8 ∧ role < 3 ∧ 0 < identity.length ∧ identity.length ≤ 128 ∧ importGuards s.chip 0xFFFF = none ∧ Ready s ⟨0x0240, false, .w, paramBytes [1, 1, 1] + 5 + 96 + identity.length⟩ h []) ∧
    (∃ (s : State) (h : Hdr), debugOpen s.chip = false ∧ s.chip.rootUsable = true ∧ Ready s ⟨0x0800, false, .w, paramBytes [8] + 97 + 7 + 48⟩ h []) ∧
    (∃ (s : State) (h : Hdr), debugOpen s.chip = true ∧ Ready s ⟨0x0800, false, .w, paramBytes [8] + 97 + 7 + 48⟩ h []) ∧
    (∃ (s : State) (h : Hdr), Ready s ⟨0x0801, false, .r, 0⟩ h []) ∧
    (∃ (s : State) (h : Hdr) (p : Nat) (hasGcur : Nat), p < 4096 ∧ (s.chip.id.half = true → p < 2048) ∧ hasGcur < 2 ∧ importGuards s.chip p = none ∧ s.chip.cipher.pads.get? p = none ∧ s.chip.cipher.erases.has p = false ∧ Ready s ⟨0x0802, true, .w, paramBytes [2, 1, 4] + 96⟩ h [p] ∧ PairOk s h) ∧
    (∃ (s : State) (h : Hdr) (p : Nat) (hasGcur : Nat) (k : PadKey), p < 4096 ∧ (s.chip.id.half = true → p < 2048) ∧ hasGcur < 2 ∧ importGuards s.chip p = none ∧ s.chip.cipher.pads.get? p = some k ∧ s.chip.cipher.erases.has p = false ∧ Ready s ⟨0x0802, true, .w, paramBytes [2, 1, 4] + 96⟩ h [p] ∧ PairOk s h) ∧
    (∃ (s : State) (h : Hdr) (p : Nat) (k : PadKey), p < 4096 ∧ (s.chip.id.half = true → p < 2048) ∧ s.chip.cipher.pads.get? p = some k ∧ s.chip.cipher.erases.has p = false ∧ Ready s ⟨0x0803, false, .r, paramBytes [2]⟩ h [p]) ∧
    (∃ (s : State) (p : Nat) (k : PadKey), Live .up s ∧ p < 4096 ∧ s.chip.cipher.pads.get? p = some k ∧ s.chip.cipher.erases.has p = false ∧ k.gLo < 2 ^ 32 ∧ k.gCur < 2 ^ 32 ∧ k.state < 4) ∧
    (∃ (s : State) (h : Hdr) (identity : Bytes) (i : Nat), 0 < identity.length ∧ identity.length ≤ 128 ∧ importGuards s.chip 0xFFFF = none ∧ h.paddock = 0xFFFF ∧ s.chip.cipher.psks.first? (fun _ p => p.identity = identity) = none ∧ s.chip.cipher.psks.freeFrom 8192 0 = i ∧ i < 8192 ∧ Ready s ⟨0x0804, true, .w, paramBytes [1] + 7 + 96 + identity.length⟩ h [] ∧ PairOk s h) ∧
    (∃ (s : State) (h : Hdr) (keyId : Nat) (i : Nat) (p : Psk), s.chip.cipher.psks = [(i, p)] ∧ p.keyId = keyId ∧ Ready s ⟨0x0805, true, .w, paramBytes [8]⟩ h [] ∧ PairOk s h) ∧
    (∃ (s : State) (h : Hdr) (keyId : Nat), (∀ e ∈ s.chip.cipher.psks, e.2.keyId ≠ keyId) ∧ Ready s ⟨0x0805, true, .w, paramBytes [8]⟩ h [] ∧ PairOk s h) ∧
    (∃ (s : State) (h : Hdr) (p : Nat) (k : PadKey), p < 4096 ∧ (s.chip.id.half = true → p < 2048) ∧ s.chip.cipher.pads.get? p = some k ∧ k.proposed = none ∧ k.state ≠ 2 ∧ k.gCur + 1 ≤ k.gLo + 3 ∧ (s.chip.pairedNow = true → s.chip.id.chipB = false) ∧ Ready s ⟨0x0806, true, .w, paramBytes [2]⟩ h [p] ∧ PairOk s h) ∧
    (∃ (s : State) (h : Hdr) (p : Nat) (k : PadKey), p < 4096 ∧ (s.chip.id.half = true → p < 2048) ∧ s.chip.cipher.pads.get? p = some k ∧ k.proposed = none ∧ k.state = 1 ∧ k.gLo + 3 < k.gCur + 1 ∧ Ready s ⟨0x0806, true, .w, paramBytes [2]⟩ h [p] ∧ PairOk s h) ∧
    (∃ (s : State) (h : Hdr), Ready s ⟨0x0807, true, .w, paramBytes [8]⟩ h [] ∧ PairOk s h) ∧
    (∃ (s : State) (h : Hdr), Ready s ⟨0x0808, false, .w, paramBytes [4]⟩ h []) ∧
    (∃ (s : State) (h : Hdr) (lane : Nat), lane < laneCount s.chip.id ∧ Ready s ⟨0x0809, false, .w, paramBytes [1, 1]⟩ h []) ∧
    (∃ (s : State) (h : Hdr) (lane : Nat), lane < laneCount s.chip.id ∧ s.chip.get CIPH_LANE_state lane = 2 ∧ Ready s ⟨0x0809, false, .w, paramBytes [1, 1]⟩ h []) ∧
    (∃ (s : State) (h : Hdr) (lane : Nat), lane < laneCount s.chip.id ∧ s.chip.get CIPH_LANE_state lane = 2 ∧ Ready s ⟨0x0809, false, .w, paramBytes [1, 1]⟩ h []) :=
  ⟨⟨W (kekOn live), hd, 7, 2, List.replicate 128 1, by refine ⟨?_, ?_, ?_, ?_, ?_, ?_⟩ <;> decide +kernel⟩,
   ⟨W (rootOk live), hd, by refine ⟨?_, ?_, ?_⟩ <;> decide +kernel⟩,
   ⟨W (live), hd, by refine ⟨?_, ?_⟩ <;> decide +kernel⟩,
   ⟨W (live), hd, by decide +kernel⟩,
   ⟨W (kekOn live), hd, 4095, 1, by refine ⟨?_, ?_, ?_, ?_, ?_, ?_, ?_, ?_⟩ <;> decide +kernel⟩,
   ⟨W (kekOn (padK live padKey0)), hd, 4095, 1, padKey0, by refine ⟨?_, ?_, ?_, ?_, ?_, ?_, ?_, ?_⟩ <;> decide +kernel⟩,
   ⟨W (padK live { padKey0 with counts := [(0, 2 ^ 46)], gCur := 3 }), hd, 4095, { padKey0 with counts := [(0, 2 ^ 46)], gCur := 3 }, by refine ⟨?_, ?_, ?_, ?_, ?_⟩ <;> decide +kernel⟩,
   ⟨W (padK live { padKey0 with counts := [(0, 2 ^ 46)], gCur := 2 ^ 32 - 1, keyId := 2 ^ 64 }), 4095, { padKey0 with counts := [(0, 2 ^ 46)], gCur := 2 ^ 32 - 1, keyId := 2 ^ 64 }, by refine ⟨?_, ?_, ?_, ?_, ?_, ?_, ?_⟩ <;> decide +kernel⟩,
   ⟨W ({ kekOn live with cipher := { (kekOn live).cipher with psks := [(0, psk0)] } }), hd, List.replicate 128 1, 1, by refine ⟨?_, ?_, ?_, ?_, ?_, ?_, ?_, ?_, ?_⟩ <;> decide +kernel⟩,
   ⟨W ({ live with cipher := { live.cipher with psks := [(0, psk0)] } }), hd, 5, 0, psk0, by refine ⟨?_, ?_, ?_, ?_⟩ <;> decide +kernel⟩,
   ⟨W ({ live with cipher := { live.cipher with psks := [(0, psk0)] } }), hd, 6, by refine ⟨?_, ?_, ?_⟩ <;> decide +kernel⟩,
   ⟨W (padK (live.set TWIN_STATUS_pair_state 1) { padKey0 with gLo := 3, gCur := 5 }), hd, 4095, { padKey0 with gLo := 3, gCur := 5 }, by refine ⟨?_, ?_, ?_, ?_, ?_, ?_, ?_, ?_, ?_⟩ <;> decide +kernel⟩,
   ⟨W (padK live { padKey0 with gLo := 3, gCur := 6 }), hd, 4095, { padKey0 with gLo := 3, gCur := 6 }, by refine ⟨?_, ?_, ?_, ?_, ?_, ?_, ?_, ?_⟩ <;> decide +kernel⟩,
   ⟨W (live), hd, by refine ⟨?_, ?_⟩ <;> decide +kernel⟩,
   ⟨W (live), hd, by decide +kernel⟩,
   ⟨W (live), hd, 23, by refine ⟨?_, ?_⟩ <;> decide +kernel⟩,
   ⟨W (live.set CIPH_LANE_state 2 23), hd, 23, by refine ⟨?_, ?_, ?_⟩ <;> decide +kernel⟩,
   ⟨W (live.set CIPH_LANE_state 2 23), hd, 23, by refine ⟨?_, ?_, ?_⟩ <;> decide +kernel⟩⟩

theorem witness_CipherEvents :
    (∃ (s : State), Live .up s) ∧
    (∃ (s : State) (lane : Nat), Live .up s ∧ lane < laneCount s.chip.id ∧ s.chip.get CIPH_LANE_state lane = 0) ∧
    (∃ (s : State) (lane : Nat), Live .up s ∧ lane < laneCount s.chip.id ∧ s.chip.get CIPH_LANE_state lane = 1 ∧ ((s.chip.cipher.faultNs.getD lane []).filter (fun t => decide (s.chip.clk < t + 3600000000000))).length < 3) ∧
    (∃ (s : State) (lane : Nat) (pass : Bool), Live .up s ∧ lane < laneCount s.chip.id ∧ s.chip.get CIPH_LANE_state lane = 1 ∧ (pass = false ∨ 3 ≤ ((s.chip.cipher.faultNs.getD lane []).filter (fun t => decide (s.chip.clk < t + 3600000000000))).length)) ∧
    (∃ (s : State) (isl : Nat) (n : Nat), Live .up s ∧ isl < 3 ∧ s.chip.id.half = false ∧ s.chip.cipher.katNext.getD isl 0 % 8 = n ∧ s.chip.get CIPH_LANE_state (isl * 8 + n) = 0) ∧
    (∃ (s : State) (isl : Nat) (n : Nat), Live .up s ∧ isl < 3 ∧ s.chip.id.half = false ∧ s.chip.cipher.katNext.getD isl 0 % 8 = n ∧ s.chip.get CIPH_LANE_state (isl * 8 + n) = 0) ∧
    (∃ (s : State), Live .up s) ∧
    (∃ (s : State), Live .up s) ∧
    (∃ (s : State) (requests : Nat), Live .up s ∧ s.chip.get CIPH_ENTROPY_since_reseed + requests < 0xFFFFFFFF) ∧
    (∃ (s : State) (requests : Nat), Live .up s ∧ 2 ^ 32 ≤ s.chip.get CIPH_ENTROPY_since_reseed + requests ∧ s.chip.flag CIPH_STATUS_drbg_ready = true) ∧
    (∃ (s : State) (isl : Nat) (kind : Nat) (index : Nat), Live .up s ∧ isl < 3 ∧ (kind = 1 ∨ kind = 2 ∨ kind = 3) ∧ index < 2 ^ 20 ∧ (∀ x ∈ s.chip.cipher.ctxs.getD isl [], x ≠ kind * 2 ^ 20 + index) ∧ ((s.chip.cipher.ctxs.getD isl []).filter (fun x => x / 2 ^ 20 = kind)).length < ctxLimit kind) ∧
    (∃ (s : State) (isl : Nat) (kind : Nat) (index : Nat) (x : Nat) (rest : List Nat), Live .up s ∧ isl < 3 ∧ (kind = 1 ∨ kind = 2 ∨ kind = 3) ∧ index < 2 ^ 20 ∧ s.chip.cipher.ctxs.getD isl [] = x :: rest ∧ (x :: rest).Nodup ∧ (∀ y ∈ x :: rest, y / 2 ^ 20 = kind ∧ y ≠ kind * 2 ^ 20 + index) ∧ rest.length + 1 = ctxLimit kind) ∧
    (∃ (s : State) (ctx : Nat) (n : Conn), Live .up s ∧ s.chip.opened .tcp ctx n ∧ s.chip.plainPorts) ∧
    (∃ (s : State), Live .up s) ∧
    (∃ (s : State) (p : Nat) (gen : Nat) (k : PadKey), Live .up s ∧ s.chip.cipher.pads = [(p, k)] ∧ s.chip.get TWIN_STATUS_pair_state = 1 ∧ gen = k.gCur ∧ k.state = 1 ∧ s.chip.flag CIPH_CTL_auto_advance = false) ∧
    (∃ (s : State) (p : Nat) (n : Nat) (k : PadKey), Live .up s ∧ s.chip.cipher.pads = [(p, k)] ∧ s.chip.get TWIN_STATUS_pair_state = 2 ∧ s.chip.flag CIPH_CTL_auto_advance = true ∧ k.state = 1 ∧ k.proposed = none ∧ k.gCur + 1 ≤ k.gLo + 3 ∧ 2 ^ clamp 32 44 (s.chip.get CIPH_GEN_CFG_soft_log2) ≤ k.counts.getD k.gCur 0 + n) ∧
    (∃ (s : State) (p : Nat) (gen : Nat) (k : PadKey), Live .up s ∧ s.chip.cipher.pads.get? p = some k ∧ k.proposed = some gen ∧ k.ackHere = true) ∧
    (∃ (s : State) (p : Nat) (gen : Nat) (k : PadKey), Live .up s ∧ s.chip.cipher.pads.get? p = some k ∧ k.proposed = some gen ∧ k.ackHere = false) ∧
    (∃ (s : State) (p : Nat) (gen : Nat) (k : PadKey), Live .up s ∧ s.chip.cipher.pads.get? p = some k ∧ gen = k.gCur + 1 ∧ gen ≤ k.gLo + 3) ∧
    (∃ (s : State), Live .up s) ∧
    (∃ (s : State) (p : Nat) (gen : Nat) (k : PadKey), Live .up s ∧ s.chip.cipher.waiting = [.advance p gen] ∧ s.chip.cipher.pads.get? p = some k ∧ s.chip.get TWIN_STATUS_pair_state = 1 ∧ k.ackThere = true) ∧
    (∃ (s : State) (p : Nat) (k : PadKey), Live .up s ∧ s.chip.cipher.waiting = [.retire p] ∧ s.chip.cipher.pads.get? p = some k ∧ k.state ≠ 3) ∧
    (∃ (s : State) (p : Nat) (k : PadKey), Live .up s ∧ s.chip.cipher.waiting = [.retire p] ∧ s.chip.cipher.pads.get? p = some k ∧ k.state = 3 ∧ k.proposed = none ∧ k.gCur = k.gLo + 3 ∧ s.chip.pairedNow = false) :=
  ⟨⟨W ((live.set CIPH_ENTROPY_rct_fail 1).set CIPH_ENTROPY_apt_fail 1), by decide +kernel⟩,
   ⟨W (live.set CIPH_STATUS_lanes_ok 0xFFFFFF), 23, by refine ⟨?_, ?_, ?_⟩ <;> decide +kernel⟩,
   ⟨W ({ live.set CIPH_LANE_state 1 23 with cipher := { live.cipher with faultNs := [(23, [live.clk, live.clk])] } }), 23, by refine ⟨?_, ?_, ?_, ?_⟩ <;> decide +kernel⟩,
   ⟨W ({ live.set CIPH_LANE_state 1 23 with cipher := { live.cipher with faultNs := [(23, [live.clk, live.clk, live.clk])] } }), 23, true, by refine ⟨?_, ?_, ?_, ?_⟩ <;> decide +kernel⟩,
   ⟨W ({ live.set CIPH_LANE_kat_runs 65535 23 with cipher := { live.cipher with katNext := [(2, 15)] } }), 2, 7, by refine ⟨?_, ?_, ?_, ?_, ?_⟩ <;> decide +kernel⟩,
   ⟨W ({ live.set CIPH_LANE_kat_runs 65535 23 with cipher := { live.cipher with katNext := [(2, 15)] } }), 2, 7, by refine ⟨?_, ?_, ?_, ?_, ?_⟩ <;> decide +kernel⟩,
   ⟨W (live), by decide +kernel⟩,
   ⟨W ({ live.set CIPH_ENTROPY_since_reseed 5 with cipher := { live.cipher with sourceOk := false } }), by decide +kernel⟩,
   ⟨W (live.set CIPH_ENTROPY_since_reseed 5), 0xFFFFFFF9, by refine ⟨?_, ?_⟩ <;> decide +kernel⟩,
   ⟨W ((live.set CIPH_ENTROPY_since_reseed 5).set CIPH_STATUS_drbg_ready 1), 0xFFFFFFFB, by refine ⟨?_, ?_, ?_⟩ <;> decide +kernel⟩,
   ⟨W (ctxs0 live 2 ((List.range (ctxLimit 3 - 1)).map (fun i => 3 * 2 ^ 20 + i))), 2, 3, 1048575, by refine ⟨?_, ?_, ?_, ?_, ?_, ?_⟩ <;> decide +kernel⟩,
   ⟨W (ctxs0 live 2 ((List.range (ctxLimit 3)).map (fun i => 3 * 2 ^ 20 + i))), 2, 3, 1048575, 3 * 2 ^ 20, (((List.range (ctxLimit 3)).map (fun i => 3 * 2 ^ 20 + i)).drop 1), by refine ⟨?_, ?_, ?_, ?_, ?_, ctxsDistinct, ?_, ?_⟩ <;> decide +kernel⟩,
   ⟨W (withConn live tcp0), 131071, tcp0, by refine ⟨?_, ?_, ?_⟩ <;> decide +kernel⟩,
   ⟨W ({ live with cipher := { live.cipher with psks := [(8191, psk0)] } }), by decide +kernel⟩,
   ⟨W (padK ((live.set TWIN_STATUS_pair_state 1).set CIPH_CTL_auto_advance 0) { padKey0 with counts := [(0, 9)] }), 4095, 0, { padKey0 with counts := [(0, 9)] }, by refine ⟨?_, ?_, ?_, ?_, ?_, ?_⟩ <;> decide +kernel⟩,
   ⟨W (padK ((live.set TWIN_STATUS_pair_state 2).set CIPH_CTL_auto_advance 1) { padKey0 with counts := [(0, 2 ^ 44)] }), 4095, 7, { padKey0 with counts := [(0, 2 ^ 44)] }, by refine ⟨?_, ?_, ?_, ?_, ?_, ?_, ?_, ?_⟩ <;> decide +kernel⟩,
   ⟨W (padK live { padKey0 with proposed := some 1, ackHere := true }), 4095, 1, { padKey0 with proposed := some 1, ackHere := true }, by refine ⟨?_, ?_, ?_, ?_⟩ <;> decide +kernel⟩,
   ⟨W (padK live { padKey0 with proposed := some 1 }), 4095, 1, { padKey0 with proposed := some 1 }, by refine ⟨?_, ?_, ?_, ?_⟩ <;> decide +kernel⟩,
   ⟨W (padK live { padKey0 with gLo := 1, gCur := 3 }), 4095, 4, { padKey0 with gLo := 1, gCur := 3 }, by refine ⟨?_, ?_, ?_, ?_⟩ <;> decide +kernel⟩,
   ⟨W (live), by decide +kernel⟩,
   ⟨W ({ padK (live.set TWIN_STATUS_pair_state 1) { padKey0 with proposed := some 1, ackThere := true } with cipher := { live.cipher with pads := [(4095, { padKey0 with proposed := some 1, ackThere := true })], waiting := [.advance 4095 1] } }), 4095, 1, { padKey0 with proposed := some 1, ackThere := true }, by refine ⟨?_, ?_, ?_, ?_, ?_⟩ <;> decide +kernel⟩,
   ⟨W ({ live with cipher := { live.cipher with pads := [(4095, { padKey0 with gCur := 1 })], waiting := [.retire 4095] } }), 4095, { padKey0 with gCur := 1 }, by refine ⟨?_, ?_, ?_, ?_⟩ <;> decide +kernel⟩,
   ⟨W ({ live with cipher := { live.cipher with pads := [(4095, { padKey0 with gCur := 3, state := 3 })], waiting := [.retire 4095] } }), 4095, { padKey0 with gCur := 3, state := 3 }, by refine ⟨?_, ?_, ?_, ?_, ?_, ?_, ?_⟩ <;> decide +kernel⟩⟩

theorem witness_TwinRows :
    (∃ (s : State) (h : Hdr), Ready s ⟨0x0900, false, .r, 0⟩ h []) ∧
    (∃ (s : State) (h : Hdr) (fold : Nat) (v : Nat) (x : Instr × Nat × Field), x ∈ [(Instr.foldBellwetherSet h fold v, 0x0901, TWIN_FOLD_CFG_bellwether), (Instr.foldHoldSet h fold v, 0x0903, TWIN_FOLD_CFG_hold)] ∧ fold < 8 ∧ v < 2 ∧ Ready s ⟨x.2.1, true, .w, paramBytes [1, 1]⟩ h [] ∧ PairOk s h) ∧
    (∃ (s : State) (h : Hdr), Ready s ⟨0x0906, true, .w, paramBytes [4, 8, 8]⟩ h [] ∧ PairOk s h) ∧
    (∃ (s : State) (h : Hdr), s.chip.twin.fuseHold = true ∧ Ready s ⟨0x0904, false, .w, 0⟩ h []) ∧
    (∃ (s : State) (h : Hdr), s.chip.twin.fuseHold = false ∧ Ready s ⟨0x0904, false, .w, 0⟩ h []) ∧
    (∃ (s : State) (kick : Nat), Live .up s ∧ bit kick 0 = true ∧ s.chip.get SWX_CTL_plane_en ≠ 0) ∧
    (∃ (s : State), Live .up s) ∧
    (∃ (s : State), Live .up s ∧ s.chip.flag TWIN_WHISTLE_STAT_gen_running = true) ∧
    (∃ (s : State), Live .up s ∧ s.chip.flag TWIN_WHISTLE_STAT_gen_running = false) ∧
    (∃ (s : State), Live .up s) ∧
    (∃ (s : State) (own : Nat) (f : Nat), Live .up s ∧ f < 8 ∧ bit own f ≠ s.chip.flag TWIN_FOLD_STAT_own_line f) ∧
    (∃ (s : State) (own : Nat), Live .up s ∧ (∀ f, f < 8 → bit own f = s.chip.flag TWIN_FOLD_STAT_own_line f)) ∧
    (∃ (s : State) (path : Nat) (x : Field × Field), Live .up s ∧ (path = 0 ∧ x = (TWIN_WHISTLE_STAT_miss_link, TWIN_WHISTLE_STAT_link_ok) ∨ path = 1 ∧ x = (TWIN_WHISTLE_STAT_miss_wire, TWIN_WHISTLE_STAT_wire_ok))) ∧
    (∃ (s : State) (path : Nat) (raw : Bytes), Live .up s ∧ (¬ s.chip.takesWhistle path raw)) ∧
    (∃ (s : State) (path : Nat) (raw : Bytes), Live .up s ∧ s.chip.takesWhistle path raw ∧ s.chip.get TWIN_STATUS_pair_state = 1 ∧ bit (whistleField raw 3 1) 2 = false ∧ s.chip.pairReason (whistleField raw 2 1) (whistleField raw 20 2) (whistleField raw 18 2) = 0) ∧
    (∃ (s : State) (path : Nat) (raw : Bytes), Live .up s ∧ s.chip.takesWhistle path raw ∧ s.chip.flag TWIN_CTL_en = true ∧ bit (whistleField raw 3 1) 2 = false ∧ s.chip.pairReason (whistleField raw 2 1) (whistleField raw 20 2) (whistleField raw 18 2) = 0 ∧ (s.chip.get TWIN_STATUS_pair_state = 0 ∨ s.chip.get TWIN_STATUS_pair_state = 2 ∨ s.chip.get TWIN_STATUS_pair_state = 3 ∧ path = 0 ∨ s.chip.get TWIN_STATUS_pair_state = 4)) ∧
    (∃ (s : State) (path : Nat) (n : Nat) (raw : Bytes), Live .up s ∧ s.chip.takesWhistle path raw ∧ s.chip.flag TWIN_CTL_en = true ∧ bit (whistleField raw 3 1) 2 = false ∧ s.chip.pairReason (whistleField raw 2 1) (whistleField raw 20 2) (whistleField raw 18 2) = n ∧ n ≠ 0 ∧ s.chip.get TWIN_STATUS_pair_state ≠ 4 ∧ s.chip.movesOk) ∧
    (∃ (s : State), Live .up s ∧ s.chip.get TWIN_STATUS_pair_state = 1 ∧ s.chip.get TWIN_PLINK_width = 0 ∧ s.chip.movesOk) ∧
    (∃ (s : State), Live .up s ∧ s.chip.flag TWIN_CTL_en = true ∧ s.chip.get TWIN_STATUS_pair_state = 0 ∧ s.chip.suspect = true ∧ s.chip.twin.withdrawn = false ∧ s.chip.start.misfit = false ∧ s.chip.flag TWIN_STATUS_pair_fuse = false ∧ s.chip.flag TWIN_CTL_claim_absent = true) ∧
    (∃ (s : State) (lanes : Nat), Live .up s ∧ s.chip.flash.rules.partOff = 0 ∧ lanes < 2 ^ 16 ∧ s.chip.id.half = false ∧ s.chip.get TWIN_STATUS_pair_state ≠ 3) ∧
    (∃ (s : State) (lanes : Nat), Live .up s ∧ s.chip.flash.rules.partOff = 0 ∧ 8 ≤ popCount lanes 16 ∧ s.chip.get TWIN_STATUS_pair_state = 3 ∧ s.chip.get TWIN_PLINK_width = 0) ∧
    (∃ (s : State), Live .up s ∧ s.chip.mirror.resyncing = true ∧ (∀ x ∈ s.chip.mirror.unacked, s.chip.mirror.resyncTo ≤ x.1)) ∧
    (∃ (s : State), Live .aon s) ∧
    (∃ (s : State), Live .up s) :=
  ⟨⟨W (live), hd, by decide +kernel⟩,
   ⟨W (live), hd, 7, 1, (Instr.foldHoldSet hd 7 1, 0x0903, TWIN_FOLD_CFG_hold), by refine ⟨?_, ?_, ?_, ?_, ?_⟩ <;> first | decide +kernel | rfl | simp⟩,
   ⟨W (live), hd, by refine ⟨?_, ?_⟩ <;> first | decide +kernel | rfl | simp⟩,
   ⟨W ({ live.set TWIN_CTL_en 1 with twin := { live.twin with fuseHold := true } }), hd, by refine ⟨?_, ?_⟩ <;> first | decide +kernel | rfl | simp⟩,
   ⟨W (live), hd, by refine ⟨?_, ?_⟩ <;> first | decide +kernel | rfl | simp⟩,
   ⟨W (live.set SWX_CTL_plane_en 2), 1, by refine ⟨?_, ?_, ?_⟩ <;> first | decide +kernel | rfl | simp⟩,
   ⟨W (live.set TWIN_WHISTLE_STAT_gen_running 1), by decide +kernel⟩,
   ⟨W ({ live.set TWIN_WHISTLE_STAT_gen_running 1 with twin := { live.twin with seq := 2 ^ 32 - 1 } }), by refine ⟨?_, ?_⟩ <;> first | decide +kernel | rfl | simp⟩,
   ⟨W (live), by refine ⟨?_, ?_⟩ <;> first | decide +kernel | rfl | simp⟩,
   ⟨W (live.set TWIN_CROOK_loop_err 255), by decide +kernel⟩,
   ⟨W (live), 0x80, 7, by refine ⟨?_, ?_, ?_⟩ <;> first | decide +kernel | rfl | simp⟩,
   ⟨W (live.set TWIN_FOLD_STAT_own_line 1 7), 0x80, by refine ⟨?_, ?_⟩ <;> first | decide +kernel | rfl | simp⟩,
   ⟨W (live), 0, (TWIN_WHISTLE_STAT_miss_link, TWIN_WHISTLE_STAT_link_ok), by refine ⟨?_, ?_⟩ <;> first | decide +kernel | rfl | simp⟩,
   ⟨W ({ live with twin := { live.twin with seen := [(1, 5)] } }), 1, wh0 live 0 1 0x3432 live.start.proto 255, by refine ⟨?_, ?_⟩ <;> first | decide +kernel | rfl | simp⟩,
   ⟨W (twOn (live.set TWIN_WHISTLE_STAT_miss_wire 7) 1), 1, wh0 live 0 1 0x3432 live.start.proto 255, by refine ⟨?_, ?_, ?_, ?_, ?_⟩ <;> first | decide +kernel | rfl | simp⟩,
   ⟨W (carr (twOn live 0)), 1, wh0 live 0 1 0x3432 live.start.proto 255, by refine ⟨?_, ?_, ?_, ?_, ?_, ?_⟩ <;> first | decide +kernel | rfl | simp⟩,
   ⟨W (twOn live 0), 1, 3, wh0 live 0 0 0x3432 live.start.proto 255, by refine ⟨?_, ?_, ?_, ?_, ?_, ?_, ?_, ?_⟩ <;> first | decide +kernel | rfl | simp⟩,
   ⟨W ({ (twOn live 1) with mirror := { live.mirror with unacked := [(5, .discard 0 7 0 0)] } }), by refine ⟨?_, ?_, ?_, ?_⟩ <;> first | decide +kernel | rfl | simp⟩,
   ⟨W ((twOn live 0).set TWIN_CTL_claim_absent 1), by refine ⟨?_, ?_, ?_, ?_, ?_, ?_, ?_, ?_⟩ <;> first | decide +kernel | rfl | simp⟩,
   ⟨W (twOn live 1), 0x7F80, by refine ⟨?_, ?_, ?_, ?_, ?_⟩ <;> first | decide +kernel | rfl | simp⟩,
   ⟨W (twOn live 3), 0xFF00, by refine ⟨?_, ?_, ?_, ?_, ?_⟩ <;> first | decide +kernel | rfl | simp⟩,
   ⟨W ({ live with mirror := { live.mirror with resyncing := true, resyncTo := 5, heldSeq := 4, unacked := [(5, .discard 0 7 0 0)] } }), by refine ⟨?_, ?_, ?_⟩ <;> first | decide +kernel | rfl | simp⟩,
   ⟨W ({ withConn (live.set TWIN_FOLD_STAT_own_line 1 7) conn0 with twin := { live.twin with claims := [(7, 1)] } }), by decide +kernel⟩,
   ⟨W (live), by decide +kernel⟩⟩

theorem witness_TakeoverRows :
    (∃ (s : State) (h : Hdr) (fold : Nat) (chip : Nat), fold < 8 ∧ chip < 2 ∧ s.chip.ownedBy fold chip = true ∧ s.chip.twin.moves.has fold = false ∧ Ready s ⟨0x0902, true, .l, paramBytes [1, 1]⟩ h []) ∧
    (∃ (s : State) (h : Hdr) (fold : Nat) (i : Nat), fold < 8 ∧ s.chip.twin.moves = [] ∧ (∀ f, f < 8 → s.chip.get TWIN_FOLD_STAT_phase f ≠ 3 ∧ s.chip.get TWIN_FOLD_STAT_phase f ≠ 4) ∧ s.chip.get TWIN_STATUS_pair_state = 1 ∧ s.chip.get TWIN_RESYNC_state = 2 ∧ s.chip.get TWIN_FOLD_STAT_phase fold = 0 ∧ s.chip.flag TWIN_FOLD_STAT_gate_open fold = false ∧ h.src ≠ .partner ∧ (h.partner ≤ 2 ∨ h.localOnly = true) ∧ s.chip.loSlot = some i ∧ i < 64 ∧ Ready s ⟨0x0902, true, .l, paramBytes [1, 1]⟩ h []) ∧
    (∃ (s : State) (h : Hdr) (fold : Nat) (i : Nat), fold < 8 ∧ s.chip.twin.moves = [] ∧ (∀ f, f < 8 → s.chip.get TWIN_FOLD_STAT_phase f ≠ 3 ∧ s.chip.get TWIN_FOLD_STAT_phase f ≠ 4) ∧ s.chip.get TWIN_STATUS_pair_state = 1 ∧ s.chip.get TWIN_RESYNC_state = 2 ∧ s.chip.get TWIN_FOLD_STAT_phase fold = 0 ∧ s.chip.flag TWIN_FOLD_STAT_gate_open fold = true ∧ h.src ≠ .partner ∧ (h.partner ≤ 2 ∨ h.localOnly = true) ∧ s.chip.loSlot = some i ∧ i < 64 ∧ Ready s ⟨0x0902, true, .l, paramBytes [1, 1]⟩ h []) ∧
    (∃ (s : State) (fold : Nat) (lines : Nat), Live .up s ∧ fold < 8 ∧ bit lines fold = false ∧ s.chip.flag TWIN_FOLD_STAT_own_line fold = true ∧ s.chip.flag TWIN_FOLD_STAT_gate_open fold = false ∧ s.chip.twin.claims.get? fold = some 0 ∧ s.chip.mirror.journal = [] ∧ (∀ e ∈ s.chip.stripes.entries, e.2.fold ≠ fold)) ∧
    (∃ (s : State) (fold : Nat) (lines : Nat), Live .up s ∧ fold < 8 ∧ bit lines fold = false ∧ s.chip.flag TWIN_FOLD_STAT_own_line fold = true ∧ s.chip.flag TWIN_FOLD_STAT_gate_open fold = false ∧ s.chip.twin.claims.get? fold = some 1 ∧ s.chip.mirror.journal = [] ∧ (∀ e ∈ s.chip.stripes.entries, e.2.fold ≠ fold) ∧ s.chip.stripes.drv = []) ∧
    (∃ (s : State) (fold : Nat) (lines : Nat), Live .up s ∧ fold < 8 ∧ bit lines fold = true) ∧
    (∃ (s : State), Live .up s ∧ (∀ f, f < 8 → s.chip.get TWIN_FOLD_STAT_phase f ≠ 4)) ∧
    (∃ (s : State) (lines : Nat), Live .up s ∧ (s.chip.get TWIN_STATUS_pair_state = 1 ∨ s.chip.get TWIN_STATUS_pair_state = 3) ∧ s.chip.twin.withdrawn = false ∧ s.chip.missLimit ≤ s.chip.get TWIN_WHISTLE_STAT_miss_link ∧ s.chip.missLimit ≤ s.chip.get TWIN_WHISTLE_STAT_miss_wire ∧ (∀ f, f < 8 → bit lines f = false) ∧ s.chip.movesOk ∧ s.chip.intake.forwards = []) ∧
    (∃ (s : State) (lines : Nat) (f : Nat), Live .up s ∧ f < 8 ∧ bit lines f = true ∧ (s.chip.twin.leaving = false ∨ s.chip.twin.theirs ≠ 0)) ∧
    (∃ (s : State), Live .up s ∧ s.chip.mirror.journal = [] ∧ (∃ f, f < 8 ∧ s.chip.get TWIN_FOLD_STAT_phase f = 2 ∧ f ∉ s.chip.twin.reserved)) ∧
    (∃ (s : State) (n : Nat) (fold : Nat) (e : JEntry), Live .up s ∧ s.chip.mirror.journal = [(n, e)] ∧ e.kind ≤ 4 ∧ e.isOpen = true ∧ e.fold = fold ∧ fold < 8 ∧ s.chip.get TWIN_FOLD_STAT_phase fold = 2 ∧ fold ∉ s.chip.twin.reserved) ∧
    (∃ (s : State) (fold : Nat), Live .up s ∧ fold < 8 ∧ s.chip.get TWIN_FOLD_STAT_phase fold = 2 ∧ fold ∈ s.chip.twin.reserved ∧ (∀ e ∈ s.chip.stripes.entries, ¬ (e.2.replayed = true ∧ e.2.isOpen = true ∧ e.2.fold = fold))) ∧
    (∃ (s : State) (fold : Nat) (n : Nat) (e : JEntry), Live .up s ∧ fold < 8 ∧ (n, e) ∈ s.chip.stripes.entries ∧ e.replayed = true ∧ e.isOpen = true ∧ e.fold = fold) ∧
    (∃ (s : State), Live .network s) ∧
    (∃ (s : State) (tag : Nat) (k : HostCmd), Live .network s ∧ s.chip.intake.forwards.get? tag = some k ∧ k.ended = none) ∧
    (∃ (s : State) (tag : Nat) (sct : Nat) (sc : Nat) (k : HostCmd), Live .network s ∧ s.chip.intake.forwards.get? tag = some k ∧ k.fwd = none ∧ k.silent = false ∧ s.chip.intake.cmds = [] ∧ s.chip.placedWhole k (sct * 256 + sc) = true) ∧
    (∃ (s : State) (ctx : Nat) (q : Sqe), Live .network s ∧ (∀ e ∈ s.chip.intake.cmds, ¬ (e.2.ctx = fwdCtx ctx ∧ e.2.sqe.cid = q.cdw10 / 65536 ∧ e.2.fwd.isSome = true))) ∧
    (∃ (s : State) (fold : Nat), Live .up s ∧ fold < 8 ∧ s.chip.flag TWIN_CTL_auto_failback = true ∧ s.chip.get TWIN_STATUS_pair_state = 1 ∧ s.chip.get TWIN_RESYNC_state = 2 ∧ (∀ x ∈ s.chip.presentSlots, s.chip.flag DRV_NVME_STAT_rsv_held x = true) ∧ s.chip.twin.myMask = 0 ∧ s.chip.twin.moves = [] ∧ (∀ f, f < 8 → (s.chip.get TWIN_FOLD_CFG_bellwether f = s.chip.me ↔ f = fold) ∧ s.chip.get TWIN_FOLD_STAT_phase f = 0) ∧ s.chip.flag TWIN_FOLD_CFG_hold fold = false ∧ s.chip.flag TWIN_FOLD_STAT_gate_open fold = false ∧ s.chip.flag TWIN_FOLD_STAT_partner_line fold = true) ∧
    (∃ (s : State), Live .up s ∧ s.chip.flag TWIN_CTL_auto_failback = false) ∧
    (∃ (s : State) (fold : Nat), Live .up s ∧ fold < 8 ∧ s.chip.get TWIN_FOLD_STAT_phase fold = 3 ∧ s.chip.flag TWIN_FOLD_STAT_own_line fold = true ∧ s.chip.drained fold = true) ∧
    (∃ (s : State) (fold : Nat), Live .up s ∧ fold < 8 ∧ s.chip.get TWIN_FOLD_STAT_phase fold = 3 ∧ s.chip.drained fold = false) ∧
    (∃ (s : State) (fold : Nat) (lines : Nat) (slot : Option Nat), Live .up s ∧ fold < 8 ∧ s.chip.get TWIN_FOLD_STAT_phase fold = 4 ∧ s.chip.twin.moves.get? fold = some (s.chip.me, slot) ∧ bit lines fold = false ∧ s.chip.twin.withdrawn = false ∧ s.chip.flag TWIN_FOLD_STAT_own_line fold = false ∧ s.chip.flag TWIN_FOLD_STAT_gate_open fold = false) ∧
    (∃ (s : State) (fold : Nat) (lines : Nat) (dest : Nat) (i : Nat), Live .up s ∧ fold < 8 ∧ s.chip.get TWIN_FOLD_STAT_phase fold = 4 ∧ bit lines fold = true ∧ s.chip.flag TWIN_FOLD_STAT_own_line fold = false ∧ s.chip.twin.moves = [(fold, dest, some i)] ∧ i < 64 ∧ dest ≠ s.chip.me ∧ (∀ f, f < 8 → f ≠ fold → s.chip.get TWIN_FOLD_STAT_phase f ≠ 4 ∧ bit lines f = false) ∧ s.chip.stripes.bg = []) ∧
    (∃ (s : State) (fold : Nat) (dest : Nat) (i : Nat), Live .up s ∧ fold < 8 ∧ s.chip.get TWIN_FOLD_STAT_phase fold = 3 ∧ s.chip.twin.moves = [(fold, dest, some i)] ∧ i < 64) :=
  ⟨⟨W (live.set TWIN_FOLD_STAT_gate_open 1 7), hd, 7, 0, by refine ⟨?_, ?_, ?_, ?_, ?_⟩ <;> decide +kernel⟩,
   ⟨W (tm live []), hd, 7, ((tm live []).loSlot.getD 77), by refine ⟨?_, ?_, ?_, ?_, ?_, ?_, ?_, ?_, ?_, ?_, ?_, ?_⟩ <;> decide +kernel⟩,
   ⟨W ((tm live []).set TWIN_FOLD_STAT_gate_open 1 7), hd, 7, ((tm live []).loSlot.getD 77), by refine ⟨?_, ?_, ?_, ?_, ?_, ?_, ?_, ?_, ?_, ?_, ?_, ?_⟩ <;> decide +kernel⟩,
   ⟨W ({ live.set TWIN_FOLD_STAT_own_line 1 7 with twin := { live.twin with claims := [(7, 0)] } }), 7, 0x7F, by refine ⟨?_, ?_, ?_, ?_, ?_, ?_, ?_, ?_⟩ <;> decide +kernel⟩,
   ⟨W ({ live.set TWIN_FOLD_STAT_own_line 1 7 with twin := { live.twin with claims := [(7, 1)] } }), 7, 0x7F, by refine ⟨?_, ?_, ?_, ?_, ?_, ?_, ?_, ?_, ?_⟩ <;> decide +kernel⟩,
   ⟨W ({ live.set TWIN_FOLD_STAT_own_line 1 7 with twin := { live.twin with claims := [(7, 1)] } }), 7, 0x80, by refine ⟨?_, ?_, ?_⟩ <;> decide +kernel⟩,
   ⟨W ((((live.set TWIN_FOLD_STAT_own_line 1 7).set TWIN_FOLD_STAT_own_line 1 2).set TWIN_FOLD_CFG_bellwether 1 7).set TWIN_FOLD_STAT_gate_open 1 1), by refine ⟨?_, ?_⟩ <;> decide +kernel⟩,
   ⟨W ((((live.set TWIN_STATUS_pair_state 3).set TWIN_WHISTLE_STAT_miss_link 255).set TWIN_WHISTLE_STAT_miss_wire 255).set TWIN_FOLD_STAT_gate_open 1 1), 0, by refine ⟨?_, ?_, ?_, ?_, ?_, ?_, ?_, ?_⟩ <;> decide +kernel⟩,
   ⟨W ({ live.set TWIN_STATUS_pair_state 1 with twin := { live.twin with leaving := true, theirs := 128 } }), 0x80, 7, by refine ⟨?_, ?_, ?_, ?_⟩ <;> decide +kernel⟩,
   ⟨W (live.set TWIN_FOLD_STAT_phase 2 7), by refine ⟨?_, ?_, ?_⟩ <;> decide +kernel⟩,
   ⟨W ({ live.set TWIN_FOLD_STAT_phase 2 7 with mirror := { live.mirror with journal := [(9, je0)] } }), 9, 7, je0, by refine ⟨?_, ?_, ?_, ?_, ?_, ?_, ?_, ?_⟩ <;> decide +kernel⟩,
   ⟨W ({ live.set TWIN_FOLD_STAT_phase 2 7 with twin := { live.twin with reserved := [7] } }), 7, by refine ⟨?_, ?_, ?_, ?_, ?_⟩ <;> decide +kernel⟩,
   ⟨W (withEntry live { je0 with replayed := true }), 7, 9, { je0 with replayed := true }, by refine ⟨?_, ?_, ?_, ?_, ?_, ?_⟩ <;> decide +kernel⟩,
   ⟨W (live), by decide +kernel⟩,
   ⟨W ({ live with intake := { live.intake with forwards := [(5, io0)] } }), 5, io0, by refine ⟨?_, ?_, ?_⟩ <;> decide +kernel⟩,
   ⟨W ({ live with intake := { live.intake with forwards := [(5, io0)], cmds := [] } }), 5, 2, 0x81, io0, by refine ⟨?_, ?_, ?_, ?_, ?_, ?_⟩ <;> decide +kernel⟩,
   ⟨W (live), 131071, { sqe0 with opc := 8, cdw10 := 7 * 65536 }, by refine ⟨?_, ?_⟩ <;> decide +kernel⟩,
   ⟨W ((((tm (live.set TWIN_CTL_auto_failback 1) []).set TWIN_FOLD_STAT_partner_line 1 7).set TWIN_FOLD_CFG_bellwether 1 7 |> fun c => (List.range 7).foldl (fun c f => c.set TWIN_FOLD_CFG_bellwether 1 f) c).set TWIN_FOLD_CFG_bellwether 0 7), 7, by refine ⟨?_, ?_, ?_, ?_, ?_, ?_, ?_, ?_, ?_, ?_, ?_, ?_⟩ <;> decide +kernel⟩,
   ⟨W (live.set TWIN_CTL_auto_failback 0), by refine ⟨?_, ?_⟩ <;> decide +kernel⟩,
   ⟨W ((live.set TWIN_FOLD_STAT_phase 3 7).set TWIN_FOLD_STAT_own_line 1 7), 7, by refine ⟨?_, ?_, ?_, ?_, ?_⟩ <;> decide +kernel⟩,
   ⟨W (withCmd ((live.set TWIN_FOLD_STAT_phase 3 7).set TWIN_FOLD_STAT_own_line 1 7) (cmdKey 0 16383) cmd7), 7, by refine ⟨?_, ?_, ?_, ?_⟩ <;> decide +kernel⟩,
   ⟨W ((tm live [(7, 0, none)]).set TWIN_FOLD_STAT_phase 4 7), 7, 0x7F, none, by refine ⟨?_, ?_, ?_, ?_, ?_, ?_, ?_, ?_⟩ <;> decide +kernel⟩,
   ⟨W ({ (withOp (tm live [(7, 1, some 63)]) 0x0902 1).set TWIN_FOLD_STAT_phase 4 7 with stripes := { live.stripes with bg := [] } }), 7, 0x80, 1, 63, by refine ⟨?_, ?_, ?_, ?_, ?_, ?_, ?_, ?_, ?_, ?_⟩ <;> decide +kernel⟩,
   ⟨W ((withOp (tm live [(7, 1, some 63)]) 0x0902 1).set TWIN_FOLD_STAT_phase 3 7), 7, 1, 63, by refine ⟨?_, ?_, ?_, ?_, ?_⟩ <;> decide +kernel⟩⟩

theorem witness_FirmwareRows :
    (∃ (s : State) (h : Hdr) (slot : Nat) (offset : Nat) (length : Nat) (i : Nat), slot < 2 ∧ s.chip.flag LEDGER_STAT_recovery = false ∧ s.chip.start.running ≠ slot ∧ offset < xferSize ∧ 0 < length ∧ length ≤ 30 * 2 ^ 20 ∧ offset + length ≤ xferSize ∧ s.chip.loSlot = some i ∧ i < 64 ∧ Ready s ⟨0x0B00, false, .l, paramBytes [1, 4, 4]⟩ h []) ∧
    (∃ (s : State) (h : Hdr) (slot : Nat), slot < 2 ∧ s.chip.flag LEDGER_STAT_recovery = false ∧ s.chip.start.running = slot ∧ Ready s ⟨0x0B00, false, .l, paramBytes [1, 4, 4]⟩ h []) ∧
    (∃ (s : State) (h : Hdr) (slot : Nat), slot < 2 ∧ s.chip.imageVerdict (s.chip.imageAt slot) = 0 ∧ Ready s ⟨0x0B01, false, .w, paramBytes [1, 1, 1]⟩ h []) ∧
    (∃ (s : State) (h : Hdr) (slot : Nat) (trial : Nat), slot < 2 ∧ trial ≠ 0 ∧ s.chip.imageVerdict (s.chip.imageAt slot) = 0 ∧ Ready s ⟨0x0B01, false, .w, paramBytes [1, 1, 1]⟩ h []) ∧
    (∃ (s : State) (h : Hdr) (slot : Nat) (advance : Nat), slot < 2 ∧ advance ≠ 0 ∧ s.chip.imageVerdict (s.chip.imageAt slot) = 0 ∧ s.chip.flag GLB_START_in_service = true ∧ s.chip.start.trialRun = false ∧ Ready s ⟨0x0B01, false, .w, paramBytes [1, 1, 1]⟩ h []) ∧
    (∃ (s : State) (h : Hdr) (slot : Nat), slot < 2 ∧ s.chip.imageVerdict (s.chip.imageAt slot) ≠ 0 ∧ Ready s ⟨0x0B01, false, .w, paramBytes [1, 1, 1]⟩ h []) ∧
    (∃ (s : State) (h : Hdr), Ready s ⟨0x0B02, false, .r, 0⟩ h []) ∧
    (∃ (s : State) (h : Hdr), Ready s ⟨0x0B03, false, .r, paramBytes [1]⟩ h []) ∧
    (∃ (s : State) (h : Hdr), Ready s ⟨0x0B04, false, .w, paramBytes [4]⟩ h []) ∧
    (∃ (s : State) (h : Hdr) (offset : Nat) (length : Nat) (n : Nat), offset < xferSize ∧ length ≤ 524288 ∧ offset + length ≤ xferSize ∧ n = (match s.chip.shelfCopy with | some (i, _) => 1 - i | none => 0) ∧ Ready s ⟨0x0B05, false, .w, paramBytes [4, 4]⟩ h []) ∧
    (∃ (s : State) (h : Hdr) (offset : Nat) (i : Nat) (x : ShelfCopy), s.chip.shelfCopy = some (i, x) ∧ offset + x.raw.length ≤ xferSize ∧ Ready s ⟨0x0B06, false, .r, paramBytes [4]⟩ h []) ∧
    (∃ (s : State) (h : Hdr), s.chip.shelfCopy = none ∧ Ready s ⟨0x0B06, false, .r, paramBytes [4]⟩ h []) ∧
    (∃ (s : State) (h : Hdr) (generate : Nat) (slot : Nat) (x : Nat × Nat × Nat × Nat), x ∈ [(0, 1120, 256, 2), (1, 1376, 384, 3), (3, 1832 + 32 * slot, 32, 4 + slot)] ∧ s.chip.flag FUSE_STAT_sealed = false ∧ slot < 34 ∧ slotAbsent s.chip.id slot = false ∧ (x.1 = 0 → generate = 0) ∧ bits s.chip.fuses (x.2.1 + x.2.2.1 - 1) x.2.1 = 0 ∧ (x.1 = 3 → bit s.chip.fuses (2920 + slot) = false) ∧ s.chip.fuseCrc x.2.2.2 = 0 ∧ Ready s ⟨0x0B20, false, .w, paramBytes [1, 1, 1, 1, 4] + 48⟩ h []) ∧
    (∃ (s : State) (h : Hdr) (slot : Nat), s.chip.flag FUSE_STAT_sealed = false ∧ bits s.chip.fuses 1375 1120 = 0 ∧ slot < 34 ∧ slotAbsent s.chip.id slot = false ∧ s.chip.fuseCrc 2 = 0 ∧ s.chip.drbgStopped = false ∧ Ready s ⟨0x0B20, false, .w, paramBytes [1, 1, 1, 1, 4] + 48⟩ h []) ∧
    (∃ (s : State) (h : Hdr) (x : Nat × Nat × Nat), x ∈ [(2, 1824, 8), (4, 2954, 2), (5, 2956, 2), (6, 2958, 2)] ∧ s.chip.flag FUSE_STAT_sealed = false ∧ Ready s ⟨0x0B20, false, .w, paramBytes [1, 1, 1, 1, 4] + 48⟩ h []) ∧
    (∃ (s : State) (h : Hdr), s.chip.flag FUSE_STAT_sealed = false ∧ bits s.chip.fuses 1375 1120 ≠ 0 ∧ s.chip.fuseValid 2 = true ∧ bits s.chip.fuses 1759 1376 ≠ 0 ∧ s.chip.fuseValid 3 = true ∧ bits s.chip.fuses 1831 1824 ≠ 0 ∧ Ready s ⟨0x0B21, false, .w, paramBytes [4]⟩ h []) ∧
    (∃ (s : State) (h : Hdr), s.chip.flag FUSE_STAT_sealed = true ∧ Ready s ⟨0x0B20, false, .w, paramBytes [1, 1, 1, 1, 4] + 48⟩ h []) ∧
    (∃ (s : State) (h : Hdr), s.chip.flag FUSE_STAT_sealed = true ∧ Ready s ⟨0x0B21, false, .w, paramBytes [4]⟩ h []) ∧
    (∃ (s : State), Live .up s ∧ s.chip.start.trialRun = true ∧ s.chip.flag GLB_START_in_service = true ∧ s.chip.start.running < 2) ∧
    (∃ (s : State), Live .up s ∧ (s.chip.start.trialRun = false ∨ s.chip.flag GLB_START_in_service = false)) :=
  ⟨⟨W (im live), hd, 0, 4096, 2048, (live.loSlot.getD 77), by refine ⟨?_, ?_, ?_, ?_, ?_, ?_, ?_, ?_, ?_, ?_⟩ <;> first | decide +kernel | rfl | simp⟩,
   ⟨W (im live), hd, 1, by refine ⟨?_, ?_, ?_, ?_⟩ <;> first | decide +kernel | rfl | simp⟩,
   ⟨W (im live), hd, 1, by refine ⟨?_, ?_, ?_⟩ <;> first | decide +kernel | rfl | simp⟩,
   ⟨W (im live), hd, 1, 1, by refine ⟨?_, ?_, ?_, ?_⟩ <;> first | decide +kernel | rfl | simp⟩,
   ⟨W (fz ((im live).set GLB_START_in_service 1) (2 ^ 1761 + 2 ^ 1759)), hd, 1, 1, by refine ⟨?_, ?_, ?_, ?_, ?_, ?_⟩ <;> first | decide +kernel | rfl | simp⟩,
   ⟨W (live), hd, 1, by refine ⟨?_, ?_, ?_⟩ <;> first | decide +kernel | rfl | simp⟩,
   ⟨W (fz (im live) (15 * 2 ^ 1760)), hd, by decide +kernel⟩,
   ⟨W ({ live with flash := { live.flash with ledger := (List.range 70).map (fun i => (i, ⟨i, i % 14, 1, 0, 0, 3, 0, 5, i⟩)) } }), hd, by decide +kernel⟩,
   ⟨W ({ im live with flash := { (im live).flash with rules := ⟨1, 1, 1, 1, 1, true, true, true⟩ } }), hd, by decide +kernel⟩,
   ⟨W (shc live), hd, 4096, 100, 0, by refine ⟨?_, ?_, ?_, ?_, ?_⟩ <;> first | decide +kernel | rfl | simp⟩,
   ⟨W (shc live), hd, 4096, 1, ⟨7, true, [4, 5, 6, 7]⟩, by refine ⟨?_, ?_, ?_⟩ <;> first | decide +kernel | rfl | simp⟩,
   ⟨W (live), hd, by refine ⟨?_, ?_⟩ <;> first | decide +kernel | rfl | simp⟩,
   ⟨W (live), hd, 0, 33, (0, 1120, 256, 2), by refine ⟨?_, ?_, ?_, ?_, ?_, ?_, ?_, ?_, ?_⟩ <;> first | decide +kernel | rfl | simp⟩,
   ⟨W ((live.set CIPH_STATUS_drbg_ready 1)), hd, 33, by refine ⟨?_, ?_, ?_, ?_, ?_, ?_, ?_⟩ <;> first | decide +kernel | rfl | simp⟩,
   ⟨W (live), hd, (2, 1824, 8), by refine ⟨?_, ?_, ?_⟩ <;> first | decide +kernel | rfl | simp⟩,
   ⟨W (sealC live), hd, by refine ⟨?_, ?_, ?_, ?_, ?_, ?_, ?_⟩ <;> first | decide +kernel | rfl | simp⟩,
   ⟨W (live.set FUSE_STAT_sealed 1), hd, by refine ⟨?_, ?_⟩ <;> first | decide +kernel | rfl | simp⟩,
   ⟨W (live.set FUSE_STAT_sealed 1), hd, by refine ⟨?_, ?_⟩ <;> first | decide +kernel | rfl | simp⟩,
   ⟨W ({ (im live).set GLB_START_in_service 1 with start := { live.start with running := 1, trialRun := true } }), by refine ⟨?_, ?_, ?_, ?_⟩ <;> first | decide +kernel | rfl | simp⟩,
   ⟨W (live), by refine ⟨?_, ?_⟩ <;> first | decide +kernel | rfl | simp⟩⟩

theorem witness_StartRows :
    (∃ (s : State), s.chip.start.porst = true) ∧
    (∃ (s : State), s.chip.start.porst = false) ∧
    (∃ (s : State), Live .aon s ∧ s.chip.start.failed = true) ∧
    (∃ (s : State), Live .aon s ∧ s.chip.start.failed = false) ∧
    (∃ (s : State), Live .aon s ∧ s.chip.cache.dump.phase = 4) ∧
    (∃ (s : State), Live .aon s ∧ s.chip.cache.dump.phase ≠ 4) ∧
    (∃ (s : State), Live .up s ∧ s.chip.powerDump = false ∧ (∀ e ∈ s.chip.stripes.flocks, e.1 < 4)) ∧
    (∃ (s : State), Live .up s ∧ s.chip.powerDump = true) ∧
    (∃ (s : State) (h : Hdr), Live .up s ∧ s.chip.refusal chipResetInfo h [] = none ∧ s.chip.powerDump = false ∧ (∀ e ∈ s.chip.stripes.flocks, e.1 < 4)) ∧
    (∃ (s : State) (h : Hdr), Live .up s ∧ s.chip.refusal chipResetInfo h [] = none ∧ s.chip.powerDump = false ∧ (∀ e ∈ s.chip.stripes.flocks, e.1 < 4)) ∧
    (∃ (s : State) (h : Hdr) (i : Nat), Live .up s ∧ s.chip.refusal chipResetInfo h [] = none ∧ s.chip.powerDump = false ∧ (∀ e ∈ s.chip.stripes.flocks, e.1 < 4) ∧ h.src = .session i ∧ s.chip.mgmt.sessions.has i = true ∧ h.silent = false) ∧
    (∃ (s : State) (h : Hdr) (island : Nat), Live .up s ∧ s.chip.refusal chipResetInfo h [] = none ∧ island < 36 ∧ islandAbsent s.chip.id island = false) ∧
    (∃ (s : State) (h : Hdr) (kind : Nat), 3 ≤ kind ∧ Ready s chipResetInfo h []) ∧
    (∃ (s : State) (island : Nat), Live .up s ∧ island < 36 ∧ islandAbsent s.chip.id island = false) ∧
    (∃ (s : State) (island : Nat), Live .up s ∧ (36 ≤ island ∨ islandAbsent s.chip.id island = true)) ∧
    (∃ (s : State) (island : Nat), island ∈ [18, 19, 32, 33, 34, 35] ∧ islandAbsent s.chip.id island = false) ∧
    (∃ (s : State), Live .up s) ∧
    (∃ (s : State) (reason : Nat) (detail : Nat) (found : StepFound) (e : StepEnd), Live .up s ∧ s.chip.starting = true ∧ s.chip.stepEnd reason detail found = e ∧ e.chip.get GLB_START_step < 13) ∧
    (∃ (s : State), Live .up s ∧ s.chip.starting = false) ∧
    (∃ (s : State), Live .up s ∧ s.chip.starting = false) ∧
    (∃ (s : State) (reason : Nat), Live .up s ∧ s.chip.starting = true ∧ s.chip.get GLB_START_step = 0 ∧ reason ≠ 0 ∧ s.chip.flash.attempts.getD 0 0 < 3) ∧
    (∃ (s : State), Live .up s ∧ s.chip.starting = true ∧ s.chip.get GLB_START_step = 1) ∧
    (∃ (s : State), Live .up s ∧ s.chip.starting = true ∧ s.chip.get GLB_START_step = 3 ∧ s.chip.flash.preferred < 2 ∧ s.chip.flash.trial = false) ∧
    (∃ (s : State), Live .up s ∧ s.chip.starting = true ∧ s.chip.get GLB_START_step = 12) ∧
    (∃ (s : State), Live .up s ∧ s.chip.starting = true ∧ s.chip.get GLB_START_step ∉ [4, 7, 8, 10, 12] ∧ s.chip.get GLB_START_step < 13) :=
  ⟨⟨W (porstC (full live)), by decide +kernel⟩,
   ⟨W (live), by decide +kernel⟩,
   ⟨W ({ full live with start := { live.start with failed := true } }), by refine ⟨?_, ?_⟩ <;> decide +kernel⟩,
   ⟨W (live), by refine ⟨?_, ?_⟩ <;> decide +kernel⟩,
   ⟨W (dumpC (full live) 4), by refine ⟨?_, ?_⟩ <;> decide +kernel⟩,
   ⟨W (dumpC live 3), by refine ⟨?_, ?_⟩ <;> decide +kernel⟩,
   ⟨W (full live), by refine ⟨?_, ?_, ?_⟩ <;> decide +kernel⟩,
   ⟨W (dumpC (full live) 3), by refine ⟨?_, ?_⟩ <;> decide +kernel⟩,
   ⟨W (full live), hd, by refine ⟨?_, ?_, ?_, ?_⟩ <;> decide +kernel⟩,
   ⟨W (full live), hd, by refine ⟨?_, ?_, ?_, ?_⟩ <;> decide +kernel⟩,
   ⟨W (sess (full live)), { hd with src := .session 63 }, 63, by refine ⟨?_, ?_, ?_, ?_, ?_, ?_, ?_⟩ <;> decide +kernel⟩,
   ⟨W (full live), hd, 35, by refine ⟨?_, ?_, ?_, ?_⟩ <;> decide +kernel⟩,
   ⟨W (full live), hd, 3, by refine ⟨?_, ?_⟩ <;> decide +kernel⟩,
   ⟨W (full live), 0, by refine ⟨?_, ?_, ?_⟩ <;> decide +kernel⟩,
   ⟨W (live), 36, by refine ⟨?_, ?_⟩ <;> decide +kernel⟩,
   ⟨W (full live), 18, by refine ⟨?_, ?_⟩ <;> decide +kernel⟩,
   ⟨W (full live), by decide +kernel⟩,
   ⟨W (st live 0), 5, 7, .nothing, (stE live 0 5), by refine ⟨?_, ?_, ?_, ?_⟩ <;> decide +kernel⟩,
   ⟨W (live.setFlag GLB_START_in_service true), by refine ⟨?_, ?_⟩ <;> decide +kernel⟩,
   ⟨W (live.setFlag GLB_START_in_service true), by refine ⟨?_, ?_⟩ <;> decide +kernel⟩,
   ⟨W (att live 0 2), 5, by refine ⟨?_, ?_, ?_, ?_, ?_⟩ <;> decide +kernel⟩,
   ⟨W (st { live with fuses := 2 ^ 2960 } 1), by refine ⟨?_, ?_, ?_⟩ <;> decide +kernel⟩,
   ⟨W (st live 3), by refine ⟨?_, ?_, ?_, ?_, ?_⟩ <;> decide +kernel⟩,
   ⟨W ({ st live 12 with start := { live.start with warm := true } }), by refine ⟨?_, ?_, ?_⟩ <;> decide +kernel⟩,
   ⟨W (att live 9 2), by refine ⟨?_, ?_, ?_, ?_⟩ <;> decide +kernel⟩⟩

theorem witness_IdleStep :
    (∃ (s : State), s.pending = []) :=
  ⟨W (live), by decide +kernel⟩

theorem witness_StoppedChipHolds :
    (∃ (i : Instr) (s : State), s.chip.stopped = true ∧ Instr.staysOn i = false) ∧
    (∃ (s : State) (n : Nat) (q : Sqe) (i : Instr), i ∈ [Instr.commandIntake n q [] 0, .forwardRecordRx (.completion n 0 0 0)] ∧ s.chip.stopped = false ∧ (s.chip.twin.withdrawn = true ∨ s.chip.powerDump = true)) :=
  ⟨⟨Instr.minuteTick, W ({ live with start := { live.start with porst := true } }), by refine ⟨?_, ?_⟩ <;> decide +kernel⟩,
   ⟨W ({ live with twin := { live.twin with withdrawn := true } }), 131071, sqe0, Instr.commandIntake 131071 sqe0 [] 0, by refine ⟨?_, ?_, ?_⟩ <;> first | decide +kernel | rfl | simp⟩⟩

theorem witness_RefusedCommands :
    (∃ (i : Instr) (s : State) (k : CmdInfo) (h : Hdr) (ps : List Nat) (st : Nat) (d : Nat), Instr.command i = some (k, h, ps) ∧ Live .up s ∧ s.chip.refusal k h ps = some (st, d)) ∧
    (∃ (c : Chip) (k : CmdInfo) (h : Hdr) (i : Nat) (m : MgmtSession), h.src = .session i ∧ c.mgmt.sessions.get? i = some m ∧ m.role = 0 ∧ k.kind ≠ .r) ∧
    (∃ (c : Chip) (k : CmdInfo) (h : Hdr) (i : Nat) (m : MgmtSession), h.src = .session i ∧ c.mgmt.sessions.get? i = some m ∧ m.role = 1 ∧ (k.opcode / 256 = 0x08 ∨ k.opcode / 256 = 0x0B)) ∧
    (∃ (c : Chip) (k : CmdInfo) (h : Hdr) (i : Nat) (m : MgmtSession), h.src = .session i ∧ c.mgmt.sessions.get? i = some m ∧ m.role = 2 ∧ (k.opcode = 0x0B20 ∨ k.opcode = 0x0B21)) ∧
    (∃ (c : Chip) (k : CmdInfo) (h : Hdr), c.permitted k h.src = true ∧ c.flag LEDGER_STAT_recovery = false ∧ c.flag LEDGER_STAT_held = true ∧ 2 < k.opcode ∧ k.opcode / 256 ≠ 0x0B ∧ k.opcode ≠ 0x0C30) ∧
    (∃ (c : Chip) (k : CmdInfo) (h : Hdr) (ps : List Nat), c.permitted k h.src = true ∧ c.startAdmits k.opcode = true ∧ 32 + k.need ≤ h.len64 * 64 ∧ (h.paddock = 0xFFFF ∨ ∀ p ∈ ps, p = h.paddock) ∧ h.fmt ≠ 1 ∧ h.deadlineMs ≠ 0 ∧ h.fetchedAt + h.deadlineMs * 1000000 < c.clk) ∧
    (∃ (c : Chip) (k : CmdInfo) (h : Hdr) (ps : List Nat), c.permitted k h.src = true ∧ c.startAdmits k.opcode = true ∧ 32 + k.need ≤ h.len64 * 64 ∧ (h.paddock = 0xFFFF ∨ ∀ p ∈ ps, p = h.paddock) ∧ h.deadlineMs = 0 ∧ h.fmt = 3 ∧ h.expectGen ≠ 0 ∧ h.expectGen ≠ c.get GLB_CFG_GEN_cfg_gen) ∧
    (∃ (c : Chip) (k : CmdInfo) (h : Hdr) (ps : List Nat), c.permitted k h.src = true ∧ c.startAdmits k.opcode = true ∧ 32 + k.need ≤ h.len64 * 64 ∧ (h.paddock = 0xFFFF ∨ ∀ p ∈ ps, p = h.paddock) ∧ h.fmt = 1) :=
  ⟨⟨Instr.paddockDelete { hd with paddock := 5 } 1, W (live), ⟨0x0101, true, .w, paramBytes [2]⟩, { hd with paddock := 5 }, [1], 0x0106, 0, by refine ⟨?_, ?_, ?_⟩ <;> first | decide +kernel | rfl | simp⟩,
   ⟨sessRole live 0, ⟨0x0101, true, .w, paramBytes [2]⟩, { hd with src := .session 63 }, 63, { sess0 with role := 0 }, by refine ⟨?_, ?_, ?_, ?_⟩ <;> first | decide +kernel | rfl | simp⟩,
   ⟨sessRole live 1, ⟨0x0B00, true, .w, paramBytes [2]⟩, { hd with src := .session 63 }, 63, { sess0 with role := 1 }, by refine ⟨?_, ?_, ?_, ?_⟩ <;> first | decide +kernel | rfl | simp⟩,
   ⟨sessRole live 2, ⟨0x0B21, true, .w, paramBytes [2]⟩, { hd with src := .session 63 }, 63, { sess0 with role := 2 }, by refine ⟨?_, ?_, ?_, ?_⟩ <;> first | decide +kernel | rfl | simp⟩,
   ⟨live.set LEDGER_STAT_held 1, ⟨3, true, .w, paramBytes [2]⟩, hd, by refine ⟨?_, ?_, ?_, ?_, ?_, ?_⟩ <;> first | decide +kernel | rfl | simp⟩,
   ⟨{ live with clk := 1000001 }, ⟨0x0101, true, .w, paramBytes [2]⟩, { hd with deadlineMs := 1 }, [1], by refine ⟨?_, ?_, ?_, ?_, ?_, ?_, ?_⟩ <;> first | decide +kernel | rfl | simp⟩,
   ⟨live, ⟨0x0101, true, .w, paramBytes [2]⟩, { hd with fmt := 3, expectGen := 5 }, [1], by refine ⟨?_, ?_, ?_, ?_, ?_, ?_, ?_, ?_⟩ <;> first | decide +kernel | rfl | simp⟩,
   ⟨live, ⟨0x0101, true, .w, paramBytes [2]⟩, { hd with fmt := 1 }, [1], by refine ⟨?_, ?_, ?_, ?_, ?_⟩ <;> first | decide +kernel | rfl | simp⟩⟩

theorem witness_PairScopedCommands :
    (∃ (i : Instr) (s : State) (k : CmdInfo) (h : Hdr) (ps : List Nat), Instr.command i = some (k, h, ps) ∧ k.pair = true ∧ k.opcode ≠ 0x0902 ∧ Ready s k h ps ∧ h.localOnly = false ∧ h.src ≠ .partner ∧ h.src ≠ .record ∧ (s.chip.get TWIN_STATUS_pair_state = 3 ∨ s.chip.get TWIN_STATUS_pair_state = 4)) ∧
    (∃ (i : Instr) (s : State) (k : CmdInfo) (h : Hdr) (ps : List Nat), Instr.command i = some (k, h, ps) ∧ k.pair = true ∧ k.opcode ≠ 0x0902 ∧ Ready s k h ps ∧ h.localOnly = false ∧ h.src ≠ .partner ∧ h.src ≠ .record ∧ (s.chip.get TWIN_STATUS_pair_state = 0 ∨ s.chip.get TWIN_STATUS_pair_state = 2)) ∧
    (∃ (i : Instr) (s : State) (k : CmdInfo) (h : Hdr) (ps : List Nat), Instr.command i = some (k, h, ps) ∧ k.pair = true ∧ k.opcode ≠ 0x0902 ∧ Ready s k h ps ∧ h.localOnly = false ∧ h.src ≠ .partner ∧ h.src ≠ .record ∧ s.chip.get TWIN_STATUS_pair_state = 1 ∧ 2 < h.partner) :=
  ⟨⟨Instr.paddockDelete hd 1, W (live.set TWIN_STATUS_pair_state 4), ⟨0x0101, true, .w, paramBytes [2]⟩, hd, [1], by refine ⟨?_, ?_, ?_, ?_, ?_, ?_, ?_, ?_⟩ <;> first | decide +kernel | rfl | simp⟩,
   ⟨Instr.paddockDelete hd 1, W (live.set TWIN_STATUS_pair_state 2), ⟨0x0101, true, .w, paramBytes [2]⟩, hd, [1], by refine ⟨?_, ?_, ?_, ?_, ?_, ?_, ?_, ?_⟩ <;> first | decide +kernel | rfl | simp⟩,
   ⟨Instr.paddockDelete { hd with partner := 3 } 1, W (live.set TWIN_STATUS_pair_state 1), ⟨0x0101, true, .w, paramBytes [2]⟩, { hd with partner := 3 }, [1], by refine ⟨?_, ?_, ?_, ?_, ?_, ?_, ?_, ?_, ?_⟩ <;> first | decide +kernel | rfl | simp⟩⟩

theorem witness_ConfigGeneration :
    (∃ (k : CmdInfo) (r : Res), r.later = false ∧ (k.kind = .w ∨ k.kind = .l) ∧ (r.status = 0 ∨ r.status = 1 ∨ r.status = 2)) ∧
    (∃ (k : CmdInfo) (r : Res), r.later = false ∧ (k.kind = .r ∨ 2 < r.status)) :=
  ⟨⟨⟨0x0101, true, .w, 2⟩, ⟨live, 2, 0, 0, [], false⟩, by refine ⟨?_, ?_, ?_⟩ <;> decide +kernel⟩,
   ⟨⟨0x0101, true, .w, 2⟩, ⟨live, 3, 0, 0, [], false⟩, by refine ⟨?_, ?_⟩ <;> decide +kernel⟩⟩

theorem witness_ReadModifyWriteParity :
    (∃ (w : Nat) (i : Nat) (t : Tab Bytes) (old : Bytes) (new : Bytes), w ≤ 16 ∧ i < w ∧ (∀ k, k < w → ∃ b, t.get? k = some b ∧ b.length = memberBlock) ∧ t.get? i = some old ∧ new.length = memberBlock) :=
  ⟨16, 15, zeroTab, zeroBlock, zeroBlock, by refine ⟨?_, ?_, zeroTab_get, ?_, List.length_replicate⟩ <;> first | decide +kernel | rfl⟩

theorem witness_MissingBlocksRecovered :
    (∃ (w : Nat) (x : Nat) (y : Nat) (t : Tab Bytes) (full : Tab Bytes), (w = 4 ∨ w = 8 ∨ w = 16) ∧ x < w + 2 ∧ y < w + 2 ∧ (∀ k, k < w → ∃ b, t.get? k = some b ∧ b.length = memberBlock) ∧ full = (t.put w (parityP w t)).put (w + 1) (parityQ w t)) :=
  ⟨16, 15, 17, zeroTab, ((zeroTab.put 16 (parityP 16 zeroTab)).put (16 + 1) (parityQ 16 zeroTab)), ⟨Or.inr (Or.inr rfl), by decide, by decide, zeroTab_get, rfl⟩⟩

theorem witness_SharesSumToContract :
    (∃ (total : Nat) (low : Nat) (ds : List Nat), ds ≠ [] ∧ low * ds.length ≤ total) ∧
    (∃ (total : Nat) (low : Nat) (ds : List Nat), ds ≠ [] ∧ low * ds.length ≤ total) ∧
    (∃ (total : Nat) (low : Nat) (ds : List Nat) (x : Nat), x ∈ divideShares total low ds ∧ ds ≠ [] ∧ low * ds.length ≤ total) :=
  ⟨⟨9, 3, [0, 0, 7], by refine ⟨?_, ?_⟩ <;> decide +kernel⟩,
   ⟨9, 3, [0, 0, 7], by refine ⟨?_, ?_⟩ <;> decide +kernel⟩,
   ⟨9, 3, [0, 0, 7], 3, by refine ⟨?_, ?_, ?_⟩ <;> first | decide +kernel | rfl | simp⟩⟩

theorem witness_MinuteTicks :
    (∃ (s : State), Live .up s ∧ s.chip.ports.srcInForce ≠ 1) ∧
    (∃ (s : State), Live .up s ∧ s.chip.ports.srcInForce = 1) ∧
    (∃ (s : State), Live .up s ∧ s.chip.get PORT_TICK_LAST_minute < s.chip.minuteNumber ∧ s.chip.minuteNumber < 2 ^ PORT_TICK_LAST_minute.width) ∧
    (∃ (s : State), Live .up s ∧ s.chip.minuteNumber ≤ s.chip.get PORT_TICK_LAST_minute) :=
  ⟨⟨W (live), by refine ⟨?_, ?_⟩ <;> decide +kernel⟩,
   ⟨W ({ live with ports := { live.ports with srcInForce := 1 } }), by refine ⟨?_, ?_⟩ <;> decide +kernel⟩,
   ⟨W ({ live with now := 180000000000 }), by refine ⟨?_, ?_, ?_⟩ <;> decide +kernel⟩,
   ⟨W (live.set PORT_TICK_LAST_minute 4294967295), by refine ⟨?_, ?_⟩ <;> decide +kernel⟩⟩

theorem witness_PorstHolds :
    (∃ (s : State) (s' : State), s.inPorst ∧ step s = .next s') :=
  ⟨porstS, after porstS, ⟨by decide +kernel, rfl⟩⟩

theorem witness_ThermalTripHolds :
    (∃ (s : State) (s' : State), s.inTrip ∧ step s = .next s') :=
  ⟨tripS, after tripS, ⟨by decide +kernel, rfl⟩⟩

theorem witness_DumpDoneHolds :
    (∃ (s : State) (s' : State), s.inDumpDone ∧ step s = .next s') :=
  ⟨dumpS, after dumpS, ⟨by decide +kernel, rfl⟩⟩

theorem witness_MemoryFormKept :
    (∃ (s : State) (s' : State), Memory.wf s.chip.hbm = true ∧ step s = .next s') :=
  ⟨hbmS, after hbmS, ⟨by decide +kernel, rfl⟩⟩

end Sys2Proof.Tests
end

section
/-!
SUPPORT. The status bits of the event unit: raising an event sets its bit, and no raise clears one (R470).
-/

namespace Sys2Proof.Machine

/-! ### Single bits of a number -/

theorem bit_eq_testBit (v i : Nat) : bit v i = v.testBit i := Nat.testBit_eq_decide_div_mod_eq.symm

/-- Setting a bit that is 0 adds its weight without a carry. -/
theorem setBit_true (v i : Nat) : setBit v i true = v ||| 2 ^ i := by
  unfold setBit
  cases hb : bit v i with
  | true =>
    rw [bit_eq_testBit] at hb
    refine Nat.eq_of_testBit_eq fun j => ?_
    by_cases hj : i = j
    · subst hj; simp [hb]
    · simp [hj]
  | false =>
    have hlow : v % 2 ^ (i + 1) < 2 ^ i := by
      have heven : v / 2 ^ i % 2 = 0 := by simpa [bit] using hb
      have hmod := Nat.mod_pow_succ (x := v) (b := 2) (k := i)
      rw [heven, Nat.mul_zero, Nat.add_zero] at hmod
      exact hmod ▸ Nat.mod_lt _ (Nat.two_pow_pos i)
    have hsplit := Nat.div_add_mod v (2 ^ (i + 1))
    have hdouble : 2 ^ (i + 1) = 2 ^ i * 2 := Nat.pow_succ 2 i
    have hsum : 2 ^ i + v % 2 ^ (i + 1) < 2 ^ (i + 1) := by omega
    have hv := Nat.two_pow_add_eq_or_of_lt (Nat.mod_lt v (Nat.two_pow_pos (i + 1))) (v / 2 ^ (i + 1))
    have hvi := Nat.two_pow_add_eq_or_of_lt hsum (v / 2 ^ (i + 1))
    have hr : 2 ^ i + v % 2 ^ (i + 1) = 2 ^ i ||| v % 2 ^ (i + 1) := by simpa using Nat.two_pow_add_eq_or_of_lt hlow 1
    calc v + 2 ^ i = 2 ^ (i + 1) * (v / 2 ^ (i + 1)) + (2 ^ i + v % 2 ^ (i + 1)) := by omega
      _ = 2 ^ (i + 1) * (v / 2 ^ (i + 1)) ||| (v % 2 ^ (i + 1) ||| 2 ^ i) := by rw [hvi, hr, Nat.or_comm (2 ^ i)]
      _ = v ||| 2 ^ i := by rw [← Nat.or_assoc, ← hv, hsplit]

/-- A bit within a field's width survives setting a bit and cutting to the width. -/
theorem bit_setBit_mod (v i b w : Nat) (hb : b < w) (h : b = i ∨ bit v b = true) : bit (setBit v i true % 2 ^ w) b = true := by
  rw [bit_eq_testBit] at *
  rw [setBit_true, Nat.testBit_mod_two_pow, Nat.testBit_or, Nat.testBit_two_pow]
  rcases h with rfl | h <;> simp [*]

/-! ### Status bits stay -/

/-- Every status bit of the 32 words that is set in the one chip is set in the other. -/
def Chip.statusStays (c d : Chip) : Prop :=
  ∀ w b, w < 32 → b < 64 → bit (c.get EVT_STATUS_status w) b = true → bit (d.get EVT_STATUS_status w) b = true

theorem Chip.statusStays_refl (c : Chip) : c.statusStays c := fun _ _ _ _ h => h

theorem Chip.statusStays_trans {c d e : Chip} (h1 : c.statusStays d) (h2 : d.statusStays e) : c.statusStays e :=
  fun w b hw hb h => h2 w b hw hb (h1 w b hw hb h)

theorem Chip.statusStays_ite {c d e : Chip} (p : Prop) [Decidable p] (h1 : c.statusStays d) (h2 : c.statusStays e) :
    c.statusStays (if p then d else e) := by split <;> assumption

/-- The register file's part of the status words. -/
def statusKeys : Nat → Prop := inRange 0x80000 0x80100

theorem statusKeys_key (w : Nat) (hw : w < 32) : statusKeys (EVT_STATUS_status.key w 0) := by
  simp only [statusKeys, inRange, Field.key, Geo.addr, EVT_STATUS_status, gEVT_STATUS]
  omega

theorem Chip.statusStays_of_regs {c d : Chip} (hid : d.id = c.id) (hr : d.regs = c.regs) : c.statusStays d :=
  fun w b _ _ h => by simpa [Chip.get, hid, hr] using h

/-- A write to a field outside the status words. -/
theorem Chip.statusStays_set (c : Chip) (f : Field) (v i j : Nat) (hf : ¬ statusKeys (f.key i j)) : c.statusStays (c.set f v i j) := by
  intro w b hw _ h
  have hne : EVT_STATUS_status.key w 0 ≠ f.key i j := fun he => hf (he ▸ statusKeys_key w hw)
  rwa [c.get_set_of_ne v hne]

theorem Chip.statusStays_bump (c : Chip) (f : Field) (n i j : Nat) (hf : ¬ statusKeys (f.key i j)) : c.statusStays (c.bump f n i j) :=
  c.statusStays_set f _ i j hf

/-! ### Raising an event -/

/-- The status word of the event after `markEvent`, and every other one: the event's bit is set, and the bits that were. -/
theorem Chip.bit_markEvent (c : Chip) (e w b : Nat) (he : e < 2048) (hw : w < 32) (hb : b < 64)
    (h : (w = e / 64 ∧ b = e % 64) ∨ bit (c.get EVT_STATUS_status w) b = true) : bit ((c.markEvent e).get EVT_STATUS_status w) b = true := by
  have hrest : (c.set EVT_STATUS_status (setBit (c.get EVT_STATUS_status (e / 64)) (e % 64) true) (e / 64)).statusStays (c.markEvent e) := by
    unfold Chip.markEvent Chip.refreshSummary
    refine Chip.statusStays_trans (Chip.statusStays_bump _ _ _ _ _ ?_)
      (Chip.statusStays_trans (Chip.statusStays_set _ _ _ _ _ ?_) (Chip.statusStays_set _ _ _ _ _ ?_))
    all_goals
      simp only [statusKeys, inRange, Field.key, Geo.addr, EVT_COUNT_raises, EVT_COUNT_last_s, EVT_SUMMARY_words, gEVT_COUNT, gEVT_SUMMARY]
      omega
  refine hrest w b hw hb ?_
  by_cases hwe : w = e / 64
  · subst hwe
    rw [Chip.get_set_self]
    exact bit_setBit_mod _ _ _ _ hb (h.imp And.right fun hv => hv)
  · have hne : EVT_STATUS_status.key w 0 ≠ EVT_STATUS_status.key (e / 64) 0 := by
      simp only [Field.key, Geo.addr, EVT_STATUS_status, gEVT_STATUS]
      omega
    rw [c.get_set_of_ne _ hne]
    exact h.resolve_left fun hx => hwe hx.1

theorem Chip.statusStays_msix (c : Chip) (v : Nat) : c.statusStays (c.msix v) := by
  unfold Chip.msix
  dsimp only
  exact Chip.statusStays_ite _ (Chip.statusStays_of_regs rfl rfl) (Chip.statusStays_of_regs rfl rfl)

theorem Chip.statusStays_logWait (c : Chip) (l : LogEntry) : c.statusStays (c.logWait l) := Chip.statusStays_of_regs rfl rfl

/-- After its mark a raise sends and logs at most, whatever gives its entry a place. -/
theorem Chip.raiseTo_stays (c : Chip) (e : Nat) (a : Bool) (log : Chip → LogEntry → Chip) (hx : eventAbsent c.id e = false)
    (hl : ∀ d l, Chip.statusStays d (log d l)) : (c.markEvent e).statusStays (c.raiseTo e a log) := by
  unfold Chip.raiseTo
  simp only [hx, Bool.false_eq_true, if_false]
  have hm : ∀ (d : Chip) (p : Bool) v, d.statusStays (if p = true then d.msix v else d) :=
    fun d p v => Chip.statusStays_ite _ (d.statusStays_msix v) d.statusStays_refl
  exact Chip.statusStays_ite _
    (Chip.statusStays_ite _ (Chip.statusStays_trans (hm _ _ _) (hl _ _)) (hm _ _ _)) (Chip.statusStays_refl _)

theorem Chip.statusStays_raiseTo (c : Chip) (e : Nat) (a : Bool) (log : Chip → LogEntry → Chip) (he : e < 2048)
    (hl : ∀ d l, Chip.statusStays d (log d l)) : c.statusStays (c.raiseTo e a log) := by
  cases hx : eventAbsent c.id e with
  | true => simpa [Chip.raiseTo, hx] using c.statusStays_refl
  | false => exact Chip.statusStays_trans (fun w b hw hb h => c.bit_markEvent e w b he hw hb (.inr h)) (c.raiseTo_stays e a log hx hl)

theorem Chip.statusStays_logRaise (c : Chip) (l : LogEntry) : c.statusStays (c.logRaise l) := by
  have hkey : ¬ statusKeys (EVT_LOG_STAT_next.key 0 0) ∧ ¬ statusKeys (EVT_LOG_STAT_lost.key 0 0) := by
    simp [statusKeys, inRange, Field.key, Geo.addr, EVT_LOG_STAT_next, EVT_LOG_STAT_lost, gEVT_LOG_STAT]
  have hwrite : c.statusStays (c.logWrite l) := by
    unfold Chip.logWrite
    extract_lets n evt entered counted noted evt' moved
    have hnoted : c.statusStays noted := entered.statusStays_set EVT_LOG_STAT_next (n + 1) 0 0 hkey.1
    have hmoved : noted.statusStays moved := Chip.statusStays_of_regs rfl rfl
    have hlost := moved.statusStays_bump EVT_LOG_STAT_lost 1 0 0 hkey.2
    have hraised := (moved.bump EVT_LOG_STAT_lost).statusStays_raiseTo 0x7E2 false _ (by decide) Chip.statusStays_logWait
    exact Chip.statusStays_ite _ (Chip.statusStays_trans hnoted (Chip.statusStays_trans hmoved (Chip.statusStays_trans hlost hraised))) hnoted
  unfold Chip.logRaise
  dsimp only
  exact Chip.statusStays_ite _ hwrite (c.statusStays_logWait l)

theorem Chip.statusStays_raise (c : Chip) (e : Nat) (he : e < 2048) : c.statusStays (c.raise e) :=
  c.statusStays_raiseTo e false _ he Chip.statusStays_logRaise

/-- R470: an event that the grade has sets its status bit. -/
theorem Chip.bit_raise (c : Chip) (e : Nat) (he : e < 2048) (hx : eventAbsent c.id e = false) :
    bit ((c.raise e).get EVT_STATUS_status (e / 64)) (e % 64) = true :=
  c.raiseTo_stays e false _ hx Chip.statusStays_logRaise _ _ (by omega) (by omega) (c.bit_markEvent e _ _ he (by omega) (by omega) (.inl ⟨rfl, rfl⟩))

end Sys2Proof.Machine
end

section
/-!
SUPPORT. What the swap of the tally banks leaves as it was (R481 to R483).
-/

namespace Sys2Proof.Machine

/-- The registers of the tally unit. -/
abbrev tallyUnitKeys (k : Nat) : Prop := 0x100000 * 64 ≤ k ∧ k < 0x100140 * 64

/-- The registers that a tally operation may change: its own and the event unit's. -/
def tallyKeys (k : Nat) : Prop := evtKeys k ∨ tallyUnitKeys k

/-- The parts of the chip that a tally operation may change. -/
def tallyParts : List Part := .hbm :: .tally :: evtParts

/-- A tally operation changes HBM, the tally unit and the event unit at most, and clears no status bit. -/
def Chip.tallyFrame (c d : Chip) : Prop := c.keeps tallyParts tallyKeys d ∧ c.statusStays d

theorem Chip.tallyFrame_refl (c : Chip) : c.tallyFrame c := ⟨c.keeps_refl _ _, c.statusStays_refl⟩

theorem Chip.tallyFrame_trans {c d e : Chip} (h1 : c.tallyFrame d) (h2 : d.tallyFrame e) : c.tallyFrame e :=
  ⟨Chip.keeps_trans h1.1 h2.1, Chip.statusStays_trans h1.2 h2.2⟩

theorem Chip.tallyFrame_ite {c d e : Chip} (p : Prop) [Decidable p] (h1 : c.tallyFrame d) (h2 : c.tallyFrame e) :
    c.tallyFrame (if p then d else e) := by split <;> assumption

theorem Chip.tallyFrame_foldl {α : Type} (f : Chip → α → Chip) (hf : ∀ c x, Chip.tallyFrame c (f c x)) (l : List α) (c : Chip) :
    c.tallyFrame (l.foldl f c) := by
  induction l generalizing c with
  | nil => exact c.tallyFrame_refl
  | cons a l ih => exact Chip.tallyFrame_trans (hf c a) (ih _)

/-- A write to a register of the tally unit. -/
theorem Chip.tallyFrame_set (c : Chip) (f : Field) (v i j : Nat) (hf : tallyUnitKeys (f.key i j)) : c.tallyFrame (c.set f v i j) := by
  refine ⟨c.keeps_set f v i j (by decide) (.inr hf), c.statusStays_set f v i j fun hs => ?_⟩
  simp only [tallyUnitKeys, statusKeys, inRange] at hf hs
  omega

theorem Chip.tallyFrame_raise (c : Chip) (e : Nat) (he : e < 2048) : c.tallyFrame (c.raise e) :=
  ⟨Chip.keeps_mono (by decide) (fun _ => .inl) (c.raise_keeps e he), c.statusStays_raise e he⟩

theorem Chip.tallyFrame_raiseIf (c : Chip) (p : Bool) (e : Nat) (he : e < 2048) : c.tallyFrame (c.raiseIf p e) :=
  Chip.tallyFrame_ite _ (c.tallyFrame_raise e he) c.tallyFrame_refl

theorem Chip.tallyFrame_hbm (c : Chip) (m : List Host.Cell) : c.tallyFrame { c with hbm := m } := by
  refine ⟨⟨⟨rfl, fun p hp => ?_⟩, fun _ _ => rfl⟩, Chip.statusStays_of_regs rfl rfl⟩
  cases p <;> first | rfl | exact absurd (by decide) hp

theorem Chip.tallyFrame_tally (c : Chip) (t : TallyState) : c.tallyFrame { c with tally := t } := by
  refine ⟨⟨⟨rfl, fun p hp => ?_⟩, fun _ _ => rfl⟩, Chip.statusStays_of_regs rfl rfl⟩
  cases p <;> first | rfl | exact absurd (by decide) hp

theorem Chip.tallyFrame_cntTally (c : Chip) (k n : Nat) (hk : k < 8) : c.tallyFrame (c.cntTally k n) := by
  have hkey : ∀ f : Field, f = TALLY_CNT_count ∨ f = TALLY_CNT_stuck → tallyUnitKeys (f.key k 0) := by
    rintro f (rfl | rfl) <;> simp only [tallyUnitKeys, Field.key, Geo.addr, TALLY_CNT_count, TALLY_CNT_stuck, gTALLY_CNT] <;> omega
  have hcount := c.tallyFrame_set TALLY_CNT_count (min (c.get TALLY_CNT_count k + n) (2 ^ TALLY_CNT_count.width - 1)) k 0 (hkey _ (.inl rfl))
  exact Chip.tallyFrame_ite _ (Chip.tallyFrame_trans hcount (Chip.tallyFrame_set _ _ _ _ _ (hkey _ (.inr rfl)))) hcount

/-- An event of the tally unit and its counter. -/
theorem Chip.tallyFrame_raise_cntTally (c : Chip) (e k : Nat) (he : e < 2048) (hk : k < 8) : c.tallyFrame ((c.raise e).cntTally k) :=
  Chip.tallyFrame_trans (c.tallyFrame_raise e he) (Chip.tallyFrame_cntTally _ k 1 hk)

theorem Chip.tallyFrame_setMeter (c : Chip) (b p m v : Nat) : c.tallyFrame (c.setMeter b p m v) := c.tallyFrame_hbm _

theorem Chip.tallyFrame_meterAdd (c : Chip) (p m n : Nat) : c.tallyFrame (c.meterAdd p m n) := by
  unfold Chip.meterAdd
  dsimp only
  have hm := c.tallyFrame_setMeter (c.get TALLY_BANK_counting) p m (min meterTop (c.meter (c.get TALLY_BANK_counting) p m + n))
  exact Chip.tallyFrame_ite _ c.tallyFrame_refl (Chip.tallyFrame_ite _
    (Chip.tallyFrame_trans hm (Chip.tallyFrame_trans (Chip.tallyFrame_tally _ _) (Chip.tallyFrame_raise_cntTally _ _ _ (by decide) (by decide)))) hm)

theorem Chip.tallyFrame_mergeBank (c : Chip) (b : Nat) : c.tallyFrame (c.mergeBank b) := by
  unfold Chip.mergeBank
  extract_lets minute empty summed first last flags
  have hsummed : c.tallyFrame summed := Chip.tallyFrame_foldl _ (fun d x => Chip.tallyFrame_ite _
    (Chip.tallyFrame_trans (d.tallyFrame_setMeter ..) (Chip.tallyFrame_raise_cntTally _ _ _ (by decide) (by decide))) (d.tallyFrame_setMeter ..)) _ c
  have hfirst : summed.tallyFrame first := Chip.tallyFrame_ite _ (summed.tallyFrame_set _ _ _ _ (by decide)) summed.tallyFrame_refl
  have hlast : first.tallyFrame last :=
    Chip.tallyFrame_trans (first.tallyFrame_set _ _ _ _ (by decide)) (Chip.tallyFrame_set _ _ _ _ _ (by decide))
  have hflags : last.tallyFrame flags := last.tallyFrame_set _ _ _ _ (by decide)
  have hdone := Chip.tallyFrame_trans (flags.tallyFrame_tally { flags.tally with cleared := [] })
    (Chip.tallyFrame_raise_cntTally _ 0x791 2 (by decide) (by decide))
  exact Chip.tallyFrame_trans hsummed (Chip.tallyFrame_trans hfirst (Chip.tallyFrame_trans hlast (Chip.tallyFrame_trans hflags hdone)))

theorem Chip.tallyFrame_tallySwap (c : Chip) (minute : Nat) (holdover skipped long : Bool) (acres conns : List (Nat × Nat)) :
    c.tallyFrame (c.tallySwap minute holdover skipped long acres conns) := by
  unfold Chip.tallySwap
  refine Chip.tallyFrame_ite _ c.tallyFrame_refl ?_
  extract_lets cur old acred conned closed merged zeroed flags shown swapped first
  have hacred : c.tallyFrame acred := Chip.tallyFrame_foldl _ (fun d e => d.tallyFrame_meterAdd e.1 6 e.2) acres c
  have hconned : acred.tallyFrame conned := Chip.tallyFrame_foldl _ (fun d e => d.tallyFrame_meterAdd e.1 14 e.2) conns acred
  have hmerged : conned.tallyFrame merged := Chip.tallyFrame_ite _ (conned.tallyFrame_mergeBank old) conned.tallyFrame_refl
  have hzeroed : merged.tallyFrame zeroed := merged.tallyFrame_hbm _
  have hshown : zeroed.tallyFrame shown :=
    Chip.tallyFrame_trans (zeroed.tallyFrame_set _ _ _ _ (by decide)) (Chip.tallyFrame_set _ _ _ _ _ (by decide))
  have hswapped : shown.tallyFrame swapped :=
    Chip.tallyFrame_trans (shown.tallyFrame_set _ _ _ _ (by decide))
      (Chip.tallyFrame_trans (Chip.tallyFrame_set _ _ _ _ _ (by decide)) (Chip.tallyFrame_set _ _ _ _ _ (by decide)))
  have hdone := Chip.tallyFrame_trans (swapped.tallyFrame_tally
      { swapped.tally with sealing := true, openMinute := minute, openFlags := if first then 4 else 0, firstTick := false, copySeen := false })
    (Chip.tallyFrame_cntTally _ 0 1 (by decide))
  exact Chip.tallyFrame_trans hacred (Chip.tallyFrame_trans hconned (Chip.tallyFrame_trans hmerged
    (Chip.tallyFrame_trans hzeroed (Chip.tallyFrame_trans hshown (Chip.tallyFrame_trans hswapped hdone)))))

end Sys2Proof.Machine
end

section
/-!
SUPPORT and PROOFS. The minute number and the minute tick (R69): what a tick writes and raises, that no minute is ticked twice, and O55.
-/

namespace Sys2Proof.Machine

/-! ### The minute number -/

theorem Chip.minuteNumber_of_timebase (c : Chip) (h : c.ports.srcInForce ≠ 1) :
    c.minuteNumber = (c.now - c.ports.utcInForce * 1000000000) / (60 * 1000000000) := if_neg h

theorem Chip.minuteNumber_of_pps (c : Chip) (h : c.ports.srcInForce = 1) : c.minuteNumber = c.get PORT_PPS_SEC_seconds / 60 := if_pos h

/-! ### The tick -/

theorem minuteTick_of_not_due (c : Chip) (h : c.minuteNumber ≤ c.get PORT_TICK_LAST_minute) : minuteTick c = c := if_pos h

/-- PORT_TICK_LAST as a tick writes it. -/
def Chip.writeTick (c : Chip) : Chip :=
  (((c.set PORT_TICK_LAST_minute c.minuteNumber).setFlag PORT_TICK_LAST_skipped c.ports.steppedFwd).setFlag PORT_TICK_LAST_holdover
    (c.flag PORT_TIME_STATUS_holdover)).set PORT_TICK_LAST_source c.tickSrc

/-- What follows the write of PORT_TICK_LAST and event 0x085 in a tick that is due: the other events, the source now in force, the swap of the tally banks. -/
theorem minuteTick_of_due (c : Chip) (h : c.get PORT_TICK_LAST_minute < c.minuteNumber) :
    (c.writeTick.raise 0x085).keeps (.ports :: tallyParts) tallyKeys (minuteTick c) ∧ (c.writeTick.raise 0x085).statusStays (minuteTick c) := by
  unfold minuteTick
  extract_lets m src skipped long held flagged written raised ports timed
  rw [if_neg (Nat.not_le.mpr h)]
  have hraised : (c.writeTick.raise 0x085).tallyFrame raised :=
    Chip.tallyFrame_trans (Chip.tallyFrame_raiseIf _ _ _ (by decide)) (Chip.tallyFrame_raiseIf _ _ _ (by decide))
  have htimed : raised.keeps [.ports] tallyKeys timed :=
    ⟨⟨rfl, fun p hp => by cases p <;> first | rfl | exact absurd (by decide) hp⟩, fun _ _ => rfl⟩
  have hswap := timed.tallyFrame_tallySwap m held skipped long timed.acreCount timed.connCount
  have hwide : ∀ {d e : Chip}, d.tallyFrame e → d.keeps (.ports :: tallyParts) tallyKeys e :=
    fun hf => Chip.keeps_mono (fun _ => List.mem_cons_of_mem _) (fun _ hk => hk) hf.1
  exact ⟨Chip.keeps_trans (hwide hraised) (Chip.keeps_trans (Chip.keeps_mono (by decide) (fun _ hk => hk) htimed) (hwide hswap)),
    Chip.statusStays_trans hraised.2 (Chip.statusStays_trans (Chip.statusStays_of_regs rfl rfl) hswap.2)⟩

/-- A register outside the tally and event units reads after a tick as its write of PORT_TICK_LAST left it. -/
theorem get_minuteTick (c : Chip) (h : c.get PORT_TICK_LAST_minute < c.minuteNumber) (f : Field) (i j : Nat) (hf : ¬ tallyKeys (f.key i j)) :
    (minuteTick c).get f i j = c.writeTick.get f i j := by
  rw [Chip.get_of_keeps (minuteTick_of_due c h).1 f i j hf, Chip.get_raise _ _ (by decide) f i j fun he => hf (.inl he)]

theorem not_tallyKeys_tickLast (f : Field) (hf : f.geo = gPORT_TICK_LAST) : ¬ tallyKeys (f.key 0 0) := by
  simp only [tallyKeys, tallyUnitKeys, evtKeys, inRange, Field.key, hf, Geo.addr, gPORT_TICK_LAST]
  omega

/-- What a tick that is due writes to PORT_TICK_LAST. -/
theorem minuteTick_tickLast (c : Chip) (h : c.get PORT_TICK_LAST_minute < c.minuteNumber) :
    (minuteTick c).get PORT_TICK_LAST_minute = c.minuteNumber % 2 ^ PORT_TICK_LAST_minute.width ∧
    (minuteTick c).get PORT_TICK_LAST_source = c.tickSrc ∧
    (minuteTick c).get PORT_TICK_LAST_skipped = b2n c.ports.steppedFwd ∧
    (minuteTick c).get PORT_TICK_LAST_holdover = b2n (c.flag PORT_TIME_STATUS_holdover) := by
  have hget : ∀ f : Field, f.geo = gPORT_TICK_LAST → (minuteTick c).get f = c.writeTick.get f :=
    fun f hf => get_minuteTick c h f 0 0 (not_tallyKeys_tickLast f hf)
  have hsource : c.tickSrc % 2 ^ PORT_TICK_LAST_source.width = c.tickSrc :=
    Nat.mod_eq_of_lt (Nat.lt_of_le_of_lt (Nat.min_le_left _ _) (by decide))
  have hbit : ∀ b : Bool, b2n b % 2 ^ 1 = b2n b := by decide
  rw [hget _ rfl, hget _ rfl, hget _ rfl, hget _ rfl]
  unfold Chip.writeTick Chip.setFlag
  refine ⟨?_, ?_, ?_, ?_⟩
  · rw [Chip.get_set_of_ne _ _ (by decide), Chip.get_set_of_ne _ _ (by decide), Chip.get_set_of_ne _ _ (by decide), Chip.get_set_self]
  · rw [Chip.get_set_self, hsource]
  · rw [Chip.get_set_of_ne _ _ (by decide), Chip.get_set_of_ne _ _ (by decide), Chip.get_set_self]
    exact hbit _
  · rw [Chip.get_set_of_ne _ _ (by decide), Chip.get_set_self]
    exact hbit _

/-- A tick that is due raises event 0x085: bit 5 of status word 2. -/
theorem minuteTick_raises (c : Chip) (h : c.get PORT_TICK_LAST_minute < c.minuteNumber) :
    bit ((minuteTick c).get EVT_STATUS_status 2) 5 = true :=
  (minuteTick_of_due c h).2 2 5 (by decide) (by decide) (c.writeTick.bit_raise 0x085 (by decide) (by simp [eventAbsent]))

theorem exec_minuteTick (s : State) (hl : Live .up s) : exec .minuteTick s = .next { s with chip := minuteTick s.chip } :=
  s.run_of_live .up minuteTick hl

/-! ### O55 -/

/-- R69 as O55 states it, where the holdover field of PORT_TIME_STATUS holds a value of its one bit. -/
theorem minuteTicks_of_holdover_fits (s : State) (hl : Live .up s) (hfit : s.chip.get PORT_TIME_STATUS_holdover < 2) :
    (s.chip.ports.srcInForce ≠ 1 → s.chip.minuteNumber = (s.chip.now - s.chip.ports.utcInForce * 1000000000) / (60 * 1000000000)) ∧
    (s.chip.ports.srcInForce = 1 → s.chip.minuteNumber = s.chip.get PORT_PPS_SEC_seconds / 60) ∧
    (s.chip.get PORT_TICK_LAST_minute < s.chip.minuteNumber → s.chip.minuteNumber < 2 ^ PORT_TICK_LAST_minute.width → Runs .minuteTick s (fun c =>
      c.get PORT_TICK_LAST_minute = s.chip.minuteNumber ∧ c.get PORT_TICK_LAST_source = s.chip.tickSrc ∧ c.get PORT_TICK_LAST_skipped = b2n s.chip.ports.steppedFwd ∧
      c.get PORT_TICK_LAST_holdover = s.chip.get PORT_TIME_STATUS_holdover ∧ bit (c.get EVT_STATUS_status 2) 5 = true)) ∧
    (s.chip.minuteNumber ≤ s.chip.get PORT_TICK_LAST_minute → exec .minuteTick s = .next s) := by
  refine ⟨s.chip.minuteNumber_of_timebase, s.chip.minuteNumber_of_pps, fun hdue hwidth => ?_, fun hnot => ?_⟩
  · obtain ⟨hminute, hsource, hskipped, hholdover⟩ := minuteTick_tickLast s.chip hdue
    have hflag : b2n (s.chip.flag PORT_TIME_STATUS_holdover) = s.chip.get PORT_TIME_STATUS_holdover := by
      simp only [b2n, Chip.flag, decide_eq_true_eq]
      split <;> omega
    exact ⟨_, exec_minuteTick s hl, hminute.trans (Nat.mod_eq_of_lt hwidth), hsource, hskipped, hholdover.trans hflag, minuteTick_raises s.chip hdue⟩
  · rw [exec_minuteTick s hl, minuteTick_of_not_due s.chip hnot]

/-- A running chip, three minutes into its timebase, whose one-bit holdover field holds 2. -/
def holdoverTwo : State :=
  ⟨{ blankChip ⟨false, false, 0⟩ with start := { start0 with porst := false }, now := 180 * second, regs := [(PORT_TIME_STATUS_holdover.key 0 0, 2)] }, []⟩

/-- Refutes O55: no hypothesis keeps the holdover field of PORT_TIME_STATUS within its one bit. A tick writes to PORT_TICK_LAST whether that field is set, so where it holds 2 the tick
writes 1, and the statement asks for 2. Where the field fits, `minuteTicks_of_holdover_fits` proves every clause. -/
theorem not_minuteTicks : ¬ Obligations.MinuteTicks := by
  unfold Obligations.MinuteTicks
  intro h
  have hlive : Live .up holdoverTwo := by decide +kernel
  have hdue : holdoverTwo.chip.get PORT_TICK_LAST_minute < holdoverTwo.chip.minuteNumber := by decide +kernel
  have hwidth : holdoverTwo.chip.minuteNumber < 2 ^ PORT_TICK_LAST_minute.width := by decide +kernel
  obtain ⟨-, -, htick, -⟩ := h holdoverTwo hlive
  obtain ⟨c, hexec, -, -, -, hholdover, -⟩ := htick hdue hwidth
  rw [exec_minuteTick _ hlive] at hexec
  have hc : minuteTick holdoverTwo.chip = c := by injection hexec with hs; injection hs
  obtain ⟨-, -, -, hwritten⟩ := minuteTick_tickLast holdoverTwo.chip hdue
  rw [← hc, hwritten] at hholdover
  exact absurd hholdover (by decide +kernel)

end Sys2Proof.Machine
end

section
/-!
SUPPORT. GF(2^8) as the parity engine computes it (R228): the product is additive in each argument and associative, and every byte but 0 has its 254th power as inverse.
-/

namespace Sys2Proof.Machine

/-! ### Additive functions on bytes -/

theorem xor_cancel_right (a b : Nat) : a ^^^ b ^^^ b = a := by rw [Nat.xor_assoc, Nat.xor_self, Nat.xor_zero]

/-- Two additive functions that agree on the eight single bits agree on every byte. -/
theorem eq_of_additive {f g : Nat → Nat} (hf : ∀ a b, f (a ^^^ b) = f a ^^^ f b) (hg : ∀ a b, g (a ^^^ b) = g a ^^^ g b)
    (hbits : ∀ i < 8, f (2 ^ i) = g (2 ^ i)) (a : Nat) (ha : a < 256) : f a = g a := by
  have hzero : ∀ {f : Nat → Nat}, (∀ a b, f (a ^^^ b) = f a ^^^ f b) → f 0 = 0 := fun h => by simpa using h 0 0
  have hlow : ∀ n ≤ 8, ∀ a < 2 ^ n, f a = g a := by
    intro n
    induction n with
    | zero =>
      intro _ a ha
      obtain rfl : a = 0 := by omega
      rw [hzero hf, hzero hg]
    | succ n ih =>
      intro hn a ha
      by_cases hsmall : a < 2 ^ n
      · exact ih (by omega) a hsmall
      · have hrest : a ^^^ 2 ^ n < 2 ^ n := by
          refine Nat.lt_pow_two_of_testBit _ fun i hi => ?_
          rcases Nat.lt_or_eq_of_le hi with hi | rfl
          · rw [Nat.testBit_xor, Nat.testBit_two_pow_of_ne (by omega), Nat.testBit_lt_two_pow (Nat.lt_of_lt_of_le ha (Nat.pow_le_pow_right (by decide) hi))]
            rfl
          · rw [Nat.testBit_xor, Nat.testBit_two_pow_self, Nat.testBit_of_two_pow_le_and_two_pow_add_one_gt (Nat.le_of_not_lt hsmall) ha]
            rfl
        calc f a = f (a ^^^ 2 ^ n) ^^^ f (2 ^ n) := by rw [← hf, xor_cancel_right]
          _ = g (a ^^^ 2 ^ n) ^^^ g (2 ^ n) := by rw [ih (by omega) _ hrest, hbits n (by omega)]
          _ = g a := by rw [← hg, xor_cancel_right]
  exact hlow 8 (Nat.le_refl 8) a ha

/-! ### The product -/

theorem gfDouble_lt (a : Nat) (ha : a < 256) : gfDouble a < 256 := by
  revert a
  decide +kernel

/-- A double is a shift, reduced where bit 7 was set. -/
theorem gfDouble_eq (a : Nat) (ha : a < 256) : gfDouble a = 2 * a ^^^ 0x11D * (a / 128) := by
  revert a
  decide +kernel

theorem gfDouble_xor (a b : Nat) (ha : a < 256) (hb : b < 256) : gfDouble (a ^^^ b) = gfDouble a ^^^ gfDouble b := by
  have hshift : 2 * (a ^^^ b) = 2 * a ^^^ 2 * b := by
    simpa [Nat.shiftLeft_eq, Nat.mul_comm] using Nat.shiftLeft_xor_distrib (i := 1) (a := a) (b := b)
  have htop : (a ^^^ b) / 128 = a / 128 ^^^ b / 128 := Nat.xor_div_two_pow (n := 7)
  have hreduce : ∀ x < 2, ∀ y < 2, 0x11D * (x ^^^ y) = 0x11D * x ^^^ 0x11D * y := by decide
  rw [gfDouble_eq _ (Nat.xor_lt_two_pow (n := 8) ha hb), gfDouble_eq a ha, gfDouble_eq b hb, hshift, htop, hreduce _ (by omega) _ (by omega)]
  ac_rfl

theorem gfMulN_xor_left (n a b c : Nat) (ha : a < 256) (hb : b < 256) : gfMulN n (a ^^^ b) c = gfMulN n a c ^^^ gfMulN n b c := by
  induction n generalizing a b c with
  | zero => simp only [gfMulN, Nat.xor_self]
  | succ n ih =>
    simp only [gfMulN]
    rw [gfDouble_xor a b ha hb, ih _ _ _ (gfDouble_lt a ha) (gfDouble_lt b hb)]
    split
    · ac_rfl
    · simp

theorem gfMulN_xor_right (n a b c : Nat) : gfMulN n a (b ^^^ c) = gfMulN n a b ^^^ gfMulN n a c := by
  induction n generalizing a b c with
  | zero => simp only [gfMulN, Nat.xor_self]
  | succ n ih =>
    have hparity : (b ^^^ c) % 2 = b % 2 ^^^ c % 2 := Nat.xor_mod_two_pow (n := 1)
    have hbit : (if (b ^^^ c) % 2 = 1 then a else 0) = (if b % 2 = 1 then a else 0) ^^^ (if c % 2 = 1 then a else 0) := by
      rw [hparity]
      rcases Nat.mod_two_eq_zero_or_one b with hb | hb <;> rcases Nat.mod_two_eq_zero_or_one c with hc | hc <;> simp [hb, hc]
    simp only [gfMulN]
    rw [hbit, Nat.xor_div_two, ih]
    ac_rfl

theorem gfMulN_lt (n a b : Nat) (ha : a < 256) : gfMulN n a b < 256 := by
  induction n generalizing a b with
  | zero => exact Nat.zero_lt_succ _
  | succ n ih =>
    refine Nat.xor_lt_two_pow (n := 8) ?_ (ih _ _ (gfDouble_lt a ha))
    split <;> omega

theorem gfMul_lt (a b : Nat) : gfMul a b < 256 := gfMulN_lt 8 _ _ (Nat.mod_lt a (by decide))

theorem gfMul_xor_left (a b c : Nat) : gfMul (a ^^^ b) c = gfMul a c ^^^ gfMul b c := by
  unfold gfMul
  rw [Nat.xor_mod_two_pow (n := 8)]
  exact gfMulN_xor_left 8 _ _ _ (Nat.mod_lt a (by decide)) (Nat.mod_lt b (by decide))

theorem gfMul_xor_right (a b c : Nat) : gfMul a (b ^^^ c) = gfMul a b ^^^ gfMul a c := by
  unfold gfMul
  rw [Nat.xor_mod_two_pow (n := 8)]
  exact gfMulN_xor_right 8 _ _ _

@[simp] theorem gfMul_mod_left (a b : Nat) : gfMul (a % 256) b = gfMul a b := by simp [gfMul]

@[simp] theorem gfMul_mod_right (a b : Nat) : gfMul a (b % 256) = gfMul a b := by simp [gfMul]

theorem gfMul_one_left (a : Nat) (ha : a < 256) : gfMul 1 a = a :=
  eq_of_additive (gfMul_xor_right 1) (g := id) (fun _ _ => rfl) (by decide) a ha

theorem gfMul_one_right (a : Nat) (ha : a < 256) : gfMul a 1 = a :=
  eq_of_additive (f := fun a => gfMul a 1) (g := id) (fun x y => gfMul_xor_left x y 1) (fun _ _ => rfl) (by decide) a ha

/-- The product is associative: both sides are additive in each argument, so the 512 triples of single bits decide it. -/
theorem gfMul_assoc (a b c : Nat) : gfMul (gfMul a b) c = gfMul a (gfMul b c) := by
  have hbits : ∀ i < 8, ∀ j < 8, ∀ k < 8, gfMul (gfMul (2 ^ i) (2 ^ j)) (2 ^ k) = gfMul (2 ^ i) (gfMul (2 ^ j) (2 ^ k)) := by decide +kernel
  have hthird : ∀ i < 8, ∀ j < 8, ∀ c < 256, gfMul (gfMul (2 ^ i) (2 ^ j)) c = gfMul (2 ^ i) (gfMul (2 ^ j) c) := fun i hi j hj =>
    eq_of_additive (fun x y => by rw [gfMul_xor_right]) (fun x y => by rw [gfMul_xor_right, gfMul_xor_right]) (hbits i hi j hj)
  have hsecond : ∀ i < 8, ∀ b < 256, ∀ c < 256, gfMul (gfMul (2 ^ i) b) c = gfMul (2 ^ i) (gfMul b c) := fun i hi b hb c hc =>
    eq_of_additive (f := fun b => gfMul (gfMul (2 ^ i) b) c) (g := fun b => gfMul (2 ^ i) (gfMul b c))
      (fun x y => by rw [gfMul_xor_right, gfMul_xor_left]) (fun x y => by rw [gfMul_xor_left, gfMul_xor_right]) (fun j hj => hthird i hi j hj c hc) b hb
  have hbytes : ∀ a < 256, ∀ b < 256, ∀ c < 256, gfMul (gfMul a b) c = gfMul a (gfMul b c) := fun a ha b hb c hc =>
    eq_of_additive (f := fun a => gfMul (gfMul a b) c) (g := fun a => gfMul a (gfMul b c))
      (fun x y => by rw [gfMul_xor_left, gfMul_xor_left]) (fun x y => by rw [gfMul_xor_left]) (fun i hi => hsecond i hi b hb c hc) a ha
  have hmod : ∀ n : Nat, n % 256 < 256 := fun n => Nat.mod_lt n (by decide)
  simpa [gfMul] using hbytes _ (hmod a) _ (hmod b) _ (hmod c)

/-! ### Powers and inverses -/

theorem gfPow_lt (a n : Nat) : gfPow a n < 256 := by
  cases n with
  | zero => exact (by decide : 1 < 256)
  | succ n => exact gfMul_lt a _

theorem gfPow_add (a m n : Nat) : gfPow a (m + n) = gfMul (gfPow a m) (gfPow a n) := by
  induction m with
  | zero => rw [Nat.zero_add, gfPow, gfMul_one_left _ (gfPow_lt a n)]
  | succ m ih => rw [Nat.succ_add, gfPow, gfPow, ih, gfMul_assoc]

/-- The power 2^k − 1 by repeated squaring. -/
def gfPowOnes (a : Nat) : Nat → Nat
  | 0 => 1
  | k + 1 => gfMul a (gfMul (gfPowOnes a k) (gfPowOnes a k))

theorem gfPowOnes_eq (a k : Nat) : gfPowOnes a k = gfPow a (2 ^ k - 1) := by
  induction k with
  | zero => rfl
  | succ k ih =>
    have hpow : 2 ^ (k + 1) - 1 = (2 ^ k - 1 + (2 ^ k - 1)) + 1 := by
      have := Nat.two_pow_pos k
      omega
    rw [gfPowOnes, ih, hpow, gfPow, gfPow_add]

/-- The 255th power of every byte but 0 is 1. -/
theorem gfPow_255 (a : Nat) (ha : a < 256) (hne : a ≠ 0) : gfPow a 255 = 1 := by
  have hones : ∀ a < 256, a ≠ 0 → gfPowOnes a 8 = 1 := by decide +kernel
  exact (gfPowOnes_eq a 8).symm.trans (hones a ha hne)

theorem gfMul_gfInv (a : Nat) (ha : a < 256) (hne : a ≠ 0) : gfMul (gfInv a) a = 1 := by
  have hone : gfPow a 1 = a := gfMul_one_right a ha
  calc gfMul (gfInv a) a = gfMul (gfPow a 254) (gfPow a 1) := by rw [hone, gfInv]
    _ = gfPow a 255 := (gfPow_add a 254 1).symm
    _ = 1 := gfPow_255 a ha hne

theorem gfG_lt (i : Nat) : gfG i < 256 := gfPow_lt 2 _

theorem gfG_ne_zero (i : Nat) (hi : i < 16) : gfG i ≠ 0 := by
  revert i
  decide +kernel

/-- The powers of g at the 16 data positions differ. -/
theorem gfG_xor_ne_zero (i j : Nat) (hi : i < 16) (hj : j < 16) (hij : i ≠ j) : gfG i ^^^ gfG j ≠ 0 := by
  have hdiffer : ∀ i < 16, ∀ j < 16, i ≠ j → gfG i ^^^ gfG j ≠ 0 := by decide +kernel
  exact hdiffer i hi j hj hij

end Sys2Proof.Machine
end

section
/-!
SUPPORT and PROOFS. Blocks under parity (R228): addition and scaling of blocks, P and Q as sums over the data positions, what one changed position changes, and O52.
-/

namespace Sys2Proof.Machine

/-! ### Addition of blocks -/

@[simp] theorem addBlocks_nil_left (b : Bytes) : addBlocks [] b = b := by cases b <;> rfl

@[simp] theorem addBlocks_nil_right (b : Bytes) : addBlocks b [] = b := by cases b <;> rfl

@[simp] theorem addBlocks_cons (x y : Byte) (a b : Bytes) : addBlocks (x :: a) (y :: b) = (x ^^^ y) :: addBlocks a b := rfl

theorem addBlocks_comm (a b : Bytes) : addBlocks a b = addBlocks b a := by
  induction a generalizing b with
  | nil => simp
  | cons x a ih =>
    cases b with
    | nil => simp
    | cons y b => rw [addBlocks_cons, addBlocks_cons, ih, BitVec.xor_comm]

theorem addBlocks_assoc (a b c : Bytes) : addBlocks (addBlocks a b) c = addBlocks a (addBlocks b c) := by
  induction a generalizing b c with
  | nil => simp
  | cons x a ih =>
    cases b with
    | nil => simp
    | cons y b =>
      cases c with
      | nil => simp
      | cons z c => simp only [addBlocks_cons, ih, BitVec.xor_assoc]

@[simp] theorem length_addBlocks (a b : Bytes) : (addBlocks a b).length = max a.length b.length := by
  induction a generalizing b with
  | nil => simp
  | cons x a ih =>
    cases b with
    | nil => simp
    | cons y b => simp [ih]

theorem addBlocks_self (b : Bytes) : addBlocks b b = zeros b.length := by
  induction b with
  | nil => rfl
  | cons x b ih => rw [addBlocks_cons, ih, BitVec.xor_self]; rfl

theorem addBlocks_zeros (b : Bytes) (n : Nat) (h : n ≤ b.length) : addBlocks b (zeros n) = b := by
  induction b generalizing n with
  | nil => simp_all [zeros]
  | cons x b ih =>
    cases n with
    | zero => rfl
    | succ n =>
      calc addBlocks (x :: b) (zeros (n + 1)) = (x ^^^ 0) :: addBlocks b (zeros n) := rfl
        _ = x :: b := by rw [ih n (by simpa using h)]; simp

theorem addBlocks_zeros_block (b : Bytes) (hb : b.length = memberBlock) : addBlocks b (zeros memberBlock) = b :=
  addBlocks_zeros b _ (Nat.le_of_eq hb.symm)

@[simp] theorem length_zeros (n : Nat) : (zeros n).length = n := List.length_replicate

/-- A block added twice cancels. -/
theorem addBlocks_cancel_right (a b : Bytes) (h : b.length ≤ a.length) : addBlocks (addBlocks a b) b = a := by
  rw [addBlocks_assoc, addBlocks_self, addBlocks_zeros a _ h]

theorem addBlocks_cancel_left (a b : Bytes) (h : a.length ≤ b.length) : addBlocks a (addBlocks a b) = b := by
  rw [addBlocks_comm a b, addBlocks_comm, addBlocks_cancel_right b a h]

/-! ### Scaling of blocks -/

/-- The product of one byte by a constant. -/
def gfScale (k : Nat) (x : Byte) : Byte := BitVec.ofNat 8 (gfMul k x.toNat)

theorem gfScale_one (x : Byte) : gfScale 1 x = x := by
  rw [gfScale, gfMul_one_left _ x.isLt, BitVec.ofNat_toNat, BitVec.setWidth_eq]

theorem gfScale_xor (k : Nat) (x y : Byte) : gfScale k (x ^^^ y) = gfScale k x ^^^ gfScale k y := by
  simp only [gfScale, BitVec.toNat_xor, gfMul_xor_right, BitVec.ofNat_xor]

theorem gfScale_xor_left (j k : Nat) (x : Byte) : gfScale (j ^^^ k) x = gfScale j x ^^^ gfScale k x := by
  simp only [gfScale, gfMul_xor_left, BitVec.ofNat_xor]

theorem gfScale_gfScale (j k : Nat) (x : Byte) : gfScale j (gfScale k x) = gfScale (gfMul j k) x := by
  simp only [gfScale, BitVec.toNat_ofNat, Nat.reducePow, gfMul_mod_right, gfMul_assoc]

theorem scaleBlock_eq_map (k : Nat) (b : Bytes) : scaleBlock k b = b.map (gfScale k) := by
  unfold scaleBlock
  split
  · next hk =>
    subst hk
    exact (List.map_id'' gfScale_one b).symm
  · rfl

@[simp] theorem scaleBlock_one (b : Bytes) : scaleBlock 1 b = b := if_pos rfl

@[simp] theorem length_scaleBlock (k : Nat) (b : Bytes) : (scaleBlock k b).length = b.length := by
  rw [scaleBlock_eq_map, List.length_map]

theorem scaleBlock_scaleBlock (j k : Nat) (b : Bytes) : scaleBlock j (scaleBlock k b) = scaleBlock (gfMul j k) b := by
  simp only [scaleBlock_eq_map, List.map_map]
  exact List.map_congr_left fun x _ => gfScale_gfScale j k x

theorem scaleBlock_addBlocks (k : Nat) (a b : Bytes) : scaleBlock k (addBlocks a b) = addBlocks (scaleBlock k a) (scaleBlock k b) := by
  simp only [scaleBlock_eq_map]
  induction a generalizing b with
  | nil => simp
  | cons x a ih =>
    cases b with
    | nil => simp
    | cons y b => simp only [addBlocks_cons, List.map_cons, ih, gfScale_xor]

theorem scaleBlock_xor (j k : Nat) (b : Bytes) : scaleBlock (j ^^^ k) b = addBlocks (scaleBlock j b) (scaleBlock k b) := by
  simp only [scaleBlock_eq_map]
  induction b with
  | nil => rfl
  | cons x b ih => simp only [addBlocks_cons, List.map_cons, ih, gfScale_xor_left]

theorem scaleBlock_zeros (k n : Nat) : scaleBlock k (zeros n) = zeros n := by
  have hzero : gfScale k 0 = 0 := by simpa using gfScale_xor k 0 0
  rw [scaleBlock_eq_map, zeros, List.map_replicate, hzero]

/-- Scaling by an element other than 0 is undone by scaling with its inverse. -/
theorem scaleBlock_gfInv (k : Nat) (b : Bytes) (hk : k < 256) (hne : k ≠ 0) : scaleBlock (gfInv k) (scaleBlock k b) = b := by
  rw [scaleBlock_scaleBlock, gfMul_gfInv k hk hne, scaleBlock_one]

/-! ### P and Q as sums over the positions -/

/-- The sum of the blocks of positions 0 to w − 1. -/
def sumBlocks (f : Nat → Bytes) : Nat → Bytes
  | 0 => zeros memberBlock
  | w + 1 => addBlocks (sumBlocks f w) (f w)

theorem sumBlocks_eq_foldl (f : Nat → Bytes) (w : Nat) : sumBlocks f w = (List.range w).foldl (fun acc i => addBlocks acc (f i)) (zeros memberBlock) := by
  induction w with
  | zero => rfl
  | succ w ih => rw [sumBlocks, ih, List.range_succ, List.foldl_append, List.foldl_cons, List.foldl_nil]

/-- The block of a position, zeros where none is given. -/
def dataAt (t : Tab Bytes) (i : Nat) : Bytes := t.getD i (zeros memberBlock)

/-- What a position adds to Q. -/
def qTerm (t : Tab Bytes) (i : Nat) : Bytes := scaleBlock (gfG i) (dataAt t i)

theorem parityP_eq_sum (w : Nat) (t : Tab Bytes) : parityP w t = sumBlocks (dataAt t) w := by
  rw [parityP, dataOf, List.foldl_map, sumBlocks_eq_foldl]
  rfl

theorem parityQ_eq_sum (w : Nat) (t : Tab Bytes) : parityQ w t = sumBlocks (qTerm t) w := by
  rw [parityQ, dataOf, List.foldl_map, sumBlocks_eq_foldl]
  rfl

theorem dataAt_of_get? {t : Tab Bytes} {i : Nat} {b : Bytes} (h : t.get? i = some b) : dataAt t i = b := by
  rw [dataAt, Tab.getD, h]

theorem dataAt_of_missing {t : Tab Bytes} {i : Nat} (h : t.get? i = none) : dataAt t i = zeros memberBlock := by
  rw [dataAt, Tab.getD, h]

theorem dataAt_congr {t u : Tab Bytes} {i : Nat} (h : t.get? i = u.get? i) : dataAt t i = dataAt u i := by
  rw [dataAt, dataAt, Tab.getD, Tab.getD, h]

theorem length_sumBlocks (f : Nat → Bytes) (w : Nat) (hf : ∀ k < w, (f k).length = memberBlock) : (sumBlocks f w).length = memberBlock := by
  induction w with
  | zero => exact length_zeros _
  | succ w ih => rw [sumBlocks, length_addBlocks, ih fun k hk => hf k (by omega), hf w (by omega), Nat.max_self]

theorem sumBlocks_congr {f g : Nat → Bytes} {w : Nat} (h : ∀ k < w, f k = g k) : sumBlocks f w = sumBlocks g w := by
  induction w with
  | zero => rfl
  | succ w ih => rw [sumBlocks, sumBlocks, ih fun k hk => h k (by omega), h w (by omega)]

/-- The sum of two sums is the sum of the terms' sums. -/
theorem addBlocks_sumBlocks (f g : Nat → Bytes) (w : Nat) :
    addBlocks (sumBlocks f w) (sumBlocks g w) = sumBlocks (fun k => addBlocks (f k) (g k)) w := by
  induction w with
  | zero => rw [sumBlocks, sumBlocks, sumBlocks, addBlocks_zeros_block _ (length_zeros _)]
  | succ w ih =>
    have : Std.Associative addBlocks := ⟨addBlocks_assoc⟩
    have : Std.Commutative addBlocks := ⟨addBlocks_comm⟩
    rw [sumBlocks, sumBlocks, sumBlocks, ← ih]
    ac_rfl

/-- The blocks of `g`, but for a given block at one position. -/
def withBlockAt (g : Nat → Bytes) (i : Nat) (b : Bytes) (k : Nat) : Bytes := if k = i then b else g k

theorem withBlockAt_self (g : Nat → Bytes) (i : Nat) (b : Bytes) : withBlockAt g i b i = b := if_pos rfl

theorem withBlockAt_of_ne (g : Nat → Bytes) {i k : Nat} (b : Bytes) (h : k ≠ i) : withBlockAt g i b k = g k := if_neg h

/-- One block at one position, zeros at every other. -/
def soleBlock (i : Nat) (b : Bytes) : Nat → Bytes := withBlockAt (fun _ => zeros memberBlock) i b

theorem soleBlock_self (i : Nat) (b : Bytes) : soleBlock i b i = b := withBlockAt_self _ i b

theorem soleBlock_of_ne {i k : Nat} (b : Bytes) (h : k ≠ i) : soleBlock i b k = zeros memberBlock := withBlockAt_of_ne _ b h

theorem sumBlocks_soleBlock (w i : Nat) (b : Bytes) (hb : b.length = memberBlock) : sumBlocks (soleBlock i b) w = if i < w then b else zeros memberBlock := by
  induction w with
  | zero => rfl
  | succ w ih =>
    rw [sumBlocks, ih]
    rcases Nat.lt_trichotomy i w with h | rfl | h
    · rw [soleBlock_of_ne b (by omega), if_pos h, if_pos (by omega), addBlocks_zeros_block b hb]
    · rw [soleBlock_self, if_neg (by omega), if_pos (by omega), addBlocks_comm, addBlocks_zeros_block b hb]
    · rw [soleBlock_of_ne b (by omega), if_neg (by omega), if_neg (by omega), addBlocks_zeros_block _ (length_zeros _)]

/-- Changing the block of one position by a block changes the sum by that block. -/
theorem sumBlocks_change {f g : Nat → Bytes} {w i : Nat} (d : Bytes) (hi : i < w) (hd : d.length = memberBlock)
    (hf : ∀ k < w, (f k).length = memberBlock) (hgi : g i = addBlocks (f i) d) (hg : ∀ k < w, k ≠ i → g k = f k) :
    sumBlocks g w = addBlocks (sumBlocks f w) d := by
  have hterm : ∀ k < w, g k = addBlocks (f k) (soleBlock i d k) := by
    intro k hk
    by_cases h : k = i
    · rw [h, hgi, soleBlock_self]
    · rw [hg k hk h, soleBlock_of_ne d h, addBlocks_zeros_block _ (hf k hk)]
  rw [sumBlocks_congr hterm, ← addBlocks_sumBlocks, sumBlocks_soleBlock w i d hd, if_pos hi]

/-! ### Complete stripes -/

/-- Every data position has its block, of the length of a member block. -/
def dataComplete (w : Nat) (t : Tab Bytes) : Prop := ∀ k, k < w → ∃ b, t.get? k = some b ∧ b.length = memberBlock

theorem get?_of_dataComplete {w : Nat} {t : Tab Bytes} (h : dataComplete w t) {k : Nat} (hk : k < w) : t.get? k = some (dataAt t k) := by
  obtain ⟨b, hb, -⟩ := h k hk
  rw [hb, dataAt_of_get? hb]

theorem length_dataAt {w : Nat} {t : Tab Bytes} (h : dataComplete w t) {k : Nat} (hk : k < w) : (dataAt t k).length = memberBlock := by
  obtain ⟨b, hb, hlen⟩ := h k hk
  rw [dataAt_of_get? hb, hlen]

theorem length_qTerm {w : Nat} {t : Tab Bytes} (h : dataComplete w t) {k : Nat} (hk : k < w) : (qTerm t k).length = memberBlock := by
  rw [qTerm, length_scaleBlock, length_dataAt h hk]

/-! ### O52 -/

/-- Settles O52: a position's change is the sum of its two contents, which P takes as it is and Q scaled by the position's power of g. -/
theorem readModifyWriteParity : Obligations.ReadModifyWriteParity := by
  unfold Obligations.ReadModifyWriteParity
  intro w i t old new _ hi hdata hold hnew
  have holdAt : dataAt t i = old := dataAt_of_get? hold
  have holdLen : old.length = memberBlock := holdAt ▸ length_dataAt hdata hi
  have hlen : (addBlocks old new).length = memberBlock := by rw [length_addBlocks, holdLen, hnew, Nat.max_self]
  have hat : dataAt (t.put i new) i = addBlocks (dataAt t i) (addBlocks old new) := by
    rw [dataAt_of_get? (t.get?_put_self i new), holdAt, addBlocks_cancel_left old new (by omega)]
  have helse : ∀ k < w, k ≠ i → dataAt (t.put i new) k = dataAt t k := fun k _ hne => dataAt_congr (t.get?_put_of_ne new hne)
  constructor
  · rw [parityP_eq_sum, parityP_eq_sum, addBlocks_assoc]
    exact sumBlocks_change _ hi hlen (fun k hk => length_dataAt hdata hk) hat helse
  · rw [parityQ_eq_sum, parityQ_eq_sum]
    refine sumBlocks_change _ hi (by rw [length_scaleBlock, hlen]) (fun k hk => length_qTerm hdata hk) ?_ fun k hk hne => ?_
    · rw [qTerm, qTerm, hat, scaleBlock_addBlocks]
    · rw [qTerm, qTerm, helse k hk hne]

end Sys2Proof.Machine
end

section
/-!
SUPPORT and PROOFS. Recovery of missing blocks (R229): what P and Q are once the present data is removed, each row of R229's table, and O53.
-/

namespace Sys2Proof.Machine

theorem Tab.get?_keep_key {α : Type} (t : Tab α) (p : Nat → Bool) (x : Nat) : (t.keep (fun k _ => p k)).get? x = if p x then t.get? x else none := by
  induction t with
  | nil => simp [Tab.keep, Tab.get?]
  | cons e t ih =>
    obtain ⟨a, v⟩ := e
    simp only [Tab.keep] at ih ⊢
    by_cases ha : p a
    · rw [List.filter_cons, if_pos ha, Tab.get?, Tab.get?, ih]
      by_cases hax : a = x
      · rw [if_pos hax, if_pos hax, if_pos (hax ▸ ha)]
      · rw [if_neg hax, if_neg hax]
    · rw [List.filter_cons, if_neg ha, ih, Tab.get?]
      by_cases hax : a = x
      · rw [if_neg (hax ▸ ha), if_neg (hax ▸ ha)]
      · rw [if_neg hax]

/-! ### What recovery of a data position computes -/

/-- The present blocks at the data positions other than x. -/
def presentData (w : Nat) (h : Tab Bytes) (x : Nat) : Tab Bytes := h.keep (fun k _ => decide (k < w) && k ≠ x)

/-- The data positions other than x that are missing. -/
def missingData (w : Nat) (h : Tab Bytes) (x : Nat) : List Nat := (List.range w).filter (fun i => i ≠ x && !h.has i)

/-- Pxy of R229. -/
def strippedP (w : Nat) (h : Tab Bytes) (x : Nat) (p : Bytes) : Bytes := addBlocks p (parityP w (presentData w h x))

/-- Qxy of R229. -/
def strippedQ (w : Nat) (h : Tab Bytes) (x : Nat) (q : Bytes) : Bytes := addBlocks q (parityQ w (presentData w h x))

/-- The higher of two missing data positions, from Pxy and Qxy. -/
def solveHigher (lo hi : Nat) (p q : Bytes) : Bytes := scaleBlock (gfInv (gfG lo ^^^ gfG hi)) (addBlocks q (scaleBlock (gfG lo) p))

section
variable {w x : Nat} {h : Tab Bytes} {p q : Bytes} (byQ : Bool)

theorem recoverData_of_p_q (hm : missingData w h x = []) (hp : h.get? w = some p) (hq : h.get? (w + 1) = some q) :
    recoverData w h x byQ = some (if byQ then scaleBlock (gfInv (gfG x)) (strippedQ w h x q) else strippedP w h x p) := by
  unfold missingData at hm
  simp only [recoverData, hm, hp, hq, Option.map_some]
  rfl

theorem recoverData_of_p (hm : missingData w h x = []) (hp : h.get? w = some p) (hq : h.get? (w + 1) = none) :
    recoverData w h x byQ = some (strippedP w h x p) := by
  unfold missingData at hm
  simp only [recoverData, hm, hp, hq, Option.map_some, Option.map_none]
  rfl

theorem recoverData_of_q (hm : missingData w h x = []) (hp : h.get? w = none) (hq : h.get? (w + 1) = some q) :
    recoverData w h x byQ = some (scaleBlock (gfInv (gfG x)) (strippedQ w h x q)) := by
  unfold missingData at hm
  simp only [recoverData, hm, hp, hq, Option.map_some, Option.map_none]
  rfl

theorem recoverData_of_lower {y : Nat} (hxy : x < y) (hm : missingData w h x = [y]) (hp : h.get? w = some p) (hq : h.get? (w + 1) = some q) :
    recoverData w h x byQ = some (addBlocks (strippedP w h x p) (solveHigher x y (strippedP w h x p) (strippedQ w h x q))) := by
  unfold missingData at hm
  simp only [recoverData, hm, hp, hq, Option.map_some, Nat.max_eq_right (Nat.le_of_lt hxy), Nat.min_eq_left (Nat.le_of_lt hxy), if_neg (Nat.ne_of_lt hxy)]
  rfl

theorem recoverData_of_higher {y : Nat} (hyx : y < x) (hm : missingData w h x = [y]) (hp : h.get? w = some p) (hq : h.get? (w + 1) = some q) :
    recoverData w h x byQ = some (solveHigher y x (strippedP w h x p) (strippedQ w h x q)) := by
  unfold missingData at hm
  simp only [recoverData, hm, hp, hq, Option.map_some, Nat.max_eq_left (Nat.le_of_lt hyx), Nat.min_eq_right (Nat.le_of_lt hyx), if_true]
  rfl

end

/-- Two blocks solve the sums that P and Q leave of them. -/
theorem solveHigher_eq (lo hi : Nat) (a b : Bytes) (hlo : lo < 16) (hhi : hi < 16) (hne : lo ≠ hi) (hlen : a.length = b.length) :
    solveHigher lo hi (addBlocks a b) (addBlocks (scaleBlock (gfG lo) a) (scaleBlock (gfG hi) b)) = b := by
  have hsum : addBlocks (addBlocks (scaleBlock (gfG lo) a) (scaleBlock (gfG hi) b)) (scaleBlock (gfG lo) (addBlocks a b)) =
      scaleBlock (gfG lo ^^^ gfG hi) b := by
    have : Std.Associative addBlocks := ⟨addBlocks_assoc⟩
    have : Std.Commutative addBlocks := ⟨addBlocks_comm⟩
    calc _ = addBlocks (scaleBlock (gfG lo) a) (addBlocks (scaleBlock (gfG lo) a) (addBlocks (scaleBlock (gfG lo) b) (scaleBlock (gfG hi) b))) := by
          rw [scaleBlock_addBlocks]
          ac_rfl
      _ = addBlocks (scaleBlock (gfG lo) b) (scaleBlock (gfG hi) b) := addBlocks_cancel_left _ _ (by simp [hlen])
      _ = scaleBlock (gfG lo ^^^ gfG hi) b := (scaleBlock_xor _ _ b).symm
  rw [solveHigher, hsum, scaleBlock_gfInv _ _ (Nat.xor_lt_two_pow (n := 8) (gfG_lt lo) (gfG_lt hi)) (gfG_xor_ne_zero lo hi hlo hhi hne)]

/-! ### Sums with the present positions removed -/

/-- A sum and the sum without the position x leave the block of x. -/
theorem sumBlocks_strip_one {f g : Nat → Bytes} {w x : Nat} (hx : x < w) (hf : ∀ k < w, (f k).length = memberBlock)
    (hgx : g x = zeros memberBlock) (hg : ∀ k < w, k ≠ x → g k = f k) : addBlocks (sumBlocks f w) (sumBlocks g w) = f x := by
  have hglen : ∀ k < w, (g k).length = memberBlock := by
    intro k hk
    by_cases hkx : k = x
    · rw [hkx, hgx, length_zeros]
    · rw [hg k hk hkx, hf k hk]
  have hfx : f x = addBlocks (g x) (f x) := by rw [hgx, addBlocks_comm, addBlocks_zeros_block _ (hf x hx)]
  rw [sumBlocks_change (f x) hx (hf x hx) hglen hfx fun k hk hne => (hg k hk hne).symm, addBlocks_comm,
    addBlocks_cancel_left _ _ (Nat.le_of_eq (by rw [length_sumBlocks g w hglen, hf x hx]))]

/-- A sum and the sum without the positions x and y leave the sum of their two blocks. -/
theorem sumBlocks_strip_two {f g : Nat → Bytes} {w x y : Nat} (hx : x < w) (hy : y < w) (hxy : x ≠ y) (hf : ∀ k < w, (f k).length = memberBlock)
    (hgx : g x = zeros memberBlock) (hgy : g y = zeros memberBlock) (hg : ∀ k < w, k ≠ x → k ≠ y → g k = f k) :
    addBlocks (sumBlocks f w) (sumBlocks g w) = addBlocks (f x) (f y) := by
  have hglen : ∀ k < w, (g k).length = memberBlock := by
    intro k hk
    by_cases hkx : k = x
    · rw [hkx, hgx, length_zeros]
    · by_cases hky : k = y
      · rw [hky, hgy, length_zeros]
      · rw [hg k hk hkx hky, hf k hk]
  have hrestored : sumBlocks (withBlockAt g y (f y)) w = addBlocks (sumBlocks g w) (f y) :=
    sumBlocks_change (f y) hy (hf y hy) hglen
      (by rw [withBlockAt_self, hgy, addBlocks_comm, addBlocks_zeros_block _ (hf y hy)]) fun k _ hne => withBlockAt_of_ne g _ hne
  have hone : addBlocks (sumBlocks f w) (sumBlocks (withBlockAt g y (f y)) w) = f x := by
    refine sumBlocks_strip_one hx hf (by rw [withBlockAt_of_ne g _ hxy, hgx]) fun k hk hne => ?_
    by_cases hky : k = y
    · rw [hky, withBlockAt_self]
    · rw [withBlockAt_of_ne g _ hky, hg k hk hne hky]
  rw [← hone, hrestored, ← addBlocks_assoc, addBlocks_cancel_right _ _ (by simp [length_sumBlocks _ _ hf, length_sumBlocks _ _ hglen, hf y hy])]

/-! ### A stripe with at most two members missing -/

/-- `h` holds the members of the stripe of data `t`, but for positions x and y. -/
structure Survivors (w : Nat) (t h : Tab Bytes) (x y : Nat) : Prop where
  complete : dataComplete w t
  data : ∀ k < w, h.get? k = if k = x ∨ k = y then none else t.get? k
  p : h.get? w = if w = x ∨ w = y then none else some (parityP w t)
  q : h.get? (w + 1) = if w + 1 = x ∨ w + 1 = y then none else some (parityQ w t)

theorem Survivors.symm {w : Nat} {t h : Tab Bytes} {x y : Nat} (s : Survivors w t h x y) : Survivors w t h y x where
  complete := s.complete
  data := by simpa only [or_comm] using s.data
  p := by simpa only [or_comm] using s.p
  q := by simpa only [or_comm] using s.q

section
variable {w : Nat} {t h : Tab Bytes} {x y : Nat}

theorem Survivors.has_iff (s : Survivors w t h x y) {k : Nat} (hk : k < w) : h.has k = true ↔ k ≠ x ∧ k ≠ y := by
  rw [Tab.has, s.data k hk, get?_of_dataComplete s.complete hk]
  split
  · next hlost => simp; omega
  · next hkept => simp; omega

theorem Survivors.missingData_eq (s : Survivors w t h x y) : missingData w h x = if y < w ∧ y ≠ x then [y] else [] := by
  have hmem : ∀ i ∈ List.range w, (i ≠ x && !h.has i) = (i == y && decide (y ≠ x)) := by
    intro i hi
    have hhas := s.has_iff (List.mem_range.mp hi)
    rw [Bool.eq_iff_iff]
    simp only [Bool.and_eq_true, Bool.not_eq_true', decide_eq_true_eq, beq_iff_eq, ← Bool.not_eq_true, hhas]
    omega
  rw [missingData, List.filter_congr hmem]
  by_cases hyx : y = x
  · simp [hyx]
  · by_cases hyw : y < w <;> simp [hyx, hyw, List.filter_beq, List.count_range]

/-- The blocks that are stripped from P and Q: zeros at the positions missing, the data at every other. -/
theorem Survivors.dataAt_presentData (s : Survivors w t h x y) {k : Nat} (hk : k < w) :
    dataAt (presentData w h x) k = if k = x ∨ k = y then zeros memberBlock else dataAt t k := by
  have hget : (presentData w h x).get? k = if k = x ∨ k = y then none else t.get? k := by
    rw [presentData, Tab.get?_keep_key h (fun k => decide (k < w) && k ≠ x) k, s.data k hk]
    by_cases hkx : k = x <;> simp [hk, hkx]
  split at hget
  · next hlost => rw [if_pos hlost, dataAt_of_missing hget]
  · next hkept => rw [if_neg hkept, dataAt_congr hget]

theorem Survivors.qTerm_presentData (s : Survivors w t h x y) {k : Nat} (hk : k < w) :
    qTerm (presentData w h x) k = if k = x ∨ k = y then zeros memberBlock else qTerm t k := by
  rw [qTerm, s.dataAt_presentData hk]
  split
  · exact scaleBlock_zeros _ _
  · rfl

/-- Where x alone is missing among the data, Pxy is its block and Qxy its scaled block. -/
theorem Survivors.stripped_one (s : Survivors w t h x y) (hx : x < w) (hy : y < w → y = x) :
    strippedP w h x (parityP w t) = dataAt t x ∧ strippedQ w h x (parityQ w t) = qTerm t x := by
  have hkept : ∀ k < w, k ≠ x → ¬ (k = x ∨ k = y) := by
    intro k hk hne
    rintro (rfl | rfl)
    · exact hne rfl
    · exact hne (hy hk)
  rw [strippedP, strippedQ, parityP_eq_sum, parityP_eq_sum, parityQ_eq_sum, parityQ_eq_sum]
  constructor
  · exact sumBlocks_strip_one hx (fun k hk => length_dataAt s.complete hk) (by rw [s.dataAt_presentData hx, if_pos (.inl rfl)])
      fun k hk hne => by rw [s.dataAt_presentData hk, if_neg (hkept k hk hne)]
  · exact sumBlocks_strip_one hx (fun k hk => length_qTerm s.complete hk) (by rw [s.qTerm_presentData hx, if_pos (.inl rfl)])
      fun k hk hne => by rw [s.qTerm_presentData hk, if_neg (hkept k hk hne)]

/-- Where x and y are missing among the data, Pxy is the sum of their blocks and Qxy that of their scaled blocks. -/
theorem Survivors.stripped_two (s : Survivors w t h x y) (hx : x < w) (hy : y < w) (hxy : x ≠ y) :
    strippedP w h x (parityP w t) = addBlocks (dataAt t x) (dataAt t y) ∧ strippedQ w h x (parityQ w t) = addBlocks (qTerm t x) (qTerm t y) := by
  rw [strippedP, strippedQ, parityP_eq_sum, parityP_eq_sum, parityQ_eq_sum, parityQ_eq_sum]
  constructor
  · exact sumBlocks_strip_two hx hy hxy (fun k hk => length_dataAt s.complete hk) (by rw [s.dataAt_presentData hx, if_pos (.inl rfl)])
      (by rw [s.dataAt_presentData hy, if_pos (.inr rfl)]) fun k hk hkx hky => by rw [s.dataAt_presentData hk, if_neg (by omega)]
  · exact sumBlocks_strip_two hx hy hxy (fun k hk => length_qTerm s.complete hk) (by rw [s.qTerm_presentData hx, if_pos (.inl rfl)])
      (by rw [s.qTerm_presentData hy, if_pos (.inr rfl)]) fun k hk hkx hky => by rw [s.qTerm_presentData hk, if_neg (by omega)]

/-! ### A data position is recovered -/

/-- Both parities present: either path gives the block. -/
theorem Survivors.recoverData_p_q (s : Survivors w t h x y) (hw : w ≤ 16) (hx : x < w) (hy : y = x ∨ w + 1 < y) (byQ : Bool) :
    recoverData w h x byQ = some (dataAt t x) := by
  obtain ⟨hP, hQ⟩ := s.stripped_one hx (by omega)
  have hm : missingData w h x = [] := by rw [s.missingData_eq, if_neg (by omega)]
  rw [recoverData_of_p_q byQ hm (by rw [s.p, if_neg (by omega)]) (by rw [s.q, if_neg (by omega)]), hP, hQ, qTerm,
    scaleBlock_gfInv _ _ (gfG_lt x) (gfG_ne_zero x (by omega)), ite_self]

/-- P missing: Q gives the block. -/
theorem Survivors.recoverData_q (s : Survivors w t h x w) (hw : w ≤ 16) (hx : x < w) (byQ : Bool) : recoverData w h x byQ = some (dataAt t x) := by
  obtain ⟨-, hQ⟩ := s.stripped_one hx (by omega)
  have hm : missingData w h x = [] := by rw [s.missingData_eq, if_neg (by omega)]
  rw [recoverData_of_q byQ hm (by rw [s.p, if_pos (.inr rfl)]) (by rw [s.q, if_neg (by omega)]), hQ, qTerm,
    scaleBlock_gfInv _ _ (gfG_lt x) (gfG_ne_zero x (by omega))]

/-- Q missing: P gives the block. -/
theorem Survivors.recoverData_p (s : Survivors w t h x (w + 1)) (hx : x < w) (byQ : Bool) : recoverData w h x byQ = some (dataAt t x) := by
  obtain ⟨hP, -⟩ := s.stripped_one hx (by omega)
  have hm : missingData w h x = [] := by rw [s.missingData_eq, if_neg (by omega)]
  rw [recoverData_of_p byQ hm (by rw [s.p, if_neg (by omega)]) (by rw [s.q, if_pos (.inr rfl)]), hP]

/-- A second data position missing: P and Q together give the block. -/
theorem Survivors.recoverData_two (s : Survivors w t h x y) (hw : w ≤ 16) (hx : x < w) (hy : y < w) (hxy : x ≠ y) (byQ : Bool) :
    recoverData w h x byQ = some (dataAt t x) := by
  obtain ⟨hP, hQ⟩ := s.stripped_two hx hy hxy
  have hm : missingData w h x = [y] := by rw [s.missingData_eq, if_pos ⟨hy, hxy.symm⟩]
  have hp : h.get? w = some (parityP w t) := by rw [s.p, if_neg (by omega)]
  have hq : h.get? (w + 1) = some (parityQ w t) := by rw [s.q, if_neg (by omega)]
  have hlen : (dataAt t x).length = (dataAt t y).length := by rw [length_dataAt s.complete hx, length_dataAt s.complete hy]
  rcases Nat.lt_or_gt_of_ne hxy with hlt | hgt
  · rw [recoverData_of_lower byQ hlt hm hp hq, hP, hQ, qTerm, qTerm, solveHigher_eq x y _ _ (by omega) (by omega) hxy hlen,
      addBlocks_cancel_right _ _ (Nat.le_of_eq hlen.symm)]
  · rw [recoverData_of_higher byQ hgt hm hp hq, hP, hQ, addBlocks_comm (dataAt t x), addBlocks_comm (qTerm t x), qTerm, qTerm,
      solveHigher_eq y x _ _ (by omega) (by omega) hxy.symm hlen.symm]

/-- R229's table for a data position: whatever else is missing, its block comes back. -/
theorem Survivors.recoverData_eq (s : Survivors w t h x y) (hw : w ≤ 16) (hx : x < w) (byQ : Bool) : recoverData w h x byQ = t.get? x := by
  rw [get?_of_dataComplete s.complete hx]
  by_cases hyx : y = x
  · exact s.recoverData_p_q hw hx (.inl hyx) byQ
  · rcases Nat.lt_or_ge y w with hyw | hyw
    · exact s.recoverData_two hw hx hyw (Ne.symm hyx) byQ
    · obtain rfl | rfl | hy : y = w ∨ y = w + 1 ∨ w + 1 < y := by omega
      · exact s.recoverData_q hw hx byQ
      · exact s.recoverData_p hx byQ
      · exact s.recoverData_p_q hw hx (.inr hy) byQ

/-! ### Every data position is recovered -/

/-- One position of `recoverAll`: a missing block is recovered and added to those in hand. -/
def recoverStep (w : Nat) (h : Tab Bytes) (acc : Option (Tab Bytes)) (i : Nat) : Option (Tab Bytes) :=
  acc.bind fun u => if h.has i then some u else (recoverData w h i false).map fun d => u.put i d

theorem recoverAll_eq_foldl (w : Nat) (h : Tab Bytes) : recoverAll w h = (List.range w).foldl (recoverStep w h) (some h) := by
  unfold recoverAll
  congr 1
  funext acc i
  cases acc <;> rfl

/-- A position of the data is in hand after its step, and the others are as they were. -/
theorem Survivors.recoverStep_get? (s : Survivors w t h x y) (hw : w ≤ 16) {i : Nat} (hi : i < w) (u : Tab Bytes) (hu : u.get? i = h.get? i) :
    ∃ u', recoverStep w h (some u) i = some u' ∧ ∀ k, u'.get? k = if k = i then t.get? i else u.get? k := by
  by_cases hhas : h.has i = true
  · have hkept := (s.has_iff hi).mp hhas
    refine ⟨u, by simp [recoverStep, hhas], fun k => ?_⟩
    split
    · next hk => rw [hk, hu, s.data i hi, if_neg (by omega)]
    · rfl
  · have hrec : recoverData w h i false = t.get? i := by
      obtain rfl | rfl : i = x ∨ i = y := by
        have := mt (s.has_iff hi).mpr hhas
        omega
      · exact s.recoverData_eq hw hi false
      · exact s.symm.recoverData_eq hw hi false
    have hsome := get?_of_dataComplete s.complete hi
    refine ⟨u.put i (dataAt t i), by simp [recoverStep, hhas, hrec, hsome], fun k => ?_⟩
    rw [Tab.get?_put, hsome]

/-- All the data is in hand after `recoverAll`. -/
theorem Survivors.recoverAll_get? (s : Survivors w t h x y) (hw : w ≤ 16) : ∃ u, recoverAll w h = some u ∧ ∀ k < w, u.get? k = t.get? k := by
  have hsteps : ∀ n ≤ w, ∃ u, (List.range n).foldl (recoverStep w h) (some h) = some u ∧ ∀ k, u.get? k = if k < n then t.get? k else h.get? k := by
    intro n
    induction n with
    | zero => exact fun _ => ⟨h, rfl, fun k => rfl⟩
    | succ n ih =>
      intro hn
      obtain ⟨u, hfold, hu⟩ := ih (by omega)
      obtain ⟨u', hstep, hu'⟩ := s.recoverStep_get? hw hn u (by rw [hu, if_neg (by omega)])
      refine ⟨u', by rw [List.range_succ, List.foldl_append, List.foldl_cons, List.foldl_nil, hfold, hstep], fun k => ?_⟩
      rw [hu' k]
      rcases Nat.lt_trichotomy k n with hk | rfl | hk
      · rw [if_neg (by omega), hu, if_pos hk, if_pos (by omega)]
      · rw [if_pos rfl, if_pos (by omega)]
      · rw [if_neg (by omega), hu, if_neg (by omega), if_neg (by omega)]
  obtain ⟨u, hfold, hu⟩ := hsteps w (Nat.le_refl w)
  exact ⟨u, by rw [recoverAll_eq_foldl, hfold], fun k hk => by rw [hu, if_pos hk]⟩

/-- A parity position is recomputed from the recovered data. -/
theorem Survivors.recoverPos_parity (s : Survivors w t h x y) (hw : w ≤ 16) {pos : Nat} (hpos : w ≤ pos) (byQ : Bool) :
    recoverPos w h pos byQ = some (if pos = w then parityP w t else parityQ w t) := by
  obtain ⟨u, hall, hu⟩ := s.recoverAll_get? hw
  have hdata : ∀ k < w, dataAt u k = dataAt t k := fun k hk => dataAt_congr (hu k hk)
  have hP : parityP w u = parityP w t := by rw [parityP_eq_sum, parityP_eq_sum, sumBlocks_congr hdata]
  have hQ : parityQ w u = parityQ w t := by
    rw [parityQ_eq_sum, parityQ_eq_sum]
    exact sumBlocks_congr fun k hk => by rw [qTerm, qTerm, hdata k hk]
  rw [recoverPos, if_neg (by omega), hall, Option.map_some, hP, hQ]

end

/-! ### O53 -/

/-- The members of a stripe by position: its data, P at w and Q at w + 1. -/
def fullStripe (w : Nat) (t : Tab Bytes) : Tab Bytes := (t.put w (parityP w t)).put (w + 1) (parityQ w t)

theorem fullStripe_get?_data (t : Tab Bytes) {w k : Nat} (hk : k < w) : (fullStripe w t).get? k = t.get? k := by
  rw [fullStripe, Tab.get?_put_of_ne _ _ (by omega), Tab.get?_put_of_ne _ _ (by omega)]

theorem fullStripe_get?_p (w : Nat) (t : Tab Bytes) : (fullStripe w t).get? w = some (parityP w t) := by
  rw [fullStripe, Tab.get?_put_of_ne _ _ (by omega), Tab.get?_put_self]

theorem fullStripe_get?_q (w : Nat) (t : Tab Bytes) : (fullStripe w t).get? (w + 1) = some (parityQ w t) := Tab.get?_put_self _ _ _

/-- What is left of a stripe when two members are taken away. -/
theorem survivors_del (w x y : Nat) (t : Tab Bytes) (hc : dataComplete w t) : Survivors w t (((fullStripe w t).del x).del y) x y := by
  have hget : ∀ k, (((fullStripe w t).del x).del y).get? k = if k = x ∨ k = y then none else (fullStripe w t).get? k := by
    intro k
    rw [Tab.get?_del, Tab.get?_del]
    by_cases hx : k = x <;> by_cases hy : k = y <;> simp [hx, hy]
  exact ⟨hc, fun k hk => by rw [hget, fullStripe_get?_data t hk], by rw [hget, fullStripe_get?_p], by rw [hget, fullStripe_get?_q]⟩

/-- Settles O53: a data position by the row of R229's table that fits what else is missing, P and Q from the data recovered. -/
theorem missingBlocksRecovered : Obligations.MissingBlocksRecovered := by
  unfold Obligations.MissingBlocksRecovered
  intro w x y t full byQ hwidth hx _ hdata hfull
  have hw : w ≤ 16 := by omega
  obtain rfl : full = fullStripe w t := hfull
  have s := survivors_del w x y t hdata
  rcases Nat.lt_or_ge x w with hxw | hxw
  · rw [recoverPos, if_pos hxw, s.recoverData_eq hw hxw, fullStripe_get?_data t hxw]
  · rw [s.recoverPos_parity hw hxw]
    obtain rfl | rfl : x = w ∨ x = w + 1 := by omega
    · rw [if_pos rfl, fullStripe_get?_p]
    · rw [if_neg (by omega), fullStripe_get?_q]

end Sys2Proof.Machine
end

section
/-!
SUPPORT. GLB_CFG_GEN after a command (R418): the reply writes no register, so the field reads as the count before it left it.
-/

namespace Sys2Proof.Machine

theorem accepted_iff (status : Nat) : accepted status = true ↔ status = 0 ∨ status = 1 ∨ status = 2 := by
  rw [accepted, decide_eq_true_iff]
  omega

theorem Chip.get_cfgGen_finish_of_accepted (k : CmdInfo) (h : Hdr) (r : Res) (hl : r.later = false) (hk : k.kind = .w ∨ k.kind = .l) (ha : accepted r.status = true) :
    (Chip.finish k h r).get GLB_CFG_GEN_cfg_gen = (r.chip.get GLB_CFG_GEN_cfg_gen + 1) % 2 ^ 64 := by
  have hwrites : k.kind ≠ .r := by rcases hk with hk | hk <;> simp [hk]
  have hcounts : (decide (k.kind ≠ .r) && accepted r.status) = true := by simp [hwrites, ha]
  simp only [Chip.finish, hl, hcounts, Bool.false_eq_true, if_false, if_true]
  rw [Chip.answer_get, Chip.get_set_self]
  rfl

theorem Chip.get_cfgGen_finish_of_uncounted (k : CmdInfo) (h : Hdr) (r : Res) (hn : k.kind = .r ∨ accepted r.status = false) :
    (Chip.finish k h r).get GLB_CFG_GEN_cfg_gen = r.chip.get GLB_CFG_GEN_cfg_gen := by
  have hcounts : (decide (k.kind ≠ .r) && accepted r.status) = false := by rcases hn with hn | hn <;> simp [hn]
  simp only [Chip.finish, hcounts, Bool.false_eq_true, if_false]
  split
  · rfl
  · exact Chip.answer_get ..

/-- Settles O51: a status of 0, 1 or 2 is an acceptance, which counts for kinds W and L; any other status, or kind R, leaves the count. -/
theorem configGeneration : Obligations.ConfigGeneration := by
  unfold Obligations.ConfigGeneration
  intro k h r hl
  constructor
  · intro hk hs
    exact Chip.get_cfgGen_finish_of_accepted k h r hl hk ((accepted_iff r.status).mpr hs)
  · intro hn
    have hrefused : 2 < r.status → accepted r.status = false := fun hs => decide_eq_false (Nat.not_le_of_lt hs)
    exact Chip.get_cfgGen_finish_of_uncounted k h r (hn.imp_right hrefused)

end Sys2Proof.Machine
end
